-- ==== Sys2Proof/Word.lean ====
section
/-! DEFINITION. The words the manual handles as bits: bytes, the 64-byte line of R27, and their byte order (R9). -/

namespace Sys2Proof

/-- One byte of data (R9: byte 0 sits at the lowest address). -/
abbrev Byte := BitVec 8

/-- The 64-byte line, the unit of atomicity (R46). Byte n of the line is bits [8n + 7:8n]. -/
abbrev Line := BitVec 512

/-- The 64 byte enables of a partial write, bit n for byte n (R207). -/
abbrev ByteEnables := BitVec 64

/-- The bits of a 128-bit integrity tag (R335). -/
abbrev Tag128 := BitVec 128

end Sys2Proof
end

