-- ==== Sys2Proof/Syntax.lean ====
section
/-! DEFINITION. The commands of the block: one constructor for every row of spec/opcode_table.json, with the operands the
rows' rules name. What only the physical world decides (whether a frame decodes, what a sensor reads, which rail fails,
how long a step took) is an operand of the command that meets it. -/

namespace Sys2Proof

/-- What happens to the map line a lookup needs (R269, R270): it reads; it is uncorrectable and restored, from its checkpoint (case 1) or
re-derived (case 2); or it is lost in both copies (case 3). -/
inductive MapEnv where
  | good | restored | lost
deriving DecidableEq, Repr

/-- What happens to the tag line a probe needs (R203, R221). -/
inductive TagEnv where
  | good | mirror | lost
deriving DecidableEq, Repr

/-- The physical circumstances of one request: the map line, the tag line, whether the LPDDR5X unit of the line's Caddy
data is uncorrectable (R271), whether the Kettle finds a direct read too late for the deadline (R191), whether the LOT's other
input presents a request for the same line in the same cycle, which is then the next request (R186), the core cycle of its
arrival modulo 65,536 (R185), and its latency in ns where it makes room (R222). -/
structure PathEnv where
  map : MapEnv
  tags : TagEnv
  dataBad : Bool
  late : Bool
  tie : Bool
  cycle : BitVec 16
  ns : Nat
deriving DecidableEq, Repr

/-- Nothing is wrong. -/
def PathEnv.good : PathEnv := ⟨.good, .good, false, false, false, 0, 0⟩

/-- How a planned frame read ends (R195, R194, R257): a clean decode with a count of corrected bits and a good tag, a
clean decode with a failed tag, a failed decode, a BLANK read, or a CMD_CRC report of the member. -/
inductive FrameOutcome where
  | clean (bits : Fin 21)
  | tagBad
  | failed (member : Fin 9)
  | blank (member : Fin 9)
  | cmdCrc (member : Fin 9)
deriving DecidableEq, Repr

/-- How deep recovery would end (R197): at the step that recovers the frame (step 1 where a READ issued again gives it), given up,
or at a frame that decodes clean and fails its tag. -/
inductive DeepOutcome where
  | step1 | step2 | step3 | step4 | step5 | gaveUp | tagBad
deriving DecidableEq, Repr

/-- The end of a media read: its frame, its deep recovery if the frame leads there, and its latency in ns. -/
structure ReadOutcome where
  frame : FrameOutcome
  deep : DeepOutcome
  ns : Nat
deriving DecidableEq, Repr

/-- The outcome of a background read of one sheet, deep recovery included (R199). -/
inductive SheetOutcome where
  | good | lost | tagBad
deriving DecidableEq, Repr

/-- What the scrubber finds in one frame (R263): clean with corrected bits, clean with a failed tag, failed (a failed
frame may be recovered by steps 2 and 3 of R197, R260), failed and rebuilt with a failed tag, or a CMD_CRC report, after which its READ is issued again (R132). -/
inductive ScrubFrame where
  | clean (bits : Fin 21)
  | tagBad
  | failed (recovered : Bool)
  | rebuiltTagBad
  | cmdCrc
deriving DecidableEq, Repr

/-- The verification of a protected page (R340, R343): good, a clean page that fails, a clean counter line that fails as it is fetched
for it (its level and index), or a code failure (R269). -/
inductive VerifyOutcome where
  | good | tamper | counterLine (level : Fin 7) (index : Nat) | codeFailed
deriving DecidableEq, Repr

/-- How the dies end the PROGRAMs of a stripe: by member, the pulses at which its frame verifies (R138), and the members that report
CMD_CRC (R132). -/
structure ProgramEnds where
  pulses : List Nat
  crc : List (Fin 9)
deriving DecidableEq, Repr

/-- How the dies end the STEEPs of a segment's tiles: by member, the time in µs after which its tile verifies (R133), and the members that
report CMD_CRC (R132). -/
structure SteepEnds where
  us : List Nat
  crc : List (Fin 9)
deriving DecidableEq, Repr

/-- A link IDE stream of a head (R96), that of CXL.mem with the mode its keys come with: containment, or skid. -/
inductive IdeStream where
  | io
  | mem (contain : Bool)
deriving DecidableEq, Repr

/-- A DOE request that names an index, as an object of so many bytes (R93). -/
structure DoeRequest where
  index : Nat
  bytes : Nat
deriving DecidableEq, Repr

/-- What reaches a register word in one core cycle: the value that is written, and the write-1-to-clear bits that the hardware sets
in the same cycle (R13). -/
structure WordWrite where
  value : BitVec 64
  hw : BitVec 64
deriving DecidableEq, Repr

/-- A channel whose read-centering check fails after a set-point change or at a start (R242, R246), and whether its retraining
fails too. -/
structure Centering where
  package : Fin 4
  channel : Fin 8
  lost : Bool
deriving DecidableEq, Repr

/-- How the work of a Quiesce ends: whether every engine came ready, and the channels whose read centering then fails. -/
structure WorkEnd where
  ready : Bool
  center : List Centering
deriving DecidableEq, Repr

/-- A span without requests, in µs, and the channels whose read centering fails after the set-point change that may end it. -/
structure IdleSpan where
  us : Nat
  center : List Centering
deriving DecidableEq, Repr

/-- Why an engine faults (R466, ENG_STATE.CAUSE). -/
inductive EngineCause where
  | fetchTrap | dataTrap | otherTrap | notReady
deriving DecidableEq, Repr

/-- What a Pour finds: the sheets that its deferred merges cannot read, as (quire, sheet), and whether a merge meets a
failed tag (R316, R326). -/
structure PourInputs where
  lost : List (Nat × Fin 4)
  tagBad : Bool
deriving DecidableEq, Repr

/-- The faulty units a slice finds (R516): a type code of R522 bytes 12–15 and an index. -/
structure SliceResult where
  slice : Fin 33
  units : List (Nat × Nat)
  broken : Bool
  us : Nat
  coverage : Nat
deriving DecidableEq, Repr

/-- What a start meets (R417, R419): strap readings in mV in the order of R425, DUALPORTEN# low, rails that fail to
start (R441), whether a main image verifies, media dies whose IDENT or redirect check fails (R280), failed dies that
pass their examination (R289), SWEEP medians by die (R144, none where no recent frame decodes), packages that
fail training or their test (R244, R250), saved training usable (R245), self-test results that are not plain passes, stripes that Rebuild cannot
use, whether the newest round's pages do not all verify (R176), a failed check on clean data as a HALT_CAUSE (R343), how many of each die's newest root slots are torn (R342), dies whose dirty
lists are unreadable (R322), engines that do not report ready, the channels whose read-centering check fails (R245), and the duration in
ms. -/
structure StartEnv where
  strapMv : List Nat
  dualLow : Bool
  railsBad : List Nat
  imageOk : Bool
  diesBad : List Nat
  diesPass : List Nat
  medians : List (Nat × Option Int)
  packagesBad : List Nat
  trainingSaved : Bool
  slices : List SliceResult
  unusable : List (Nat × Nat × Nat)
  roundBad : Bool
  tamper : Option (Fin 9)
  listsBad : List Nat
  enginesBad : List Nat
  tamperRoot : Bool
  rootsTorn : List Nat
  centering : List Centering
  ms : Nat
deriving DecidableEq, Repr

/-- Why a start fails (R421, MOD_LADDER.LAST_FAIL). -/
inductive StartFailure where
  | noImage | engine | packages | bound
deriving DecidableEq, Repr

/-- What software writes into a decoder before it sets or clears the commit (R91). -/
structure DecoderSet where
  base : Nat
  size : Nat
  ways : Nat
  gran : Nat
  skip : Nat
  lock : Bool
deriving DecidableEq, Repr

/-- The background work of a service wake (R432). -/
inductive WakeWork where
  | sizing | patrol | measurement | thermal | checkpoint | probe
deriving DecidableEq, Repr

/-- A temperature sensor (R449). -/
inductive SensorId where
  | zorsa (die : Fin 2) (i : Fin 8)
  | vyen (die : Fin 320)
  | package (n : Fin 4)
  | capacitor (i : Fin 2)
  | board (i : Fin 4)
  | inlet
deriving DecidableEq, Repr

/-- One sample of a sensor (R450, R453): a value in °C, an MR4 code with no defined meaning, or a missed sample. -/
inductive Reading where
  | value (t : Int)
  | undefinedCode
  | missed
deriving DecidableEq, Repr

/-- The header of a request leaf as it was delivered (R384): TRANSPORT as the module writes it (R386), FLAGS, TAG, LENGTH and CRC; and
whether another input of a merge stage presents the next command's leaf in the same engine cycle (R402). A row of the table stands for
its own opcode. -/
structure LeafHdr where
  transport : Fin 8
  flags : BitVec 8
  tag : BitVec 16
  length : BitVec 32
  crc : BitVec 32
  tie : Bool
deriving DecidableEq, Repr

/-- Where a mailbox command arrives (R98): a head's primary or secondary mailbox, and the two interrupt enables that the host leaves in
the control register whose doorbell it rings: for the doorbell's completion and for that of a background command. -/
structure Mbox where
  head : Fin 2
  secondary : Bool
  dbInt : Bool
  bgInt : Bool
deriving DecidableEq, Repr

/-- The module's verdict on an image whose last byte has arrived (R353): still incomplete, good with its version and SVN, or
refused. -/
inductive ImageVerdict where
  | partly
  | good (version svn : Nat)
  | refused
deriving DecidableEq, Repr

/-- Who accesses a register of the Weazoir window (R115): a head's BAR2, through the region of the block's own window (STR at
R383, TLY at R482, REAM at R501) or through the die window. -/
structure BarWho where
  head : Fin 2
  ownRegion : Bool
deriving DecidableEq, Repr

/-- What a sample of the sampler's event carries beside the event itself (R485): kind, byte 11, bytes 12–15, bytes 16–23, bytes
24–31, and whether the writer is busy. -/
structure SampleFields where
  kind : Fin 4
  byte11 : BitVec 8
  info : BitVec 32
  mid : BitVec 64
  addr : BitVec 64
  busy : Bool
deriving DecidableEq, Repr

/-- What the test port's memory access names (R356). -/
inductive MemTarget where
  | dpa (line : Nat)
  | secret
deriving DecidableEq, Repr

/-- The commands, one constructor per row of the table. -/
inductive Instr where
  /-- MEMRD: A host MemRd or MemRdData arrives, is admitted at the owning die's LOT and is answered from the Caddy, as zeros or poison, or sent to a media read. (R184) -/
  | memrd (head : Fin 2) (tag : BitVec 16) (hpa : Nat) (env : PathEnv)
  /-- MEMSPECRD: A MemSpecRd hint passes ingress, probe and lookup, and queues a background read of the sheet without a LOT entry or a response. (R184) -/
  | memspecrd (head : Fin 2) (hpa : Nat) (env : PathEnv)
  /-- MEMWR: A full-line host write is admitted at the LOT, applied to the quire's Caddy block within the dirty budget, and completed. (R198) -/
  | memwr (head : Fin 2) (tag : BitVec 16) (hpa : Nat) (data : Line) (poison : Bool) (env : PathEnv)
  /-- MEMWRPTL: A partial host write merges its enabled bytes into the line, or stores them under a partial-line entry, and completes. (R207) -/
  | memwrptl (head : Fin 2) (tag : BitVec 16) (hpa : Nat) (data : Line) (be : ByteEnables) (poison : Bool) (env : PathEnv)
  /-- MEDIA_READ_READY: A planned frame read completes on the bus, and the frame is decoded, rebuilt if needed, tag-checked, decrypted, filled into the Caddy and returned. (R195) -/
  | mediaReadReady (plan : Nat) (o : ReadOutcome)
  /-- MEDIA_READ_TIMEOUT: A READ whose die has not raised its ready line 850 ns after the command is handled as a frame that failed to decode. (R194) -/
  | mediaReadTimeout (plan : Nat) (member : Fin 9) (deep : DeepOutcome) (ns : Nat)
  /-- DIE_SELF_RESUME: A media die resumes a suspended program or steep by itself 4 µs after the suspend completed. (R134) -/
  | dieSelfResume (die : Fin 320) (bank : Fin 1024)
  /-- EVICTION_SWEEP: The sweep pointer visits a set, ages its ways and evicts old dirty ways of evicting channels into staging. (R213) -/
  | evictionSweep (die : Fin 2)
  /-- IDLE_EVICTION: When no write has reached a die for CDY_CFG.IDLE_MS, the die evicts down to its idle floor. (R214) -/
  | idleEviction (die : Fin 2)
  /-- PARTIAL_MERGE: While the partial-line table is more than half full, a background deferred merge completes the line with the oldest entry. (R208) -/
  | partialMerge (die : Fin 2) (o : SheetOutcome)
  /-- DEFERRED_MERGE: The background media read for a staged quire completes and its missing lines are merged, zeroed or poisoned before the quire enters a hot stripe. (R199) -/
  | deferredMerge (staged : Nat) (sheets : List SheetOutcome)
  /-- STRIPE_WAIT_EXPIRY: A stripe that has waited 20 µs for its second quire is written with a pad half. (R159) -/
  | stripeWaitExpiry (channel : Fin 32) (stream : Fin 3)
  /-- STRIPE_COMPLETE: All nine PROGRAMs of a stripe report OK, and the map engine applies the stripe's map changes and LIVE counts.
  (R160) -/
  | stripeComplete (channel : Fin 32) (segment : Fin 65536) (ends : ProgramEnds)
  /-- STEEP_DONE: A STEEP of a segment's tiles completes; the segment becomes FREE, or the failing tile is retired and redirected.
  (R165) -/
  | steepDone (channel : Fin 32) (segment : Fin 65536) (ends : SteepEnds)
  /-- SEGMENT_OPEN_TIMEOUT: A segment still open 15 minutes after its fill epoch closes with its unwritten stripes blank, and its summary block and SEG_CLOSE are journalled. (R161) -/
  | segmentOpenTimeout (channel : Fin 32) (segment : Fin 65536)
  /-- PULP_PASS_START: A channel short of FREE segments picks a victim by sizing deadline, wear swap or greedy choice, and starts copying its live quires. (R166) -/
  | pulpPassStart (channel : Fin 32) (lost : List (Nat × Nat))
  /-- SIZING_DUE: A CLOSED segment reaches 80 % of its sizing limit and becomes DUE for a sizing pass. (R171) -/
  | sizingDue (channel : Fin 32) (segment : Fin 65536)
  /-- PROBE_STRIPES: A channel that has completed no stripe for 45 minutes of operating time writes 16 probe stripes through its cold stream. (R144) -/
  | probeStripes (channel : Fin 32)
  /-- JOURNAL_PAGE_FLUSH: A journal page that is full, or 1 ms old, is issued for programming into the media journal ring. (R173) -/
  | journalPageFlush (die : Fin 2)
  /-- JOURNAL_PAGE_PROGRAMMED: A journal page is on media, which releases the STEEP waiting on a PENDING_STEEP and any spare that waits on a DIE_ROLE. (R174) -/
  | journalPageProgrammed
  /-- CKPT_BEGIN: A checkpoint round begins with a CKPT_BEGIN and an OPEN_SET per channel, each CKPT_BEGIN carrying that channel's fence. (R172) -/
  | ckptBegin
  /-- CKPT_END: Every map page of the round is programmed, CKPT_END is journalled, and the round slot and root slot are written. (R172) -/
  | ckptEnd
  /-- MAP_PAGE_VERIFY: The verification pass verifies one protected page against its page MAC and the trusted tree. (R340) -/
  | mapPageVerify (die : Fin 2) (page : Nat) (o : VerifyOutcome)
  /-- PATROL_SCRUB_STRIPE: The patrol scrubber reads and decodes one stripe and relocates, rebuilds, poisons or halts according to each frame's outcome. (R263) -/
  | patrolScrubStripe (channel : Fin 32) (segment : Fin 65536) (stripe : Fin 4096) (frames : List ScrubFrame)
  /-- POISON_WALK_STEP: A poison walk sets the map entry of the next quire in its range to STATE 3. (R163) -/
  | poisonWalkStep
  /-- UNMAPPING_WALK_STEP: The unmapping walk after Sanitize or Secure Erase rewrites the next map entry to STATE 0. (R102) -/
  | unmappingWalkStep
  /-- SLOT_SWEEP_STEP: A slot sweep unmaps the next quire of its region, and at the end clears its record and raises source 541. (R349) -/
  | slotSweepStep
  /-- VERIFICATION_SCRUB_STRIPE: The verification scrub compares a Returning die's frame with its rebuilt frame and marks it verified or relocates the stripe's live quires. (R290) -/
  | verificationScrubStripe (channel : Fin 32) (segment : Fin 65536) (stripe : Fin 4096) (same : Bool)
  /-- SPARE_DIE_CHECK: An unused spare die is checked with IDENT every 24 hours of operating time. (R280) -/
  | spareDieCheck (channel : Fin 32) (ok : Bool)
  /-- D2D_LANE_FAIL: A die-to-die module with a failing lane moves its traffic to its partner and retrains at x8. (R37) -/
  | d2dLaneFail (mod : Fin 4) (retrained : Bool) (inputs : PourInputs)
  /-- D2D_MODULE_DOWN: A die-to-die module goes down and its traffic moves to the remaining modules, or both dies pour independently. (R293) -/
  | d2dModuleDown (mod : Fin 4) (inputs : PourInputs)
  /-- REFRESH_DUE: A per-bank refresh of an LPDDR5X rank falls due and is issued in a gap, or at its latest issue time. (R237) -/
  | refreshDue (package : Fin 4) (channel : Fin 8) (rank : Fin 2)
  /-- DRAM_PATROL: The patrol on port P5 reads the next group of a package and writes back corrected units. `data`
  gives the erroneous bytes of its data units among their 72 (R226), and `check` those of its check unit. (R229) -/
  | dramPatrol (package : Fin 4) (data : List (Fin 7 × List (Fin 72))) (check : List (Fin 72))
  /-- DRIFT_CHECK: Every 50 ms the controller reads each channel's WCK-to-DQ oscillator, adjusts delays, and may rewrite training, mark a retrain or lose the package. (R246) -/
  | driftCheck (package : Fin 4) (channel : Fin 8) (drift : Nat)
  /-- ROW_REMAP: A bad LPDDR5X row is copied unit by unit into the remap area and redirected. (R247) -/
  | rowRemap (package : Fin 4) (channel : Fin 8) (rank : Fin 2) (bank : Fin 16) (row : Fin 131072) (uncorrectable : Bool) (units : List Nat)
  /-- READMISSION_TEST: A lost package is retrained and pattern-tested 10 minutes after the loss and every 24 hours, and becomes returning when it passes. (R250) -/
  | readmissionTest (package : Fin 4) (uncorrectable corrected : Nat)
  /-- QUIESCE_END: The work of a Quiesce ends, credits and leaves resume, and any queued trigger starts the next Quiesce. (R434) -/
  | quiesceEnd (work : WorkEnd) (ms : Nat) (inputs : PourInputs)
  /-- ENGINE_FAULT: An engine traps or fails to report ready, and the fault is recorded and leads to an engine reset or a failure declaration. (R466) -/
  | engineFault (engine : Fin 48) (cause : EngineCause) (pc : BitVec 64) (addr : BitVec 48)
  /-- WATCHDOG_EXPIRY: An engine's 10 ms watchdog expires, which is a fault. (R465) -/
  | watchdogExpiry (engine : Fin 48) (pc : BitVec 64)
  /-- ENGINE_RESET_READY: A restarted engine reads its role state, resumes its queues and reports ready. (R467) -/
  | engineResetReady (engine : Fin 48) (ready : Bool)
  /-- DMA_HALT: A DMA channel reading an uncorrectable word halts before writing it, keeps its descriptor and raises its engine's source. (R274) -/
  | dmaHalt (engine : Fin 48) (channel : Fin 4) (addr : BitVec 48)
  /-- SRAM_SWEEP: The hardware sweep reads and corrects every engine SRAM word once per second. (R272) -/
  | sramSweep (die : Fin 2) (corrected : Nat) (uncorrectable : List (Fin 24 × Nat))
  /-- P12V_LOSS: The power-fail comparator sees P12V_IN fall below 10.2 V, opens the input switch and starts a Pour. (R308) -/
  | p12vLoss (inputs : PourInputs)
  /-- POUR_COMPLETE: The last programming step of a Pour ends, the LPDDR5X enters self-refresh, and the module powers down or returns to Serve. (R314) -/
  | pourComplete (energyEnd us : Nat)
  /-- POUR_EXHAUSTED: The bank bus falls below 13.0 V before step 7, and the module stops media commands and writes the Pour record with STATE 3. (R319) -/
  | pourExhausted (energyEnd us : Nat) (poured : Nat)
  /-- HOLD_END: The hold-up bank reaches 12 V after a Pour and the retained LPDDR5X loses power, so the next start is cold. (R320) -/
  | holdEnd
  /-- P12V_RETURN: P12V_IN returns valid for 10 ms, closing the input switch and leading to a warm start once any Pour has ended. (R326) -/
  | p12vReturn
  /-- PWRDIS_ASSERT: PWRDIS is asserted and a Pour with CAUSE 2 starts. (R313) -/
  | pwrdisAssert (inputs : PourInputs)
  /-- PWRDIS_RELEASE: PWRDIS is released, allowing a cold start once P12V_IN is valid. (R313) -/
  | pwrdisRelease
  /-- GPF_PHASE2: A GPF phase 2 request pours all dirty data with 12 V present and returns the module to Serve. (R324) -/
  | gpfPhase2 (head : Fin 2) (inputs : PourInputs)
  /-- CAP_MEASUREMENT_START: Every MEAS_INTERVAL_MIN minutes the next sub-bank is isolated under a constant 100 mA load. (R309) -/
  | capMeasurementStart
  /-- CAP_MEASUREMENT_DONE: After 40 ms the sub-bank's voltage drop is converted to a recorded capacitance and the sub-bank is reconnected. (R309) -/
  | capMeasurementDone (drop : Nat)
  /-- ENERGY_UPDATE: Every 1 ms the energy estimate is recomputed and selects the dirty budget and Write-through. (R310) -/
  | energyUpdate (volts : List Nat) (bus : Nat)
  /-- SUBBANK_ISOLATION: A sub-bank that is weak, keeps drawing charge after 10 s, or shorts is isolated by its switch. (R294) -/
  | subbankIsolation (subbank : Fin 8) (cause : Fin 4)
  /-- MONITOR_SCAN: The monitor ADC completes a 288 µs scan of all rails, confirms under- and over-voltage, and computes input power. (R443) -/
  | monitorScan (readings : List Nat) (inputMw : Nat) (inputs : PourInputs)
  /-- STACK_CAP_ADJUST: The supervisor lowers or raises the stack budget cap to hold the 10 ms mean input power under its limit. (R448) -/
  | stackCapAdjust (mean : Nat) (raise : Bool)
  /-- PHASE_FAULT: A regulator phase reports a fault and is shed, and the spare phase or a load limit takes its place. (R295) -/
  | phaseFault (rail : Fin 6)
  /-- AUX_POWER_RISE: P3V3_AUX rises within limits, the always-on rails come up, and the module enters M1. (R413) -/
  | auxPowerRise (good : Bool) (strapMv : Nat)
  /-- AUX_FAULT: P3V3_AUX faults and the always-on regulators switch to P12V_BUS. (R445) -/
  | auxFault
  /-- AON_RAIL_FAULT: P1V8_AON or P0V8_AON faults in operation, and the module pours where needed and powers down to M0. (R445) -/
  | aonRailFault (core : Bool) (inputs : PourInputs)
  /-- POWER_OFF: P12V_IN and P3V3_AUX are both removed and the module enters M0. (R413) -/
  | powerOff
  /-- COLD_START: With P12V_IN valid for 10 ms and PWRDIS deasserted, the module runs rail bring-up, boot, training, self-test and rebuild up to the first credit. (R417) -/
  | coldStart (env : StartEnv)
  /-- WARM_START: After a reset hold, a returned input or an on request, the module restarts from retained LPDDR5X up to the first credit. (R419) -/
  | warmStart (env : StartEnv)
  /-- START_FAILED: A start fails for lack of an image, an engine, its packages or by overrunning its bound, and the boot ladder chooses the next start or Safe. (R421) -/
  | startFailed (cause : StartFailure)
  /-- PERST_ASSERT: PERST# is asserted, giving a warm reset in single-head mode or a head reset of head 0 in dual-head mode. (R110) -/
  | perstAssert
  /-- PERST1_ASSERT: PERST1# is asserted, giving a head reset of head 1 in dual-head mode. (R110) -/
  | perst1Assert
  /-- PERST_RELEASE: The last asserted PERST# line is released, ending the reset hold. (R418) -/
  | perstRelease (line : Fin 2)
  /-- HOT_RESET: A hot reset or secondary bus reset on a head causes a head reset. (R110) -/
  | hotReset (head : Fin 2)
  /-- LINK_DOWN: A head's link goes down, which is a head reset of that head. (R110) -/
  | linkDown (head : Fin 2)
  /-- LINK_TRAINED: A head completes training at a width and rate, enabling CXL.mem or CXL.io only and rebuilding CDAT. (R82) -/
  | linkTrained (head : Fin 2) (width : Nat) (rate : Fin 4)
  /-- LINK_RETRAIN: A retrain within Recovery replays unacknowledged flits and rebuilds CDAT if the width or rate changed. (R86) -/
  | linkRetrain (head : Fin 2) (width : Nat) (rate : Fin 4)
  /-- FLR: A Function Level Reset resets CXL.io state and aborts a foreground mailbox command of the function. (R90) -/
  | flr (head : Fin 2)
  /-- D3HOT_ENTRY: The host places a head's function in D3hot, stopping CXL.io traffic on that head only. (R85) -/
  | d3hotEntry (head : Fin 2)
  /-- IDE_INTEGRITY_FAILURE: An IDE integrity check fails on a head, which enters the insecure state and writes a Ream record. (R97) -/
  | ideIntegrityFailure (head : Fin 2) (mem : Bool)
  /-- IDE_KM: An IDE_KM message over a secured session establishes or refreshes a head's link IDE keys, for CXL.mem in skid or containment mode. (R96) -/
  | ideKm (head : Fin 2) (stream : IdeStream) (session : Nat)
  /-- HDM_DECODER_COMMIT: Software sets or clears a decoder's commit, which takes effect or fails with Error Not Committed. (R92) -/
  | hdmDecoderCommit (head : Fin 2) (index : Fin 4) (set : DecoderSet) (commit : Bool)
  /-- MSIX_UNMASK: The host unmasks an MSI-X vector, and a pending message is sent. (R108) -/
  | msixUnmask (head : Fin 2) (vector : Fin 32)
  /-- AGG_GROUP_MESSAGE: An aggregation group sends its vector once its HOLDOFF has elapsed or COUNT assertions are pending. (R108) -/
  | aggGroupMessage (head : Fin 2) (group : Fin 24) (elapsed : Bool)
  /-- DOZE_ENTRY: Idle time and prediction meet the next Doze state's thresholds within the tolerance in force, and the module descends one state. (R428) -/
  | dozeEntry (idle : IdleSpan)
  /-- DOZE_EXIT: A wake source ends a Doze state and the module returns to M5 within the exit latency. (R431) -/
  | dozeExit (idle : IdleSpan) (seconds : Nat) (wakeBad : List (Fin 320))
  /-- SERVICE_WAKE: In D2 to D4 the module wakes for due background work, and at least every 60 s, then returns to its state. (R432) -/
  | serviceWake (work : List WakeWork)
  /-- OPTIME_TICK: A 32.768 kHz tick adds 1,000 to the accumulator and adds 1 ms to operating time on overflow. (R40) -/
  | optimeTick
  /-- OPTIME_SAVE: Every 6 minutes of operating time the operating-time and histogram values are saved to the quire store. (R507) -/
  | optimeSave
  /-- MINUTE_TICK: At the end of each minute of operating time each temperature class adds one to the bin of its highest confirmed value. (R302) -/
  | minuteTick
  /-- SENSOR_SAMPLE: A temperature sensor is sampled and its crossings, breakage, levels, bands and fan level are updated. (R450) -/
  | sensorSample (sensor : SensorId) (r : Reading) (inputs : PourInputs)
  /-- SPDM_GET_VERSION: An SPDM GET_VERSION request returns the supported version 1.2. (R351) -/
  | spdmGetVersion (transport : Fin 3)
  /-- SPDM_GET_CAPABILITIES: An SPDM GET_CAPABILITIES request returns the module's capabilities. (R351) -/
  | spdmGetCapabilities (transport : Fin 3)
  /-- SPDM_NEGOTIATE_ALGORITHMS: An SPDM NEGOTIATE_ALGORITHMS request selects Ed448, SHA3-512, secp384r1 and AES-256-GCM. (R351) -/
  | spdmNegotiateAlgorithms (transport : Fin 3) (supported : Bool)
  /-- SPDM_GET_DIGESTS: An SPDM GET_DIGESTS request returns the digest of the slot 0 certificate chain. (R351) -/
  | spdmGetDigests (transport : Fin 3)
  /-- SPDM_GET_CERTIFICATE: An SPDM GET_CERTIFICATE request returns part of the slot 0 chain. (R351) -/
  | spdmGetCertificate (transport : Fin 3) (slot offset length : Nat)
  /-- SPDM_CHALLENGE: An SPDM CHALLENGE request is answered with an Ed448 signature under the identity key. (R351) -/
  | spdmChallenge (transport : Fin 3) (slot nonce : Nat)
  /-- SPDM_GET_MEASUREMENTS: An SPDM GET_MEASUREMENTS request returns the signed measurement blocks. (R352) -/
  | spdmGetMeasurements (transport : Fin 3) (index nonce : Nat)
  /-- SPDM_KEY_EXCHANGE: An SPDM KEY_EXCHANGE and FINISH establish a secured session, refused beyond two per transport. (R351) -/
  | spdmKeyExchange (transport : Fin 3) (finishGood : Bool)
  /-- SPDM_KEY_UPDATE: An SPDM KEY_UPDATE updates the keys of a secured session. (R351) -/
  | spdmKeyUpdate (transport : Fin 3) (session : Nat)
  /-- SPDM_HEARTBEAT: An SPDM HEARTBEAT keeps a secured session alive. (R351) -/
  | spdmHeartbeat (transport : Fin 3) (session : Nat)
  /-- SPDM_END_SESSION: An SPDM END_SESSION ends a secured session. (R351) -/
  | spdmEndSession (transport : Fin 3) (session : Nat)
  /-- SPDM_HEARTBEAT_TIMEOUT: A session that misses three 60 s heartbeat periods ends. (R351) -/
  | spdmHeartbeatTimeout (transport : Fin 3) (session : Nat)
  /-- CDAT_TABLE_ACCESS: A DOE CDAT Table Access request returns the head's CDAT entries. (R94) -/
  | cdatTableAccess (head : Fin 2) (request : DoeRequest)
  /-- DOE_DISCOVERY: A DOE Discovery request returns the protocols of the instance. (R93) -/
  | doeDiscovery (head : Fin 2) (inst : Fin 2) (request : DoeRequest)
  /-- DOE_ABORT: A DOE Abort resets an instance, including after an oversized object was discarded; `bytes` is what the host has written
  of a request object when it aborts. (R93) -/
  | doeAbort (head : Fin 2) (inst : Fin 2) (bytes : Nat)
  /-- BACKGROUND_OPERATION_STATUS: Mailbox command 0x0002 returns the status of the background command. (R99) -/
  | backgroundOperationStatus (m : Mbox)
  /-- GET_EVENT_RECORDS: Mailbox command 0x0100 returns records from the head's own event log. (R106) -/
  | getEventRecords (m : Mbox) (log : Fin 4)
  /-- CLEAR_EVENT_RECORDS: Mailbox command 0x0101 clears records from the head's own event log only. (R106) -/
  | clearEventRecords (m : Mbox) (log : Fin 4) (all : Bool) (handles : List Nat)
  /-- GET_EVENT_INTERRUPT_POLICY: Mailbox command 0x0102 returns the head's event interrupt policy. (R99) -/
  | getEventInterruptPolicy (m : Mbox)
  /-- SET_EVENT_INTERRUPT_POLICY: Mailbox command 0x0103 sets the head's event interrupt policy. (R99) -/
  | setEventInterruptPolicy (m : Mbox) (modes : List (Fin 3))
  /-- GET_FW_INFO: Mailbox command 0x0200 reports firmware slots A and B. (R99) -/
  | getFwInfo (m : Mbox)
  /-- TRANSFER_FW: Mailbox command 0x0201 writes an image into the slot that is not running and checks it. (R354) -/
  | transferFw (m : Mbox) (offset length : Nat) (data : Nat) (verdict : ImageVerdict)
  /-- ACTIVATE_FW: Mailbox command 0x0202 activates a verified image by a Quiesce that restarts every engine. (R435) -/
  | activateFw (m : Mbox) (verified : Bool)
  /-- GET_TIMESTAMP: Mailbox command 0x0300 returns the timestamp. (R99) -/
  | getTimestamp (m : Mbox)
  /-- SET_TIMESTAMP: Mailbox command 0x0301 sets the wall-clock stamp, and the later-serialised write wins. (R495) -/
  | setTimestamp (m : Mbox) (ms : BitVec 64)
  /-- GET_SUPPORTED_LOGS: Mailbox command 0x0400 lists the Command Effects Log. (R99) -/
  | getSupportedLogs (m : Mbox)
  /-- GET_LOG: Mailbox command 0x0401 returns the Command Effects Log. (R99) -/
  | getLog (m : Mbox) (effects : Bool) (offset length : Nat)
  /-- IDENTIFY_MEMORY_DEVICE: Mailbox command 0x4000 returns capacity, log sizes, LSA size and poison-list limits. (R100) -/
  | identifyMemoryDevice (m : Mbox)
  /-- GET_PARTITION_INFO: Mailbox command 0x4100 reports all capacity as persistent. (R99) -/
  | getPartitionInfo (m : Mbox)
  /-- GET_LSA: Mailbox command 0x4102 reads the label storage area. (R103) -/
  | getLsa (m : Mbox) (offset length : Nat)
  /-- SET_LSA: Mailbox command 0x4103 durably writes the label storage area, serialised between heads. (R103) -/
  | setLsa (m : Mbox) (offset : Nat) (data : List Byte)
  /-- GET_HEALTH_INFO: Mailbox command 0x4200 returns health status, media status, life used, temperature and error counts. (R303) -/
  | getHealthInfo (m : Mbox)
  /-- GET_ALERT_CONFIGURATION: Mailbox command 0x4201 returns the head's alert thresholds. (R99) -/
  | getAlertConfiguration (m : Mbox)
  /-- SET_ALERT_CONFIGURATION: Mailbox command 0x4202 sets the head's alert thresholds. (R99) -/
  | setAlertConfiguration (m : Mbox) (values : List Nat)
  /-- GET_SHUTDOWN_STATE: Mailbox command 0x4203 reports the shutdown state. (R104) -/
  | getShutdownState (m : Mbox)
  /-- SET_SHUTDOWN_STATE: Mailbox command 0x4204 records the shutdown state with no other effect. (R104) -/
  | setShutdownState (m : Mbox) (state : BitVec 8)
  /-- GET_POISON_LIST: Mailbox command 0x4300 returns poison runs clipped to the requested range, with overflow reporting. (R101) -/
  | getPoisonList (m : Mbox) (dpa length : Nat)
  /-- CLEAR_POISON: Mailbox command 0x4302 writes the given data to a line, clearing its poison. (R61) -/
  | clearPoison (m : Mbox) (dpa : Nat) (data : Line) (env : PathEnv)
  /-- GET_SCAN_MEDIA_CAPABILITIES: Mailbox command 0x4303 reports scan media capabilities. (R99) -/
  | getScanMediaCapabilities (m : Mbox) (dpa length : Nat)
  /-- SCAN_MEDIA: Mailbox command 0x4304 runs the scrubber over the quires of a range and rebuilds the poison index for it. (R266) -/
  | scanMedia (m : Mbox) (dpa length : Nat)
  /-- GET_SCAN_MEDIA_RESULTS: Mailbox command 0x4305 reports the poison runs a scan found. (R266) -/
  | getScanMediaResults (m : Mbox)
  /-- SANITIZE: Mailbox command 0x4400 quiesces, destroys all slots, unmaps every quire and steeps every used segment. (R102) -/
  | sanitize (m : Mbox)
  /-- SECURE_ERASE: Mailbox command 0x4401 quiesces, destroys all slots and unmaps every quire. (R102) -/
  | secureErase (m : Mbox)
  /-- GET_MULTI_HEADED_INFO: Command 0x5500 from the platform manager returns multi-headed information. (R99) -/
  | getMultiHeadedInfo
  /-- GET_HEAD_INFO: Command 0x5501 from the platform manager returns head information. (R99) -/
  | getHeadInfo  (start count : Nat)
  /-- MAILBOX_UNSUPPORTED: A mailbox command absent from the table, or not allowed on the mailbox or to the requester, returns Unsupported. (R99) -/
  | mailboxUnsupported (m : Mbox) (opcode : BitVec 16)
  /-- LEAF_UNKNOWN_OPCODE: A leaf whose opcode is not in the table, or is EVENT_NOTIFY, is refused with UNKNOWN. (R390) -/
  | leafUnknownOpcode (opcode : BitVec 16) (h : LeafHdr) (p : List Byte)
  /-- IDENTIFY: Leaf 0x0000 returns serial, revisions, ordering code, capacity and the requester's identity. (R408) -/
  | identify (h : LeafHdr) (p : List Byte)
  /-- GET_MEASUREMENTS: Leaf 0x0001 returns the measurement blocks, unsigned. (R352) -/
  | getMeasurements (h : LeafHdr) (p : List Byte)
  /-- GET_CERTIFICATE: Leaf 0x0002 returns part of the slot 0 certificate chain. (R407) -/
  | getCertificate (h : LeafHdr) (p : List Byte)
  /-- SCAN_CHALLENGE: Leaf 0x0003 issues a 16-byte unlock challenge. (R357) -/
  | scanChallenge (h : LeafHdr) (p : List Byte)
  /-- SCAN_UNLOCK: Leaf 0x0004 checks an unlock token and enters scan mode, erasing all user data. (R358) -/
  | scanUnlock (h : LeafHdr) (p : List Byte) (signed : Bool)
  /-- HEALTH_REPORT: Leaf 0x0100 returns the 832-byte health report. (R301) -/
  | healthReport (h : LeafHdr) (p : List Byte)
  /-- GET_STATUS: Leaf 0x0101 returns mode, flags, Doze state, budget, operating time and ceilings. (R408) -/
  | getStatus (h : LeafHdr) (p : List Byte)
  /-- GET_UNIT: Leaf 0x0102 returns the state and cause of one unit. (R407) -/
  | getUnit (h : LeafHdr) (p : List Byte)
  /-- SET_WALL_CLOCK: Leaf 0x0103 sets the wall-clock stamp used in Ream records. (R495) -/
  | setWallClock (h : LeafHdr) (p : List Byte)
  /-- SET_EVENT_MASK: Leaf 0x0104 sets the platform manager's event mask. (R394) -/
  | setEventMask (h : LeafHdr) (p : List Byte)
  /-- EVENT_NOTIFY: The module sends the platform manager a notification bitmap of asserted masked sources, at most one per 10 ms. (R394) -/
  | eventNotify
  /-- SET_WINDOW_GRANT: Leaf 0x0200 sets the BAR2 read and write grants of the primary head. (R408) -/
  | setWindowGrant (h : LeafHdr) (p : List Byte)
  /-- GET_WINDOW_GRANT: Leaf 0x0201 returns the BAR2 grant. (R407) -/
  | getWindowGrant (h : LeafHdr) (p : List Byte)
  /-- REG_READ: Leaf 0x0202 reads BAR2 words within one granted region. (R408) -/
  | regRead (h : LeafHdr) (p : List Byte)
  /-- REG_WRITE: Leaf 0x0203 writes BAR2 words within one write-granted region. (R408) -/
  | regWrite (h : LeafHdr) (p : List Byte)
  /-- SET_LATENCY_TOLERANCE: Leaf 0x0300 sets a head's latency tolerance and returns the tolerance in force. (R426) -/
  | setLatencyTolerance (h : LeafHdr) (p : List Byte)
  /-- GET_POWER: Leaf 0x0301 returns mode, Doze state, tolerances and mean input power. (R407) -/
  | getPower (h : LeafHdr) (p : List Byte)
  /-- WARM_RESET: Leaf 0x0302 places the module in a reset hold followed by a warm start, or leaves Safe by a cold start. (R418) -/
  | warmReset (h : LeafHdr) (p : List Byte)
  /-- POWER_REQUEST_OFF: Leaf 0x0303 with off runs a clean shutdown to M1 and holds the module there. (R415) -/
  | powerRequestOff (h : LeafHdr) (p : List Byte)
  /-- POWER_REQUEST_ON: Leaf 0x0303 with on starts the module from M1 or Safe, or is held until a Pour ends. (R416) -/
  | powerRequestOn (h : LeafHdr) (p : List Byte)
  /-- ZERO: A bulk ZERO journals ZERO records and unmaps every quire of its range. (R367) -/
  | zero (h : LeafHdr) (p : List Byte)
  /-- FILL: A bulk FILL writes the pattern into every quire of its range as whole-quire Caddy writes. (R368) -/
  | fill (h : LeafHdr) (p : List Byte)
  /-- COPY: A bulk COPY snapshots each source quire, re-encrypts it and applies it to the destination. (R369) -/
  | copy (h : LeafHdr) (p : List Byte)
  /-- CHECK: A bulk CHECK feeds the plaintext of its range into a Strainer channel and optionally finishes and compares. (R370) -/
  | check (h : LeafHdr) (p : List Byte)
  /-- COMPARE: A bulk COMPARE compares two ranges line by line and ends at the first mismatch or poison. (R371) -/
  | compare (h : LeafHdr) (p : List Byte)
  /-- ERASE_KEY: A bulk ERASE_KEY runs the destroy sequence of a key slot and replies at its end. (R372) -/
  | eraseKey (h : LeafHdr) (p : List Byte)
  /-- BULK_QUIRE_HANDLED: A running bulk operation gives the next quire its effect by a lock at the owning LOT, and the operation ends after its last quire. (R366) -/
  | bulkQuireHandled (slot : Fin 16) (sheets : List SheetOutcome)
  /-- BULK_STATUS: Leaf 0x0401 returns the four BLK_OP words of a bulk slot. (R407) -/
  | bulkStatus (h : LeafHdr) (p : List Byte)
  /-- BULK_ABORT: Leaf 0x0402 stops a bulk operation at its next quire boundary, or ends a queued one. (R374) -/
  | bulkAbort (h : LeafHdr) (p : List Byte)
  /-- KEY_PROVISION: Leaf 0x0500 provisions a seed into an EMPTY slot under a secured session. (R347) -/
  | keyProvision (h : LeafHdr) (p : List Byte)
  /-- KEY_DESTROY: Leaf 0x0501 destroys a key slot: ERASING, sweep to slot 0, ranges disabled, EMPTY. (R350) -/
  | keyDestroy (h : LeafHdr) (p : List Byte)
  /-- RANGE_WRITE: Leaf 0x0502 writes a range register, which may start a slot sweep. (R348) -/
  | rangeWrite (h : LeafHdr) (p : List Byte)
  /-- KEY_STATUS: Leaf 0x0503 returns bytes 0–7 of a slot record. (R346) -/
  | keyStatus (h : LeafHdr) (p : List Byte)
  /-- FW_TRANSFER: Leaf 0x0600 writes image data into the slot that is not running. (R354) -/
  | fwTransfer (h : LeafHdr) (p : List Byte) (verdict : ImageVerdict)
  /-- FW_ACTIVATE: Leaf 0x0601 activates the new main image through a Quiesce, or leaves Safe on that slot. (R435) -/
  | fwActivate (h : LeafHdr) (p : List Byte) (verified : Bool)
  /-- FW_INFO: Leaf 0x0602 returns the running and next slots, versions and SVNs. (R407) -/
  | fwInfo (h : LeafHdr) (p : List Byte)
  /-- SVN_COMMIT: Leaf 0x0603 raises the fused SVN to the running image's SVN. (R355) -/
  | svnCommit (h : LeafHdr) (p : List Byte)
  /-- SELFTEST_RUN: Leaf 0x0700 starts a self-test run over the selected slices. (R520) -/
  | selftestRun (h : LeafHdr) (p : List Byte)
  /-- SELFTEST_RESULT: Leaf 0x0701 returns the result records of a run. (R523) -/
  | selftestResult (h : LeafHdr) (p : List Byte)
  /-- SELFTEST_SLICE_DONE: A self-test slice ends with a verdict and a result record, and the next slice starts. (R522) -/
  | selftestSliceDone (r : SliceResult)
  /-- SELFTEST_BUDGET_EXPIRY: A slice still running at its budget during a start is stopped with verdict FAIL. (R518) -/
  | selftestBudgetExpiry (slice : Fin 33)
  /-- REAM_READ: Leaf 0x0800 with op 0 returns records from the requester's cursor and reports any gap. (R502) -/
  | reamRead (h : LeafHdr) (p : List Byte)
  /-- REAM_REWIND_TO_MARK: Leaf 0x0800 with op 1 sets the requester's cursor to its mark. (R502) -/
  | reamRewindToMark (h : LeafHdr) (p : List Byte)
  /-- REAM_SET_MARK: Leaf 0x0800 with op 2 sets the requester's mark to its cursor. (R502) -/
  | reamSetMark (h : LeafHdr) (p : List Byte)
  /-- QST_READ: Leaf 0x0801 reads bytes of a quire store page under the zone's read password. (R506) -/
  | qstRead (h : LeafHdr) (p : List Byte)
  /-- QST_WRITE: Leaf 0x0802 performs a page write of a quire store page under the zone's write password. (R505) -/
  | qstWrite (h : LeafHdr) (p : List Byte)
  /-- QST_PASSWORD: Leaf 0x0803 changes a zone's read or write password. (R509) -/
  | qstPassword (h : LeafHdr) (p : List Byte)
  /-- QST_PAGE_WRITE_DONE: A quire store page write commits its copy, or fails to verify twice and raises source 622. (R505) -/
  | qstPageWriteDone (plane : Fin 4) (ok : Bool)
  /-- UNIT_OUT: Leaf 0x0900 takes a media die, engine or LPDDR5X package out of service. (R288) -/
  | unitOut (h : LeafHdr) (p : List Byte)
  /-- UNIT_RETURN: Leaf 0x0901 runs a unit's slice and returns the unit to service when it qualifies. (R521) -/
  | unitReturn (h : LeafHdr) (p : List Byte) (pass : Bool)
  /-- LOCATE: Leaf 0x0902 turns locate on or off. (R536) -/
  | locate (h : LeafHdr) (p : List Byte)
  /-- REMOVAL_REQUEST: Leaf 0x0903 confirms a removal and runs the Quiesce, Pour and safe-to-remove sequence. (R540) -/
  | removalRequest (h : LeafHdr) (p : List Byte)
  /-- TALLY_READ: Leaf 0x0A00 latches a counter bank and returns counters from the snapshot. (R483) -/
  | tallyRead (h : LeafHdr) (p : List Byte)
  /-- TALLY_CONFIG: Leaf 0x0A01 writes TLY registers in order. (R407) -/
  | tallyConfig (h : LeafHdr) (p : List Byte)
  /-- TALLY_SAMPLE: Leaf 0x0A02 selects the sampler's mode, event and period. (R484) -/
  | tallySample (h : LeafHdr) (p : List Byte)
  /-- MCTP_REPLY_DISCARD: A reply left unread by the platform manager for 1 s is discarded and counted. (R393) -/
  | mctpReplyDiscard
  /-- CQ_DROP: An engine's DROP discards the rest of the leaf it is reading up to the end mark. (R399) -/
  | cqDrop (die : Fin 2) (words : Nat)
  /-- STR_DATA_WRITE: A write to STR_DATA feeds 4 or 8 bytes into a Strainer channel. (R380) -/
  | strDataWrite (who : BarWho) (die : Fin 2) (channel : Fin 16) (wide : Bool) (value : BitVec 64)
  /-- STR_CMD_START: STR_CMD.START loads a channel's context from INIT and clears DONE. (R380) -/
  | strCmdStart (who : BarWho) (die : Fin 2) (channel : Fin 16)
  /-- STR_CMD_TAIL: STR_CMD.TAIL feeds the low TAIL_BYTES bytes of STR_TAIL. (R380) -/
  | strCmdTail (who : BarWho) (die : Fin 2) (channel : Fin 16) (bytes : Fin 8)
  /-- STR_CMD_FINAL: STR_CMD.FINAL computes RESULT, sets DONE and compares with EXPECT when enabled. (R381) -/
  | strCmdFinal (who : BarWho) (die : Fin 2) (channel : Fin 16)
  /-- TLY_LIVE_READ: A read of a live counter word latches the whole bank into the snapshot view and increments SEQ. (R479) -/
  | tlyLiveRead (who : BarWho) (die : Fin 2) (bank : Fin 3) (index : Nat) (wide : Bool)
  /-- TLY_COUNTER_WRITE: A 64-bit write to a live counter sets it from the next cycle without losing events. (R480) -/
  | tlyCounterWrite (who : BarWho) (die : Fin 2) (bank : Fin 3) (index : Nat) (wide : Bool) (value : BitVec 64) (events : Nat)
  /-- TLY_SAMPLE_CFG_WRITE: A write to TLY_SAMPLE_CFG selects the sampler and restarts the period count. (R484) -/
  | tlySampleCfgWrite (who : BarWho) (die : Fin 2) (value : BitVec 32)
  /-- TLY_COUNTER_WRAP: A counter wraps past 2^48 − 1, setting its overflow bit and raising its source. (R481) -/
  | tlyCounterWrap (die : Fin 2) (bank : Fin 3) (index : Nat) (events : Nat)
  /-- TLY_SAMPLE: The sampler takes the PERIOD-th occurrence of its event and writes a precise record or latches TLY_SKID. (R485) -/
  | tlySample (die : Fin 2) (events : Nat) (s : SampleFields)
  /-- REAM_CMD_LOAD: REAM_CMD.LOAD fills the 4 KiB window with whole records from reader 0's cursor. (R501) -/
  | reamCmdLoad (who : BarWho)
  /-- REAM_CMD_REWIND: REAM_CMD.REWIND sets reader 0's cursor to its mark. (R501) -/
  | reamCmdRewind (who : BarWho)
  /-- REAM_CMD_MARK: REAM_CMD.MARK sets reader 0's mark to its cursor. (R501) -/
  | reamCmdMark (who : BarWho)
  /-- REAM_GAP_CLEAR: A write of 1 to REAM_GAP.GAP reports the gap, clears GAP and LOST, and writes a 0x400 record. (R500) -/
  | reamGapClear (who : BarWho) (reader : Fin 2)
  /-- REAM_PAGE_FLUSH: A log page that is full or 1 s old is programmed to the Ream share of the media reserve. (R496) -/
  | reamPageFlush
  /-- REAM_SUPPRESSION_SUMMARY: At the end of each second a class-0x401 record summarises suppressed records. (R494) -/
  | reamSuppressionSummary
  /-- REGISTER_WRITE: A write to a register field with no row of its own acts by its access code. (R11) -/
  | registerWrite (head : Fin 2) (offset : Nat) (size : Nat) (value : WordWrite)
  /-- BYPASS: TAP instruction 0xFF selects the one-bit bypass register. (R525) -/
  | bypass (die : Fin 2) (code : BitVec 8)
  /-- IDCODE: TAP instruction 0x01 selects the die's identification code. (R525) -/
  | idcode (die : Fin 2)
  /-- SAMPLE_PRELOAD: TAP instruction 0x02 selects the boundary register. (R525) -/
  | samplePreload (die : Fin 2)
  /-- EXTEST: TAP instruction 0x03 drives the boundary cells in Safe, and acts as BYPASS otherwise. (R525) -/
  | extest (die : Fin 2)
  /-- BST_STATUS: TAP instruction 0x10 shifts out the slices that ended FAIL in the newest run. (R525) -/
  | bstStatus (die : Fin 2)
  /-- MEMACC: TAP instruction 0x30 accesses memory through the crypto filter, which refuses protected targets. (R356) -/
  | memacc (die : Fin 2) (target : MemTarget) (write : Option Line)
  /-- SCAN_N: TAP instructions SCAN_0 to SCAN_15 select scan chains once scan is enabled, and act as BYPASS before. (R526) -/
  | scanN (die : Fin 2) (n : Fin 16)
  /-- TRST: TRST# holds the test access port in reset. (R534) -/
  | trst (asserted : Bool)
  /-- PAD_TOUCH_END: A Service pad touch of 100 ms to 2 s ends and cancels a removal, acknowledges an alert or toggles locate. (R537) -/
  | padTouchEnd (ms : Nat)
  /-- PAD_HOLD_3S: A Service pad touch held for 3 s requests removal. (R537) -/
  | padHold3s
  /-- REMOVAL_WAIT_EXPIRY: A pending removal not confirmed within REMOVAL_WAIT_S is cancelled. (R539) -/
  | removalWaitExpiry
  /-- DRBG_HEALTH_FAIL: An entropy health test fails, blocking seeds and nonces and raising source 549. (R331) -/
  | drbgHealthFail (die : Fin 2)
  /-- MCTP_REPLY_READ: The platform manager takes the last packet of a reply or EVENT_NOTIFY message off the bus, so it counts as read and ALERT# and REPLY_RDY# may be released. (R530) -/
  | mctpReplyRead (notification : Bool)
  /-- I3C_DYNAMIC_ADDRESS_ASSIGNMENT: The I3C bus controller assigns, or fails to assign, a dynamic address, so the endpoint runs over I3C or falls back to SMBus. (R393) -/
  | i3cDynamicAddressAssignment (address : Option (Fin 128))
  /-- STRAP_CHANGE_WHILE_POWERED: DUALPORTEN# or a strap input changes while the module is powered; the change is ignored and a Ream record of class 0x403 is written. (R120) -/
  | strapChangeWhilePowered (sampled present : Nat)
  /-- REFERENCE_CLOCK_CHANGE: A head's reference clock becomes stable or is lost, which allows link training or takes the link down. (R84) -/
  | referenceClockChange (clock : Fin 2) (stable : Bool)
  /-- D3HOT_EXIT: The host returns a head's function from D3hot to D0, resuming CXL.io traffic on that head. (R85) -/
  | d3hotExit (head : Fin 2)
  /-- FLIT_REPLAY: A received flit fails its check and is replayed by the link layer without a retrain, raising event 9 of the head. (R109) -/
  | flitReplay (head : Fin 2) (corrected : List Nat)
  /-- SCAN_MEDIA_QUIRE: A running Scan Media visits the next mapped quire of its range through the map, checks its frames and stripes, and at the end rebuilds the poison index and may clear the overflow flag. (R266) -/
  | scanMediaQuire (frames : List ScrubFrame)
  /-- SCAN_CHALLENGE_EXPIRY: An unlock challenge lapses 10 minutes after it was issued and can no longer validate a token. (R357) -/
  | scanChallengeExpiry
  /-- BAR2_READ: A host BAR2 read outside the grant, in a reserved span or unaligned reads zero and increments LNK_BAR2_VIOL. (R115) -/
  | bar2Read (head : Fin 2) (offset : Nat) (size : Nat)
deriving DecidableEq, Repr

end Sys2Proof
end

