-- ==== Sys2Proof/Decode.lean ====
section
/-! DEFINITION. The commands that words of the opcode table spell. The table gives no row any bits: the module takes its
commands as packets, leaves, pins and register accesses, whose encodings belong to the buses that carry them. -/

namespace Sys2Proof

/-- The command a table word spells: none, since no row has bits. -/
def decodeTableWord (_nbits _w : Nat) : Option Instr := none

end Sys2Proof
end

