-- ==== Sys2Proof/Machine/Codes.lean ====
section
/-! DEFINITION. The codes that protect stored data: the Reed-Solomon code of an LPDDR5X unit (R226), and the CRC-16 and the BCH code of a
frame (R256). Byte 0 of a list is the byte at the lowest address. -/

namespace Sys2Proof.Machine

/-! ## LPDDR5X units (R226) -/

/-- Multiply by x in GF(2^8) with the field polynomial 0x11D, which the spec does not name (log entry 89). -/
def gfDouble (a : Nat) : Nat := if a < 128 then 2 * a else (2 * a - 256) ^^^ 0x1D

/-- The product of two elements of GF(2^8), by the bits of the second from bit n − 1 down. -/
def gfMulBits (a b : Nat) : Nat → Nat
  | 0 => 0
  | n + 1 => gfDouble (gfMulBits a (b / 2) n) ^^^ (if b % 2 = 1 then a else 0)

/-- The product of two elements of GF(2^8). -/
def gfMul (a b : Nat) : Nat := gfMulBits a b 8

/-- The coefficients of the generator below its leading one, whose roots are α^0 to α^7 (log entry 89). -/
def rsGenerator : List Nat := [255, 11, 81, 54, 239, 173, 200, 24]

/-- One step of the division by the generator. -/
def rsStep (rem : List Nat) (x : Nat) : List Nat :=
  let f := x ^^^ rem.headD 0
  (List.zipWith (fun r g => r ^^^ gfMul f g) (rem.drop 1 ++ [0]) rsGenerator)

/-- The eight check symbols of 64 data symbols at a physical address. The address bits [35:6] enter as four symbols before the data, so
that the check of another address differs in at least five bytes (log entry 89). -/
def rsCheck (data : List (BitVec 8)) (phys : Nat) : List (BitVec 8) :=
  let addr := phys / 64 % 1073741824
  let message := [addr / 16777216, addr / 65536 % 256, addr / 256 % 256, addr % 256] ++ (data.map BitVec.toNat)
  (message.foldl rsStep (List.replicate 8 0)).map (BitVec.ofNat 8)

/-- The check unit of a group from its seven data units (R226): eight check bytes to each, and those of its own bytes 0 to 55. -/
def checkUnit (units : List (List (BitVec 8))) (phys : Nat) : List (BitVec 8) :=
  let first := (List.range 7).flatMap (fun u => rsCheck (units[u]?.getD []) (phys + 64 * u))
  first ++ rsCheck (first ++ List.replicate 8 0) (phys + 448)

/-- The poison mark of R228, which the check bytes of a poisoned unit are XORed with. -/
def poisonMark : Nat := 0x5A5AA5A55A5AA5A5

/-- The check bytes of a unit that carries the poison mark (R228). -/
def markedCheck (data : List (BitVec 8)) (phys : Nat) : List (BitVec 8) :=
  (List.range 8).zipWith (fun k c => c ^^^ BitVec.ofNat 8 (poisonMark >>> (8 * k))) (rsCheck data phys)

/-! ## Frames (R256) -/

/-- One bit step of the CRC-16 of R256. -/
def crc16Bit (c : Nat) : Nat := if c < 32768 then 2 * c else (2 * c - 65536) ^^^ 0x8BB7

/-- CRC-16 with polynomial 0x8BB7, initial value 0, no reflection and no final inversion. -/
def crc16 (b : List (BitVec 8)) : Nat :=
  b.foldl (fun c x =>
    crc16Bit (crc16Bit (crc16Bit (crc16Bit (crc16Bit (crc16Bit (crc16Bit (crc16Bit (c ^^^ (x.toNat * 256)))))))))) 0

/-- The generator of the BCH code: the least common multiple of the minimal polynomials of α^1, α^3, … α^39 over the field of R256, of
degree 240. -/
def bchGenerator : Nat := 0x11efba9e80df8086f8ec2703288fecf86ab201c83bf75aef3909b9f8336f9

/-- Divide one more message bit by the generator. -/
def bchBit (r : Nat) (b : Bool) : Nat :=
  let top := r.testBit 239 != b
  let shifted := (2 * r) % 2 ^ 240
  if top then shifted ^^^ (bchGenerator % 2 ^ 240) else shifted

/-- The 240 check bits of a message, in 30 bytes; within a byte the most significant bit is first (log entry 90). -/
def bchCheck (message : List (BitVec 8)) : List (BitVec 8) :=
  let r := (message.flatMap (fun x => (List.range 8).map (fun k => x.getLsbD (7 - k)))).foldl bchBit 0
  (List.range 30).map (fun k => BitVec.ofNat 8 (r >>> (8 * (29 - k))))

/-- The die-local code of bytes 0 to 287 of a frame, its bytes 288 to 319 (R256). -/
def frameCode (b : List (BitVec 8)) : List (BitVec 8) :=
  let crc := crc16 b
  let tail := [BitVec.ofNat 8 crc, BitVec.ofNat 8 (crc / 256)]
  bchCheck (b ++ tail) ++ tail

end Sys2Proof.Machine
end

