-- ==== Sys2Proof/Config.lean ====
section
/-! DEFINITION. What the spec leaves open: opaque constants, none of which has a body, so that no proof can see a
value of one. A function of a counter is applied to the model's own field `State.free`, which a step that reads a free
value advances (log entry 13); the others are functions of the operands the open value belongs to. -/

namespace Sys2Proof.Config

/-- A fresh open number, at the counter of the state that reads it. Log entry 13 names each place that reads one. -/
opaque freeNat : Nat → Nat

/-- Bytes the spec does not lay out (certificate chain, signatures, digests, random seeds): a draw and an offset.
Log entry 13. -/
opaque freeByte : Nat → Nat → BitVec 8

/-- The bytes of a die's unique device secret (R330), and the labels of the keys derived from it and from a seed (R330, R332). Log
entry 97. -/
opaque uds : Nat → Nat → BitVec 8
opaque keyLabel : Nat → List (BitVec 8)

/-- The bytes that stand for some content under a digest or a MAC where the spec does not lay them out: the images and the settings that
are measured (R352), and the fields of R337, R338 and R341. Log entry 97. -/
opaque content : List Nat → List (BitVec 8)

/-- The bytes of the slot 0 certificate chain (R351): its length and its contents. -/
opaque chainLength : Nat
opaque chainByte : Nat → BitVec 8

/-- What the code of R226 answers for a unit with more than five erroneous bytes, of which it promises nothing, by their places. -/
opaque beyondCode : List Nat → Nat

/-- The time in ns that an LPDDR5X access takes once it is issued (R235), by the controller's cycle and the port. -/
opaque dramNs : Nat → Nat → Nat

/-- The number that CDAT gives the memory type of persistent memory (R94), which the spec does not repeat. Log entry 10. -/
opaque persistentType : Nat

/-- The vendor zone as shipped, by page·256 + offset, and its write password, which Weazoir holds (R504, R509; log entry 29). -/
opaque vendorByte : Nat → BitVec 8
opaque vendorPassword : Nat

end Sys2Proof.Config
end

