-- ==== Sys2Proof/Machine/Fields.lean ====
section
/-! DEFINITION. The register tables of the spec, one definition per field: every row of the tables of R118, R119, R151,
R183, R200, R222, R253, R278, R306, R328, R361, R377, R383, R411, R437, R461, R462, R474, R490, R513, R514, R527 and R548,
with its block, offset, array stride and count, bits, access code (R11), reset kinds (R14) and the value the reset restores
(or, for a field with a dash in the Reset column, the value it is shipped with: log entries 1 and 19).
A two-index register has one linear index: MED_RREF 7b + a, DMC_ECC 8k + ch, DMC_REMAP 64k + e, SPR_HIST 8c + b,
SEC_RANGE 64h + r; MOD_DOZE_CFG and MOD_DOZE_STAT are indexed d − 1. -/

namespace Sys2Proof.Machine

/-- The register blocks of R41, and the identity region of R118. -/
inductive Block where
  | ID | MOD | LNK | LOT | CDY | DMC | MAP | MED | PRT | SPR | SEC | POUR | BLK | STR | CQ | PWR | THM | ENG | TLY | REAM | QST | BST | PIN
deriving DecidableEq, Repr

/-- The slot number of a block: its slot offset in R41 divided by 0x10000. The identity region has no slot. -/
def Block.slot : Block → Option Nat
  | .MOD => some 0
  | .LNK => some 1
  | .LOT => some 2
  | .CDY => some 3
  | .DMC => some 4
  | .MAP => some 5
  | .MED => some 6
  | .PRT => some 7
  | .SPR => some 8
  | .SEC => some 9
  | .POUR => some 10
  | .BLK => some 11
  | .STR => some 12
  | .CQ => some 13
  | .PWR => some 14
  | .THM => some 15
  | .ENG => some 16
  | .TLY => some 17
  | .REAM => some 18
  | .QST => some 19
  | .BST => some 20
  | .PIN => some 21
  | .ID => none

/-- The access codes of R11. No field of the tables is RW1S. -/
inductive Access where
  | ro | rw | rw1c | wo
deriving DecidableEq, Repr

/-- Whether a field exists on each die, on die 0 only (reads zero on die 1, R42), or is one value that both dies show. -/
inductive Scope where
  | each | die0 | shared
deriving DecidableEq, Repr

/-- One row of a register table. `kinds` holds the reset kinds of R14 as bits: 1 cold, 2 warm, 4 head, 8 engine. -/
structure Field where
  num : Nat
  block : Block
  off : Nat
  stride : Nat
  count : Nat
  lo : Nat
  width : Nat
  acc : Access
  kinds : Nat
  scope : Scope
  rst : Nat
  tbl : List Nat
deriving DecidableEq, Repr

/-- The drift steps D(a, b) of R142, at 7b + a. -/
def driftSteps : List Int :=
  [2, 5, 8, 10, 12, 14, 16, 0, 3, 6, 8, 10, 12, 14, -2, 1, 4, 6, 8, 10, 12,
   -4, -1, 2, 4, 6, 8, 10, -6, -3, 0, 2, 4, 6, 8, -8, -5, -2, 0, 2, 4, 6]

/-- The shipped contents of one column of MED_RREF: REF1 = 3D, REF2 = 2D, REF3 = D (R142), as signed bytes. -/
def driftTable (m : Int) : List Nat :=
  driftSteps.map (fun d => ((m * d) % 256).toNat)

namespace Reg

/-- R118. -/
def LNK_IDENT.ID : Field := ⟨0, .ID, 0x0, 0, 1, 0, 32, .ro, 0, .die0, 306988104, []⟩
/-- R118. -/
def LNK_REVISION.BOARD_REV : Field := ⟨1, .ID, 0x8, 0, 1, 0, 8, .ro, 0, .die0, 0, []⟩
/-- R118. -/
def LNK_REVISION.ZORSA_STEP : Field := ⟨2, .ID, 0x8, 0, 1, 8, 8, .ro, 0, .die0, 0, []⟩
/-- R118. -/
def LNK_REVISION.FW_VERSION : Field := ⟨3, .ID, 0x8, 0, 1, 16, 16, .ro, 3, .die0, 0, []⟩
/-- R118. -/
def LNK_SERIAL.SERIAL : Field := ⟨4, .ID, 0x10, 0, 1, 0, 64, .ro, 0, .die0, 0, []⟩
/-- R118. -/
def LNK_MODE.MODE : Field := ⟨5, .ID, 0x18, 0, 1, 0, 4, .ro, 3, .die0, 0, []⟩
/-- R118. -/
def LNK_MODE.DEGRADED : Field := ⟨6, .ID, 0x18, 0, 1, 4, 1, .ro, 3, .die0, 0, []⟩
/-- R118. -/
def LNK_MODE.WRITE_THROUGH : Field := ⟨7, .ID, 0x18, 0, 1, 5, 1, .ro, 3, .die0, 0, []⟩
/-- R118. -/
def LNK_MODE.READ_ONLY : Field := ⟨8, .ID, 0x18, 0, 1, 6, 1, .ro, 0, .die0, 0, []⟩
/-- R118. -/
def LNK_MODE.DOZE : Field := ⟨9, .ID, 0x18, 0, 1, 7, 3, .ro, 3, .die0, 0, []⟩
/-- R118. -/
def LNK_OPTIME.MS : Field := ⟨10, .ID, 0x20, 0, 1, 0, 48, .ro, 0, .die0, 0, []⟩
/-- R118. -/
def LNK_POWER_CYCLES.COUNT : Field := ⟨11, .ID, 0x28, 0, 1, 0, 32, .ro, 0, .die0, 0, []⟩
/-- R118. -/
def LNK_DIRTY_BUDGET.GIB : Field := ⟨12, .ID, 0x30, 0, 1, 0, 4, .ro, 3, .die0, 0, []⟩
/-- R119. -/
def LNK_HEAD_CFG.DUAL : Field := ⟨13, .LNK, 0x0, 0, 1, 0, 1, .ro, 1, .each, 0, []⟩
/-- R119. -/
def LNK_HEAD_CFG.PRIMARY : Field := ⟨14, .LNK, 0x0, 0, 1, 1, 1, .ro, 1, .each, 0, []⟩
/-- R119. -/
def LNK_HEAD_CFG.HEAD : Field := ⟨15, .LNK, 0x0, 0, 1, 2, 1, .ro, 1, .each, 0, []⟩
/-- R119. -/
def LNK_STATUS.WIDTH : Field := ⟨16, .LNK, 0x8, 0, 1, 0, 5, .ro, 7, .each, 0, []⟩
/-- R119. -/
def LNK_STATUS.RATE : Field := ⟨17, .LNK, 0x8, 0, 1, 5, 2, .ro, 7, .each, 0, []⟩
/-- R119. -/
def LNK_STATUS.CXL_MEM : Field := ⟨18, .LNK, 0x8, 0, 1, 7, 1, .ro, 7, .each, 0, []⟩
/-- R119. -/
def LNK_STATUS.MEM_ACTIVE : Field := ⟨19, .LNK, 0x8, 0, 1, 8, 1, .ro, 7, .each, 0, []⟩
/-- R119. -/
def LNK_STATUS.IDE_IO : Field := ⟨20, .LNK, 0x8, 0, 1, 9, 1, .ro, 7, .each, 0, []⟩
/-- R119. -/
def LNK_STATUS.IDE_MEM : Field := ⟨21, .LNK, 0x8, 0, 1, 10, 1, .ro, 7, .each, 0, []⟩
/-- R119. -/
def LNK_RETRAIN_CNT.COUNT : Field := ⟨22, .LNK, 0x10, 0, 1, 0, 32, .ro, 1, .each, 0, []⟩
/-- R119. -/
def LNK_D2D_STATUS.DEGRADED : Field := ⟨23, .LNK, 0x18, 0, 1, 0, 4, .ro, 1, .each, 0, []⟩
/-- R119. -/
def LNK_D2D_STATUS.DOWN : Field := ⟨24, .LNK, 0x18, 0, 1, 4, 4, .ro, 1, .each, 0, []⟩
/-- R119. -/
def LNK_BAR2_GRANT.READ_EN : Field := ⟨25, .LNK, 0x20, 0, 1, 0, 7, .ro, 7, .each, 0, []⟩
/-- R119. -/
def LNK_BAR2_GRANT.WRITE_EN : Field := ⟨26, .LNK, 0x20, 0, 1, 8, 7, .ro, 7, .each, 0, []⟩
/-- R119. -/
def LNK_BAR2_GRANT.HALT_LIMIT : Field := ⟨27, .LNK, 0x20, 0, 1, 16, 1, .ro, 1, .each, 0, []⟩
/-- R119. -/
def LNK_BAR2_VIOL.COUNT : Field := ⟨28, .LNK, 0x28, 0, 1, 0, 32, .ro, 1, .each, 0, []⟩
/-- R119. -/
def LNK_AGG_CTRL.HOLDOFF : Field := ⟨29, .LNK, 0x100, 8, 24, 0, 10, .rw, 7, .each, 0, []⟩
/-- R119. -/
def LNK_AGG_CTRL.COUNT : Field := ⟨30, .LNK, 0x100, 8, 24, 10, 8, .rw, 7, .each, 0, []⟩
/-- R119. -/
def LNK_AGG_CTRL.PENDING : Field := ⟨31, .LNK, 0x100, 8, 24, 31, 1, .ro, 7, .each, 0, []⟩
/-- R119. -/
def LNK_SRC_ROUTE.GROUP : Field := ⟨32, .LNK, 0x1000, 4, 640, 0, 5, .rw, 7, .each, 31, []⟩
/-- R119. -/
def LNK_SRC_ROUTE.ASSERTED : Field := ⟨33, .LNK, 0x1000, 4, 640, 8, 1, .rw1c, 7, .each, 0, []⟩
/-- R119. -/
def LNK_SRC_ROUTE.LEVEL : Field := ⟨34, .LNK, 0x1000, 4, 640, 9, 1, .ro, 0, .each, 0, []⟩
/-- R119. -/
def LNK_LANE_STATUS.MARGIN : Field := ⟨35, .LNK, 0x4000, 64, 8, 0, 8, .ro, 7, .each, 0, []⟩
/-- R119. -/
def LNK_LANE_STATUS.ERRORS : Field := ⟨36, .LNK, 0x4000, 64, 8, 8, 16, .ro, 7, .each, 0, []⟩
/-- R119. -/
def LNK_LANE_STATUS.REVERSED : Field := ⟨37, .LNK, 0x4000, 64, 8, 24, 1, .ro, 7, .each, 0, []⟩
/-- R151. -/
def MED_CAPS.PART_LIMIT : Field := ⟨38, .MED, 0x0, 0, 1, 0, 4, .ro, 0, .each, 2, []⟩
/-- R151. -/
def MED_CAPS.DIE_LIMIT : Field := ⟨39, .MED, 0x0, 0, 1, 8, 6, .ro, 0, .each, 32, []⟩
/-- R151. -/
def MED_CAPS.STACK_LIMIT : Field := ⟨40, .MED, 0x0, 0, 1, 16, 8, .ro, 0, .each, 128, []⟩
/-- R151. -/
def MED_CAPS.OPEN_LIMIT : Field := ⟨41, .MED, 0x0, 0, 1, 24, 8, .ro, 0, .each, 15, []⟩
/-- R151. -/
def MED_SUSP.PROG_MAX : Field := ⟨42, .MED, 0x8, 0, 1, 0, 4, .ro, 0, .each, 8, []⟩
/-- R151. -/
def MED_SUSP.STEEP_MAX : Field := ⟨43, .MED, 0x8, 0, 1, 8, 8, .ro, 0, .each, 64, []⟩
/-- R151. -/
def MED_SUSP.HOLD_US : Field := ⟨44, .MED, 0x8, 0, 1, 16, 8, .ro, 0, .each, 4, []⟩
/-- R151. -/
def MED_STACK_PROG.LIMIT : Field := ⟨45, .MED, 0x20, 8, 8, 0, 8, .ro, 3, .each, 128, []⟩
/-- R151. -/
def MED_STACK_PROG.IN_USE : Field := ⟨46, .MED, 0x20, 8, 8, 8, 8, .ro, 3, .each, 0, []⟩
/-- R151. -/
def MED_WAVE.SET_START : Field := ⟨47, .MED, 0x100, 8, 6, 0, 8, .ro, 0, .each, 0, [170, 165, 160, 155, 150, 145]⟩
/-- R151. -/
def MED_WAVE.SET_STEP : Field := ⟨48, .MED, 0x100, 8, 6, 8, 8, .ro, 0, .each, 0, [40, 40, 40, 30, 30, 30]⟩
/-- R151. -/
def MED_WAVE.WIDTH : Field := ⟨49, .MED, 0x100, 8, 6, 16, 8, .ro, 0, .each, 0, [30, 30, 30, 28, 26, 24]⟩
/-- R151. -/
def MED_WAVE.PULSE_LIMIT : Field := ⟨50, .MED, 0x100, 8, 6, 24, 8, .ro, 0, .each, 0, [14, 14, 14, 15, 16, 16]⟩
/-- R151. -/
def MED_WAVE.STEEP_AMP : Field := ⟨51, .MED, 0x100, 8, 6, 32, 8, .ro, 0, .each, 0, [210, 205, 200, 195, 190, 185]⟩
/-- R151. -/
def MED_RREF.REF1 : Field := ⟨52, .MED, 0x200, 8, 42, 0, 8, .ro, 0, .each, 0, driftTable 3⟩
/-- R151. -/
def MED_RREF.REF2 : Field := ⟨53, .MED, 0x200, 8, 42, 8, 8, .ro, 0, .each, 0, driftTable 2⟩
/-- R151. -/
def MED_RREF.REF3 : Field := ⟨54, .MED, 0x200, 8, 42, 16, 8, .ro, 0, .each, 0, driftTable 1⟩
/-- R151. -/
def MED_AGE_EDGE.MIN : Field := ⟨55, .MED, 0x380, 4, 6, 0, 32, .ro, 0, .each, 0, [60, 1440, 10080, 43200, 129600, 525960]⟩
/-- R151. -/
def MED_SIZING_LIMIT.MIN : Field := ⟨56, .MED, 0x3A0, 4, 6, 0, 32, .ro, 0, .each, 0, [43200, 43200, 43200, 10080, 1440, 240]⟩
/-- R151. -/
def MED_DIE.ROLE : Field := ⟨57, .MED, 0x1000, 16, 160, 0, 3, .ro, 0, .each, 0, (List.range 160).map (fun n => if n % 10 = 9 then 1 else 0)⟩
/-- R151. -/
def MED_DIE.MEMBER : Field := ⟨58, .MED, 0x1000, 16, 160, 3, 4, .ro, 0, .each, 0, (List.range 160).map (fun n => if n % 10 = 9 then 15 else n % 10)⟩
/-- R151. -/
def MED_DIE.TEMP : Field := ⟨59, .MED, 0x1000, 16, 160, 8, 8, .ro, 0, .each, 0, []⟩
/-- R151. -/
def MED_DIE.BAND : Field := ⟨60, .MED, 0x1000, 16, 160, 16, 3, .ro, 0, .each, 0, []⟩
/-- R151. -/
def MED_DIE.SENSOR_BROKEN : Field := ⟨61, .MED, 0x1000, 16, 160, 19, 1, .ro, 0, .each, 0, []⟩
/-- R151. -/
def MED_DIE.STANDBY : Field := ⟨62, .MED, 0x1000, 16, 160, 20, 1, .ro, 3, .each, 0, []⟩
/-- R151. -/
def MED_DIE.SPARE_TILES_USED : Field := ⟨63, .MED, 0x1008, 16, 160, 0, 13, .ro, 0, .each, 0, []⟩
/-- R151. -/
def MED_DIE.BANKS_EXHAUSTED : Field := ⟨64, .MED, 0x1008, 16, 160, 16, 11, .ro, 0, .each, 0, []⟩
/-- R151. -/
def MED_DIE.OFF_AGE : Field := ⟨65, .MED, 0x1008, 16, 160, 32, 32, .ro, 0, .each, 0, []⟩
/-- R151. -/
def MED_CHAN.CMD_CRC_ERR : Field := ⟨66, .MED, 0x2000, 8, 16, 0, 16, .ro, 1, .each, 0, []⟩
/-- R151. -/
def MED_CHAN.SUSP_REFUSED : Field := ⟨67, .MED, 0x2000, 8, 16, 16, 16, .ro, 1, .each, 0, []⟩
/-- R151. -/
def MED_CHAN.PROG_FAIL : Field := ⟨68, .MED, 0x2000, 8, 16, 32, 16, .ro, 1, .each, 0, []⟩
/-- R151. -/
def MED_CHAN.STEEP_FAIL : Field := ⟨69, .MED, 0x2000, 8, 16, 48, 16, .ro, 1, .each, 0, []⟩
/-- R183. -/
def MAP_CAPS.USER_QUIRES : Field := ⟨70, .MAP, 0x0, 0, 1, 0, 32, .ro, 0, .each, 402653184, []⟩
/-- R183. -/
def MAP_CAPS.SEGMENTS : Field := ⟨71, .MAP, 0x0, 0, 1, 32, 16, .ro, 0, .each, 0, []⟩
/-- R183. -/
def MAP_RESERVES.META : Field := ⟨72, .MAP, 0x8, 0, 1, 0, 16, .ro, 0, .each, 512, []⟩
/-- R183. -/
def MAP_RESERVES.POUR : Field := ⟨73, .MAP, 0x8, 0, 1, 16, 16, .ro, 0, .each, 64, []⟩
/-- R183. -/
def MAP_RESERVES.RECLAIM : Field := ⟨74, .MAP, 0x8, 0, 1, 32, 16, .ro, 0, .each, 512, []⟩
/-- R183. -/
def MAP_RESERVES.OP_FLOOR : Field := ⟨75, .MAP, 0x8, 0, 1, 48, 16, .ro, 0, .each, 4916, []⟩
/-- R183. -/
def MAP_CKPT.ROUND : Field := ⟨76, .MAP, 0x10, 0, 1, 0, 32, .ro, 0, .shared, 0, []⟩
/-- R183. -/
def MAP_CKPT.AREA : Field := ⟨77, .MAP, 0x10, 0, 1, 32, 1, .ro, 0, .shared, 0, []⟩
/-- R183. -/
def MAP_CKPT.PAGES_DONE : Field := ⟨78, .MAP, 0x10, 0, 1, 33, 23, .ro, 3, .each, 0, []⟩
/-- R183. -/
def MAP_REBUILD.DURATION_MS : Field := ⟨79, .MAP, 0x18, 0, 1, 0, 32, .ro, 3, .each, 0, []⟩
/-- R183. -/
def MAP_REBUILD.SKIPPED : Field := ⟨80, .MAP, 0x18, 0, 1, 32, 1, .ro, 3, .each, 0, []⟩
/-- R183. -/
def MAP_REBUILD.OLDER_ROUND : Field := ⟨81, .MAP, 0x18, 0, 1, 33, 1, .ro, 3, .each, 0, []⟩
/-- R183. -/
def MAP_JOURNAL.RING_USED : Field := ⟨82, .MAP, 0x20, 0, 1, 0, 8, .ro, 3, .each, 0, []⟩
/-- R183. -/
def MAP_CHAN.FREE : Field := ⟨83, .MAP, 0x40, 8, 16, 0, 17, .ro, 3, .each, 0, []⟩
/-- R183. -/
def MAP_CHAN.OPEN : Field := ⟨84, .MAP, 0x40, 8, 16, 17, 4, .ro, 3, .each, 0, []⟩
/-- R183. -/
def MAP_CHAN.THROTTLE : Field := ⟨85, .MAP, 0x40, 8, 16, 21, 2, .ro, 3, .each, 0, []⟩
/-- R183. -/
def MAP_CHAN.RETIRED : Field := ⟨86, .MAP, 0x40, 8, 16, 23, 17, .ro, 0, .each, 0, []⟩
/-- R183. -/
def MAP_CHAN.OP : Field := ⟨87, .MAP, 0x40, 8, 16, 40, 16, .ro, 3, .each, 0, []⟩
/-- R183. -/
def MAP_GEN_MEAN.GEN : Field := ⟨88, .MAP, 0xC0, 8, 16, 0, 48, .ro, 3, .each, 0, []⟩
/-- R183. -/
def MAP_GEN_MAX.GEN : Field := ⟨89, .MAP, 0x140, 8, 16, 0, 48, .ro, 3, .each, 0, []⟩
/-- R183. -/
def MAP_WA_HOST.QUIRES : Field := ⟨90, .MAP, 0x200, 0, 1, 0, 48, .ro, 1, .each, 0, []⟩
/-- R183. -/
def MAP_WA_COPY.QUIRES : Field := ⟨91, .MAP, 0x208, 0, 1, 0, 48, .ro, 1, .each, 0, []⟩
/-- R183. -/
def MAP_SIZING.DUE : Field := ⟨92, .MAP, 0x210, 0, 1, 0, 32, .ro, 3, .each, 0, []⟩
/-- R183. -/
def MAP_SIZING.LATE : Field := ⟨93, .MAP, 0x210, 0, 1, 32, 32, .ro, 1, .each, 0, []⟩
/-- R183. -/
def MAP_OP_MIN.SEGMENTS : Field := ⟨94, .MAP, 0x218, 0, 1, 0, 16, .ro, 3, .each, 0, []⟩
/-- R183. -/
def MAP_OP_MIN.READ_ONLY : Field := ⟨95, .MAP, 0x218, 0, 1, 16, 1, .ro, 0, .shared, 0, []⟩
/-- R200. -/
def LOT_CAPS.ENTRIES : Field := ⟨96, .LOT, 0x0, 0, 1, 0, 13, .ro, 0, .each, 4096, []⟩
/-- R200. -/
def LOT_CAPS.SLOTS : Field := ⟨97, .LOT, 0x0, 0, 1, 16, 5, .ro, 0, .each, 20, []⟩
/-- R200. -/
def LOT_CAPS.AROUND_COST : Field := ⟨98, .LOT, 0x0, 0, 1, 24, 4, .ro, 0, .each, 8, []⟩
/-- R200. -/
def LOT_CAPS.DEADLINE_NS : Field := ⟨99, .LOT, 0x0, 0, 1, 32, 16, .ro, 0, .each, 2860, []⟩
/-- R200. -/
def LOT_OCC.ENTRIES : Field := ⟨100, .LOT, 0x8, 0, 1, 0, 13, .ro, 3, .each, 0, []⟩
/-- R200. -/
def LOT_OCC.WAITING : Field := ⟨101, .LOT, 0x8, 0, 1, 16, 13, .ro, 3, .each, 0, []⟩
/-- R200. -/
def LOT_OCC.DEEP : Field := ⟨102, .LOT, 0x8, 0, 1, 32, 13, .ro, 3, .each, 0, []⟩
/-- R200. -/
def LOT_RR.NEXT : Field := ⟨103, .LOT, 0x10, 0, 1, 0, 1, .ro, 3, .each, 0, []⟩
/-- R200. -/
def LOT_CREDIT.HELD : Field := ⟨104, .LOT, 0x18, 0, 1, 0, 14, .ro, 3, .each, 0, []⟩
/-- R200. -/
def LOT_CREDIT.HELD_READ : Field := ⟨105, .LOT, 0x18, 0, 1, 16, 14, .ro, 3, .each, 0, []⟩
/-- R200. -/
def LOT_CREDIT.WITHHELD : Field := ⟨106, .LOT, 0x18, 0, 1, 32, 16, .ro, 1, .each, 0, []⟩
/-- R200. -/
def LOT_HAZARD.COUNT : Field := ⟨107, .LOT, 0x20, 0, 1, 0, 32, .ro, 1, .each, 0, []⟩
/-- R200. -/
def LOT_HAZARD.FORWARD : Field := ⟨108, .LOT, 0x20, 0, 1, 32, 32, .ro, 1, .each, 0, []⟩
/-- R200. -/
def LOT_MISS_MAX.NS : Field := ⟨109, .LOT, 0x28, 0, 1, 0, 16, .rw, 3, .each, 0, []⟩
/-- R200. -/
def LOT_MISS_MAX.DEEP_NS : Field := ⟨110, .LOT, 0x28, 0, 1, 16, 32, .rw, 3, .each, 0, []⟩
/-- R200. -/
def LOT_KETTLE.SLOTS : Field := ⟨111, .LOT, 0x100, 16, 16, 0, 5, .ro, 3, .each, 0, []⟩
/-- R200. -/
def LOT_KETTLE.AROUND_ONLY : Field := ⟨112, .LOT, 0x100, 16, 16, 8, 1, .ro, 3, .each, 0, []⟩
/-- R200. -/
def LOT_KETTLE.SUSPENDS : Field := ⟨113, .LOT, 0x100, 16, 16, 32, 32, .ro, 1, .each, 0, []⟩
/-- R200. -/
def LOT_KETTLE.AROUND : Field := ⟨114, .LOT, 0x108, 16, 16, 0, 32, .ro, 1, .each, 0, []⟩
/-- R200. -/
def LOT_KETTLE.DEEP : Field := ⟨115, .LOT, 0x108, 16, 16, 32, 32, .ro, 1, .each, 0, []⟩
/-- R200. -/
def LOT_DEEP_STEP.COUNT : Field := ⟨116, .LOT, 0x200, 8, 7, 0, 32, .ro, 1, .each, 0, []⟩
/-- R222. -/
def CDY_CAPS.SETS : Field := ⟨117, .CDY, 0x0, 0, 1, 0, 24, .ro, 3, .each, 10485760, []⟩
/-- R222. -/
def CDY_CAPS.WAYS : Field := ⟨118, .CDY, 0x0, 0, 1, 24, 4, .ro, 0, .each, 8, []⟩
/-- R222. -/
def CDY_CAPS.DIRTY_WAYS : Field := ⟨119, .CDY, 0x0, 0, 1, 28, 4, .ro, 0, .each, 6, []⟩
/-- R222. -/
def CDY_CAPS.STAGE_ENTRIES : Field := ⟨120, .CDY, 0x0, 0, 1, 32, 17, .ro, 0, .each, 65536, []⟩
/-- R222. -/
def CDY_CFG.QUIRE_FILL : Field := ⟨121, .CDY, 0x8, 0, 1, 0, 1, .rw, 3, .shared, 0, []⟩
/-- R222. -/
def CDY_CFG.FILL_AGE : Field := ⟨122, .CDY, 0x8, 0, 1, 1, 3, .rw, 3, .shared, 6, []⟩
/-- R222. -/
def CDY_CFG.EVICT_AGE : Field := ⟨123, .CDY, 0x8, 0, 1, 4, 3, .rw, 3, .shared, 4, []⟩
/-- R222. -/
def CDY_CFG.EVICT_START : Field := ⟨124, .CDY, 0x8, 0, 1, 8, 8, .rw, 3, .shared, 75, []⟩
/-- R222. -/
def CDY_CFG.IDLE_FLOOR : Field := ⟨125, .CDY, 0x8, 0, 1, 16, 8, .rw, 3, .shared, 25, []⟩
/-- R222. -/
def CDY_CFG.IDLE_MS : Field := ⟨126, .CDY, 0x8, 0, 1, 24, 8, .rw, 3, .shared, 100, []⟩
/-- R222. -/
def CDY_DIRTY_LIMIT.BLOCKS : Field := ⟨127, .CDY, 0x10, 0, 1, 0, 23, .ro, 3, .each, 0, []⟩
/-- R222. -/
def CDY_DIRTY_LIMIT.CHAN_BLOCKS : Field := ⟨128, .CDY, 0x10, 0, 1, 32, 19, .ro, 3, .each, 0, []⟩
/-- R222. -/
def CDY_DIRTY.BLOCKS : Field := ⟨129, .CDY, 0x18, 0, 1, 0, 23, .ro, 3, .each, 0, []⟩
/-- R222. -/
def CDY_DIRTY.STAGED : Field := ⟨130, .CDY, 0x18, 0, 1, 24, 17, .ro, 3, .each, 0, []⟩
/-- R222. -/
def CDY_PARTIAL.USED : Field := ⟨131, .CDY, 0x20, 0, 1, 0, 16, .ro, 3, .each, 0, []⟩
/-- R222. -/
def CDY_STATUS.WRITE_THROUGH : Field := ⟨132, .CDY, 0x28, 0, 1, 0, 1, .ro, 3, .each, 0, []⟩
/-- R222. -/
def CDY_STATUS.RELAY : Field := ⟨133, .CDY, 0x28, 0, 1, 1, 1, .ro, 3, .each, 0, []⟩
/-- R222. -/
def CDY_STATUS.PKG_LOST : Field := ⟨134, .CDY, 0x28, 0, 1, 2, 2, .ro, 3, .each, 0, []⟩
/-- R222. -/
def CDY_STATUS.PKG_RETURNING : Field := ⟨135, .CDY, 0x28, 0, 1, 4, 2, .ro, 3, .each, 0, []⟩
/-- R222. -/
def CDY_CHAN_DIRTY.BLOCKS : Field := ⟨136, .CDY, 0x40, 8, 16, 0, 19, .ro, 3, .each, 0, []⟩
/-- R222. -/
def CDY_CHAN_DIRTY.EVICTING : Field := ⟨137, .CDY, 0x40, 8, 16, 19, 1, .ro, 3, .each, 0, []⟩
/-- R222. -/
def CDY_STAT_READ_HIT.COUNT : Field := ⟨138, .CDY, 0x100, 0, 1, 0, 48, .ro, 1, .each, 0, []⟩
/-- R222. -/
def CDY_STAT_READ_MISS.COUNT : Field := ⟨139, .CDY, 0x108, 0, 1, 0, 48, .ro, 1, .each, 0, []⟩
/-- R222. -/
def CDY_STAT_READ_UNMAPPED.COUNT : Field := ⟨140, .CDY, 0x110, 0, 1, 0, 48, .ro, 1, .each, 0, []⟩
/-- R222. -/
def CDY_STAT_WRITE_HIT.COUNT : Field := ⟨141, .CDY, 0x118, 0, 1, 0, 48, .ro, 1, .each, 0, []⟩
/-- R222. -/
def CDY_STAT_WRITE_ALLOC.COUNT : Field := ⟨142, .CDY, 0x120, 0, 1, 0, 48, .ro, 1, .each, 0, []⟩
/-- R222. -/
def CDY_STAT_ROOM_WAIT.COUNT : Field := ⟨143, .CDY, 0x128, 0, 1, 0, 48, .ro, 1, .each, 0, []⟩
/-- R222. -/
def CDY_STAT_EVICT.COUNT : Field := ⟨144, .CDY, 0x130, 0, 1, 0, 48, .ro, 1, .each, 0, []⟩
/-- R222. -/
def CDY_STAT_MERGE.COUNT : Field := ⟨145, .CDY, 0x138, 0, 1, 0, 48, .ro, 1, .each, 0, []⟩
/-- R222. -/
def CDY_STAT_FILL_DROP.COUNT : Field := ⟨146, .CDY, 0x140, 0, 1, 0, 48, .ro, 1, .each, 0, []⟩
/-- R222. -/
def CDY_STAT_TAGC_MISS.COUNT : Field := ⟨147, .CDY, 0x148, 0, 1, 0, 48, .ro, 1, .each, 0, []⟩
/-- R222. -/
def CDY_STAT_WT_WRITE.COUNT : Field := ⟨148, .CDY, 0x150, 0, 1, 0, 48, .ro, 1, .each, 0, []⟩
/-- R222. -/
def CDY_ROOM_MAX.NS : Field := ⟨149, .CDY, 0x180, 0, 1, 0, 16, .rw, 3, .each, 0, []⟩
/-- R253. -/
def DMC_CAPS.PACKAGES : Field := ⟨150, .DMC, 0x0, 0, 1, 0, 2, .ro, 0, .each, 2, []⟩
/-- R253. -/
def DMC_CAPS.CHANNELS : Field := ⟨151, .DMC, 0x0, 0, 1, 4, 4, .ro, 0, .each, 8, []⟩
/-- R253. -/
def DMC_CAPS.RANKS : Field := ⟨152, .DMC, 0x0, 0, 1, 8, 4, .ro, 0, .each, 2, []⟩
/-- R253. -/
def DMC_CAPS.BANKS : Field := ⟨153, .DMC, 0x0, 0, 1, 12, 5, .ro, 0, .each, 16, []⟩
/-- R253. -/
def DMC_CAPS.ECC_DIV : Field := ⟨154, .DMC, 0x0, 0, 1, 20, 4, .ro, 0, .each, 8, []⟩
/-- R253. -/
def DMC_FSP.CURRENT : Field := ⟨155, .DMC, 0x8, 0, 1, 0, 2, .ro, 3, .each, 0, []⟩
/-- R253. -/
def DMC_FSP.BUSY : Field := ⟨156, .DMC, 0x8, 0, 1, 2, 1, .ro, 3, .each, 0, []⟩
/-- R253. -/
def DMC_FSP.CHANGES : Field := ⟨157, .DMC, 0x8, 0, 1, 32, 32, .ro, 1, .each, 0, []⟩
/-- R253. -/
def DMC_MODE.POUR_EXCL : Field := ⟨158, .DMC, 0x10, 0, 1, 0, 1, .ro, 3, .each, 0, []⟩
/-- R253. -/
def DMC_MODE.SELF_REFRESH : Field := ⟨159, .DMC, 0x10, 0, 1, 1, 1, .ro, 3, .each, 0, []⟩
/-- R253. -/
def DMC_MODE.DEEP_SLEEP : Field := ⟨160, .DMC, 0x10, 0, 1, 2, 1, .ro, 3, .each, 0, []⟩
/-- R253. -/
def DMC_MODE.THROTTLE : Field := ⟨161, .DMC, 0x10, 0, 1, 3, 1, .ro, 3, .each, 0, []⟩
/-- R253. -/
def DMC_THROTTLE.CAP : Field := ⟨162, .DMC, 0x18, 0, 1, 0, 16, .ro, 3, .each, 0, []⟩
/-- R253. -/
def DMC_PATROL.INTERVAL_H : Field := ⟨163, .DMC, 0x20, 0, 1, 0, 8, .rw, 3, .each, 12, []⟩
/-- R253. -/
def DMC_PATROL.PASSES : Field := ⟨164, .DMC, 0x20, 0, 1, 16, 32, .ro, 1, .each, 0, []⟩
/-- R253. -/
def DMC_PKG.STATE : Field := ⟨165, .DMC, 0x40, 8, 2, 0, 2, .ro, 1, .each, 0, []⟩
/-- R253. -/
def DMC_PKG.CAUSE : Field := ⟨166, .DMC, 0x40, 8, 2, 2, 4, .ro, 1, .each, 0, []⟩
/-- R253. -/
def DMC_PKG.ATTEMPTS : Field := ⟨167, .DMC, 0x40, 8, 2, 6, 2, .ro, 1, .each, 0, []⟩
/-- R253. -/
def DMC_REFRESH.RATE : Field := ⟨168, .DMC, 0x50, 8, 2, 0, 2, .ro, 3, .each, 0, []⟩
/-- R253. -/
def DMC_REFRESH.MR4 : Field := ⟨169, .DMC, 0x50, 8, 2, 2, 8, .ro, 3, .each, 0, []⟩
/-- R253. -/
def DMC_REFRESH.DEBT_MAX : Field := ⟨170, .DMC, 0x50, 8, 2, 10, 9, .ro, 3, .each, 0, []⟩
/-- R253. -/
def DMC_REFRESH.PAYMENTS : Field := ⟨171, .DMC, 0x50, 8, 2, 32, 32, .ro, 1, .each, 0, []⟩
/-- R253. -/
def DMC_TRAIN.SAVED_USED : Field := ⟨172, .DMC, 0x60, 8, 2, 0, 1, .ro, 3, .each, 0, []⟩
/-- R253. -/
def DMC_TRAIN.RETRAIN_DUE : Field := ⟨173, .DMC, 0x60, 8, 2, 1, 8, .ro, 3, .each, 0, []⟩
/-- R253. -/
def DMC_TRAIN.DRIFT_MAX : Field := ⟨174, .DMC, 0x60, 8, 2, 9, 7, .ro, 3, .each, 0, []⟩
/-- R253. -/
def DMC_TRAIN.TEMP : Field := ⟨175, .DMC, 0x60, 8, 2, 16, 8, .ro, 3, .each, 0, []⟩
/-- R253. -/
def DMC_TRAIN.DURATION_MS : Field := ⟨176, .DMC, 0x60, 8, 2, 32, 16, .ro, 3, .each, 0, []⟩
/-- R253. -/
def DMC_PPR.REPAIRED : Field := ⟨177, .DMC, 0x70, 8, 2, 0, 16, .ro, 0, .each, 0, []⟩
/-- R253. -/
def DMC_PPR.AVAILABLE : Field := ⟨178, .DMC, 0x70, 8, 2, 16, 16, .ro, 1, .each, 0, []⟩
/-- R253. -/
def DMC_PPR.REMAP_USED : Field := ⟨179, .DMC, 0x70, 8, 2, 32, 7, .ro, 0, .each, 0, []⟩
/-- R253. -/
def DMC_PORT.CLASS : Field := ⟨180, .DMC, 0x100, 16, 8, 0, 2, .ro, 0, .each, 0, [0, 0, 1, 1, 1, 2, 2, 3]⟩
/-- R253. -/
def DMC_PORT.TARGET_NS : Field := ⟨181, .DMC, 0x100, 16, 8, 8, 8, .ro, 0, .each, 0, [60, 80, 0, 0, 0, 0, 0, 0]⟩
/-- R253. -/
def DMC_PORT.DEPTH : Field := ⟨182, .DMC, 0x100, 16, 8, 16, 12, .ro, 0, .each, 0, [512, 256, 1024, 1024, 2048, 256, 512, 1024]⟩
/-- R253. -/
def DMC_PORT.WEIGHT : Field := ⟨183, .DMC, 0x100, 16, 8, 32, 4, .rw, 3, .each, 0, [0, 0, 8, 8, 6, 1, 2, 0]⟩
/-- R253. -/
def DMC_PORT.PANIC_ON : Field := ⟨184, .DMC, 0x100, 16, 8, 36, 7, .rw, 3, .each, 75, []⟩
/-- R253. -/
def DMC_PORT.PANIC_OFF : Field := ⟨185, .DMC, 0x100, 16, 8, 43, 7, .rw, 3, .each, 50, []⟩
/-- R253. -/
def DMC_PORT.LAT_MAX_NS : Field := ⟨186, .DMC, 0x108, 16, 8, 0, 16, .rw, 3, .each, 0, []⟩
/-- R253. -/
def DMC_PORT.PANIC_ENTRIES : Field := ⟨187, .DMC, 0x108, 16, 8, 16, 32, .ro, 1, .each, 0, []⟩
/-- R253. -/
def DMC_ECC.CORRECTED : Field := ⟨188, .DMC, 0x200, 8, 16, 0, 32, .ro, 1, .each, 0, []⟩
/-- R253. -/
def DMC_ECC.UNCORRECTABLE : Field := ⟨189, .DMC, 0x200, 8, 16, 32, 16, .ro, 1, .each, 0, []⟩
/-- R253. -/
def DMC_REMAP.VALID : Field := ⟨190, .DMC, 0x400, 8, 128, 0, 1, .ro, 0, .each, 0, []⟩
/-- R253. -/
def DMC_REMAP.PPR_PENDING : Field := ⟨191, .DMC, 0x400, 8, 128, 1, 1, .ro, 0, .each, 0, []⟩
/-- R253. -/
def DMC_REMAP.CHANNEL : Field := ⟨192, .DMC, 0x400, 8, 128, 2, 3, .ro, 0, .each, 0, []⟩
/-- R253. -/
def DMC_REMAP.RANK : Field := ⟨193, .DMC, 0x400, 8, 128, 5, 1, .ro, 0, .each, 0, []⟩
/-- R253. -/
def DMC_REMAP.BANK : Field := ⟨194, .DMC, 0x400, 8, 128, 6, 4, .ro, 0, .each, 0, []⟩
/-- R253. -/
def DMC_REMAP.ROW : Field := ⟨195, .DMC, 0x400, 8, 128, 10, 17, .ro, 0, .each, 0, []⟩
/-- R253. -/
def DMC_REMAP.COPY_DONE : Field := ⟨196, .DMC, 0x400, 8, 128, 27, 1, .ro, 0, .each, 0, []⟩
/-- R253. -/
def DMC_TIMING_ACTIVE.SET : Field := ⟨197, .DMC, 0x800, 0, 1, 0, 2, .ro, 3, .each, 0, []⟩
/-- R253. -/
def DMC_TIMING_ACTIVE.TRCD_NS : Field := ⟨198, .DMC, 0x800, 0, 1, 8, 8, .ro, 3, .each, 18, []⟩
/-- R253. -/
def DMC_TIMING_ACTIVE.TRP_NS : Field := ⟨199, .DMC, 0x800, 0, 1, 16, 8, .ro, 3, .each, 18, []⟩
/-- R253. -/
def DMC_TIMING_ACTIVE.TRFCPB_NS : Field := ⟨200, .DMC, 0x800, 0, 1, 24, 8, .ro, 3, .each, 60, []⟩
/-- R253. -/
def DMC_TIMING_ACTIVE.TREFIPB_NS : Field := ⟨201, .DMC, 0x800, 0, 1, 32, 16, .ro, 3, .each, 244, []⟩
/-- R253. -/
def DMC_TIMING_SHADOW.SET : Field := ⟨202, .DMC, 0x808, 0, 1, 0, 2, .ro, 3, .each, 0, []⟩
/-- R253. -/
def DMC_TIMING_SHADOW.TRCD_NS : Field := ⟨203, .DMC, 0x808, 0, 1, 8, 8, .ro, 3, .each, 0, []⟩
/-- R253. -/
def DMC_TIMING_SHADOW.TRP_NS : Field := ⟨204, .DMC, 0x808, 0, 1, 16, 8, .ro, 3, .each, 0, []⟩
/-- R253. -/
def DMC_TIMING_SHADOW.TRFCPB_NS : Field := ⟨205, .DMC, 0x808, 0, 1, 24, 8, .ro, 3, .each, 0, []⟩
/-- R253. -/
def DMC_TIMING_SHADOW.TREFIPB_NS : Field := ⟨206, .DMC, 0x808, 0, 1, 32, 16, .ro, 3, .each, 0, []⟩
/-- R278. -/
def PRT_CAPS.BCH_T : Field := ⟨207, .PRT, 0x0, 0, 1, 0, 5, .ro, 0, .each, 20, []⟩
/-- R278. -/
def PRT_CAPS.CRC_BITS : Field := ⟨208, .PRT, 0x0, 0, 1, 8, 5, .ro, 0, .each, 16, []⟩
/-- R278. -/
def PRT_CAPS.SEQ_BITS : Field := ⟨209, .PRT, 0x0, 0, 1, 16, 8, .ro, 0, .each, 56, []⟩
/-- R278. -/
def PRT_SCRUB_CFG.PERIOD_H : Field := ⟨210, .PRT, 0x8, 0, 1, 0, 8, .rw, 3, .shared, 24, []⟩
/-- R278. -/
def PRT_SCRUB_CFG.RELOC_BITS : Field := ⟨211, .PRT, 0x8, 0, 1, 8, 5, .rw, 3, .shared, 14, []⟩
/-- R278. -/
def PRT_SCRUB_CFG.RETIRE_UE : Field := ⟨212, .PRT, 0x8, 0, 1, 16, 4, .rw, 3, .shared, 2, []⟩
/-- R278. -/
def PRT_SCRUB_CFG.RETIRE_HIGH : Field := ⟨213, .PRT, 0x8, 0, 1, 24, 8, .rw, 3, .shared, 32, []⟩
/-- R278. -/
def PRT_POISON_INDEX.RUNS : Field := ⟨214, .PRT, 0x10, 0, 1, 0, 19, .ro, 3, .die0, 0, []⟩
/-- R278. -/
def PRT_POISON_INDEX.OVERFLOW : Field := ⟨215, .PRT, 0x10, 0, 1, 19, 1, .ro, 3, .die0, 0, []⟩
/-- R278. -/
def PRT_META.MIRROR_USED : Field := ⟨216, .PRT, 0x18, 0, 1, 0, 16, .ro, 1, .each, 0, []⟩
/-- R278. -/
def PRT_META.MAP_REDERIVED : Field := ⟨217, .PRT, 0x18, 0, 1, 16, 16, .ro, 1, .each, 0, []⟩
/-- R278. -/
def PRT_META.BOTH_LOST : Field := ⟨218, .PRT, 0x18, 0, 1, 32, 16, .ro, 1, .each, 0, []⟩
/-- R278. -/
def PRT_SRAM.CORRECTED : Field := ⟨219, .PRT, 0x20, 0, 1, 0, 16, .ro, 1, .each, 0, []⟩
/-- R278. -/
def PRT_SRAM.FETCH_TRAPS : Field := ⟨220, .PRT, 0x20, 0, 1, 16, 16, .ro, 1, .each, 0, []⟩
/-- R278. -/
def PRT_SRAM.DATA_TRAPS : Field := ⟨221, .PRT, 0x20, 0, 1, 32, 16, .ro, 1, .each, 0, []⟩
/-- R278. -/
def PRT_SRAM.DMA_HALTS : Field := ⟨222, .PRT, 0x20, 0, 1, 48, 16, .ro, 1, .each, 0, []⟩
/-- R278. -/
def PRT_SCRUB.CURSOR : Field := ⟨223, .PRT, 0x100, 32, 16, 0, 16, .ro, 3, .each, 0, []⟩
/-- R278. -/
def PRT_SCRUB.PASSES : Field := ⟨224, .PRT, 0x100, 32, 16, 16, 32, .ro, 1, .each, 0, []⟩
/-- R278. -/
def PRT_SCRUB.LAST_PASS_S : Field := ⟨225, .PRT, 0x108, 32, 16, 0, 32, .ro, 3, .each, 0, []⟩
/-- R278. -/
def PRT_ERR.CORRECTED : Field := ⟨226, .PRT, 0x110, 32, 16, 0, 32, .ro, 1, .each, 0, []⟩
/-- R278. -/
def PRT_ERR.HIGH : Field := ⟨227, .PRT, 0x110, 32, 16, 32, 32, .ro, 1, .each, 0, []⟩
/-- R278. -/
def PRT_ERR.FAILED : Field := ⟨228, .PRT, 0x118, 32, 16, 0, 16, .ro, 1, .each, 0, []⟩
/-- R278. -/
def PRT_ERR.REBUILT : Field := ⟨229, .PRT, 0x118, 32, 16, 16, 16, .ro, 1, .each, 0, []⟩
/-- R278. -/
def PRT_ERR.LOST : Field := ⟨230, .PRT, 0x118, 32, 16, 32, 16, .ro, 1, .each, 0, []⟩
/-- R278. -/
def PRT_ERR.RETIRED : Field := ⟨231, .PRT, 0x118, 32, 16, 48, 16, .ro, 1, .each, 0, []⟩
/-- R306. -/
def SPR_POOL.POOL_PCT : Field := ⟨232, .SPR, 0x0, 0, 1, 0, 7, .ro, 0, .shared, 0, []⟩
/-- R306. -/
def SPR_POOL.TILE_PCT : Field := ⟨233, .SPR, 0x0, 0, 1, 8, 7, .ro, 0, .shared, 0, []⟩
/-- R306. -/
def SPR_POOL.OP_PCT : Field := ⟨234, .SPR, 0x0, 0, 1, 16, 7, .ro, 0, .shared, 0, []⟩
/-- R306. -/
def SPR_POOL.DIE_PCT : Field := ⟨235, .SPR, 0x0, 0, 1, 24, 7, .ro, 0, .shared, 0, []⟩
/-- R306. -/
def SPR_POOL.LEVEL : Field := ⟨236, .SPR, 0x0, 0, 1, 32, 2, .ro, 0, .shared, 0, []⟩
/-- R306. -/
def SPR_POOL.LIFE_USED : Field := ⟨237, .SPR, 0x0, 0, 1, 40, 7, .ro, 0, .shared, 0, []⟩
/-- R306. -/
def SPR_WEAR.MILLI_PCT : Field := ⟨238, .SPR, 0x8, 0, 1, 0, 32, .ro, 0, .shared, 0, []⟩
/-- R306. -/
def SPR_DIE_CFG.FAIL_UE : Field := ⟨239, .SPR, 0x10, 0, 1, 0, 16, .rw, 3, .shared, 1024, []⟩
/-- R306. -/
def SPR_DIE_CFG.FAIL_TILES : Field := ⟨240, .SPR, 0x10, 0, 1, 16, 16, .rw, 3, .shared, 256, []⟩
/-- R306. -/
def SPR_SPARES.ENGINE_FREE : Field := ⟨241, .SPR, 0x18, 0, 1, 0, 1, .ro, 0, .each, 1, []⟩
/-- R306. -/
def SPR_SPARES.SUBBANK_ISOLATED : Field := ⟨242, .SPR, 0x18, 0, 1, 8, 8, .ro, 1, .die0, 0, []⟩
/-- R306. -/
def SPR_SPARES.PHASE_USED : Field := ⟨243, .SPR, 0x18, 0, 1, 16, 6, .ro, 0, .die0, 0, []⟩
/-- R306. -/
def SPR_SPARES.PHASE_SHORT : Field := ⟨244, .SPR, 0x18, 0, 1, 24, 6, .ro, 0, .die0, 0, []⟩
/-- R306. -/
def SPR_SPARES.SENSORS_BROKEN : Field := ⟨245, .SPR, 0x18, 0, 1, 32, 8, .ro, 3, .each, 0, []⟩
/-- R306. -/
def SPR_CHAN.STATE : Field := ⟨246, .SPR, 0x40, 8, 16, 0, 3, .ro, 0, .each, 0, []⟩
/-- R306. -/
def SPR_CHAN.SPARE_FREE : Field := ⟨247, .SPR, 0x40, 8, 16, 3, 1, .ro, 0, .each, 1, []⟩
/-- R306. -/
def SPR_CHAN.MEMBER : Field := ⟨248, .SPR, 0x40, 8, 16, 4, 4, .ro, 0, .each, 15, []⟩
/-- R306. -/
def SPR_CHAN.LEFT : Field := ⟨249, .SPR, 0x40, 8, 16, 8, 17, .ro, 0, .each, 0, []⟩
/-- R306. -/
def SPR_CHAN.CAUSE : Field := ⟨250, .SPR, 0x40, 8, 16, 25, 3, .ro, 0, .each, 0, []⟩
/-- R306. -/
def SPR_REBUILD.START_MIN : Field := ⟨251, .SPR, 0xC0, 8, 16, 0, 32, .ro, 0, .each, 0, []⟩
/-- R306. -/
def SPR_REBUILD.DURATION_S : Field := ⟨252, .SPR, 0xC0, 8, 16, 32, 32, .ro, 0, .each, 0, []⟩
/-- R306. -/
def SPR_HIST.MIN : Field := ⟨253, .SPR, 0x200, 4, 192, 0, 32, .ro, 0, .shared, 0, []⟩
/-- R328. -/
def POUR_CAPS.SUBBANKS : Field := ⟨254, .POUR, 0x0, 0, 1, 0, 4, .ro, 0, .die0, 8, []⟩
/-- R328. -/
def POUR_CAPS.RATED_UF : Field := ⟨255, .POUR, 0x0, 0, 1, 8, 16, .ro, 0, .die0, 3500, []⟩
/-- R328. -/
def POUR_CAPS.EOL_UF : Field := ⟨256, .POUR, 0x0, 0, 1, 24, 16, .ro, 0, .die0, 3150, []⟩
/-- R328. -/
def POUR_CAPS.CHARGE_MV : Field := ⟨257, .POUR, 0x0, 0, 1, 40, 16, .ro, 0, .die0, 35000, []⟩
/-- R328. -/
def POUR_CFG.MEAS_INTERVAL_MIN : Field := ⟨258, .POUR, 0x8, 0, 1, 0, 16, .rw, 3, .die0, 60, []⟩
/-- R328. -/
def POUR_CFG.STRAP_DEFAULT : Field := ⟨259, .POUR, 0x8, 0, 1, 16, 2, .ro, 1, .die0, 0, []⟩
/-- R328. -/
def POUR_ENERGY.EST_MJ : Field := ⟨260, .POUR, 0x10, 0, 1, 0, 32, .ro, 3, .die0, 0, []⟩
/-- R328. -/
def POUR_ENERGY.BUDGET_GIB : Field := ⟨261, .POUR, 0x10, 0, 1, 32, 4, .ro, 3, .die0, 0, []⟩
/-- R328. -/
def POUR_ENERGY.STRAP_CAP : Field := ⟨262, .POUR, 0x10, 0, 1, 36, 1, .ro, 1, .die0, 0, []⟩
/-- R328. -/
def POUR_ENERGY.BUS_MV : Field := ⟨263, .POUR, 0x10, 0, 1, 48, 16, .ro, 3, .die0, 0, []⟩
/-- R328. -/
def POUR_THRESH.T8_MJ : Field := ⟨264, .POUR, 0x18, 0, 1, 0, 16, .ro, 0, .die0, 13000, []⟩
/-- R328. -/
def POUR_THRESH.T6_MJ : Field := ⟨265, .POUR, 0x18, 0, 1, 16, 16, .ro, 0, .die0, 10000, []⟩
/-- R328. -/
def POUR_THRESH.T4_MJ : Field := ⟨266, .POUR, 0x18, 0, 1, 32, 16, .ro, 0, .die0, 7500, []⟩
/-- R328. -/
def POUR_THRESH.T2_MJ : Field := ⟨267, .POUR, 0x18, 0, 1, 48, 16, .ro, 0, .die0, 5000, []⟩
/-- R328. -/
def POUR_STATUS.STEP : Field := ⟨268, .POUR, 0x20, 0, 1, 0, 4, .ro, 3, .die0, 0, []⟩
/-- R328. -/
def POUR_STATUS.CAUSE : Field := ⟨269, .POUR, 0x20, 0, 1, 4, 3, .ro, 3, .die0, 0, []⟩
/-- R328. -/
def POUR_STATUS.RESERVE_SHORT : Field := ⟨270, .POUR, 0x20, 0, 1, 7, 1, .ro, 3, .die0, 0, []⟩
/-- R328. -/
def POUR_STATUS.LAST_STATE : Field := ⟨271, .POUR, 0x20, 0, 1, 8, 2, .ro, 0, .die0, 0, []⟩
/-- R328. -/
def POUR_STATUS.COUNT : Field := ⟨272, .POUR, 0x20, 0, 1, 32, 32, .ro, 0, .die0, 0, []⟩
/-- R328. -/
def POUR_LAST.DURATION_US : Field := ⟨273, .POUR, 0x28, 0, 1, 0, 32, .ro, 0, .die0, 0, []⟩
/-- R328. -/
def POUR_LAST.END_MJ : Field := ⟨274, .POUR, 0x28, 0, 1, 32, 32, .ro, 0, .die0, 0, []⟩
/-- R328. -/
def POUR_LAST.QUIRES : Field := ⟨275, .POUR, 0x30, 0, 1, 0, 32, .ro, 0, .die0, 0, []⟩
/-- R328. -/
def POUR_LAST.DIRTY_BLOCKS : Field := ⟨276, .POUR, 0x30, 0, 1, 32, 32, .ro, 0, .die0, 0, []⟩
/-- R328. -/
def POUR_COMPARATOR.TRIPS : Field := ⟨277, .POUR, 0x38, 0, 1, 0, 32, .ro, 1, .die0, 0, []⟩
/-- R328. -/
def POUR_SUBBANK.CAP_UF : Field := ⟨278, .POUR, 0x40, 8, 8, 0, 16, .ro, 0, .die0, 3465, []⟩
/-- R328. -/
def POUR_SUBBANK.MEASURED_MIN : Field := ⟨279, .POUR, 0x40, 8, 8, 16, 32, .ro, 0, .die0, 0, []⟩
/-- R328. -/
def POUR_SUBBANK.ISOLATED : Field := ⟨280, .POUR, 0x40, 8, 8, 48, 1, .ro, 0, .die0, 0, []⟩
/-- R328. -/
def POUR_SUBBANK.MEASURING : Field := ⟨281, .POUR, 0x40, 8, 8, 49, 1, .ro, 3, .die0, 0, []⟩
/-- R328. -/
def POUR_SUBBANK.CAUSE : Field := ⟨282, .POUR, 0x40, 8, 8, 50, 2, .ro, 0, .die0, 0, []⟩
/-- R361. -/
def SEC_CAPS.SLOTS : Field := ⟨283, .SEC, 0x0, 0, 1, 0, 13, .ro, 0, .each, 4096, []⟩
/-- R361. -/
def SEC_CAPS.RANGES : Field := ⟨284, .SEC, 0x0, 0, 1, 16, 7, .ro, 0, .each, 64, []⟩
/-- R361. -/
def SEC_CAPS.TREE_LEVELS : Field := ⟨285, .SEC, 0x0, 0, 1, 24, 4, .ro, 0, .each, 8, []⟩
/-- R361. -/
def SEC_CAPS.TREE_ARITY : Field := ⟨286, .SEC, 0x0, 0, 1, 28, 4, .ro, 0, .each, 8, []⟩
/-- R361. -/
def SEC_STATUS.HALT : Field := ⟨287, .SEC, 0x8, 0, 1, 0, 1, .ro, 1, .shared, 0, []⟩
/-- R361. -/
def SEC_STATUS.HALT_CAUSE : Field := ⟨288, .SEC, 0x8, 0, 1, 1, 4, .ro, 1, .shared, 0, []⟩
/-- R361. -/
def SEC_STATUS.SCAN : Field := ⟨289, .SEC, 0x8, 0, 1, 5, 1, .ro, 1, .shared, 0, []⟩
/-- R361. -/
def SEC_STATUS.SCAN_COUNT : Field := ⟨290, .SEC, 0x8, 0, 1, 8, 8, .ro, 0, .shared, 0, []⟩
/-- R361. -/
def SEC_STATUS.UDS_CLOSED : Field := ⟨291, .SEC, 0x8, 0, 1, 16, 1, .ro, 1, .shared, 0, []⟩
/-- R361. -/
def SEC_STATUS.DRBG_FAIL : Field := ⟨292, .SEC, 0x8, 0, 1, 17, 1, .ro, 3, .shared, 0, []⟩
/-- R361. -/
def SEC_HALT_LOC.CHANNEL : Field := ⟨293, .SEC, 0x10, 0, 1, 0, 5, .ro, 1, .shared, 0, []⟩
/-- R361. -/
def SEC_HALT_LOC.MEMBER : Field := ⟨294, .SEC, 0x10, 0, 1, 5, 4, .ro, 1, .shared, 0, []⟩
/-- R361. -/
def SEC_HALT_LOC.FRAME : Field := ⟨295, .SEC, 0x10, 0, 1, 9, 28, .ro, 1, .shared, 0, []⟩
/-- R361. -/
def SEC_HALT_LOC.PAGE : Field := ⟨296, .SEC, 0x10, 0, 1, 37, 23, .ro, 1, .shared, 0, []⟩
/-- R361. -/
def SEC_HALT_LOC.LEVEL : Field := ⟨297, .SEC, 0x10, 0, 1, 60, 3, .ro, 1, .shared, 0, []⟩
/-- R361. -/
def SEC_SLOTS.ACTIVE : Field := ⟨298, .SEC, 0x18, 0, 1, 0, 13, .ro, 0, .shared, 1, []⟩
/-- R361. -/
def SEC_SLOTS.ERASING : Field := ⟨299, .SEC, 0x18, 0, 1, 16, 13, .ro, 0, .shared, 0, []⟩
/-- R361. -/
def SEC_SWEEP.RUNNING : Field := ⟨300, .SEC, 0x20, 0, 1, 0, 1, .ro, 0, .shared, 0, []⟩
/-- R361. -/
def SEC_SWEEP.OLD_SLOT : Field := ⟨301, .SEC, 0x20, 0, 1, 1, 12, .ro, 0, .shared, 0, []⟩
/-- R361. -/
def SEC_SWEEP.NEW_SLOT : Field := ⟨302, .SEC, 0x20, 0, 1, 13, 12, .ro, 0, .shared, 0, []⟩
/-- R361. -/
def SEC_SWEEP.LEFT : Field := ⟨303, .SEC, 0x20, 0, 1, 25, 39, .ro, 0, .shared, 0, []⟩
/-- R361. -/
def SEC_FW.SLOT : Field := ⟨304, .SEC, 0x28, 0, 1, 0, 1, .ro, 3, .shared, 0, []⟩
/-- R361. -/
def SEC_FW.SVN_FUSED : Field := ⟨305, .SEC, 0x28, 0, 1, 1, 6, .ro, 0, .shared, 0, []⟩
/-- R361. -/
def SEC_FW.KEY_REVOKED : Field := ⟨306, .SEC, 0x28, 0, 1, 7, 2, .ro, 0, .shared, 0, []⟩
/-- R361. -/
def SEC_FW.SVN_RUNNING : Field := ⟨307, .SEC, 0x28, 0, 1, 16, 8, .ro, 3, .shared, 0, []⟩
/-- R361. -/
def SEC_DEBUG_REFUSED.COUNT : Field := ⟨308, .SEC, 0x30, 0, 1, 0, 32, .ro, 1, .each, 0, []⟩
/-- R361. -/
def SEC_VERIFY.PAGES : Field := ⟨309, .SEC, 0x38, 0, 1, 0, 32, .ro, 1, .each, 0, []⟩
/-- R361. -/
def SEC_VERIFY.ROOT_WRITES : Field := ⟨310, .SEC, 0x38, 0, 1, 32, 32, .ro, 0, .each, 0, []⟩
/-- R361. -/
def SEC_RANGE.BASE : Field := ⟨311, .SEC, 0x100, 8, 128, 0, 16, .ro, 0, .shared, 0, []⟩
/-- R361. -/
def SEC_RANGE.SIZE : Field := ⟨312, .SEC, 0x100, 8, 128, 16, 16, .ro, 0, .shared, 0, []⟩
/-- R361. -/
def SEC_RANGE.SLOT : Field := ⟨313, .SEC, 0x100, 8, 128, 32, 12, .ro, 0, .shared, 0, []⟩
/-- R361. -/
def SEC_RANGE.ENABLE : Field := ⟨314, .SEC, 0x100, 8, 128, 48, 1, .ro, 0, .shared, 0, []⟩
/-- R361. -/
def SEC_RANGE.SWEEPING : Field := ⟨315, .SEC, 0x100, 8, 128, 49, 1, .ro, 0, .shared, 0, []⟩
/-- R361. -/
def SEC_SLOT.STATE : Field := ⟨316, .SEC, 0x600, 4, 4096, 0, 2, .ro, 0, .shared, 0, [1]⟩
/-- R361. -/
def SEC_SLOT.OWNER : Field := ⟨317, .SEC, 0x600, 4, 4096, 2, 2, .ro, 0, .shared, 0, [3]⟩
/-- R361. -/
def SEC_SLOT.SHARED : Field := ⟨318, .SEC, 0x600, 4, 4096, 4, 1, .ro, 0, .shared, 0, []⟩
/-- R361. -/
def SEC_SLOT.GENERATED : Field := ⟨319, .SEC, 0x600, 4, 4096, 5, 1, .ro, 0, .shared, 0, [1]⟩
/-- R377. -/
def BLK_CAPS.SLOTS : Field := ⟨320, .BLK, 0x0, 0, 1, 0, 5, .ro, 0, .each, 16, []⟩
/-- R377. -/
def BLK_CAPS.RUNNING : Field := ⟨321, .BLK, 0x0, 0, 1, 8, 3, .ro, 0, .each, 4, []⟩
/-- R377. -/
def BLK_CFG.WRITE_SHARE : Field := ⟨322, .BLK, 0x8, 0, 1, 0, 7, .rw, 3, .shared, 25, []⟩
/-- R377. -/
def BLK_QUEUE.QUEUED : Field := ⟨323, .BLK, 0x10, 0, 1, 0, 5, .ro, 3, .die0, 0, []⟩
/-- R377. -/
def BLK_QUEUE.RUNNING : Field := ⟨324, .BLK, 0x10, 0, 1, 8, 3, .ro, 3, .die0, 0, []⟩
/-- R377. -/
def BLK_QUEUE.NEXT_HANDLE : Field := ⟨325, .BLK, 0x10, 0, 1, 16, 16, .ro, 3, .die0, 0, []⟩
/-- R377. -/
def BLK_STAT.QUIRES : Field := ⟨326, .BLK, 0x18, 0, 1, 0, 48, .ro, 1, .each, 0, []⟩
/-- R377. -/
def BLK_OP.HANDLE : Field := ⟨327, .BLK, 0x100, 32, 16, 0, 16, .ro, 3, .die0, 0, []⟩
/-- R377. -/
def BLK_OP.OP : Field := ⟨328, .BLK, 0x100, 32, 16, 16, 3, .ro, 3, .die0, 0, []⟩
/-- R377. -/
def BLK_OP.STATE : Field := ⟨329, .BLK, 0x100, 32, 16, 19, 3, .ro, 3, .die0, 0, []⟩
/-- R377. -/
def BLK_OP.RESULT : Field := ⟨330, .BLK, 0x100, 32, 16, 22, 4, .ro, 3, .die0, 0, []⟩
/-- R377. -/
def BLK_OP.ORIGIN : Field := ⟨331, .BLK, 0x100, 32, 16, 26, 2, .ro, 3, .die0, 0, []⟩
/-- R377. -/
def BLK_OP.DONE : Field := ⟨332, .BLK, 0x108, 32, 16, 0, 34, .ro, 3, .die0, 0, []⟩
/-- R377. -/
def BLK_OP.TOTAL : Field := ⟨333, .BLK, 0x110, 32, 16, 0, 34, .ro, 3, .die0, 0, []⟩
/-- R377. -/
def BLK_OP.WHERE : Field := ⟨334, .BLK, 0x118, 32, 16, 0, 44, .ro, 3, .die0, 0, []⟩
/-- R383. -/
def STR_CFG.WIDTH : Field := ⟨335, .STR, 0x0, 64, 16, 0, 7, .rw, 3, .each, 32, []⟩
/-- R383. -/
def STR_CFG.REFIN : Field := ⟨336, .STR, 0x0, 64, 16, 8, 1, .rw, 3, .each, 0, [1]⟩
/-- R383. -/
def STR_CFG.REFOUT : Field := ⟨337, .STR, 0x0, 64, 16, 9, 1, .rw, 3, .each, 0, [1]⟩
/-- R383. -/
def STR_CFG.INVERT : Field := ⟨338, .STR, 0x0, 64, 16, 10, 1, .rw, 3, .each, 0, [1]⟩
/-- R383. -/
def STR_CFG.COMPARE_EN : Field := ⟨339, .STR, 0x0, 64, 16, 11, 1, .rw, 3, .each, 0, []⟩
/-- R383. -/
def STR_CFG.BUSY : Field := ⟨340, .STR, 0x0, 64, 16, 16, 1, .ro, 3, .each, 0, []⟩
/-- R383. -/
def STR_CFG.DONE : Field := ⟨341, .STR, 0x0, 64, 16, 17, 1, .ro, 3, .each, 0, []⟩
/-- R383. -/
def STR_CFG.MISMATCH : Field := ⟨342, .STR, 0x0, 64, 16, 18, 1, .rw1c, 3, .each, 0, []⟩
/-- R383. -/
def STR_CFG.COLLISION : Field := ⟨343, .STR, 0x0, 64, 16, 19, 1, .rw1c, 3, .each, 0, []⟩
/-- R383. -/
def STR_POLY.POLY : Field := ⟨344, .STR, 0x8, 64, 16, 0, 64, .rw, 3, .each, 517762881, []⟩
/-- R383. -/
def STR_INIT.INIT : Field := ⟨345, .STR, 0x10, 64, 16, 0, 64, .rw, 3, .each, 0, [0xFFFFFFFF]⟩
/-- R383. -/
def STR_CTX.CTX : Field := ⟨346, .STR, 0x18, 64, 16, 0, 64, .rw, 3, .each, 0, []⟩
/-- R383. -/
def STR_EXPECT.EXPECT : Field := ⟨347, .STR, 0x20, 64, 16, 0, 64, .rw, 3, .each, 0, []⟩
/-- R383. -/
def STR_DATA.DATA : Field := ⟨348, .STR, 0x28, 64, 16, 0, 64, .wo, 0, .each, 0, []⟩
/-- R383. -/
def STR_TAIL.TAIL : Field := ⟨349, .STR, 0x30, 64, 16, 0, 56, .rw, 3, .each, 0, []⟩
/-- R383. -/
def STR_CMD.START : Field := ⟨350, .STR, 0x38, 64, 16, 0, 1, .wo, 0, .each, 0, []⟩
/-- R383. -/
def STR_CMD.FINAL : Field := ⟨351, .STR, 0x38, 64, 16, 1, 1, .wo, 0, .each, 0, []⟩
/-- R383. -/
def STR_CMD.TAIL : Field := ⟨352, .STR, 0x38, 64, 16, 2, 1, .wo, 0, .each, 0, []⟩
/-- R383. -/
def STR_CMD.TAIL_BYTES : Field := ⟨353, .STR, 0x38, 64, 16, 8, 3, .wo, 0, .each, 0, []⟩
/-- R383. -/
def STR_RESULT.RESULT : Field := ⟨354, .STR, 0x400, 8, 16, 0, 64, .ro, 3, .each, 0, []⟩
/-- R383. -/
def STR_SUMMARY.MISMATCH : Field := ⟨355, .STR, 0x480, 0, 1, 0, 16, .rw1c, 3, .each, 0, []⟩
/-- R411. -/
def CQ_CAPS.DEPTH : Field := ⟨356, .CQ, 0x0, 0, 1, 0, 13, .ro, 0, .each, 4096, []⟩
/-- R411. -/
def CQ_CAPS.INPUTS : Field := ⟨357, .CQ, 0x0, 0, 1, 16, 3, .ro, 0, .each, 0, [5, 3]⟩
/-- R411. -/
def CQ_CAPS.MAX_PAYLOAD : Field := ⟨358, .CQ, 0x0, 0, 1, 32, 17, .ro, 0, .each, 65536, []⟩
/-- R411. -/
def CQ_CMD.OCC : Field := ⟨359, .CQ, 0x8, 0, 1, 0, 13, .ro, 3, .each, 0, []⟩
/-- R411. -/
def CQ_CMD.PACKETS : Field := ⟨360, .CQ, 0x8, 0, 1, 16, 12, .ro, 3, .each, 0, []⟩
/-- R411. -/
def CQ_CMD.FULL : Field := ⟨361, .CQ, 0x8, 0, 1, 28, 1, .ro, 3, .each, 0, []⟩
/-- R411. -/
def CQ_CMD.EMPTY : Field := ⟨362, .CQ, 0x8, 0, 1, 29, 1, .ro, 3, .each, 1, []⟩
/-- R411. -/
def CQ_CMD.BUSY : Field := ⟨363, .CQ, 0x8, 0, 1, 30, 1, .ro, 3, .each, 0, []⟩
/-- R411. -/
def CQ_CMD.DROPPING : Field := ⟨364, .CQ, 0x8, 0, 1, 31, 1, .ro, 3, .each, 0, []⟩
/-- R411. -/
def CQ_RPL.OCC : Field := ⟨365, .CQ, 0x10, 0, 1, 0, 13, .ro, 3, .each, 0, []⟩
/-- R411. -/
def CQ_RPL.PACKETS : Field := ⟨366, .CQ, 0x10, 0, 1, 16, 12, .ro, 3, .each, 0, []⟩
/-- R411. -/
def CQ_RPL.FULL : Field := ⟨367, .CQ, 0x10, 0, 1, 28, 1, .ro, 3, .each, 0, []⟩
/-- R411. -/
def CQ_RPL.EMPTY : Field := ⟨368, .CQ, 0x10, 0, 1, 29, 1, .ro, 3, .each, 1, []⟩
/-- R411. -/
def CQ_RPL.READY : Field := ⟨369, .CQ, 0x10, 0, 1, 30, 1, .ro, 3, .each, 0, []⟩
/-- R411. -/
def CQ_WM.HIGH : Field := ⟨370, .CQ, 0x18, 0, 1, 0, 13, .rw, 3, .each, 3072, []⟩
/-- R411. -/
def CQ_WM.LOW : Field := ⟨371, .CQ, 0x18, 0, 1, 16, 13, .rw, 3, .each, 1024, []⟩
/-- R411. -/
def CQ_RR.NEXT : Field := ⟨372, .CQ, 0x20, 0, 1, 0, 3, .ro, 3, .each, 0, []⟩
/-- R411. -/
def CQ_STAT_LEAVES.COUNT : Field := ⟨373, .CQ, 0x28, 0, 1, 0, 48, .ro, 1, .each, 0, []⟩
/-- R411. -/
def CQ_STAT_ERR.BAD_CRC : Field := ⟨374, .CQ, 0x30, 0, 1, 0, 16, .ro, 1, .each, 0, []⟩
/-- R411. -/
def CQ_STAT_ERR.LENGTH : Field := ⟨375, .CQ, 0x30, 0, 1, 16, 16, .ro, 1, .each, 0, []⟩
/-- R411. -/
def CQ_STAT_ERR.DROPS : Field := ⟨376, .CQ, 0x30, 0, 1, 32, 16, .ro, 1, .each, 0, []⟩
/-- R411. -/
def CQ_STAT_ERR.REPLY_DISCARDED : Field := ⟨377, .CQ, 0x30, 0, 1, 48, 16, .ro, 1, .each, 0, []⟩
/-- R411. -/
def CQ_STAT_OWN.OWNED : Field := ⟨378, .CQ, 0x38, 0, 1, 0, 32, .ro, 1, .each, 0, []⟩
/-- R411. -/
def CQ_STAT_OWN.SUPERSEDED : Field := ⟨379, .CQ, 0x38, 0, 1, 32, 32, .ro, 1, .each, 0, []⟩
/-- R411. -/
def CQ_LAST.OPCODE : Field := ⟨380, .CQ, 0x40, 0, 1, 0, 16, .ro, 3, .each, 0, []⟩
/-- R411. -/
def CQ_LAST.STATUS : Field := ⟨381, .CQ, 0x40, 0, 1, 16, 16, .ro, 3, .each, 0, []⟩
/-- R411. -/
def CQ_LAST.INPUT : Field := ⟨382, .CQ, 0x40, 0, 1, 32, 3, .ro, 3, .each, 0, []⟩
/-- R411. -/
def CQ_LAST.TAG : Field := ⟨383, .CQ, 0x40, 0, 1, 48, 16, .ro, 3, .each, 0, []⟩
/-- R411. -/
def CQ_INPUT.LEAVES : Field := ⟨384, .CQ, 0x100, 8, 5, 0, 32, .ro, 1, .each, 0, []⟩
/-- R411. -/
def CQ_INPUT.BUSY_REFUSED : Field := ⟨385, .CQ, 0x100, 8, 5, 32, 32, .ro, 1, .each, 0, []⟩
/-- R437. -/
def MOD_STATUS.MODE : Field := ⟨386, .MOD, 0x0, 0, 1, 0, 4, .ro, 3, .die0, 0, []⟩
/-- R437. -/
def MOD_STATUS.PREV_MODE : Field := ⟨387, .MOD, 0x0, 0, 1, 4, 4, .ro, 3, .die0, 0, []⟩
/-- R437. -/
def MOD_STATUS.DOZE : Field := ⟨388, .MOD, 0x0, 0, 1, 8, 3, .ro, 3, .die0, 0, []⟩
/-- R437. -/
def MOD_STATUS.START_KIND : Field := ⟨389, .MOD, 0x0, 0, 1, 11, 1, .ro, 3, .die0, 0, []⟩
/-- R437. -/
def MOD_STATUS.QUIESCE_CAUSE : Field := ⟨390, .MOD, 0x0, 0, 1, 12, 3, .ro, 3, .die0, 0, []⟩
/-- R437. -/
def MOD_STATUS.SAFE_CAUSE : Field := ⟨391, .MOD, 0x0, 0, 1, 16, 3, .ro, 1, .die0, 0, []⟩
/-- R437. -/
def MOD_START.DURATION_MS : Field := ⟨392, .MOD, 0x8, 0, 1, 0, 32, .ro, 3, .die0, 0, []⟩
/-- R437. -/
def MOD_START.SKIPPED : Field := ⟨393, .MOD, 0x8, 0, 1, 32, 4, .ro, 3, .die0, 0, []⟩
/-- R437. -/
def MOD_START.SLOT : Field := ⟨394, .MOD, 0x8, 0, 1, 36, 1, .ro, 3, .die0, 0, []⟩
/-- R437. -/
def MOD_START.RETAINED_DIRTY : Field := ⟨395, .MOD, 0x8, 0, 1, 37, 1, .ro, 3, .die0, 0, []⟩
/-- R437. -/
def MOD_LADDER.WARM_FAILS : Field := ⟨396, .MOD, 0x10, 0, 1, 0, 2, .ro, 0, .die0, 0, []⟩
/-- R437. -/
def MOD_LADDER.COLD_FAILS : Field := ⟨397, .MOD, 0x10, 0, 1, 2, 2, .ro, 0, .die0, 0, []⟩
/-- R437. -/
def MOD_LADDER.BOOT_SLOT : Field := ⟨398, .MOD, 0x10, 0, 1, 4, 1, .ro, 0, .die0, 0, []⟩
/-- R437. -/
def MOD_LADDER.LAST_FAIL : Field := ⟨399, .MOD, 0x10, 0, 1, 8, 3, .ro, 0, .die0, 0, []⟩
/-- R437. -/
def MOD_STRAPS.OOB_ADDR : Field := ⟨400, .MOD, 0x18, 0, 1, 0, 3, .ro, 1, .die0, 0, []⟩
/-- R437. -/
def MOD_STRAPS.PRIMARY_HEAD : Field := ⟨401, .MOD, 0x18, 0, 1, 3, 1, .ro, 1, .die0, 0, []⟩
/-- R437. -/
def MOD_STRAPS.BOOT_SLOT : Field := ⟨402, .MOD, 0x18, 0, 1, 4, 1, .ro, 1, .die0, 0, []⟩
/-- R437. -/
def MOD_STRAPS.POUR_DEFAULT : Field := ⟨403, .MOD, 0x18, 0, 1, 5, 2, .ro, 1, .die0, 0, []⟩
/-- R437. -/
def MOD_STRAPS.LAT_DEFAULT : Field := ⟨404, .MOD, 0x18, 0, 1, 7, 2, .ro, 1, .die0, 0, []⟩
/-- R437. -/
def MOD_STRAPS.THERMAL_PROFILE : Field := ⟨405, .MOD, 0x18, 0, 1, 9, 2, .ro, 1, .die0, 0, []⟩
/-- R437. -/
def MOD_STRAPS.DUALPORTEN : Field := ⟨406, .MOD, 0x18, 0, 1, 11, 1, .ro, 1, .die0, 0, []⟩
/-- R437. -/
def MOD_LATENCY.US : Field := ⟨407, .MOD, 0x20, 8, 2, 0, 32, .ro, 7, .die0, 0, []⟩
/-- R437. -/
def MOD_LATENCY.SET : Field := ⟨408, .MOD, 0x20, 8, 2, 32, 1, .ro, 7, .die0, 0, []⟩
/-- R437. -/
def MOD_LATENCY_FORCE.US : Field := ⟨409, .MOD, 0x30, 0, 1, 0, 32, .ro, 3, .die0, 0, []⟩
/-- R437. -/
def MOD_LATENCY_FORCE.PREDICT_US : Field := ⟨410, .MOD, 0x30, 0, 1, 32, 32, .ro, 3, .die0, 0, []⟩
/-- R437. -/
def MOD_DOZE_CFG.ENTER_US : Field := ⟨411, .MOD, 0x40, 8, 4, 0, 32, .rw, 3, .die0, 0, [20, 200, 5000, 1000000]⟩
/-- R437. -/
def MOD_DOZE_CFG.DISABLE : Field := ⟨412, .MOD, 0x40, 8, 4, 32, 1, .rw, 3, .die0, 0, []⟩
/-- R437. -/
def MOD_DOZE_STAT.ENTRIES : Field := ⟨413, .MOD, 0x60, 8, 4, 0, 32, .ro, 1, .die0, 0, []⟩
/-- R437. -/
def MOD_DOZE_STAT.TIME_S : Field := ⟨414, .MOD, 0x60, 8, 4, 32, 32, .ro, 1, .die0, 0, []⟩
/-- R437. -/
def MOD_QUIESCE.COUNT : Field := ⟨415, .MOD, 0x80, 0, 1, 0, 32, .ro, 0, .die0, 0, []⟩
/-- R437. -/
def MOD_QUIESCE.LAST_MS : Field := ⟨416, .MOD, 0x80, 0, 1, 32, 8, .ro, 0, .die0, 0, []⟩
/-- R437. -/
def MOD_QUIESCE.LAST_CAUSE : Field := ⟨417, .MOD, 0x80, 0, 1, 40, 3, .ro, 0, .die0, 0, []⟩
/-- R437. -/
def MOD_REQUEST.OFF_STANDING : Field := ⟨418, .MOD, 0x88, 0, 1, 0, 1, .ro, 1, .die0, 0, []⟩
/-- R437. -/
def MOD_REQUEST.ON_PENDING : Field := ⟨419, .MOD, 0x88, 0, 1, 1, 1, .ro, 1, .die0, 0, []⟩
/-- R461. -/
def PWR_CAPS.RAILS : Field := ⟨420, .PWR, 0x0, 0, 1, 0, 5, .ro, 0, .die0, 18, []⟩
/-- R461. -/
def PWR_CAPS.DWELL_US : Field := ⟨421, .PWR, 0x0, 0, 1, 8, 8, .ro, 0, .die0, 16, []⟩
/-- R461. -/
def PWR_CAPS.SCAN_US : Field := ⟨422, .PWR, 0x0, 0, 1, 16, 16, .ro, 0, .die0, 288, []⟩
/-- R461. -/
def PWR_STATUS.STEP : Field := ⟨423, .PWR, 0x8, 0, 1, 0, 4, .ro, 1, .die0, 0, []⟩
/-- R461. -/
def PWR_STATUS.DOWN : Field := ⟨424, .PWR, 0x8, 0, 1, 4, 1, .ro, 1, .die0, 0, []⟩
/-- R461. -/
def PWR_STATUS.AON_FROM_BUS : Field := ⟨425, .PWR, 0x8, 0, 1, 5, 1, .ro, 1, .die0, 0, []⟩
/-- R461. -/
def PWR_STATUS.LOAD_LIMITED : Field := ⟨426, .PWR, 0x8, 0, 1, 6, 1, .ro, 1, .die0, 0, []⟩
/-- R461. -/
def PWR_STATUS.FLAGGED : Field := ⟨427, .PWR, 0x8, 0, 1, 32, 18, .ro, 1, .die0, 0, []⟩
/-- R461. -/
def PWR_INPUT.MW : Field := ⟨428, .PWR, 0x10, 0, 1, 0, 32, .ro, 3, .die0, 0, []⟩
/-- R461. -/
def PWR_INPUT.PEAK_MW : Field := ⟨429, .PWR, 0x10, 0, 1, 32, 32, .rw, 1, .die0, 0, []⟩
/-- R461. -/
def PWR_BUDGET.STACK_CAP : Field := ⟨430, .PWR, 0x18, 0, 1, 0, 8, .ro, 3, .die0, 128, []⟩
/-- R461. -/
def PWR_BUDGET.LIMIT_W : Field := ⟨431, .PWR, 0x18, 0, 1, 8, 8, .ro, 0, .die0, 70, []⟩
/-- R461. -/
def PWR_BUDGET.ACT_W : Field := ⟨432, .PWR, 0x18, 0, 1, 16, 8, .ro, 0, .die0, 66, []⟩
/-- R461. -/
def PWR_BUDGET.RELEASE_W : Field := ⟨433, .PWR, 0x18, 0, 1, 24, 8, .ro, 0, .die0, 60, []⟩
/-- R461. -/
def PWR_RAIL.MV : Field := ⟨434, .PWR, 0x40, 8, 18, 0, 16, .ro, 3, .die0, 0, []⟩
/-- R461. -/
def PWR_RAIL.STATE : Field := ⟨435, .PWR, 0x40, 8, 18, 16, 3, .ro, 1, .die0, 0, []⟩
/-- R461. -/
def PWR_RAIL.NOMINAL_MV : Field := ⟨436, .PWR, 0x40, 8, 18, 32, 16, .ro, 0, .die0, 0, [12000, 3300, 35000, 12000, 750, 750, 900, 1200, 1800, 1050, 900, 500, 1200, 1200, 5000, 5000, 1800, 800]⟩
/-- R461. -/
def PWR_RAIL_CNT.UV : Field := ⟨437, .PWR, 0x100, 8, 18, 0, 16, .ro, 0, .die0, 0, []⟩
/-- R461. -/
def PWR_RAIL_CNT.OV : Field := ⟨438, .PWR, 0x100, 8, 18, 16, 16, .ro, 0, .die0, 0, []⟩
/-- R461. -/
def PWR_RAIL_CNT.START_FAIL : Field := ⟨439, .PWR, 0x100, 8, 18, 32, 16, .ro, 0, .die0, 0, []⟩
/-- R461. -/
def PWR_SNAP.NEWEST : Field := ⟨440, .PWR, 0x200, 0, 1, 0, 6, .ro, 0, .die0, 0, []⟩
/-- R461. -/
def PWR_SNAP.WRAPPED : Field := ⟨441, .PWR, 0x200, 0, 1, 6, 1, .ro, 0, .die0, 0, []⟩
/-- R461. -/
def PWR_SNAP.SEL : Field := ⟨442, .PWR, 0x200, 0, 1, 8, 6, .rw, 3, .die0, 0, []⟩
/-- R461. -/
def PWR_SNAP_DATA.DATA : Field := ⟨443, .PWR, 0x208, 8, 8, 0, 64, .ro, 0, .die0, 0, []⟩
/-- R462. -/
def THM_CAPS.ZORSA : Field := ⟨444, .THM, 0x0, 0, 1, 0, 4, .ro, 0, .each, 8, []⟩
/-- R462. -/
def THM_CAPS.VYEN : Field := ⟨445, .THM, 0x0, 0, 1, 4, 8, .ro, 0, .each, 160, []⟩
/-- R462. -/
def THM_CAPS.PKG : Field := ⟨446, .THM, 0x0, 0, 1, 12, 4, .ro, 0, .each, 2, []⟩
/-- R462. -/
def THM_CAPS.AUX : Field := ⟨447, .THM, 0x0, 0, 1, 16, 4, .ro, 0, .each, 0, [7, 0]⟩
/-- R462. -/
def THM_CFG.PROFILE : Field := ⟨448, .THM, 0x8, 0, 1, 0, 2, .ro, 1, .shared, 0, []⟩
/-- R462. -/
def THM_CFG.FAST_MARGIN : Field := ⟨449, .THM, 0x8, 0, 1, 2, 6, .ro, 0, .each, 5, []⟩
/-- R462. -/
def THM_CFG.HYST : Field := ⟨450, .THM, 0x8, 0, 1, 8, 4, .ro, 0, .each, 3, []⟩
/-- R462. -/
def THM_CFG.CONFIRM : Field := ⟨451, .THM, 0x8, 0, 1, 12, 4, .ro, 0, .each, 3, []⟩
/-- R462. -/
def THM_STATUS.TRIP : Field := ⟨452, .THM, 0x10, 0, 1, 0, 1, .ro, 1, .die0, 0, []⟩
/-- R462. -/
def THM_STATUS.TRIP_CLASS : Field := ⟨453, .THM, 0x10, 0, 1, 1, 3, .ro, 1, .die0, 0, []⟩
/-- R462. -/
def THM_STATUS.FAN_LEVEL : Field := ⟨454, .THM, 0x10, 0, 1, 4, 2, .ro, 3, .die0, 0, []⟩
/-- R462. -/
def THM_STATUS.ZORSA_LEVEL : Field := ⟨455, .THM, 0x10, 0, 1, 6, 2, .ro, 3, .each, 0, []⟩
/-- R462. -/
def THM_STATUS.WARNING : Field := ⟨456, .THM, 0x10, 0, 1, 8, 6, .ro, 3, .each, 0, []⟩
/-- R462. -/
def THM_STATUS.THROTTLE : Field := ⟨457, .THM, 0x10, 0, 1, 16, 6, .ro, 3, .each, 0, []⟩
/-- R462. -/
def THM_ZORSA.TEMP : Field := ⟨458, .THM, 0x40, 8, 8, 0, 8, .ro, 3, .each, 0, []⟩
/-- R462. -/
def THM_ZORSA.BROKEN : Field := ⟨459, .THM, 0x40, 8, 8, 8, 1, .ro, 1, .each, 0, []⟩
/-- R462. -/
def THM_ZORSA.FAST : Field := ⟨460, .THM, 0x40, 8, 8, 9, 1, .ro, 3, .each, 0, []⟩
/-- R462. -/
def THM_PKG.TEMP : Field := ⟨461, .THM, 0x80, 8, 2, 0, 8, .ro, 3, .each, 0, []⟩
/-- R462. -/
def THM_PKG.BROKEN : Field := ⟨462, .THM, 0x80, 8, 2, 8, 1, .ro, 1, .each, 0, []⟩
/-- R462. -/
def THM_PKG.FAST : Field := ⟨463, .THM, 0x80, 8, 2, 9, 1, .ro, 3, .each, 0, []⟩
/-- R462. -/
def THM_PKG.LEVEL : Field := ⟨464, .THM, 0x80, 8, 2, 10, 2, .ro, 3, .each, 0, []⟩
/-- R462. -/
def THM_AUX.TEMP : Field := ⟨465, .THM, 0xA0, 8, 7, 0, 8, .ro, 3, .die0, 0, []⟩
/-- R462. -/
def THM_AUX.BROKEN : Field := ⟨466, .THM, 0xA0, 8, 7, 8, 1, .ro, 1, .die0, 0, []⟩
/-- R462. -/
def THM_AUX.FAST : Field := ⟨467, .THM, 0xA0, 8, 7, 9, 1, .ro, 3, .die0, 0, []⟩
/-- R462. -/
def THM_AUX.LEVEL : Field := ⟨468, .THM, 0xA0, 8, 7, 10, 2, .ro, 3, .die0, 0, []⟩
/-- R462. -/
def THM_STACK.HOT : Field := ⟨469, .THM, 0x100, 8, 8, 0, 8, .ro, 3, .each, 0, []⟩
/-- R462. -/
def THM_STACK.LEVEL : Field := ⟨470, .THM, 0x100, 8, 8, 8, 2, .ro, 3, .each, 0, []⟩
/-- R462. -/
def THM_STACK.BROKEN : Field := ⟨471, .THM, 0x100, 8, 8, 10, 5, .ro, 1, .each, 0, []⟩
/-- R462. -/
def THM_STACK.LIMIT : Field := ⟨472, .THM, 0x100, 8, 8, 16, 8, .ro, 3, .each, 128, []⟩
/-- R462. -/
def THM_STACK.RETIRED : Field := ⟨473, .THM, 0x100, 8, 8, 24, 1, .ro, 0, .each, 0, []⟩
/-- R462. -/
def THM_LIMIT.WARN : Field := ⟨474, .THM, 0x200, 8, 6, 0, 8, .ro, 0, .each, 0, [95, 85, 90, 70, 95, 45]⟩
/-- R462. -/
def THM_LIMIT.THROTTLE : Field := ⟨475, .THM, 0x200, 8, 6, 8, 8, .ro, 0, .each, 0, [100, 90, 95, 75, 105, 50]⟩
/-- R462. -/
def THM_LIMIT.SHUTDOWN : Field := ⟨476, .THM, 0x200, 8, 6, 16, 8, .ro, 0, .each, 0, [110, 100, 105, 85, 115, 0]⟩
/-- R462. -/
def THM_COUNT.BROKEN : Field := ⟨477, .THM, 0x240, 0, 1, 0, 16, .ro, 1, .each, 0, []⟩
/-- R462. -/
def THM_COUNT.TRIPS : Field := ⟨478, .THM, 0x240, 0, 1, 16, 16, .ro, 0, .die0, 0, []⟩
/-- R474. -/
def ENG_CAPS.ENGINES : Field := ⟨479, .ENG, 0x0, 0, 1, 0, 8, .ro, 0, .each, 24, []⟩
/-- R474. -/
def ENG_CAPS.DMA_CHANNELS : Field := ⟨480, .ENG, 0x0, 0, 1, 8, 4, .ro, 0, .each, 4, []⟩
/-- R474. -/
def ENG_CAPS.ISRAM_KIB : Field := ⟨481, .ENG, 0x0, 0, 1, 16, 12, .ro, 0, .each, 128, []⟩
/-- R474. -/
def ENG_CAPS.DSRAM_KIB : Field := ⟨482, .ENG, 0x0, 0, 1, 32, 12, .ro, 0, .each, 256, []⟩
/-- R474. -/
def ENG_CAPS.WD_MS : Field := ⟨483, .ENG, 0x0, 0, 1, 48, 8, .ro, 0, .each, 10, []⟩
/-- R474. -/
def ENG_CFG.FAULT_LIMIT : Field := ⟨484, .ENG, 0x8, 0, 1, 0, 4, .rw, 3, .shared, 3, []⟩
/-- R474. -/
def ENG_STATE.STATE : Field := ⟨485, .ENG, 0x100, 32, 24, 0, 3, .ro, 0, .each, 0, (List.range 24).map (fun j => if j = 23 then 4 else 0)⟩
/-- R474. -/
def ENG_STATE.CAUSE : Field := ⟨486, .ENG, 0x100, 32, 24, 3, 3, .ro, 0, .each, 0, []⟩
/-- R474. -/
def ENG_STATE.ROLE : Field := ⟨487, .ENG, 0x100, 32, 24, 6, 6, .ro, 0, .each, 0, (List.range 48).map (fun k => if k % 24 = 23 then 63 else 2 * (k % 24) + k / 24)⟩
/-- R474. -/
def ENG_STATE.ABSORBED : Field := ⟨488, .ENG, 0x100, 32, 24, 12, 6, .ro, 0, .each, 63, []⟩
/-- R474. -/
def ENG_STATE.DMA_HALTED : Field := ⟨489, .ENG, 0x100, 32, 24, 20, 4, .ro, 11, .each, 0, []⟩
/-- R474. -/
def ENG_STATE.FAULTS_24H : Field := ⟨490, .ENG, 0x100, 32, 24, 24, 4, .ro, 1, .each, 0, []⟩
/-- R474. -/
def ENG_FAULT.PC : Field := ⟨491, .ENG, 0x108, 32, 24, 0, 64, .ro, 0, .each, 0, []⟩
/-- R474. -/
def ENG_FAULT.ADDR : Field := ⟨492, .ENG, 0x110, 32, 24, 0, 48, .ro, 0, .each, 0, []⟩
/-- R474. -/
def ENG_COUNT.RESETS : Field := ⟨493, .ENG, 0x118, 32, 24, 0, 16, .ro, 1, .each, 0, []⟩
/-- R474. -/
def ENG_COUNT.TRAPS : Field := ⟨494, .ENG, 0x118, 32, 24, 16, 16, .ro, 1, .each, 0, []⟩
/-- R474. -/
def ENG_COUNT.WD_EXPIRED : Field := ⟨495, .ENG, 0x118, 32, 24, 32, 16, .ro, 1, .each, 0, []⟩
/-- R474. -/
def ENG_COUNT.DMA_HALTS : Field := ⟨496, .ENG, 0x118, 32, 24, 48, 16, .ro, 1, .each, 0, []⟩
/-- R490. -/
def TLY_CAPS.FIXED : Field := ⟨497, .TLY, 0x0, 0, 1, 0, 10, .ro, 0, .each, 384, []⟩
/-- R490. -/
def TLY_CAPS.ENGINE : Field := ⟨498, .TLY, 0x0, 0, 1, 16, 8, .ro, 0, .each, 96, []⟩
/-- R490. -/
def TLY_CAPS.SIGNAL : Field := ⟨499, .TLY, 0x0, 0, 1, 24, 8, .ro, 0, .each, 32, []⟩
/-- R490. -/
def TLY_CAPS.RECORDS : Field := ⟨500, .TLY, 0x0, 0, 1, 32, 14, .ro, 0, .each, 8192, []⟩
/-- R490. -/
def TLY_TIME.CYCLES : Field := ⟨501, .TLY, 0x8, 0, 1, 0, 64, .ro, 3, .each, 0, []⟩
/-- R490. -/
def TLY_LATCH.SEQ : Field := ⟨502, .TLY, 0x10, 8, 3, 0, 32, .ro, 3, .each, 0, []⟩
/-- R490. -/
def TLY_SAMPLE_CFG.MODE : Field := ⟨503, .TLY, 0x28, 0, 1, 0, 2, .rw, 3, .each, 0, []⟩
/-- R490. -/
def TLY_SAMPLE_CFG.WRAP : Field := ⟨504, .TLY, 0x28, 0, 1, 2, 1, .rw, 3, .each, 0, []⟩
/-- R490. -/
def TLY_SAMPLE_CFG.EVENT : Field := ⟨505, .TLY, 0x28, 0, 1, 16, 16, .rw, 3, .each, 0, []⟩
/-- R490. -/
def TLY_SAMPLE_PERIOD.EVENTS : Field := ⟨506, .TLY, 0x30, 0, 1, 0, 32, .rw, 3, .each, 1000, []⟩
/-- R490. -/
def TLY_SAMPLE_THRESH.RECORDS : Field := ⟨507, .TLY, 0x38, 0, 1, 0, 14, .rw, 3, .each, 4096, []⟩
/-- R490. -/
def TLY_SAMPLE_WR.INDEX : Field := ⟨508, .TLY, 0x40, 0, 1, 0, 13, .ro, 3, .each, 0, []⟩
/-- R490. -/
def TLY_SAMPLE_RD.INDEX : Field := ⟨509, .TLY, 0x48, 0, 1, 0, 13, .rw, 3, .each, 0, []⟩
/-- R490. -/
def TLY_SAMPLE_STAT.UNREAD : Field := ⟨510, .TLY, 0x50, 0, 1, 0, 14, .ro, 3, .each, 0, []⟩
/-- R490. -/
def TLY_SAMPLE_STAT.LOST : Field := ⟨511, .TLY, 0x50, 0, 1, 16, 32, .ro, 3, .each, 0, []⟩
/-- R490. -/
def TLY_SKID.VALID : Field := ⟨512, .TLY, 0x58, 0, 1, 0, 1, .rw1c, 3, .each, 0, []⟩
/-- R490. -/
def TLY_SKID.EVENT : Field := ⟨513, .TLY, 0x58, 0, 1, 16, 16, .ro, 3, .each, 0, []⟩
/-- R490. -/
def TLY_SKID.MISSED : Field := ⟨514, .TLY, 0x58, 0, 1, 32, 32, .ro, 3, .each, 0, []⟩
/-- R490. -/
def TLY_SKID.ADDR : Field := ⟨515, .TLY, 0x60, 0, 1, 0, 64, .ro, 3, .each, 0, []⟩
/-- R490. -/
def TLY_OVF_FIXED.BITS : Field := ⟨516, .TLY, 0x400, 8, 6, 0, 64, .rw1c, 3, .each, 0, []⟩
/-- R490. -/
def TLY_OVF_ENG.BITS : Field := ⟨517, .TLY, 0x430, 8, 2, 0, 64, .rw1c, 3, .each, 0, []⟩
/-- R490. -/
def TLY_OVF_SIG.BITS : Field := ⟨518, .TLY, 0x440, 0, 1, 0, 32, .rw1c, 3, .each, 0, []⟩
/-- R490. -/
def TLY_FIXED.COUNT : Field := ⟨519, .TLY, 0x1000, 8, 384, 0, 48, .rw, 3, .each, 0, []⟩
/-- R490. -/
def TLY_FIXED_SNAP.COUNT : Field := ⟨520, .TLY, 0x2000, 8, 384, 0, 48, .ro, 3, .each, 0, []⟩
/-- R490. -/
def TLY_ENG.COUNT : Field := ⟨521, .TLY, 0x3000, 16, 96, 0, 48, .rw, 3, .each, 0, []⟩
/-- R490. -/
def TLY_ENG_SEL.EVENT : Field := ⟨522, .TLY, 0x3008, 16, 96, 0, 8, .rw, 3, .each, 0, []⟩
/-- R490. -/
def TLY_ENG_SEL.ENABLE : Field := ⟨523, .TLY, 0x3008, 16, 96, 8, 1, .rw, 3, .each, 0, []⟩
/-- R490. -/
def TLY_ENG_SNAP.COUNT : Field := ⟨524, .TLY, 0x3800, 8, 96, 0, 48, .ro, 3, .each, 0, []⟩
/-- R490. -/
def TLY_SIG.COUNT : Field := ⟨525, .TLY, 0x4000, 16, 32, 0, 48, .rw, 3, .each, 0, []⟩
/-- R490. -/
def TLY_SIG_SEL.SIGNAL : Field := ⟨526, .TLY, 0x4008, 16, 32, 0, 10, .rw, 3, .each, 0, []⟩
/-- R490. -/
def TLY_SIG_SEL.MODE : Field := ⟨527, .TLY, 0x4008, 16, 32, 10, 3, .rw, 3, .each, 0, []⟩
/-- R490. -/
def TLY_SIG_SNAP.COUNT : Field := ⟨528, .TLY, 0x4400, 8, 32, 0, 48, .ro, 3, .each, 0, []⟩
/-- R513. -/
def REAM_CAPS.LOG_KIB : Field := ⟨529, .REAM, 0x0, 0, 1, 0, 24, .ro, 0, .die0, 4096, []⟩
/-- R513. -/
def REAM_CAPS.MIRROR_RECORDS : Field := ⟨530, .REAM, 0x0, 0, 1, 24, 8, .ro, 0, .die0, 0, []⟩
/-- R513. -/
def REAM_CAPS.MAX_RECORD : Field := ⟨531, .REAM, 0x0, 0, 1, 32, 16, .ro, 0, .die0, 1024, []⟩
/-- R513. -/
def REAM_CFG.DEBUG_EN : Field := ⟨532, .REAM, 0x8, 0, 1, 0, 1, .rw, 3, .die0, 0, []⟩
/-- R513. -/
def REAM_CFG.RATE : Field := ⟨533, .REAM, 0x8, 0, 1, 16, 16, .rw, 3, .die0, 100, []⟩
/-- R513. -/
def REAM_SEQ_NEWEST.SEQ : Field := ⟨534, .REAM, 0x10, 0, 1, 0, 64, .ro, 0, .die0, 0, []⟩
/-- R513. -/
def REAM_SEQ_OLDEST.SEQ : Field := ⟨535, .REAM, 0x18, 0, 1, 0, 64, .ro, 0, .die0, 0, []⟩
/-- R513. -/
def REAM_DROP.DROPPED : Field := ⟨536, .REAM, 0x20, 0, 1, 0, 32, .ro, 1, .die0, 0, []⟩
/-- R513. -/
def REAM_DROP.SUPPRESSED : Field := ⟨537, .REAM, 0x20, 0, 1, 32, 32, .ro, 1, .die0, 0, []⟩
/-- R513. -/
def REAM_MIRROR.RECORDS : Field := ⟨538, .REAM, 0x28, 0, 1, 0, 9, .ro, 0, .die0, 0, []⟩
/-- R513. -/
def REAM_MIRROR.REPLACED : Field := ⟨539, .REAM, 0x28, 0, 1, 32, 32, .ro, 0, .die0, 0, []⟩
/-- R513. -/
def REAM_CURSOR.SEQ : Field := ⟨540, .REAM, 0x40, 16, 2, 0, 64, .ro, 1, .die0, 0, []⟩
/-- R513. -/
def REAM_MARK.SEQ : Field := ⟨541, .REAM, 0x48, 16, 2, 0, 64, .ro, 1, .die0, 0, []⟩
/-- R513. -/
def REAM_GAP.GAP : Field := ⟨542, .REAM, 0x60, 8, 2, 0, 1, .rw1c, 1, .die0, 0, []⟩
/-- R513. -/
def REAM_GAP.LOST : Field := ⟨543, .REAM, 0x60, 8, 2, 16, 32, .ro, 1, .die0, 0, []⟩
/-- R513. -/
def REAM_WIN.BYTES : Field := ⟨544, .REAM, 0x70, 0, 1, 0, 13, .ro, 3, .die0, 0, []⟩
/-- R513. -/
def REAM_WIN.RECORDS : Field := ⟨545, .REAM, 0x70, 0, 1, 16, 8, .ro, 3, .die0, 0, []⟩
/-- R513. -/
def REAM_CMD.LOAD : Field := ⟨546, .REAM, 0x78, 0, 1, 0, 1, .wo, 0, .die0, 0, []⟩
/-- R513. -/
def REAM_CMD.REWIND : Field := ⟨547, .REAM, 0x78, 0, 1, 1, 1, .wo, 0, .die0, 0, []⟩
/-- R513. -/
def REAM_CMD.MARK : Field := ⟨548, .REAM, 0x78, 0, 1, 2, 1, .wo, 0, .die0, 0, []⟩
/-- R513. -/
def REAM_WALL.MS : Field := ⟨549, .REAM, 0x80, 0, 1, 0, 64, .ro, 1, .die0, 0, []⟩
/-- R514. -/
def QST_CAPS.PAGES : Field := ⟨550, .QST, 0x0, 0, 1, 0, 14, .ro, 0, .die0, 8192, []⟩
/-- R514. -/
def QST_CAPS.PAGE_BYTES : Field := ⟨551, .QST, 0x0, 0, 1, 16, 9, .ro, 0, .die0, 256, []⟩
/-- R514. -/
def QST_CAPS.RATED_WRITES : Field := ⟨552, .QST, 0x0, 0, 1, 32, 20, .ro, 0, .die0, 1000000, []⟩
/-- R514. -/
def QST_STATUS.PLANES_BUSY : Field := ⟨553, .QST, 0x8, 0, 1, 0, 4, .ro, 3, .die0, 0, []⟩
/-- R514. -/
def QST_STATUS.LOCKOUT : Field := ⟨554, .QST, 0x8, 0, 1, 4, 3, .ro, 1, .die0, 0, []⟩
/-- R514. -/
def QST_WRITES.PAGES : Field := ⟨555, .QST, 0x10, 0, 1, 0, 48, .ro, 1, .die0, 0, []⟩
/-- R514. -/
def QST_WRITES.SLOTS : Field := ⟨556, .QST, 0x18, 0, 1, 0, 48, .ro, 1, .die0, 0, []⟩
/-- R514. -/
def QST_WEAR.MAX : Field := ⟨557, .QST, 0x20, 0, 1, 0, 32, .ro, 0, .die0, 0, []⟩
/-- R514. -/
def QST_WEAR.PAGE : Field := ⟨558, .QST, 0x20, 0, 1, 32, 13, .ro, 0, .die0, 0, []⟩
/-- R514. -/
def QST_TORN.PAGES : Field := ⟨559, .QST, 0x28, 0, 1, 0, 16, .ro, 0, .die0, 0, []⟩
/-- R514. -/
def QST_TORN.SLOTS : Field := ⟨560, .QST, 0x28, 0, 1, 16, 16, .ro, 0, .die0, 0, []⟩
/-- R514. -/
def QST_TORN.VERIFY_FAIL : Field := ⟨561, .QST, 0x28, 0, 1, 32, 16, .ro, 0, .die0, 0, []⟩
/-- R514. -/
def QST_PW.FAILS : Field := ⟨562, .QST, 0x30, 8, 3, 0, 4, .ro, 1, .die0, 0, []⟩
/-- R514. -/
def QST_RING.NEWEST : Field := ⟨563, .QST, 0x60, 8, 4, 0, 7, .ro, 3, .die0, 0, []⟩
/-- R514. -/
def QST_RING.SERIAL : Field := ⟨564, .QST, 0x60, 8, 4, 32, 32, .ro, 3, .die0, 0, []⟩
/-- R527. -/
def BST_CAPS.SLICES : Field := ⟨565, .BST, 0x0, 0, 1, 0, 6, .ro, 0, .each, 33, []⟩
/-- R527. -/
def BST_CAPS.COLD_BUDGET_MS : Field := ⟨566, .BST, 0x0, 0, 1, 16, 16, .ro, 0, .each, 8000, []⟩
/-- R527. -/
def BST_RUN.HANDLE : Field := ⟨567, .BST, 0x8, 0, 1, 0, 16, .ro, 3, .each, 0, []⟩
/-- R527. -/
def BST_RUN.STATE : Field := ⟨568, .BST, 0x8, 0, 1, 16, 3, .ro, 3, .each, 0, []⟩
/-- R527. -/
def BST_RUN.SLICE : Field := ⟨569, .BST, 0x8, 0, 1, 20, 6, .ro, 3, .each, 63, []⟩
/-- R527. -/
def BST_RUN.TRIGGER : Field := ⟨570, .BST, 0x8, 0, 1, 26, 2, .ro, 3, .each, 0, []⟩
/-- R527. -/
def BST_MASK.REQUESTED : Field := ⟨571, .BST, 0x10, 0, 1, 0, 64, .ro, 3, .each, 0, []⟩
/-- R527. -/
def BST_FAILED.MASK : Field := ⟨572, .BST, 0x18, 0, 1, 0, 64, .ro, 0, .each, 0, []⟩
/-- R527. -/
def BST_ANALOG.LAST_MIN : Field := ⟨573, .BST, 0x20, 0, 1, 0, 32, .ro, 0, .each, 0, []⟩
/-- R527. -/
def BST_ANALOG.VALID : Field := ⟨574, .BST, 0x20, 0, 1, 32, 1, .ro, 0, .each, 0, []⟩
/-- R527. -/
def BST_SLICE.VERDICT : Field := ⟨575, .BST, 0x100, 16, 33, 0, 3, .ro, 0, .each, 0, []⟩
/-- R527. -/
def BST_SLICE.COVERAGE : Field := ⟨576, .BST, 0x100, 16, 33, 4, 14, .ro, 0, .each, 0, []⟩
/-- R527. -/
def BST_SLICE.UNITS : Field := ⟨577, .BST, 0x100, 16, 33, 20, 12, .ro, 0, .each, 0, []⟩
/-- R527. -/
def BST_SLICE.BUDGET_MS : Field := ⟨578, .BST, 0x100, 16, 33, 32, 16, .ro, 0, .each, 0, []⟩
/-- R527. -/
def BST_SLICE.DURATION_US : Field := ⟨579, .BST, 0x108, 16, 33, 0, 32, .ro, 0, .each, 0, []⟩
/-- R527. -/
def BST_SLICE.END_MIN : Field := ⟨580, .BST, 0x108, 16, 33, 32, 32, .ro, 0, .each, 0, []⟩
/-- R548. -/
def PIN_LEVEL.PERST : Field := ⟨581, .PIN, 0x0, 0, 1, 0, 1, .ro, 0, .die0, 0, []⟩
/-- R548. -/
def PIN_LEVEL.PERST1 : Field := ⟨582, .PIN, 0x0, 0, 1, 1, 1, .ro, 0, .die0, 0, []⟩
/-- R548. -/
def PIN_LEVEL.PWRDIS : Field := ⟨583, .PIN, 0x0, 0, 1, 2, 1, .ro, 0, .die0, 0, []⟩
/-- R548. -/
def PIN_LEVEL.DUALPORTEN : Field := ⟨584, .PIN, 0x0, 0, 1, 3, 1, .ro, 0, .die0, 0, []⟩
/-- R548. -/
def PIN_LEVEL.ALERT : Field := ⟨585, .PIN, 0x0, 0, 1, 4, 1, .ro, 0, .die0, 0, []⟩
/-- R548. -/
def PIN_LEVEL.FLOW_HI : Field := ⟨586, .PIN, 0x0, 0, 1, 5, 1, .ro, 0, .die0, 0, []⟩
/-- R548. -/
def PIN_LEVEL.REPLY_RDY : Field := ⟨587, .PIN, 0x0, 0, 1, 6, 1, .ro, 0, .die0, 0, []⟩
/-- R548. -/
def PIN_LEVEL.P12V_VALID : Field := ⟨588, .PIN, 0x0, 0, 1, 7, 1, .ro, 0, .die0, 0, []⟩
/-- R548. -/
def PIN_LED.GREEN : Field := ⟨589, .PIN, 0x8, 0, 1, 0, 2, .ro, 1, .die0, 0, []⟩
/-- R548. -/
def PIN_LED.AMBER : Field := ⟨590, .PIN, 0x8, 0, 1, 2, 2, .ro, 1, .die0, 0, []⟩
/-- R548. -/
def PIN_LED.BLUE : Field := ⟨591, .PIN, 0x8, 0, 1, 4, 2, .ro, 1, .die0, 0, []⟩
/-- R548. -/
def PIN_LED.LOCATE : Field := ⟨592, .PIN, 0x8, 0, 1, 6, 1, .ro, 1, .die0, 0, []⟩
/-- R548. -/
def PIN_LED.ALERT : Field := ⟨593, .PIN, 0x8, 0, 1, 7, 1, .ro, 1, .die0, 0, []⟩
/-- R548. -/
def PIN_PAD.LAST_MS : Field := ⟨594, .PIN, 0x10, 0, 1, 0, 12, .ro, 1, .die0, 0, []⟩
/-- R548. -/
def PIN_PAD.LAST_ACTION : Field := ⟨595, .PIN, 0x10, 0, 1, 12, 3, .ro, 1, .die0, 0, []⟩
/-- R548. -/
def PIN_PAD.TOUCHES : Field := ⟨596, .PIN, 0x10, 0, 1, 16, 32, .ro, 1, .die0, 0, []⟩
/-- R548. -/
def PIN_REMOVAL.STATE : Field := ⟨597, .PIN, 0x18, 0, 1, 0, 3, .ro, 1, .die0, 0, []⟩
/-- R548. -/
def PIN_REMOVAL.ORIGIN : Field := ⟨598, .PIN, 0x18, 0, 1, 3, 2, .ro, 1, .die0, 0, []⟩
/-- R548. -/
def PIN_REMOVAL.WAIT_LEFT_S : Field := ⟨599, .PIN, 0x18, 0, 1, 16, 16, .ro, 1, .die0, 0, []⟩
/-- R548. -/
def PIN_CFG.REMOVAL_WAIT_S : Field := ⟨600, .PIN, 0x20, 0, 1, 0, 16, .rw, 3, .die0, 60, []⟩
/-- R548. -/
def PIN_CFG.PAD_EN : Field := ⟨601, .PIN, 0x20, 0, 1, 16, 1, .rw, 3, .die0, 1, []⟩
/-- R548. -/
def PIN_CFG.ACTIVITY_EN : Field := ⟨602, .PIN, 0x20, 0, 1, 17, 1, .rw, 3, .die0, 1, []⟩
/-- R548. -/
def PIN_COUNT.REMOVALS : Field := ⟨603, .PIN, 0x28, 0, 1, 0, 16, .ro, 0, .die0, 0, []⟩
/-- R548. -/
def PIN_COUNT.EARLY_PULLS : Field := ⟨604, .PIN, 0x28, 0, 1, 16, 16, .ro, 0, .die0, 0, []⟩
/-- R548. -/
def PIN_COUNT.STRAP_FALLBACKS : Field := ⟨605, .PIN, 0x28, 0, 1, 32, 16, .ro, 1, .die0, 0, []⟩
/-- R548. -/
def PIN_STRAP.MV : Field := ⟨606, .PIN, 0x30, 8, 6, 0, 12, .ro, 1, .die0, 0, []⟩
/-- R548. -/
def PIN_STRAP.CODE : Field := ⟨607, .PIN, 0x30, 8, 6, 12, 3, .ro, 1, .die0, 0, []⟩
/-- R548. -/
def PIN_STRAP.FALLBACK : Field := ⟨608, .PIN, 0x30, 8, 6, 15, 1, .ro, 1, .die0, 0, []⟩

end Reg

open Reg
/-- The fields of block ID, in the order of its table. -/
def fieldsOfID : List Field :=
  [LNK_IDENT.ID, LNK_REVISION.BOARD_REV, LNK_REVISION.ZORSA_STEP, LNK_REVISION.FW_VERSION,
   LNK_SERIAL.SERIAL, LNK_MODE.MODE, LNK_MODE.DEGRADED, LNK_MODE.WRITE_THROUGH,
   LNK_MODE.READ_ONLY, LNK_MODE.DOZE, LNK_OPTIME.MS, LNK_POWER_CYCLES.COUNT,
   LNK_DIRTY_BUDGET.GIB]

/-- The fields of block MOD, in the order of its table. -/
def fieldsOfMOD : List Field :=
  [ MOD_STATUS.MODE, MOD_STATUS.PREV_MODE, MOD_STATUS.DOZE, MOD_STATUS.START_KIND,
   MOD_STATUS.QUIESCE_CAUSE, MOD_STATUS.SAFE_CAUSE, MOD_START.DURATION_MS, MOD_START.SKIPPED,
   MOD_START.SLOT, MOD_START.RETAINED_DIRTY, MOD_LADDER.WARM_FAILS, MOD_LADDER.COLD_FAILS,
   MOD_LADDER.BOOT_SLOT, MOD_LADDER.LAST_FAIL, MOD_STRAPS.OOB_ADDR, MOD_STRAPS.PRIMARY_HEAD,
   MOD_STRAPS.BOOT_SLOT, MOD_STRAPS.POUR_DEFAULT, MOD_STRAPS.LAT_DEFAULT, MOD_STRAPS.THERMAL_PROFILE,
   MOD_STRAPS.DUALPORTEN, MOD_LATENCY.US, MOD_LATENCY.SET, MOD_LATENCY_FORCE.US,
   MOD_LATENCY_FORCE.PREDICT_US, MOD_DOZE_CFG.ENTER_US, MOD_DOZE_CFG.DISABLE, MOD_DOZE_STAT.ENTRIES,
   MOD_DOZE_STAT.TIME_S, MOD_QUIESCE.COUNT, MOD_QUIESCE.LAST_MS, MOD_QUIESCE.LAST_CAUSE,
   MOD_REQUEST.OFF_STANDING, MOD_REQUEST.ON_PENDING]

/-- The fields of block LNK, in the order of its table. -/
def fieldsOfLNK : List Field :=
  [LNK_HEAD_CFG.DUAL, LNK_HEAD_CFG.PRIMARY, LNK_HEAD_CFG.HEAD, LNK_STATUS.WIDTH,
   LNK_STATUS.RATE, LNK_STATUS.CXL_MEM, LNK_STATUS.MEM_ACTIVE, LNK_STATUS.IDE_IO,
   LNK_STATUS.IDE_MEM, LNK_RETRAIN_CNT.COUNT, LNK_D2D_STATUS.DEGRADED, LNK_D2D_STATUS.DOWN,
   LNK_BAR2_GRANT.READ_EN, LNK_BAR2_GRANT.WRITE_EN, LNK_BAR2_GRANT.HALT_LIMIT, LNK_BAR2_VIOL.COUNT,
   LNK_AGG_CTRL.HOLDOFF, LNK_AGG_CTRL.COUNT, LNK_AGG_CTRL.PENDING, LNK_SRC_ROUTE.GROUP,
   LNK_SRC_ROUTE.ASSERTED, LNK_SRC_ROUTE.LEVEL, LNK_LANE_STATUS.MARGIN, LNK_LANE_STATUS.ERRORS,
   LNK_LANE_STATUS.REVERSED]

/-- The fields of block LOT, in the order of its table. -/
def fieldsOfLOT : List Field :=
  [LOT_CAPS.ENTRIES, LOT_CAPS.SLOTS, LOT_CAPS.AROUND_COST, LOT_CAPS.DEADLINE_NS,
   LOT_OCC.ENTRIES, LOT_OCC.WAITING, LOT_OCC.DEEP, LOT_RR.NEXT,
   LOT_CREDIT.HELD, LOT_CREDIT.HELD_READ, LOT_CREDIT.WITHHELD, LOT_HAZARD.COUNT,
   LOT_HAZARD.FORWARD, LOT_MISS_MAX.NS, LOT_MISS_MAX.DEEP_NS, LOT_KETTLE.SLOTS,
   LOT_KETTLE.AROUND_ONLY, LOT_KETTLE.SUSPENDS, LOT_KETTLE.AROUND, LOT_KETTLE.DEEP,
   LOT_DEEP_STEP.COUNT]

/-- The fields of block CDY, in the order of its table. -/
def fieldsOfCDY : List Field :=
  [CDY_CAPS.SETS, CDY_CAPS.WAYS, CDY_CAPS.DIRTY_WAYS, CDY_CAPS.STAGE_ENTRIES,
   CDY_CFG.QUIRE_FILL, CDY_CFG.FILL_AGE, CDY_CFG.EVICT_AGE, CDY_CFG.EVICT_START,
   CDY_CFG.IDLE_FLOOR, CDY_CFG.IDLE_MS, CDY_DIRTY_LIMIT.BLOCKS, CDY_DIRTY_LIMIT.CHAN_BLOCKS,
   CDY_DIRTY.BLOCKS, CDY_DIRTY.STAGED, CDY_PARTIAL.USED, CDY_STATUS.WRITE_THROUGH,
   CDY_STATUS.RELAY, CDY_STATUS.PKG_LOST, CDY_STATUS.PKG_RETURNING, CDY_CHAN_DIRTY.BLOCKS,
   CDY_CHAN_DIRTY.EVICTING, CDY_STAT_READ_HIT.COUNT, CDY_STAT_READ_MISS.COUNT, CDY_STAT_READ_UNMAPPED.COUNT,
   CDY_STAT_WRITE_HIT.COUNT, CDY_STAT_WRITE_ALLOC.COUNT, CDY_STAT_ROOM_WAIT.COUNT, CDY_STAT_EVICT.COUNT,
   CDY_STAT_MERGE.COUNT, CDY_STAT_FILL_DROP.COUNT, CDY_STAT_TAGC_MISS.COUNT, CDY_STAT_WT_WRITE.COUNT,
   CDY_ROOM_MAX.NS]

/-- The fields of block DMC, in the order of its table. -/
def fieldsOfDMC : List Field :=
  [DMC_CAPS.PACKAGES, DMC_CAPS.CHANNELS, DMC_CAPS.RANKS, DMC_CAPS.BANKS,
   DMC_CAPS.ECC_DIV, DMC_FSP.CURRENT, DMC_FSP.BUSY, DMC_FSP.CHANGES,
   DMC_MODE.POUR_EXCL, DMC_MODE.SELF_REFRESH, DMC_MODE.DEEP_SLEEP, DMC_MODE.THROTTLE,
   DMC_THROTTLE.CAP, DMC_PATROL.INTERVAL_H, DMC_PATROL.PASSES, DMC_PKG.STATE,
   DMC_PKG.CAUSE, DMC_PKG.ATTEMPTS, DMC_REFRESH.RATE, DMC_REFRESH.MR4,
   DMC_REFRESH.DEBT_MAX, DMC_REFRESH.PAYMENTS, DMC_TRAIN.SAVED_USED, DMC_TRAIN.RETRAIN_DUE,
   DMC_TRAIN.DRIFT_MAX, DMC_TRAIN.TEMP, DMC_TRAIN.DURATION_MS, DMC_PPR.REPAIRED,
   DMC_PPR.AVAILABLE, DMC_PPR.REMAP_USED, DMC_PORT.CLASS, DMC_PORT.TARGET_NS,
   DMC_PORT.DEPTH, DMC_PORT.WEIGHT, DMC_PORT.PANIC_ON, DMC_PORT.PANIC_OFF,
   DMC_PORT.LAT_MAX_NS, DMC_PORT.PANIC_ENTRIES, DMC_ECC.CORRECTED, DMC_ECC.UNCORRECTABLE,
   DMC_REMAP.VALID, DMC_REMAP.PPR_PENDING, DMC_REMAP.CHANNEL, DMC_REMAP.RANK,
   DMC_REMAP.BANK, DMC_REMAP.ROW, DMC_REMAP.COPY_DONE, DMC_TIMING_ACTIVE.SET,
   DMC_TIMING_ACTIVE.TRCD_NS, DMC_TIMING_ACTIVE.TRP_NS, DMC_TIMING_ACTIVE.TRFCPB_NS, DMC_TIMING_ACTIVE.TREFIPB_NS,
   DMC_TIMING_SHADOW.SET, DMC_TIMING_SHADOW.TRCD_NS, DMC_TIMING_SHADOW.TRP_NS, DMC_TIMING_SHADOW.TRFCPB_NS,
   DMC_TIMING_SHADOW.TREFIPB_NS]

/-- The fields of block MAP, in the order of its table. -/
def fieldsOfMAP : List Field :=
  [MAP_CAPS.USER_QUIRES, MAP_CAPS.SEGMENTS, MAP_RESERVES.META, MAP_RESERVES.POUR,
   MAP_RESERVES.RECLAIM, MAP_RESERVES.OP_FLOOR, MAP_CKPT.ROUND, MAP_CKPT.AREA,
   MAP_CKPT.PAGES_DONE, MAP_REBUILD.DURATION_MS, MAP_REBUILD.SKIPPED, MAP_REBUILD.OLDER_ROUND,
   MAP_JOURNAL.RING_USED, MAP_CHAN.FREE, MAP_CHAN.OPEN, MAP_CHAN.THROTTLE,
   MAP_CHAN.RETIRED, MAP_CHAN.OP, MAP_GEN_MEAN.GEN, MAP_GEN_MAX.GEN,
   MAP_WA_HOST.QUIRES, MAP_WA_COPY.QUIRES, MAP_SIZING.DUE, MAP_SIZING.LATE,
   MAP_OP_MIN.SEGMENTS, MAP_OP_MIN.READ_ONLY]

/-- The fields of block MED, in the order of its table. -/
def fieldsOfMED : List Field :=
  [MED_CAPS.PART_LIMIT, MED_CAPS.DIE_LIMIT, MED_CAPS.STACK_LIMIT, MED_CAPS.OPEN_LIMIT,
   MED_SUSP.PROG_MAX, MED_SUSP.STEEP_MAX, MED_SUSP.HOLD_US, MED_STACK_PROG.LIMIT,
   MED_STACK_PROG.IN_USE, MED_WAVE.SET_START, MED_WAVE.SET_STEP, MED_WAVE.WIDTH,
   MED_WAVE.PULSE_LIMIT, MED_WAVE.STEEP_AMP, MED_RREF.REF1, MED_RREF.REF2,
   MED_RREF.REF3, MED_AGE_EDGE.MIN, MED_SIZING_LIMIT.MIN, MED_DIE.ROLE,
   MED_DIE.MEMBER, MED_DIE.TEMP, MED_DIE.BAND, MED_DIE.SENSOR_BROKEN,
   MED_DIE.STANDBY, MED_DIE.SPARE_TILES_USED, MED_DIE.BANKS_EXHAUSTED, MED_DIE.OFF_AGE,
   MED_CHAN.CMD_CRC_ERR, MED_CHAN.SUSP_REFUSED, MED_CHAN.PROG_FAIL, MED_CHAN.STEEP_FAIL]

/-- The fields of block PRT, in the order of its table. -/
def fieldsOfPRT : List Field :=
  [PRT_CAPS.BCH_T, PRT_CAPS.CRC_BITS, PRT_CAPS.SEQ_BITS, PRT_SCRUB_CFG.PERIOD_H,
   PRT_SCRUB_CFG.RELOC_BITS, PRT_SCRUB_CFG.RETIRE_UE, PRT_SCRUB_CFG.RETIRE_HIGH, PRT_POISON_INDEX.RUNS,
   PRT_POISON_INDEX.OVERFLOW, PRT_META.MIRROR_USED, PRT_META.MAP_REDERIVED, PRT_META.BOTH_LOST,
   PRT_SRAM.CORRECTED, PRT_SRAM.FETCH_TRAPS, PRT_SRAM.DATA_TRAPS, PRT_SRAM.DMA_HALTS,
   PRT_SCRUB.CURSOR, PRT_SCRUB.PASSES, PRT_SCRUB.LAST_PASS_S, PRT_ERR.CORRECTED,
   PRT_ERR.HIGH, PRT_ERR.FAILED, PRT_ERR.REBUILT, PRT_ERR.LOST,
   PRT_ERR.RETIRED]

/-- The fields of block SPR, in the order of its table. -/
def fieldsOfSPR : List Field :=
  [SPR_POOL.POOL_PCT, SPR_POOL.TILE_PCT, SPR_POOL.OP_PCT, SPR_POOL.DIE_PCT,
   SPR_POOL.LEVEL, SPR_POOL.LIFE_USED, SPR_WEAR.MILLI_PCT, SPR_DIE_CFG.FAIL_UE,
   SPR_DIE_CFG.FAIL_TILES, SPR_SPARES.ENGINE_FREE, SPR_SPARES.SUBBANK_ISOLATED, SPR_SPARES.PHASE_USED,
   SPR_SPARES.PHASE_SHORT, SPR_SPARES.SENSORS_BROKEN, SPR_CHAN.STATE, SPR_CHAN.SPARE_FREE,
   SPR_CHAN.MEMBER, SPR_CHAN.LEFT, SPR_CHAN.CAUSE, SPR_REBUILD.START_MIN,
   SPR_REBUILD.DURATION_S, SPR_HIST.MIN]

/-- The fields of block SEC, in the order of its table. -/
def fieldsOfSEC : List Field :=
  [SEC_CAPS.SLOTS, SEC_CAPS.RANGES, SEC_CAPS.TREE_LEVELS, SEC_CAPS.TREE_ARITY,
   SEC_STATUS.HALT, SEC_STATUS.HALT_CAUSE, SEC_STATUS.SCAN, SEC_STATUS.SCAN_COUNT,
   SEC_STATUS.UDS_CLOSED, SEC_STATUS.DRBG_FAIL, SEC_HALT_LOC.CHANNEL, SEC_HALT_LOC.MEMBER,
   SEC_HALT_LOC.FRAME, SEC_HALT_LOC.PAGE, SEC_HALT_LOC.LEVEL, SEC_SLOTS.ACTIVE,
   SEC_SLOTS.ERASING, SEC_SWEEP.RUNNING, SEC_SWEEP.OLD_SLOT, SEC_SWEEP.NEW_SLOT,
   SEC_SWEEP.LEFT, SEC_FW.SLOT, SEC_FW.SVN_FUSED, SEC_FW.KEY_REVOKED,
   SEC_FW.SVN_RUNNING, SEC_DEBUG_REFUSED.COUNT, SEC_VERIFY.PAGES, SEC_VERIFY.ROOT_WRITES,
   SEC_RANGE.BASE, SEC_RANGE.SIZE, SEC_RANGE.SLOT, SEC_RANGE.ENABLE,
   SEC_RANGE.SWEEPING, SEC_SLOT.STATE, SEC_SLOT.OWNER, SEC_SLOT.SHARED,
   SEC_SLOT.GENERATED]

/-- The fields of block POUR, in the order of its table. -/
def fieldsOfPOUR : List Field :=
  [POUR_CAPS.SUBBANKS, POUR_CAPS.RATED_UF, POUR_CAPS.EOL_UF, POUR_CAPS.CHARGE_MV,
   POUR_CFG.MEAS_INTERVAL_MIN, POUR_CFG.STRAP_DEFAULT, POUR_ENERGY.EST_MJ, POUR_ENERGY.BUDGET_GIB,
   POUR_ENERGY.STRAP_CAP, POUR_ENERGY.BUS_MV, POUR_THRESH.T8_MJ, POUR_THRESH.T6_MJ,
   POUR_THRESH.T4_MJ, POUR_THRESH.T2_MJ, POUR_STATUS.STEP, POUR_STATUS.CAUSE,
   POUR_STATUS.RESERVE_SHORT, POUR_STATUS.LAST_STATE, POUR_STATUS.COUNT, POUR_LAST.DURATION_US,
   POUR_LAST.END_MJ, POUR_LAST.QUIRES, POUR_LAST.DIRTY_BLOCKS, POUR_COMPARATOR.TRIPS,
   POUR_SUBBANK.CAP_UF, POUR_SUBBANK.MEASURED_MIN, POUR_SUBBANK.ISOLATED, POUR_SUBBANK.MEASURING,
   POUR_SUBBANK.CAUSE]

/-- The fields of block BLK, in the order of its table. -/
def fieldsOfBLK : List Field :=
  [BLK_CAPS.SLOTS, BLK_CAPS.RUNNING, BLK_CFG.WRITE_SHARE, BLK_QUEUE.QUEUED,
   BLK_QUEUE.RUNNING, BLK_QUEUE.NEXT_HANDLE, BLK_STAT.QUIRES, BLK_OP.HANDLE,
   BLK_OP.OP, BLK_OP.STATE, BLK_OP.RESULT, BLK_OP.ORIGIN,
   BLK_OP.DONE, BLK_OP.TOTAL, BLK_OP.WHERE]

/-- The fields of block STR, in the order of its table. -/
def fieldsOfSTR : List Field :=
  [STR_CFG.WIDTH, STR_CFG.REFIN, STR_CFG.REFOUT, STR_CFG.INVERT,
   STR_CFG.COMPARE_EN, STR_CFG.BUSY, STR_CFG.DONE, STR_CFG.MISMATCH,
   STR_CFG.COLLISION, STR_POLY.POLY, STR_INIT.INIT, STR_CTX.CTX,
   STR_EXPECT.EXPECT, STR_DATA.DATA, STR_TAIL.TAIL, STR_CMD.START,
   STR_CMD.FINAL, STR_CMD.TAIL, STR_CMD.TAIL_BYTES, STR_RESULT.RESULT,
   STR_SUMMARY.MISMATCH]

/-- The fields of block CQ, in the order of its table. -/
def fieldsOfCQ : List Field :=
  [CQ_CAPS.DEPTH, CQ_CAPS.INPUTS, CQ_CAPS.MAX_PAYLOAD, CQ_CMD.OCC,
   CQ_CMD.PACKETS, CQ_CMD.FULL, CQ_CMD.EMPTY, CQ_CMD.BUSY,
   CQ_CMD.DROPPING, CQ_RPL.OCC, CQ_RPL.PACKETS, CQ_RPL.FULL,
   CQ_RPL.EMPTY, CQ_RPL.READY, CQ_WM.HIGH, CQ_WM.LOW,
   CQ_RR.NEXT, CQ_STAT_LEAVES.COUNT, CQ_STAT_ERR.BAD_CRC, CQ_STAT_ERR.LENGTH,
   CQ_STAT_ERR.DROPS, CQ_STAT_ERR.REPLY_DISCARDED, CQ_STAT_OWN.OWNED, CQ_STAT_OWN.SUPERSEDED,
   CQ_LAST.OPCODE, CQ_LAST.STATUS, CQ_LAST.INPUT, CQ_LAST.TAG,
   CQ_INPUT.LEAVES, CQ_INPUT.BUSY_REFUSED]

/-- The fields of block PWR, in the order of its table. -/
def fieldsOfPWR : List Field :=
  [PWR_CAPS.RAILS, PWR_CAPS.DWELL_US, PWR_CAPS.SCAN_US, PWR_STATUS.STEP,
   PWR_STATUS.DOWN, PWR_STATUS.AON_FROM_BUS, PWR_STATUS.LOAD_LIMITED, PWR_STATUS.FLAGGED,
   PWR_INPUT.MW, PWR_INPUT.PEAK_MW, PWR_BUDGET.STACK_CAP, PWR_BUDGET.LIMIT_W,
   PWR_BUDGET.ACT_W, PWR_BUDGET.RELEASE_W, PWR_RAIL.MV, PWR_RAIL.STATE,
   PWR_RAIL.NOMINAL_MV, PWR_RAIL_CNT.UV, PWR_RAIL_CNT.OV, PWR_RAIL_CNT.START_FAIL,
   PWR_SNAP.NEWEST, PWR_SNAP.WRAPPED, PWR_SNAP.SEL, PWR_SNAP_DATA.DATA]

/-- The fields of block THM, in the order of its table. -/
def fieldsOfTHM : List Field :=
  [THM_CAPS.ZORSA, THM_CAPS.VYEN, THM_CAPS.PKG, THM_CAPS.AUX,
   THM_CFG.PROFILE, THM_CFG.FAST_MARGIN, THM_CFG.HYST, THM_CFG.CONFIRM,
   THM_STATUS.TRIP, THM_STATUS.TRIP_CLASS, THM_STATUS.FAN_LEVEL, THM_STATUS.ZORSA_LEVEL,
   THM_STATUS.WARNING, THM_STATUS.THROTTLE, THM_ZORSA.TEMP, THM_ZORSA.BROKEN,
   THM_ZORSA.FAST, THM_PKG.TEMP, THM_PKG.BROKEN, THM_PKG.FAST,
   THM_PKG.LEVEL, THM_AUX.TEMP, THM_AUX.BROKEN, THM_AUX.FAST,
   THM_AUX.LEVEL, THM_STACK.HOT, THM_STACK.LEVEL, THM_STACK.BROKEN,
   THM_STACK.LIMIT, THM_STACK.RETIRED, THM_LIMIT.WARN, THM_LIMIT.THROTTLE,
   THM_LIMIT.SHUTDOWN, THM_COUNT.BROKEN, THM_COUNT.TRIPS]

/-- The fields of block ENG, in the order of its table. -/
def fieldsOfENG : List Field :=
  [ENG_CAPS.ENGINES, ENG_CAPS.DMA_CHANNELS, ENG_CAPS.ISRAM_KIB, ENG_CAPS.DSRAM_KIB,
   ENG_CAPS.WD_MS, ENG_CFG.FAULT_LIMIT, ENG_STATE.STATE, ENG_STATE.CAUSE,
   ENG_STATE.ROLE, ENG_STATE.ABSORBED, ENG_STATE.DMA_HALTED, ENG_STATE.FAULTS_24H,
   ENG_FAULT.PC, ENG_FAULT.ADDR, ENG_COUNT.RESETS, ENG_COUNT.TRAPS,
   ENG_COUNT.WD_EXPIRED, ENG_COUNT.DMA_HALTS]

/-- The fields of block TLY, in the order of its table. -/
def fieldsOfTLY : List Field :=
  [TLY_CAPS.FIXED, TLY_CAPS.ENGINE, TLY_CAPS.SIGNAL, TLY_CAPS.RECORDS,
   TLY_TIME.CYCLES, TLY_LATCH.SEQ, TLY_SAMPLE_CFG.MODE, TLY_SAMPLE_CFG.WRAP,
   TLY_SAMPLE_CFG.EVENT, TLY_SAMPLE_PERIOD.EVENTS, TLY_SAMPLE_THRESH.RECORDS, TLY_SAMPLE_WR.INDEX,
   TLY_SAMPLE_RD.INDEX, TLY_SAMPLE_STAT.UNREAD, TLY_SAMPLE_STAT.LOST, TLY_SKID.VALID,
   TLY_SKID.EVENT, TLY_SKID.MISSED, TLY_SKID.ADDR, TLY_OVF_FIXED.BITS,
   TLY_OVF_ENG.BITS, TLY_OVF_SIG.BITS, TLY_FIXED.COUNT, TLY_FIXED_SNAP.COUNT,
   TLY_ENG.COUNT, TLY_ENG_SEL.EVENT, TLY_ENG_SEL.ENABLE, TLY_ENG_SNAP.COUNT,
   TLY_SIG.COUNT, TLY_SIG_SEL.SIGNAL, TLY_SIG_SEL.MODE, TLY_SIG_SNAP.COUNT]

/-- The fields of block REAM, in the order of its table. -/
def fieldsOfREAM : List Field :=
  [REAM_CAPS.LOG_KIB, REAM_CAPS.MIRROR_RECORDS, REAM_CAPS.MAX_RECORD, REAM_CFG.DEBUG_EN,
   REAM_CFG.RATE, REAM_SEQ_NEWEST.SEQ, REAM_SEQ_OLDEST.SEQ, REAM_DROP.DROPPED,
   REAM_DROP.SUPPRESSED, REAM_MIRROR.RECORDS, REAM_MIRROR.REPLACED, REAM_CURSOR.SEQ,
   REAM_MARK.SEQ, REAM_GAP.GAP, REAM_GAP.LOST, REAM_WIN.BYTES,
   REAM_WIN.RECORDS, REAM_CMD.LOAD, REAM_CMD.REWIND, REAM_CMD.MARK,
   REAM_WALL.MS]

/-- The fields of block QST, in the order of its table. -/
def fieldsOfQST : List Field :=
  [QST_CAPS.PAGES, QST_CAPS.PAGE_BYTES, QST_CAPS.RATED_WRITES, QST_STATUS.PLANES_BUSY,
   QST_STATUS.LOCKOUT, QST_WRITES.PAGES, QST_WRITES.SLOTS, QST_WEAR.MAX,
   QST_WEAR.PAGE, QST_TORN.PAGES, QST_TORN.SLOTS, QST_TORN.VERIFY_FAIL,
   QST_PW.FAILS, QST_RING.NEWEST, QST_RING.SERIAL]

/-- The fields of block BST, in the order of its table. -/
def fieldsOfBST : List Field :=
  [BST_CAPS.SLICES, BST_CAPS.COLD_BUDGET_MS, BST_RUN.HANDLE, BST_RUN.STATE,
   BST_RUN.SLICE, BST_RUN.TRIGGER, BST_MASK.REQUESTED, BST_FAILED.MASK,
   BST_ANALOG.LAST_MIN, BST_ANALOG.VALID, BST_SLICE.VERDICT, BST_SLICE.COVERAGE,
   BST_SLICE.UNITS, BST_SLICE.BUDGET_MS, BST_SLICE.DURATION_US, BST_SLICE.END_MIN]

/-- The fields of block PIN, in the order of its table. -/
def fieldsOfPIN : List Field :=
  [PIN_LEVEL.PERST, PIN_LEVEL.PERST1, PIN_LEVEL.PWRDIS, PIN_LEVEL.DUALPORTEN,
   PIN_LEVEL.ALERT, PIN_LEVEL.FLOW_HI, PIN_LEVEL.REPLY_RDY, PIN_LEVEL.P12V_VALID,
   PIN_LED.GREEN, PIN_LED.AMBER, PIN_LED.BLUE, PIN_LED.LOCATE,
   PIN_LED.ALERT, PIN_PAD.LAST_MS, PIN_PAD.LAST_ACTION, PIN_PAD.TOUCHES,
   PIN_REMOVAL.STATE, PIN_REMOVAL.ORIGIN, PIN_REMOVAL.WAIT_LEFT_S, PIN_CFG.REMOVAL_WAIT_S,
   PIN_CFG.PAD_EN, PIN_CFG.ACTIVITY_EN, PIN_COUNT.REMOVALS, PIN_COUNT.EARLY_PULLS,
   PIN_COUNT.STRAP_FALLBACKS, PIN_STRAP.MV, PIN_STRAP.CODE, PIN_STRAP.FALLBACK]

/-- The fields of a block. -/
def fieldsOf : Block → List Field
  | .ID => fieldsOfID
  | .MOD => fieldsOfMOD
  | .LNK => fieldsOfLNK
  | .LOT => fieldsOfLOT
  | .CDY => fieldsOfCDY
  | .DMC => fieldsOfDMC
  | .MAP => fieldsOfMAP
  | .MED => fieldsOfMED
  | .PRT => fieldsOfPRT
  | .SPR => fieldsOfSPR
  | .SEC => fieldsOfSEC
  | .POUR => fieldsOfPOUR
  | .BLK => fieldsOfBLK
  | .STR => fieldsOfSTR
  | .CQ => fieldsOfCQ
  | .PWR => fieldsOfPWR
  | .THM => fieldsOfTHM
  | .ENG => fieldsOfENG
  | .TLY => fieldsOfTLY
  | .REAM => fieldsOfREAM
  | .QST => fieldsOfQST
  | .BST => fieldsOfBST
  | .PIN => fieldsOfPIN

/-- Every field of every register table. -/
def allFields : List Field :=
  fieldsOfID ++ fieldsOfMOD ++ fieldsOfLNK ++ fieldsOfLOT ++ fieldsOfCDY ++ fieldsOfDMC ++ fieldsOfMAP ++ fieldsOfMED ++ fieldsOfPRT ++ fieldsOfSPR ++ fieldsOfSEC ++ fieldsOfPOUR ++ fieldsOfBLK ++ fieldsOfSTR ++ fieldsOfCQ ++ fieldsOfPWR ++ fieldsOfTHM ++ fieldsOfENG ++ fieldsOfTLY ++ fieldsOfREAM ++ fieldsOfQST ++ fieldsOfBST ++ fieldsOfPIN

end Sys2Proof.Machine
end

