-- ==== Sys2Proof/Machine/Tab.lean ====
section
/-! DEFINITION. Sparse tables: a list of key and value pairs, keys strictly rising, in which a key that is not listed
holds the table's default. Every addressed store of the module (register arrays, the quire store, the label storage
area, map entries, segments, ways) is one of these. -/

namespace Sys2Proof.Machine

/-- A sparse table. The default of an unlisted key is an argument of the operations, never stored. -/
abbrev Tab (α : Type) := List (Nat × α)

/-- The listed value of a key. -/
def Tab.find? {α : Type} : Tab α → Nat → Option α
  | [], _ => none
  | (k, v) :: t, n => if k = n then some v else Tab.find? t n

/-- The value of a key, `d` where it is not listed. -/
def Tab.get {α : Type} (t : Tab α) (d : α) (n : Nat) : α := (t.find? n).getD d

/-- Remove a key. -/
def Tab.del {α : Type} : Tab α → Nat → Tab α
  | [], _ => []
  | (k, v) :: t, n => if k = n then Tab.del t n else (k, v) :: Tab.del t n

/-- List a key with a value, in key order, replacing what it held. -/
def Tab.ins {α : Type} : Tab α → Nat → α → Tab α
  | [], n, v => [(n, v)]
  | (k, w) :: t, n, v =>
    if n < k then (n, v) :: (k, w) :: t
    else if k = n then (n, v) :: t
    else (k, w) :: Tab.ins t n v

/-- Give a key a value; a key given its default is not listed, so that equal tables are equal data. -/
def Tab.put {α : Type} [DecidableEq α] (t : Tab α) (d : α) (n : Nat) (v : α) : Tab α :=
  if v = d then t.del n else t.ins n v

/-- Keys strictly rising, every one above `lo`. -/
def Tab.rising {α : Type} : Option Nat → Tab α → Bool
  | _, [] => true
  | lo, (k, _) :: t => (match lo with | none => true | some l => l < k) && Tab.rising (some k) t

/-- The canonical form of a table whose keys all have the default `d`: keys strictly rising, no default listed. -/
def Tab.wf {α : Type} [DecidableEq α] (d : α) (t : Tab α) : Bool :=
  Tab.rising none t && t.all (fun p => p.2 ≠ d)

/-- A value for each of the two dies, or each of the two heads. -/
structure Two (α : Type) where
  zero : α
  one : α
deriving DecidableEq, Repr

/-- The value of die or head n: 0 is the first, every other number the second. -/
def Two.get {α : Type} (p : Two α) (n : Nat) : α := if n = 0 then p.zero else p.one

/-- Change the value of die or head n. -/
def Two.modify {α : Type} (p : Two α) (n : Nat) (f : α → α) : Two α :=
  if n = 0 then { p with zero := f p.zero } else { p with one := f p.one }

end Sys2Proof.Machine
end

