-- ==== Sys2Proof/Machine/State.lean ====
section
/-! DEFINITION. The module's state as plain data. Every register field of the spec's tables is held in `regs` (one
table over all fields, `Fields.lean`), except those that show state held under a name of its own here, which a read
computes (`Ops.lean`, `State.view`). INVENTORY.md lists every piece with the rule that names it. -/

namespace Sys2Proof.Machine

/-- Why a step stops: for no reason. The spec gives every command of its table an effect, whatever its operands and in every state, so
there is no fault. -/
inductive Fault
deriving DecidableEq, Repr

/-- Why a command has no meaning in the model. -/
inductive Refusal where
  /-- Raised by `exec` for a command not modelled yet. Safe. -/
  | notModelled (mnemonic : String)
deriving DecidableEq, Repr

/-- The modes of R412. -/
inductive Mode where
  | m0 | m1 | m2 | m3 | m4 | m5 | m6 | m7 | m8 | m9 | m10 | m11
deriving DecidableEq, Repr

/-- The number that MOD_STATUS.MODE and LNK_MODE.MODE show (R412). -/
def Mode.num : Mode → Nat
  | .m0 => 0 | .m1 => 1 | .m2 => 2 | .m3 => 3 | .m4 => 4 | .m5 => 5
  | .m6 => 6 | .m7 => 7 | .m8 => 8 | .m9 => 9 | .m10 => 10 | .m11 => 11

/-! ## Event records (R106) -/

/-- What a Memory Module, General Media or DRAM event record reports (R76, R106). -/
inductive EvCause where
  | flagSet (flag : Nat) | flagClear (flag : Nat) | linkNarrow | halt | trip | channelLost | dataLost | unitFailed
  | unitWithdrawn | packageLost | pourRecord | coldAfterHalt | sparePool | removalPending | removalCancelled
  | safeToRemove | ideChange | rebuildDone | verifyDone | unitReturned | shutdownWarn | other (n : Nat)
deriving DecidableEq, Repr

/-- The record types of R106. -/
inductive EvType where
  | generalMedia | dram | memoryModule
deriving DecidableEq, Repr

/-- An event record: handle, type, cause, the values the owning rule names (R267), operating time. -/
structure EvRec where
  handle : Nat
  type : EvType
  cause : EvCause
  values : List Nat
  ms : Nat
deriving DecidableEq, Repr

/-- One event log (R106): records oldest first, next handle, overflow flag, count and timestamps. -/
structure EvLog where
  recs : List EvRec
  next : Nat
  overflow : Bool
  lost : Nat
  firstMs : Nat
  lastMs : Nat
deriving DecidableEq, Repr

/-! ## What the module sends -/

/-- The body of a reply: bytes where the spec lays the reply out, numbers in the order the spec names them where the
layout is a standard's that the spec only cites (log entry 10). -/
inductive Body where
  | bytes (b : List (BitVec 8))
  | values (v : List Nat)
  | events (l : EvLog)
deriving DecidableEq, Repr

/-- A reply leaf (R384, R389). -/
structure LeafReply where
  transport : Nat
  opcode : Nat
  flags : BitVec 8
  tag : BitVec 16
  status : Nat
  payload : List (BitVec 8)
  crc : BitVec 32
deriving DecidableEq, Repr

/-- A message that leaves the module. A CXL.mem response of a line without data is a poisoned one; every CXL.mem
response carries the MetaField value that indicates no meta state (R48). -/
inductive Out where
  | memData (head : Nat) (tag : BitVec 16) (data : Option (BitVec 512))
  | memDone (head : Nat) (tag : BitVec 16)
  | msix (head vector : Nat)
  | mailbox (head : Nat) (secondary : Bool) (opcode rc : Nat) (body : Body)
  | fabric (opcode rc : Nat) (body : Body)
  | leaf (r : LeafReply)
  | notify (bitmap : BitVec 640)
  | doe (head inst : Nat) (body : Body)
  | spdm (transport : Nat) (body : Body)
  | bar2 (head offset size value : Nat)
  | nack
  | gpfDone (head : Nat)
  | tap (die : Nat) (bits : Nat)
deriving DecidableEq, Repr

/-! ## The link (R82 to R111) -/

/-- One HDM decoder of a head (R91): bases and sizes in bytes, granularity in bytes. -/
structure Decoder where
  base : Nat
  size : Nat
  ways : Nat
  gran : Nat
  skip : Nat
  lock : Bool
  committed : Bool
  error : Bool
deriving DecidableEq, Repr

/-- A decoder as a reset leaves it. -/
def Decoder.idle : Decoder := ⟨0, 0, 1, 256, 0, false, false, false⟩

/-- An empty event log. -/
def EvLog.empty : EvLog := ⟨[], 1, false, 0, 0, 0⟩

/-- The background command of a mailbox (R98): opcode, whether it runs, its percentage and its return code. -/
structure Background where
  opcode : Nat
  running : Bool
  percent : Nat
  rc : Nat
deriving DecidableEq, Repr

/-- One head (R88): its clock, power states (D3hot, and L1 of its link), decoders, the IDE streams (keys taken, containment instead of
skid mode for CXL.mem, and for each stream the insecure state that a failed check leaves), events, interrupts, mailboxes (whether the
host asks for the interrupts of a doorbell and of a background command) and the DOE instances that have discarded an object and answer
with DOE Error until an Abort (R93). The negotiated width, rate and indications are LNK_STATUS of the head's die. -/
structure Head where
  clock : Bool
  d3hot : Bool
  l1 : Bool
  linkUp : Bool
  decoders : List Decoder
  cdatSeq : Nat
  ideKeysIo : Nat
  ideKeysMem : Nat
  ideContain : Bool
  ideInsecureIo : Bool
  ideInsecureMem : Bool
  doeError : Two Bool
  info : EvLog
  warn : EvLog
  fail : EvLog
  fatal : EvLog
  policy : List Nat
  alerts : List Nat
  msixMasked : BitVec 32
  msixPending : BitVec 32
  dbInt : Two Bool
  bgInt : Two Bool
  background : Two Background
  aggCount : List Nat
  shutdownState : Nat
deriving DecidableEq, Repr

/-- A head as a cold start leaves it: nothing committed, every MSI-X vector masked, logs empty. -/
def Head.reset : Head :=
  { clock := false, d3hot := false, l1 := false, linkUp := false, decoders := List.replicate 4 Decoder.idle, cdatSeq := 0,
    ideKeysIo := 0, ideKeysMem := 0, ideContain := false, ideInsecureIo := false, ideInsecureMem := false, doeError := ⟨false, false⟩,
    info := EvLog.empty, warn := EvLog.empty, fail := EvLog.empty, fatal := EvLog.empty,
    policy := [0, 0, 0, 0], alerts := [], msixMasked := BitVec.allOnes 32, msixPending := 0,
    dbInt := ⟨false, false⟩, bgInt := ⟨false, false⟩, background := ⟨⟨0, false, 0, 0⟩, ⟨0, false, 0, 0⟩⟩,
    aggCount := List.replicate 24 0, shutdownState := 0 }

/-! ## The Ream and the quire store (R491 to R511) -/

/-- A Ream record (R491). Its length and CRC are computed from these fields. -/
structure ReamRec where
  seq : Nat
  severity : Nat
  cls : Nat
  ms : Nat
  wall : Option Nat
  rate : Bool
  truncated : Bool
  origin : Nat
  cycles : Nat
  payload : List Nat
deriving DecidableEq, Repr

/-- The Ream: the log in LPDDR5X oldest first, the highest SEQ programmed to media, the critical mirror, the
supervisor buffer of R499, the wall clock (value, operating time of the set), the per-second counts of R494, the
window of R501 and the mirror cursors and marks of R502. -/
structure Ream where
  log : List ReamRec
  programmed : Nat
  mirror : List ReamRec
  buffer : List ReamRec
  haltRec : Option ReamRec
  nextSeq : Nat
  wall : Option (Nat × Nat)
  accepted : Tab Nat
  suppressed : Tab (Nat × Nat)
  window : List (BitVec 8)
  mirrorCursor : Two Nat
  mirrorMark : Two Nat
deriving DecidableEq, Repr

/-- A leaf's page write that is queued or running in the quire store (R505). -/
structure QstWrite where
  page : Nat
  offset : Nat
  data : List (BitVec 8)
  transport : Nat
  tag : BitVec 16
  nocrc : Bool
deriving DecidableEq, Repr

/-- The quire store: bytes by page·256 + offset as they differ from the page as shipped (zero outside the vendor zone, R504), per-page
serial and write counts, writes waiting on the planes, zone passwords (R509; none for the one that Weazoir holds). -/
structure Qst where
  bytes : Tab (BitVec 8)
  serials : Tab Nat
  writes : Tab Nat
  queue : List QstWrite
  readPw : List (Option Nat)
  writePw : List (Option Nat)
deriving DecidableEq, Repr

/-! ## The Caddy (R201 to R221) -/

/-- The lines of one quire in a way or a staging entry: VALID, POISON and PARTIAL (R202), the lines' bytes (the poison
source in byte 0 of a poisoned line) and the byte masks of the partial-line table (R207). -/
structure Block16 where
  valid : BitVec 16
  poison : BitVec 16
  part : BitVec 16
  lines : Tab (BitVec 512)
  masks : Tab (BitVec 64)
deriving DecidableEq, Repr

/-- A block with no line. -/
def Block16.empty : Block16 := ⟨0, 0, 0, [], []⟩

/-- A present way (R202). A way that is not listed has PRESENT clear. -/
structure Way where
  tag : Nat
  quire : Nat
  dirty : Bool
  age : Nat
  blk : Block16
deriving DecidableEq, Repr

/-- An entry of a Line Order Table (R185): its place in the table, LINE, HEAD, TAG, OP (0 read, 1 full write, 2 partial write),
STATE, PRED, POISON, DEADLINE, and the data buffer with its byte enables. A read keeps there the written bytes of a PARTIAL line
as they stood at admission (R187, R204). -/
structure LotEntry where
  index : Nat
  line : Nat
  head : Nat
  tag : BitVec 16
  op : Nat
  state : Nat
  pred : Nat
  poison : Bool
  deadline : BitVec 16
  data : BitVec 512
  be : BitVec 64
deriving DecidableEq, Repr

/-- A staging entry (R211): its quire, its lines, whether it waits for the media of a deferred merge, whether it is in
a stripe, and the entries of the Write-through writes that wait for it (R216). -/
structure Staged where
  id : Nat
  quire : Nat
  blk : Block16
  merging : Bool
  inStripe : Bool
  wt : Bool
  waiters : List LotEntry
deriving DecidableEq, Repr

/-! ## Requests in flight (R185 to R197) -/

/-- What a media read was planned for. -/
inductive Purpose where
  | host | background
deriving DecidableEq, Repr

/-- One sheet as its frame holds it: four lines, the POISON and HOST_POISON masks of R254. -/
structure Sheet where
  l0 : BitVec 512
  l1 : BitVec 512
  l2 : BitVec 512
  l3 : BitVec 512
  poison : BitVec 4
  host : BitVec 4
deriving DecidableEq, Repr

/-- A READ as the Kettle issues it (R129, R142, R192): the media die, the frame address and the three signed reference offsets. -/
structure ReadCmd where
  die : Nat
  frame : Nat
  ref1 : Int
  ref2 : Int
  ref3 : Int
deriving DecidableEq, Repr

/-- A frame read at stage 5 (R191): where it reads, the write sequence of the stripe there, how, whether the Kettle found a direct
read too late for the deadline, whether the read is issued or still waits for a slot of its channel (R188), the READs it issues, what
the frame holds, and the LOT entries of the reads that wait on it. -/
structure Plan where
  id : Nat
  quire : Nat
  sheet : Nat
  segment : Nat
  stripe : Nat
  half : Nat
  seq : Nat
  around : Bool
  late : Bool
  issued : Bool
  purpose : Purpose
  reads : List ReadCmd
  frame : Sheet
  readers : List LotEntry
deriving DecidableEq, Repr

/-- The credits that a head's host holds unused (R188, R210). -/
structure Credit where
  rd : Nat
  wr : Nat
deriving DecidableEq, Repr

/-- A set-associative cache of metadata lines on a die (R153, R203): by set, the lines it holds with their dirty marks, the line
used last first. -/
abbrev Cache := Tab (List (Nat × Bool))

/-! ## The map and the media (R121 to R183) -/

/-- Segment states (R157), codes 0 to 8. -/
inductive SegState where
  | dirty | steeping | free | opened | closed | victim | pending | reserve | retired
deriving DecidableEq, Repr

/-- A segment-table entry (R156). `fresh` says that the segment has been steeped since the last cold start, so that the off-time
estimates no longer count towards its age (R144). -/
structure Seg where
  gen : Nat
  state : SegState
  hotBand : Nat
  due : Bool
  live : Nat
  filled : Nat
  stream : Nat
  epoch : Nat
  fresh : Bool
deriving DecidableEq, Repr

/-- A segment that nothing has changed since shipment: FREE at generation 1 (log entry 3). -/
def Seg.shipped : Seg := ⟨1, .free, 0, false, 0, 0, 0, 0, false⟩

/-- Why a half is in a stripe: what its completion applies (R160). -/
inductive HalfKind where
  /-- An evicted staging entry. -/
  | evict (staged : Nat)
  /-- A copy made by a pulp or sizing pass, the scrubber, a rebuild or a recovery; it applies only while the entry
  still names the place it was read from. -/
  | copy (fromEntry : BitVec 32)
  /-- A copy with lost sheets (R264): the transaction type of the loss, sheet and member of each frame lost; as
  `copy`, and its completion reports the loss. -/
  | loss (fromEntry : BitVec 32) (tx : Nat) (frames : List (Nat × Nat))
  /-- A copy whose change is abandoned (R264 step 3). -/
  | void
deriving DecidableEq, Repr

/-- One half of a stripe: a quire, its four sheets and what completion does with it. -/
structure Half where
  quire : Nat
  kind : HalfKind
  s0 : Sheet
  s1 : Sheet
  s2 : Sheet
  s3 : Sheet
deriving DecidableEq, Repr

/-- A stripe being assembled, queued, in program or on media. A half that is none is a pad (R159); `absent` is the member
without a serving die when it was issued (R282); `bands` are the bands of the member dies at its issue, whose waveforms its
PROGRAMs have (R139). -/
structure Stripe where
  channel : Nat
  stream : Nat
  segment : Nat
  index : Nat
  seq : Nat
  wt : Bool
  absent : Option Nat
  bands : List Nat
  h0 : Option Half
  h1 : Option Half
deriving DecidableEq, Repr

/-- A steep that waits or runs: a whole segment, or the spare's tile of a short segment alone (R283); the media dies whose tiles it
steeps with their bands at its issue (R139), and whether a pulp pass freed the segment (R180). -/
structure Steep where
  channel : Nat
  segment : Nat
  member : Option Nat
  dies : List (Nat × Nat)
  pulp : Bool
deriving DecidableEq, Repr

/-- A tile of one die: whether it has ever been steeped, write pointer (R124), PROG_FAILs, failed and high-correction frames since
its steep (R128, R265). -/
structure Tile where
  steeped : Bool
  wptr : Nat
  progFail : Nat
  failed : Nat
  high : Nat
deriving DecidableEq, Repr

/-- A tile that has been steeped and not programmed. -/
def Tile.fresh : Tile := ⟨true, 0, 0, 0, 0⟩

/-- A tile of a die as shipped: steeped on the members, never steeped on the channel's spare (R23; log entry 3). -/
def Tile.shipped (n : Nat) : Tile := if n % 10 = 9 then { Tile.fresh with steeped := false } else Tile.fresh

/-- What a journal record says (R173), with the values of its payload. -/
inductive JBody where
  | segOpen (segment stream gen : Nat)
  | segClose (segment filled summary : Nat)
  | pendingSteep (segment gen : Nat)
  | steeped (segment gen : Nat)
  | retired (segment : Nat)
  | zero (first count seq : Nat)
  | ckptBegin (round area fence : Nat)
  | openSet (segments : List Nat)
  | ckptEnd (round area : Nat)
  | dieRole (die role member : Nat)
  | reserve (segment use : Nat)
  | poison (first count seq : Nat)
deriving DecidableEq, Repr

/-- The summary block of a closed segment (R161): its place in the die's ring, generation, FILLED, and for each stripe its write
sequence and its halves as quire and poisoned mark. -/
structure Summary where
  address : Nat
  gen : Nat
  filled : Nat
  entries : List (Nat × Option (Nat × Bool) × Option (Nat × Bool))
deriving DecidableEq, Repr

/-- A segment of the media reserve (R157, R173): its channel and index, the use it holds (0 checkpoint, 1 journal, 2 tables,
3 firmware and label storage, 4 Ream), the round in which it was opened, and whether it is still being filled. -/
structure ResSeg where
  channel : Nat
  segment : Nat
  use : Nat
  round : Nat
  filling : Bool
deriving DecidableEq, Repr

/-- A map change that waits behind the stripe of its quire that is in flight (R154, R169): the entry, and the write sequence of the
record that made it. -/
structure HeldChange where
  entry : BitVec 32
  seq : Nat
deriving DecidableEq, Repr

/-- A journal record: die, its journal sequence, channel (255 for none), body. -/
structure JRec where
  die : Nat
  jseq : Nat
  channel : Nat
  body : JBody
deriving DecidableEq, Repr

/-- A set of quires that took one entry together, at the end of a walk or by a record that Rebuild replays: quires lo … hi − 1 of the
channels named (R102, R163, R173). -/
structure Span where
  chans : BitVec 32
  lo : Nat
  hi : Nat
  entry : BitVec 32
deriving DecidableEq, Repr

/-- A checkpoint round (R172): number, area, each channel's fence and OPEN segments, the byte of each die's ring at which it began
(R174), the map pages and the segment tables as last written (R176), the round counter table (R341), and whether its pages are all programmed. -/
structure Round where
  num : Nat
  area : Nat
  fences : List Nat
  opened : List (Nat × Nat)
  ringAt : Two Nat
  map : Tab (BitVec 32)
  unlisted : List Span
  segs : Tab Seg
  ctrs : Two (Tab Nat)
  done : Bool
deriving DecidableEq, Repr

/-- A run of poisoned lines (R268): first line number (DPA / 64), length, External. -/
structure Run where
  first : Nat
  len : Nat
  host : Bool
deriving DecidableEq, Repr

/-- The poison index (R101, R268): runs in ascending order, overflow flag and time, omission span, ranges scanned since
the flag was set. -/
structure PoisonIndex where
  runs : List Run
  overflow : Bool
  overflowMs : Nat
  omitted : Option (Nat × Nat)
  scanned : List (Nat × Nat)
deriving DecidableEq, Repr

/-- An index without a run. -/
def PoisonIndex.empty : PoisonIndex := ⟨[], false, 0, none, []⟩

/-- What a walk over the map does to each quire it reaches. -/
inductive WalkKind where
  /-- Sanitize or Secure Erase (R102): to STATE 0. -/
  | unmap
  /-- A poison walk (R163): to STATE 3, over one die's quires or both. -/
  | poison (die : Option Nat)
  /-- A slot sweep (R349): to STATE 0, from slot `old` to slot `new`; `reason` is the range register that caused it (64·head +
  range), or 128 + the slot of a destroy. -/
  | sweep (old new : Nat) (reason : Nat)
  /-- A ZERO, or a FILL with zeros (R367): to STATE 0, for the bulk operation with this handle. -/
  | zero (handle : Nat)
deriving DecidableEq, Repr

/-- A walk over quires lo … hi − 1, the next one to reach, the quires already reached out of order, and the write sequence of its
journal record on each channel (R163, R173). -/
structure Walk where
  kind : WalkKind
  lo : Nat
  hi : Nat
  next : Nat
  early : List Nat
  seqs : List (Nat × Nat)
deriving DecidableEq, Repr

/-! ## LPDDR5X, dies and hold-up (R223 to R328) -/

/-- What the controller keeps of one package beside its registers: refreshes owed by each rank (key 2·channel + rank; R239), rows
that gave uncorrectable units with the operating minute of each (R249), the operating ms of each uncorrectable unit of the last
second, the drift of each channel in per cent (R246), the training slot of the quire store (temperature, operating minutes; R245),
the operating ms at which the package was lost, the units that carry the poison mark (R228), the group the patrol reads next (R229),
and the row that is being copied, by its remap entry and the number of its units already copied (R247). -/
structure Package where
  debt : Tab Nat
  badRows : List (Nat × Nat)
  burst : List Nat
  drift : List Nat
  slot : Option (Int × Nat)
  lostMs : Nat
  marks : List Nat
  patrol : Nat
  copying : Option (Nat × Nat)
deriving DecidableEq, Repr

/-- A package as shipped. -/
def Package.shipped : Package := ⟨[], [], [], List.replicate 8 0, none, 0, [], 0, none⟩

/-- A request of one 64-byte unit in a port's queue (R227, R230): its port, the package interface of the die, the physical address of
its unit (R225), whether it writes, and the controller cycle in which the port accepted it. -/
structure DramReq where
  port : Nat
  pkg : Nat
  phys : Nat
  write : Bool
  cycle : Nat
deriving DecidableEq, Repr

/-- The LPDDR5X controller of a die (R223 to R234): the requests its ports have accepted, oldest first; the open row of each bank plus
one; the ports in panic; the round robin of each channel (the port in turn, and what is left of its weight); the check units that
each package interface caches with their dirty marks, the one used last first; the ranks with a refresh due and the bank that each
rank refreshes next; the column commands of P2 to P6 on each package in the present µs; and the cycle. -/
structure DramBus where
  queue : List DramReq
  rows : Tab Nat
  panic : BitVec 8
  turn : Tab (Nat × Nat)
  checks : Two (List (Nat × Bool))
  due : List Nat
  bank : Tab Nat
  used : Two Nat
  cycle : Nat
deriving DecidableEq, Repr

/-- A controller that has nothing to do. -/
def DramBus.idle : DramBus := ⟨[], [], 0, [], ⟨[], []⟩, [], [], ⟨0, 0⟩, 0⟩

/-- What the module keeps of one media die to declare it failed (R280): consecutive CMD_CRC reports, consecutive timeouts,
the operating minutes of its failed frames and retired tiles; and of a failed die its cause and the member number it held (15
for the spare; R289 to R291). -/
structure DieHealth where
  crcRun : Nat
  timeoutRun : Nat
  failed : List Nat
  tiles : List Nat
  cause : Nat
  former : Nat
deriving DecidableEq, Repr

/-- A die with no fault on record. -/
def DieHealth.good : DieHealth := ⟨0, 0, [], [], 0, 15⟩

/-- What a channel with a failed, rebuilding or Returning member keeps (R281 to R290): the members whose tiles lag behind the
pool, each with the segments whose tile has been steeped since (any other is short), the segments that hold stripes from before
the swap or the return, the stripes whose Returning frame is verified, and the segments steeped while the channel has been exposed. -/
structure ChanRepair where
  lagging : List (Nat × List Nat)
  old : List Nat
  verified : List Nat
  steeped : List Nat
deriving DecidableEq, Repr

/-- A channel with nothing to repair. -/
def ChanRepair.none : ChanRepair := ⟨[], [], [], []⟩

/-- A dirty list of a Pour (R317): channel, entries of within-channel index and line mask. -/
structure DirtyList where
  channel : Nat
  entries : List (Nat × BitVec 16)
deriving DecidableEq, Repr

/-- A Pour record page (R318); `lists` are the journal-ring addresses of the dies' dirty lists. -/
structure PourRec where
  state : Nat
  cause : Nat
  num : Nat
  ms : Nat
  cycles : Nat
  dirty : Nat
  energy : Nat
  energyEnd : Nat
  durationUs : Nat
  quires : Nat
  lists : Two Nat
deriving DecidableEq, Repr

/-- The Pour (R313 to R324): whether one runs, its cause, the heads that wait for a GPF, its dirty lists and the quires
it has poured, the record, the hold of R320, the modes it came from and goes to, voltages of the sub-banks and of the bank bus in mV, the
sub-bank under measurement and the next one, and those measured since the cold start. -/
structure Pour where
  running : Bool
  gpf : List Nat
  lists : List DirtyList
  listsReadable : Two Bool
  poured : List Nat
  record : Option PourRec
  hold : Bool
  volts : List Nat
  bus : Nat
  next : Nat
  measured : List Nat
  warmAfter : Bool
deriving DecidableEq, Repr

/-! ## Security and bulk operations (R329 to R383) -/

/-- An SPDM secured session (R351): transport (0 and 1 the DOE of heads 0 and 1, 2 MCTP) and number. -/
structure Session where
  transport : Nat
  id : Nat
deriving DecidableEq, Repr

/-- A firmware slot (R354): whether its boot stage and main image verify, version and SVN. -/
structure FwSlot where
  valid : Bool
  version : Nat
  svn : Nat
deriving DecidableEq, Repr

/-- A key-slot destroy in progress (R350) and the leaf reply it owes at step 4: slot, transport, tag, NOCRC, opcode and
the bulk slot it occupies, if it came as ERASE_KEY. -/
structure Destroy where
  slot : Nat
  transport : Nat
  tag : BitVec 16
  nocrc : Bool
  opcode : Nat
  bulk : Option Nat
deriving DecidableEq, Repr

/-- A slot of the root ring (R341): its kind (1 final, 2 round, 3 serving), the round or Pour number, the die's journal head (the
sequence that follows its last record on media), the operating time, and the counters of the root line (none for a round, whose root is
that of its own table). -/
structure RootSlot where
  kind : Nat
  num : Nat
  head : Nat
  ms : Nat
  line : List Nat
deriving DecidableEq, Repr

/-- What the security chapter keeps beside its registers: wrapped seeds and record write counts by slot, the key-store
nonce, the outstanding challenge, SPDM sessions, the firmware slots and a transfer in progress (slot, next offset, length), the
root slots of each die, newest first (R341), the Halt marker with its cause, the scan marker, destroys in
progress, the time of the last debug-refusal record with the refusals since, and a scan entry that waits for a Pour to end. -/
structure Security where
  seeds : Tab Nat
  counts : Tab Nat
  keysLoaded : Bool
  nonce : Nat
  challenge : Option Nat
  sessions : List Session
  nextSession : Nat
  slotA : FwSlot
  slotB : FwSlot
  transfer : Option (Nat × Nat × Nat)
  roots : Two (List RootSlot)
  haltMarker : Bool
  haltCause : Nat
  scanMarker : Bool
  destroys : List Destroy
  debugMs : Nat
  debugSince : Nat
  scanEnabled : Bool
  scanHeld : Bool
deriving DecidableEq, Repr

/-- The states of a bulk operation (BLK_OP.STATE, codes 0 to 4). -/
inductive BulkState where
  | free | queued | running | paused | ended
deriving DecidableEq, Repr

/-- One slot of the bulk table (R365), with the descriptor fields the operation still needs (R362): A and B as quires, bytes 32 to
33, the pattern; `order` is the place in which it was accepted, or ended; `regions` are the quires an ERASE_KEY sweeps. -/
structure BulkOp where
  handle : Nat
  op : Nat
  state : BulkState
  result : Nat
  origin : Nat
  done : Nat
  total : Nat
  whereAt : Nat
  flags : Nat
  a : Nat
  b : Nat
  unit : Nat
  pattern : BitVec 512
  order : Nat
  regions : List (Nat × Nat)
  sent : Bool
deriving DecidableEq, Repr

/-- A bulk slot that holds nothing. -/
def BulkOp.free : BulkOp := ⟨0, 0, .free, 0, 0, 0, 0, 0, 0, 0, 0, 0, 0, 0, [], false⟩

/-! ## Power, temperature, engines, tally, self-test and pins (R425 to R543) -/

/-- The three-sample rule of R451 on one threshold: consecutive samples above it, consecutive samples below T − 3, and
whether it stands crossed. -/
structure Thr where
  up : Nat
  down : Nat
  on : Bool
deriving DecidableEq, Repr

/-- A temperature sensor (R449 to R454): last confirmed value, missed samples in a row, the operating time its value last
changed and what its zone's working sensors read then, whether broken, and its thresholds in the order of `Thermal.thresholds`. -/
structure Sensor where
  value : Int
  missed : Nat
  changedMs : Nat
  zoneThen : List (Nat × Int)
  broken : Bool
  thr : List Thr
deriving DecidableEq, Repr

/-- A sensor before its first sample (log entry 20: 0 °C). -/
def Sensor.initial : Sensor := ⟨0, 0, 0, [], false, []⟩

/-- One slice's result record (R522). -/
structure SliceRec where
  slice : Nat
  verdict : Nat
  faulty : Nat
  us : Nat
  coverage : Nat
  budget : Nat
  first : Nat
  ms : Nat
  cycles : Nat
deriving DecidableEq, Repr

/-- A self-test run (R523): handle, state, requested mask, trigger, the slices still to run, the records of those that
ended. -/
structure TestRun where
  handle : Nat
  state : Nat
  mask : BitVec 64
  trigger : Nat
  left : List Nat
  recs : List SliceRec
deriving DecidableEq, Repr

/-- What the test access port of one die has selected (R525). -/
inductive TapSel where
  | bypass | idcode | boundary | extest | bstStatus | memacc | scan (n : Nat)
deriving DecidableEq, Repr

/-- The platform manager's side (R393, R394): replies it has not read, oldest first; the notification it has not read; sources
asserted since; its event mask; and the dynamic I3C address, if one is assigned. -/
structure Manager where
  unread : List LeafReply
  notice : Option (BitVec 640)
  pending : BitVec 640
  mask : BitVec 640
  address : Option Nat
deriving DecidableEq, Repr

/-- The work a Quiesce waits to carry (R434). -/
inductive QWork where
  | activateLeaf (transport : Nat) (tag : BitVec 16) (nocrc : Bool)
  | activateMailbox (head : Nat)
  | sanitize (head : Nat)
  | secureErase (head : Nat)
  | readmit (package : Nat)
  | removal
deriving DecidableEq, Repr

/-- The background part of a Sanitize or Secure Erase (R102): head, whether it also steeps, segments left to steep. -/
structure Erase where
  head : Nat
  sanitize : Bool
  segments : List Nat
deriving DecidableEq, Repr

/-- A running Scan Media (R266): head, range in quires, next quire, runs found. -/
structure Scan where
  head : Nat
  lo : Nat
  hi : Nat
  next : Nat
  running : Bool
  found : List Run
deriving DecidableEq, Repr

/-! ## The state -/

/-- Power, pins, straps and modes. `due` is the start that a module in M2 is about to run: 0 none, 1 cold, 2 warm. `alert` keeps the
alerts of R536 that no other field shows (bit 1 a spare-pool level, bit 3 a Pour record), `acked` those acknowledged (bit 0 Degraded,
bit 2 Write-through too); `removalMs` is the operating time a removal became pending, `lastMem` that of the last CXL.mem request; `lowering` says that the supervisor is lowering the stack cap (R448). -/
structure Control where
  mode : Mode
  p12 : Bool
  aux : Bool
  retained : Bool
  auxKept : Bool
  resetHold : Bool
  degraded : Bool
  writeThrough : Bool
  readOnly : Bool
  opAcc : Nat
  dirtyShutdowns : Nat
  prevBootStrap : Nat
  idlePeriods : List Nat
  quiesce : Option QWork
  quiesceQueue : List QWork
  erase : Option Erase
  alert : Nat
  acked : Nat
  removalMs : Nat
  lastMem : Option Nat
  afterPourOff : Bool
  railRuns : List (Nat × Nat)
  phases : List Nat
  lowering : Bool
  refclkUs : List Nat
  due : Nat
deriving DecidableEq, Repr

/-- Map, journal, checkpoints, poison and walks. The map lists the entries that differ from what `unlisted`, newest first, says of their
quire, and 0 where it says nothing (R57, R74, R163); `held` are the changes that wait behind a stripe in flight; `ringPos` is the byte at which each
die's journal ring goes on (R161, R174); `savedPoison` is the poison index as media hold it (R268); `headSlot` is the newest slot of R175, the RESERVE segments of the latest journal
pages and checkpoint directory; `cache` is the map cache of each die (R153), `tree` its tree cache (R339), and `ctrs` its counters: key i that of
protected page i, key (k + 1)·2^23 + i that of line i of level Lk, which the line above holds (R338). -/
structure Mapping where
  map : Tab (BitVec 32)
  unlisted : List Span
  held : Tab HeldChange
  cache : Two Cache
  tree : Two Cache
  ctrs : Two (Tab Nat)
  changed : Tab Bool
  mapChanged : Bool
  segs : Tab Seg
  summaries : Tab Summary
  ringPos : Two Nat
  headSlot : Option Nat × Option Nat
  nextSeq : List Nat
  jseq : Two Nat
  openPage : Two (List JRec)
  issued : List (List JRec)
  ring : List JRec
  rounds : List Round
  ckpt : Option Round
  walks : List Walk
  poison : PoisonIndex
  savedPoison : PoisonIndex
  scan : Option Scan
deriving DecidableEq, Repr

/-- The media: what is stored, what waits for a second half (key 3·channel + stream), the steeps whose record is programmed
and that wait for room, whether a pulp pass has freed a segment since the hot stream's last open (R180), the channels whose next program or steep is a pulp pass's
(R171, R180), the channels whose probe stripes wait for a service wake (R144), the segments of the media reserve with the bytes written and the segments opened for each use and die (key 2·use + die),
what is being written, and how the dies stand: the last status code of each bank
and the CMD_CRC bit of each die (R130, R131). -/
structure Media where
  images : Tab Stripe
  tiles : Tab Tile
  redirects : Tab (List Nat)
  waiting : Tab Half
  queue : List Stripe
  inProgram : List Stripe
  steeps : List Steep
  ready : List Steep
  pulpFreed : List Bool
  coldTurn : BitVec 32
  probeDue : BitVec 32
  reserve : List ResSeg
  resBytes : Tab Nat
  resOpened : Tab Nat
  status : Tab Nat
  crcBit : Tab Bool
  ringHot : List (List Nat)
  ringCold : List (List Nat)
  ringPour : List (List Nat)
  suspended : List Nat
  suspends : Tab Nat
  stackTurn : List Nat
  health : Tab DieHealth
  repair : Tab ChanRepair
  lastStripeMin : List Nat
  passStart : List Nat
deriving DecidableEq, Repr

/-- The Caddy and the requests in flight: ways, staging, partial lines in the order of their entries, the sweep pointers, the
channels whose candidates this pass has found and those that take ways at any AGE (R213), planned reads and those that wait for a
slot, the tag cache of each die (R203), the credits that the hosts hold, and the first request of a same-cycle tie, with whether it has
been admitted (R186). -/
structure Path where
  ways : Tab Way
  staged : List Staged
  nextStaged : Nat
  partials : List (Nat × Nat)
  sweep : Two Nat
  found : BitVec 32
  anyAge : BitVec 32
  plans : List Plan
  nextPlan : Nat
  tagCache : Two Cache
  credits : Two Credit
  tied : Option (Instr × Bool)
deriving DecidableEq, Repr

/-- The module. `pending` is the queue of waiting commands, `out` what has been sent (newest first) and `free` the
counter of free values; the last two, `held` and `presented` are the model's own fields (log entry 13): `held` are the leaves that wait
for a Quiesce or a self-test run to end, each with whether its reply is still wanted (R409), and `presented` those that the inputs of a
merge stage present in the present cycle (R402). -/
structure State where
  pending : List Instr
  held : List (Instr × Bool)
  presented : List Instr
  out : List Out
  free : Nat
  regs : Tab Nat
  ctl : Control
  heads : Two Head
  ream : Ream
  qst : Qst
  lsa : Tab (BitVec 8)
  path : Path
  mapping : Mapping
  media : Media
  dram : List Package
  ports : Two DramBus
  pour : Pour
  sec : Security
  bulk : List BulkOp
  sensors : Tab Sensor
  minute : Tab Int
  engFaults : Tab (List Nat)
  sram : Tab (List Nat)
  pourFaults : List Nat
  tlyCount : Two Nat
  tlyBuf : Tab (BitVec 256)
  test : List TestRun
  tap : Two TapSel
  trst : Bool
  pm : Manager
deriving DecidableEq, Repr

/-- Power and pins of a module that lies unpowered, as shipped. -/
def Control.reset : Control :=
  { mode := .m0, p12 := false, aux := false, retained := false, auxKept := false, resetHold := false,
    degraded := false, writeThrough := false, readOnly := false, opAcc := 0, dirtyShutdowns := 0, prevBootStrap := 0,
    idlePeriods := [], quiesce := none, quiesceQueue := [], erase := none, alert := 0, acked := 0,
    removalMs := 0, lastMem := none,
    afterPourOff := false, railRuns := List.replicate 18 (0, 0), phases := List.replicate 6 0, lowering := false, refclkUs := [0, 0],
    due := 0 }

/-- The empty map of a module as shipped (R57): every entry unmapped, write sequences at 1 (R255). -/
def Mapping.reset : Mapping :=
  { map := [], unlisted := [], held := [], cache := ⟨[], []⟩, tree := ⟨[], []⟩, ctrs := ⟨[], []⟩, changed := [], mapChanged := false, segs := [],
    summaries := [], ringPos := ⟨0, 0⟩, headSlot := (none, none), nextSeq := List.replicate 32 1,
    jseq := ⟨0, 0⟩, openPage := ⟨[], []⟩, issued := [], ring := [], rounds := [], ckpt := none, walks := [],
    poison := PoisonIndex.empty, savedPoison := PoisonIndex.empty, scan := none }

/-- Media that hold nothing. -/
def Media.reset : Media :=
  { images := [], tiles := [], redirects := [], waiting := [], queue := [], inProgram := [],
    steeps := [], ready := [], pulpFreed := List.replicate 32 false, coldTurn := 0, probeDue := 0, reserve := [], resBytes := [], resOpened := [], status := [], crcBit := [],
    ringHot := List.replicate 32 [], ringCold := List.replicate 32 [], ringPour := List.replicate 32 [],
    suspended := [], suspends := [], stackTurn := List.replicate 16 0, health := [], repair := [],
    lastStripeMin := List.replicate 32 0, passStart := List.replicate 32 0 }

/-- An empty Caddy. -/
def Path.reset : Path :=
  { ways := [], staged := [], nextStaged := 0, partials := [], sweep := ⟨0, 0⟩, found := 0, anyAge := 0, plans := [],
    nextPlan := 0, tagCache := ⟨[], []⟩, credits := ⟨⟨0, 0⟩, ⟨0, 0⟩⟩, tied := none }

/-- The module as shipped, unpowered in M0 (log entry 1): every register field at its reset or shipped value, nothing in
any queue, every memory and key slot as manufacture leaves it. -/
def State.reset : State :=
  { pending := [], held := [], presented := [], out := [], free := 0, regs := [],
    ctl := Control.reset,
    heads := ⟨Head.reset, Head.reset⟩,
    ream := { log := [], programmed := 0, mirror := [], buffer := [], haltRec := none, nextSeq := 1, wall := none,
              accepted := [], suppressed := [], window := [], mirrorCursor := ⟨0, 0⟩, mirrorMark := ⟨0, 0⟩ },
    qst := { bytes := [], serials := [], writes := [], queue := [], readPw := [some 0, some 0, some 0], writePw := [none, some 0, some 0] },
    lsa := [],
    path := Path.reset, mapping := Mapping.reset, media := Media.reset,
    dram := List.replicate 4 Package.shipped,
    ports := ⟨DramBus.idle, DramBus.idle⟩,
    pour := { running := false, gpf := [], lists := [], listsReadable := ⟨true, true⟩, poured := [], record := none,
              hold := false, volts := List.replicate 8 0, bus := 0, next := 0, measured := [], warmAfter := false },
    sec := { seeds := [], counts := [], keysLoaded := false, nonce := 0, challenge := none, sessions := [],
             nextSession := 0, slotA := ⟨true, 0, 0⟩, slotB := ⟨false, 0, 0⟩, transfer := none, roots := ⟨[], []⟩,
             haltMarker := false, haltCause := 0, scanMarker := false, destroys := [], debugMs := 0, debugSince := 0,
             scanEnabled := false, scanHeld := false },
    bulk := List.replicate 16 BulkOp.free,
    sensors := [], minute := [], engFaults := [], sram := [], pourFaults := [], tlyCount := ⟨0, 0⟩, tlyBuf := [],
    test := [], tap := ⟨.idcode, .idcode⟩, trst := true,
    pm := { unread := [], notice := none, pending := 0, mask := 0, address := none } }

end Sys2Proof.Machine
end

