-- ==== Sys2Proof/Machine/Ops.lean ====
section
/-! DEFINITION. The named operations every command shares: reading and writing a register field, the reset kinds, free
values, interrupt sources, MSI-X, event records, quire-store page and slot writes, and Ream records. Each operation is
written as one update of the fields it owns. -/

namespace Sys2Proof.Machine

/-- The outcome of a command. -/
abbrev Res := Host.Outcome State Fault Refusal

/-! ## Register fields (R10 to R14, R41, R42) -/

/-- The die whose copy of a field an access reaches: a module-wide field and one of die 0 have a single copy. -/
def Field.copy (f : Field) (die : Nat) : Nat := if f.scope = .each then die % 2 else 0

/-- The place of field `f`, index `i`, in the register table. The reset kinds stand in the key, so that a reset needs no
search. -/
def Field.key (f : Field) (die i : Nat) : Nat :=
  ((f.num * 16 + f.kinds) * 2 + f.copy die) * 1048576 + i % 1048576

/-- The reset or shipped value of field `f`, index `i`. -/
def Field.dflt (f : Field) (die i : Nat) : Nat :=
  match f.tbl[f.copy die * f.count + i]? with
  | some v => v
  | none => (f.tbl[i]?).getD f.rst

/-- Read index `i` of a field on a die. -/
def State.rd (s : State) (f : Field) (die i : Nat) : Nat := s.regs.get (f.dflt die i) (f.key die i)

/-- Write index `i` of a field on a die; a value keeps the bits the field has. -/
def State.wr (s : State) (f : Field) (die i v : Nat) : State :=
  { s with regs := s.regs.put (f.dflt die i) (f.key die i) (v % 2 ^ f.width) }

/-- Add to a counter that saturates at the largest value its field holds. -/
def State.bump (s : State) (f : Field) (die i n : Nat) : State :=
  s.wr f die i (min (s.rd f die i + n) (2 ^ f.width - 1))

/-- Raise a maximum register to a value. -/
def State.peak (s : State) (f : Field) (die i v : Nat) : State :=
  s.wr f die i (max (s.rd f die i) (min v (2 ^ f.width - 1)))

/-- Read a field of die 0, or of the module, that has no index. -/
def State.reg (s : State) (f : Field) : Nat := s.rd f 0 0

/-- Write a field of die 0, or of the module, that has no index. -/
def State.setReg (s : State) (f : Field) (v : Nat) : State := s.wr f 0 0 v

/-- Set or clear bit n of a number. -/
def setBit (v n : Nat) (b : Bool) : Nat :=
  if v.testBit n = b then v else if b then v + 2 ^ n else v - 2 ^ n

/-- Set or clear one bit of a field. -/
def State.wrBit (s : State) (f : Field) (die i n : Nat) (b : Bool) : State :=
  s.wr f die i (setBit (s.rd f die i) n b)

/-- A signed value as the two's complement bits of a field of `w` bits. -/
def signedBits (w : Nat) (t : Int) : Nat := (t % (2 ^ w : Int)).toNat

/-- The signed value of two's complement bits. -/
def signedVal (w v : Nat) : Int := if v < 2 ^ (w - 1) then (v : Int) else (v : Int) - 2 ^ w

/-- The reset kinds of R14: cold, warm, head and engine. -/
inductive ResetKind where
  | cold | warm | head | engine
deriving DecidableEq, Repr

/-- The bit of a reset kind in `Field.kinds`. -/
def ResetKind.bit : ResetKind → Nat
  | .cold => 0 | .warm => 1 | .head => 2 | .engine => 3

/-- The reset kinds of the field whose key this is. -/
def keyKinds (k : Nat) : Nat := k / 2097152 % 16

/-- Put every field that a reset of this kind restores at its reset value, wherever `which` holds of its key. -/
def State.resetRegs (s : State) (k : ResetKind) (which : Nat → Bool) : State :=
  { s with regs := s.regs.filter (fun p => !((keyKinds p.1).testBit k.bit && which p.1)) }

/-- The keys of the copies that belong to one die. -/
def keyOnDie (die k : Nat) : Bool := k / 1048576 % 2 == die % 2

/-- The keys of the fields of a block. -/
def keyInBlock (b : Block) (k : Nat) : Bool := (fieldsOf b).any (fun f => f.num == k / 33554432)

/-! ## Time, heads and free values -/

/-- Operating time in ms (R40). -/
def State.ms (s : State) : Nat := s.reg Reg.LNK_OPTIME.MS

/-- Operating time in whole minutes. -/
def State.minutes (s : State) : Nat := s.ms / 60000

/-- Dual-head mode (R35). -/
def State.dual (s : State) : Bool := s.rd Reg.LNK_HEAD_CFG.DUAL 0 0 == 1

/-- The head that exists: head 1 only in dual-head mode. -/
def State.hasHead (s : State) (h : Nat) : Bool := h == 0 || s.dual

/-- The primary head (R89). -/
def State.primary (s : State) : Nat := if s.dual && s.rd Reg.LNK_HEAD_CFG.PRIMARY 1 0 == 1 then 1 else 0

/-- Change a head. -/
def State.onHead (s : State) (h : Nat) (f : Head → Head) : State := { s with heads := s.heads.modify h f }

/-- A fresh open number (log entry 13) is `Config.freeNat s.free`; a step that reads it moves the counter on. -/
def State.draw (s : State) : State := { s with free := s.free + 1 }

/-- The open number at the counter. -/
def State.open? (s : State) : Nat := Config.freeNat s.free

/-- n open bytes at the counter. -/
def State.openBytes (s : State) (n : Nat) : List (BitVec 8) := (List.range n).map (Config.freeByte s.free)

/-- Send a message. -/
def State.send (s : State) (o : Out) : State := { s with out := o :: s.out }

/-! ## Interrupt sources and vectors (R107, R108) -/

/-- A BAR2 grant is in force (R108, R115). -/
def State.granted (s : State) : Bool :=
  s.rd Reg.LNK_BAR2_GRANT.READ_EN s.primary 0 != 0 || s.rd Reg.LNK_BAR2_GRANT.WRITE_EN s.primary 0 != 0

/-- The aggregation group that a source of head h counts in: none without a grant, and none for the group values 24–31. -/
def State.group (s : State) (h src : Nat) : Option Nat :=
  let g := s.rd Reg.LNK_SRC_ROUTE.GROUP h src
  if s.granted && g < 24 then some g else none

/-- A vector becomes pending (R108). -/
def Head.pend (hd : Head) (v : Nat) : Head := { hd with msixPending := hd.msixPending ||| (1#32 <<< v) }

/-- Source `src` asserts at head h: ASSERTED, one more pending assertion of its group, and the pending bit of its group's vector where
that vector is masked. -/
def State.raiseAt (s : State) (h src : Nat) : State :=
  let s1 := s.wr Reg.LNK_SRC_ROUTE.ASSERTED h src 1
  match s.group h src with
  | none => s1
  | some g =>
    (s1.wr Reg.LNK_AGG_CTRL.PENDING h g 1).onHead h (fun hd =>
      let hd := { hd with aggCount := hd.aggCount.modify g (· + 1) }
      if hd.msixMasked.getLsbD (8 + g) then hd.pend (8 + g) else hd)

/-- Source `src` asserts for the platform manager, if its event mask has the source (R394). -/
def State.notify (s : State) (src : Nat) : State :=
  { s with pm := { s.pm with pending := s.pm.pending ||| (s.pm.mask &&& (1#640 <<< src)) } }

/-- Source `src` asserts at each head that exists and for the platform manager (R108). -/
def State.assertSource (s : State) (src : Nat) : State :=
  let s1 := s.raiseAt 0 src
  (if s.dual then s1.raiseAt 1 src else s1).notify src

/-- Modes in which the counters' clocks run (R488): all that power the cores. -/
def Mode.counts : Mode → Bool
  | .m0 | .m1 | .m11 => false
  | _ => true

/-- Fixed counter i of die d counts n events of R476; past 2^48 − 1 it wraps, with its overflow bit and source (R475, R481). -/
def State.tally (s : State) (d i n : Nat) : State :=
  if !s.ctl.mode.counts || n == 0 then s
  else
    let v := s.rd Reg.TLY_FIXED.COUNT d i + n
    let s1 := s.wr Reg.TLY_FIXED.COUNT d i v
    if v < 281474976710656 then s1
    else (s1.wrBit Reg.TLY_OVF_FIXED.BITS d (i / 64) (i % 64) true).assertSource (615 + d % 2)

/-- Source `src` asserts (R108), and event 372 counts it. It writes no Ream record by itself (log entry 21). -/
def State.raise (s : State) (src : Nat) : State := (s.assertSource src).tally 0 372 1

/-- Send vector v of head h, or hold it pending while it is masked, or while D3hot stops the head's CXL.io traffic (R85, R108). -/
def State.msix (s : State) (h v : Nat) : State :=
  if (s.heads.get h).msixMasked.getLsbD v || (s.heads.get h).d3hot then
    s.onHead h (fun hd => hd.pend v)
  else (s.send (.msix h v)).tally h 373 1

/-! ## Event records (R106) -/

/-- The four event logs of a head, numbered as vectors 2 to 5 of R107. -/
def Head.log (hd : Head) (n : Nat) : EvLog :=
  match n with | 0 => hd.info | 1 => hd.warn | 2 => hd.fail | _ => hd.fatal

/-- Replace one of the four event logs. -/
def Head.setLog (hd : Head) (n : Nat) (l : EvLog) : Head :=
  match n with
  | 0 => { hd with info := l } | 1 => { hd with warn := l } | 2 => { hd with fail := l } | _ => { hd with fatal := l }

/-- Add a record to a log of 256; a full log keeps what it has and counts the new one as overflow. -/
def EvLog.add (l : EvLog) (ty : EvType) (c : EvCause) (vs : List Nat) (ms : Nat) : EvLog :=
  if l.recs.length < 256 then
    { l with recs := l.recs ++ [⟨l.next, ty, c, vs, ms⟩], next := if l.next = 65535 then 1 else l.next + 1 }
  else { l with overflow := true, lost := min (l.lost + 1) 65535,
                firstMs := if l.overflow then l.firstMs else ms, lastMs := ms }

/-- Add a record to one head's log, with its vector when the policy of that log is MSI-X (log entry 24). -/
def State.eventAt (s : State) (h log : Nat) (ty : EvType) (c : EvCause) (vs : List Nat) : State :=
  let s1 := s.onHead h (fun hd => hd.setLog log ((hd.log log).add ty c vs s.ms))
  if (s.heads.get h).policy[log]?.getD 0 = 1 then s1.msix h (2 + log) else s1

/-- A module event record: a copy in the log of every head that exists. -/
def State.event (s : State) (log : Nat) (ty : EvType) (c : EvCause) (vs : List Nat) : State :=
  let s1 := s.eventAt 0 log ty c vs
  if s.dual then s1.eventAt 1 log ty c vs else s1

/-! ## Bytes and CRC-32C -/

/-- n bytes of a number, least significant first (R9). -/
def leBytes (n v : Nat) : List (BitVec 8) := (List.range n).map (fun k => BitVec.ofNat 8 (v >>> (8 * k)))

/-- The number whose bytes these are, least significant first. -/
def leNat : List (BitVec 8) → Nat
  | [] => 0
  | b :: t => b.toNat + 256 * leNat t

/-- One bit step of the reflected Castagnoli CRC. -/
def crcBit (c : Nat) : Nat := if c % 2 = 1 then (c / 2) ^^^ 0x82F63B78 else c / 2

/-- CRC-32C of bytes (R384, R491, R507): Castagnoli polynomial, reflected, start and final inversion of all bits. -/
def crc32c (b : List (BitVec 8)) : Nat :=
  (b.foldl (fun c x => crcBit (crcBit (crcBit (crcBit (crcBit (crcBit (crcBit (crcBit (c ^^^ x.toNat)))))))))
    0xFFFFFFFF) ^^^ 0xFFFFFFFF

/-! ## The quire store (R504 to R511) -/

/-- A byte of the store as shipped (R504): the vendor zone holds what its maker put there (log entry 29), every other page zero. -/
def shippedByte (k : Nat) : BitVec 8 := if k < 65536 then Config.vendorByte k else 0

/-- Read byte o (mod 256) of an absolute page. -/
def State.qstByte (s : State) (page o : Nat) : BitVec 8 :=
  s.qst.bytes.get 0 (page * 256 + o % 256) ^^^ shippedByte (page * 256 + o % 256)

/-- Place bytes in an absolute page from offset o, wrapping at 256; later bytes win (R506). -/
def placeBytes (t : Tab (BitVec 8)) (page o : Nat) : List (BitVec 8) → Tab (BitVec 8)
  | [] => t
  | b :: r => placeBytes (t.put 0 (page * 256 + o % 256) (b ^^^ shippedByte (page * 256 + o % 256))) page (o + 1) r

/-- A page write commits (R505, R510): serial and write count rise, QST_WRITES counts it, QST_WEAR keeps the highest
count, and source 622 is raised when the count reaches 900,000. -/
def State.pageCommit (s : State) (page : Nat) : State :=
  let n := s.qst.writes.get 0 page + 1
  let s1 : State := { s with qst := { s.qst with
    serials := s.qst.serials.put 0 page ((s.qst.serials.get 0 page + 1) % 4294967296),
    writes := s.qst.writes.put 0 page n } }
  let s2 := s1.bump Reg.QST_WRITES.PAGES 0 0 1
  let s3 := if n > s2.reg Reg.QST_WEAR.MAX then (s2.setReg Reg.QST_WEAR.MAX n).setReg Reg.QST_WEAR.PAGE page else s2
  (if n = 900000 then s3.raise 622 else s3).tally 0 381 1

/-- A page write of the module's own: its bytes and its commit, in one step. -/
def State.pageWrite (s : State) (page o : Nat) (b : List (BitVec 8)) : State :=
  ({ s with qst := { s.qst with bytes := placeBytes s.qst.bytes page o b } }).pageCommit page

/-- The rings of R507: first page and slots, numbered as QST_RING numbers them. -/
def ringOf : Nat → Nat × Nat
  | 0 => (5070, 128)
  | 1 => (5078, 32)
  | 2 => (5080, 32)
  | _ => (5082, 128)

/-- A slot write (R507): value, serial and CRC-32C in the slot after the newest, or in slot 0 of a ring without one. -/
def State.slotWrite (s : State) (ring value : Nat) : State :=
  let serial := (s.rd Reg.QST_RING.SERIAL 0 ring + 1) % 4294967296
  let slot := if s.rd Reg.QST_RING.SERIAL 0 ring = 0 then 0 else (s.rd Reg.QST_RING.NEWEST 0 ring + 1) % (ringOf ring).2
  let body := leBytes 8 value ++ leBytes 4 serial
  let at0 := (ringOf ring).1 * 256 + slot * 16
  let s1 : State := { s with qst := { s.qst with
    bytes := placeBytes s.qst.bytes (at0 / 256) (at0 % 256) (body ++ leBytes 4 (crc32c body)) } }
  ((s1.wr Reg.QST_RING.SERIAL 0 ring serial).wr Reg.QST_RING.NEWEST 0 ring slot).bump Reg.QST_WRITES.SLOTS 0 0 1

/-! ## Ream records (R491 to R503) -/

/-- The severities of R492. -/
def sevCritical : Nat := 1
/-- R492. -/
def sevError : Nat := 2
/-- R492. -/
def sevWarning : Nat := 3
/-- R492. -/
def sevNotice : Nat := 4
/-- R492. -/
def sevDebug : Nat := 5

/-- The length of a record in bytes (R491): 32, 8 for a wall-clock stamp, 8 for each payload word. -/
def ReamRec.length (r : ReamRec) : Nat :=
  32 + (if r.wall.isSome then 8 else 0) + 8 * r.payload.length

/-- The bytes of a record (R491), its CRC field as given. -/
def ReamRec.bytesWith (r : ReamRec) (crc : Nat) : List (BitVec 8) :=
  leBytes 2 r.length ++ leBytes 2 (r.severity % 16 + 16 * r.cls) ++ leBytes 6 r.ms ++
  [BitVec.ofNat 8 ((if r.wall.isSome then 1 else 0) + (if r.rate then 2 else 0) + (if r.truncated then 4 else 0)),
   BitVec.ofNat 8 r.origin] ++
  leBytes 4 r.cycles ++ leBytes 8 r.seq ++ leBytes 4 crc ++ leBytes 4 0 ++
  (match r.wall with | some w => leBytes 8 w | none => []) ++ r.payload.flatMap (leBytes 8)

/-- The bytes of a record with its CRC-32C. -/
def ReamRec.bytes (r : ReamRec) : List (BitVec 8) := r.bytesWith (crc32c (r.bytesWith 0))

/-- A record as the mirror holds it (R498): its first 256 bytes. -/
def ReamRec.cut (r : ReamRec) : ReamRec :=
  if r.length ≤ 256 then r
  else { r with truncated := true, payload := r.payload.take (if r.wall.isSome then 27 else 28) }

/-- The bytes of the log that records use. -/
def logBytes (l : List ReamRec) : Nat := (l.map ReamRec.length).sum

/-- Remove records of severity code `sev` or more, oldest first, until at most `room` bytes are used; answers what stays
and what goes (R497). -/
def evictLog (sev room used : Nat) : List ReamRec → List ReamRec × List ReamRec
  | [] => ([], [])
  | r :: t =>
    if used ≤ room then (r :: t, [])
    else if r.severity ≥ sev then
      let p := evictLog sev room (used - r.length) t
      (p.1, r :: p.2)
    else
      let p := evictLog sev room used t
      (r :: p.1, p.2)

/-- The SEQ a cursor or mark names after records have gone: the oldest surviving record that follows, or the next to be
written (R500). -/
def moveSeq (kept gone : List ReamRec) (next q : Nat) : Nat :=
  if gone.any (fun r => r.seq == q) then ((kept.find? (fun r => r.seq > q)).map ReamRec.seq).getD next else q

/-- Records leave reader u's range: GAP, LOST, the moved cursor and mark, and source 620 (R500). -/
def State.gapAt (s : State) (u : Nat) (kept gone : List ReamRec) : State :=
  let n := (gone.filter (fun r => s.rd Reg.REAM_MARK.SEQ 0 u ≤ r.seq)).length
  if n = 0 then s
  else
    let cur := moveSeq kept gone s.ream.nextSeq (s.rd Reg.REAM_CURSOR.SEQ 0 u)
    let mark := moveSeq kept gone s.ream.nextSeq (s.rd Reg.REAM_MARK.SEQ 0 u)
    ((((s.wr Reg.REAM_GAP.GAP 0 u 1).bump Reg.REAM_GAP.LOST 0 u n).wr Reg.REAM_CURSOR.SEQ 0 u cur).wr
      Reg.REAM_MARK.SEQ 0 u mark).raise 620

/-- Place a record in the log of 4 MiB, or drop it (R497). -/
def State.reamLog (s : State) (r : ReamRec) : State :=
  let used := logBytes s.ream.log
  let p := evictLog r.severity (4194304 - r.length) used s.ream.log
  let s1 := if p.2 = [] then s else
    (({ s with ream := { s.ream with log := p.1 } }).gapAt 0 p.1 p.2).gapAt 1 p.1 p.2
  if logBytes p.1 + r.length ≤ 4194304 then { s1 with ream := { s1.ream with log := p.1 ++ [r] } }
  else (s1.bump Reg.REAM_DROP.DROPPED 0 0 1).raise 621

/-- Mirror a critical record in one page of the quire store; past 256 the oldest gives way (R498). -/
def State.reamMirror (s : State) (r : ReamRec) : State :=
  let m := s.ream.mirror ++ [r.cut]
  let s1 : State := { s with ream := { s.ream with mirror := m.drop (m.length - 256) } }
  let s2 := if m.length > 256 then s1.bump Reg.REAM_MIRROR.REPLACED 0 0 1 else s1
  s2.pageWrite (4560 + r.seq % 256) 0 r.cut.bytes

/-- The supervisor keeps the Ream: before MG0 runs, in Safe entered for a rail, and in M11 (R499). -/
def State.supervised (s : State) : Bool :=
  match s.ctl.mode with
  | .m0 | .m1 | .m2 | .m11 => true
  | .m9 => s.reg Reg.MOD_STATUS.SAFE_CAUSE == 3
  | _ => false

/-- Whether the rate of R494 keeps a record out: severity notice or debug, and RATE records of the class accepted in the
running second. -/
def State.reamLimited (s : State) (sev cls : Nat) : Bool :=
  sev ≥ 4 && s.ream.accepted.get 0 cls ≥ max 1 (s.reg Reg.REAM_CFG.RATE)

/-- The wall clock now, in ms (R495). -/
def State.wallMs (s : State) : Option Nat := s.ream.wall.map (fun p => (p.1 + (s.ms - p.2)) % 18446744073709551616)

/-- Give a record its SEQ and place it (R495, R497, R498, R499, R73). -/
def State.reamPlace (s : State) (r : ReamRec) : State :=
  let s1 : State := { s with ream := { s.ream with nextSeq := s.ream.nextSeq + 1 } }
  let crit := r.severity == 1
  let s2 :=
    if s.supervised then
      if crit then s1.reamMirror r
      else
        let b := s1.ream.buffer ++ [r]
        { s1 with ream := { s1.ream with buffer := b.drop (b.length - 16) } }
    else if s.ctl.mode = .m10 then s1.reamLog r
    else if crit then (s1.reamLog r).reamMirror r else s1.reamLog r
  (if crit then s2.raise 619 else s2).tally 0 380 1

/-- Write a Ream record of a class at a severity (R491 to R495). `rate` marks a suppression summary. -/
def State.reamAs (s : State) (rate : Bool) (origin sev cls : Nat) (payload : List Nat) : State :=
  if sev = 5 ∧ s.reg Reg.REAM_CFG.DEBUG_EN = 0 then s
  else if s.reamLimited sev cls then
    let old := s.ream.suppressed.get (0, 0) cls
    let new := if old.1 = 0 then (sev, 1) else (min old.1 sev, old.2 + 1)
    ({ s with ream := { s.ream with suppressed := s.ream.suppressed.put (0, 0) cls new } }).bump
      Reg.REAM_DROP.SUPPRESSED 0 0 1
  else
    let s1 : State := if sev ≥ 4 then
        { s with ream := { s.ream with accepted := s.ream.accepted.put 0 cls (s.ream.accepted.get 0 cls + 1) } }
      else s
    s1.reamPlace { seq := s.ream.nextSeq, severity := sev, cls := cls, ms := s.ms, wall := s.wallMs, rate := rate,
                   truncated := false, origin := origin, cycles := s.reg Reg.LNK_POWER_CYCLES.COUNT,
                   payload := payload.take 123 }

/-- Write a Ream record from MG0, which keeps the Ream (R20; log entry 21). -/
def State.log (s : State) (sev cls : Nat) (payload : List Nat) : State := s.reamAs false 44 sev cls payload

/-- Write a Ream record from the always-on supervisor. -/
def State.supLog (s : State) (sev cls : Nat) (payload : List Nat) : State := s.reamAs false 0xFE sev cls payload

/-- Write a Ream record from hardware. -/
def State.hwLog (s : State) (sev cls : Nat) (payload : List Nat) : State := s.reamAs false 0xFF sev cls payload

/-- Raise a source and write its Ream record. -/
def State.raiseLog (s : State) (src sev : Nat) (payload : List Nat) : State := (s.raise src).log sev src payload

/-! ## Lists -/

/-- Replace the first element that satisfies `p`. -/
def modifyFirst {α : Type} (p : α → Bool) (f : α → α) : List α → List α
  | [] => []
  | a :: t => if p a then f a :: t else a :: modifyFirst p f t

/-- Run a change for each number below n. -/
def State.forAll (s : State) (l : List Nat) (f : State → Nat → State) : State := l.foldl f s

end Sys2Proof.Machine
end

