-- ==== Sys2Proof/Machine/Ports.lean ====
section
/-! DEFINITION. Where a package's bytes lie (R223 to R225, R247), and the ports of its controller (R227, R230 to R237): accepting a request,
urgency and panic, arbitration, and the units that the check cache and the open rows see. Package n is package interface n mod 2 of die
n div 2. What an access does to the data is the effect of the command that makes it; what stands here is when the controller serves it
(log entry 91). -/

namespace Sys2Proof.Machine

/-! ## Areas and addresses (R224, R225) -/

/-- The areas of a package's usable space. -/
inductive DramArea where
  | map | caddy | tags | tree | engine | staging | reserve | remap
deriving DecidableEq, Repr

/-- The base of an area and its size in 32nds of a GiB, with both packages in service and after a loss. -/
def DramArea.place : DramArea → Bool → Nat × Nat
  | .map, true => (0, 384) | .map, false => (0, 768)
  | .caddy, true => (384, 1280) | .caddy, false => (768, 896)
  | .tags, true => (1664, 10) | .tags, false => (1664, 7)
  | .tree, true => (1674, 2) | .tree, false => (1671, 4)
  | .engine, true => (1676, 8) | .engine, false => (1675, 16)
  | .staging, true => (1684, 32) | .staging, false => (1691, 64)
  | .reserve, true => (1716, 76) | .reserve, false => (1755, 37)
  | .remap, _ => (1760, 32)

/-- The logical base of an area in bytes. -/
def DramArea.base (x : DramArea) (both : Bool) : Nat := (x.place both).1 * 33554432

/-- The size of an area in bytes. -/
def DramArea.size (x : DramArea) (both : Bool) : Nat := (x.place both).2 * 33554432

/-- The physical address of a logical one (R225). -/
def physOf (a : Nat) : Nat := a / 448 * 512 + a % 448

/-- The logical address of a data unit's physical address, none for a check unit. -/
def logicalOf (p : Nat) : Option Nat := if p % 512 < 448 then some (p / 512 * 448 + p % 512) else none

/-- The unit of a physical address within its group. -/
def unitOf (p : Nat) : Nat := p / 64 % 8
/-- The channel of a physical address. -/
def dramChannel (p : Nat) : Nat := p / 2048 % 8
/-- The bank of a physical address. -/
def dramBank (p : Nat) : Nat := p / 16384 % 16
/-- The rank of a physical address. -/
def dramRank (p : Nat) : Nat := p / 262144 % 2
/-- The row of a physical address. -/
def dramRow (p : Nat) : Nat := p / 524288 % 131072

/-- A row of a package as one number. -/
def rowKey (channel rank bank row : Nat) : Nat := ((channel * 2 + rank) * 16 + bank) * 131072 + row

/-- The row of a physical address. -/
def rowOfPhys (p : Nat) : Nat := rowKey (dramChannel p) (dramRank p) (dramBank p) (dramRow p)

/-- The physical address of byte o of a row. -/
def physAt (channel rank bank row o : Nat) : Nat :=
  row * 524288 + rank * 262144 + bank * 16384 + channel * 2048 + o % 2048

/-- The address in the remap area to which entry e of a channel redirects byte o of its row: 32 entries to a row number from the top of
the package down (log entry 92). -/
def remapTarget (e channel o : Nat) : Nat := physAt channel (e / 16 % 2) (e % 16) (131071 - e / 32) o

/-! ## Packages -/

/-- What the controller keeps of a package. -/
def State.pkg (s : State) (n : Nat) : Package := s.dram[n]?.getD Package.shipped

/-- Change what the controller keeps of a package. -/
def State.onPkg (s : State) (n : Nat) (f : Package → Package) : State := { s with dram := s.dram.modify n f }

/-- Read a field of LPDDR5X package n (R18). -/
def State.rdP (s : State) (f : Field) (n : Nat) : Nat := s.rd f (n / 2) (n % 2)

/-- Write a field of LPDDR5X package n. -/
def State.wrP (s : State) (f : Field) (n v : Nat) : State := s.wr f (n / 2) (n % 2) v

/-- Package n raises its source k (R251). -/
def State.raiseP (s : State) (n k : Nat) : State := s.raise (480 + 8 * n + k)

/-- Event x of package n's group in the fixed bank of its die (R476). -/
def State.tallyP (s : State) (n x k : Nat) : State := s.tally (n / 2) (256 + 32 * (n % 2) + x) k

/-- The state of a package: 0 serving, 1 lost, 2 testing, 3 returning (R253). -/
def State.pkgState (s : State) (n : Nat) : Nat := s.rdP Reg.DMC_PKG.STATE n

/-- Both packages of a die are in service. -/
def State.bothServe (s : State) (d : Nat) : Bool := s.pkgState (2 * d) == 0 && s.pkgState (2 * d + 1) == 0

/-- Modes in which the DRAM holds data outside self-refresh. -/
def Mode.dram : Mode → Bool
  | .m4 | .m5 | .m6 | .m7 | .m8 | .m10 => true
  | _ => false

/-- The controllers' clocks run and the DRAM is out of self-refresh (R243). -/
def State.dramOn (s : State) : Bool := s.ctl.mode.dram && s.rd Reg.DMC_MODE.SELF_REFRESH 0 0 == 0

/-- The row that remap entry e of a package redirects. -/
def State.remapRow (s : State) (n e : Nat) : Nat :=
  let i := 64 * (n % 2) + e
  let d := n / 2
  rowKey (s.rd Reg.DMC_REMAP.CHANNEL d i) (s.rd Reg.DMC_REMAP.RANK d i) (s.rd Reg.DMC_REMAP.BANK d i)
    (s.rd Reg.DMC_REMAP.ROW d i)

/-- A remap entry of a package is in use. -/
def State.remapValid (s : State) (n e : Nat) : Bool := s.rd Reg.DMC_REMAP.VALID (n / 2) (64 * (n % 2) + e) == 1

/-- The units of an entry's row that have been copied (R247): all of the 32, or those below the copy's pointer. -/
def State.copied (s : State) (n e : Nat) : Nat :=
  if s.rd Reg.DMC_REMAP.COPY_DONE (n / 2) (64 * (n % 2) + e) = 1 then 32
  else match (s.pkg n).copying with
    | some (f, k) => if f = e then k else 0
    | none => 0

/-- Where an access to a physical address goes (R247): copied units of a remapped row in the remap row, every other in its own. -/
def State.redirected (s : State) (n p : Nat) : Nat :=
  match (List.range 64).find? (fun e => s.remapValid n e && s.remapRow n e == rowOfPhys p) with
  | some e => if p % 2048 / 64 < s.copied n e then remapTarget e (dramChannel p) p else p
  | none => p

/-! ## Clocks, urgency and panic (R223, R232, R233) -/

/-- The controller's clock in MHz at a set point's code (R223). -/
def dramMhz (code : Nat) : Nat := match code with | 0 => 1200 | 1 => 800 | _ => 400

/-- The urgency of a privileged request of so many cycles of age, at a clock in MHz, against its port's target in ns (R232). -/
def urgency (cycles mhz target : Nat) : Nat :=
  if cycles * 4000 < 2 * target * mhz then 0
  else if cycles * 4000 < 3 * target * mhz then 1
  else if cycles * 1000 < target * mhz then 2
  else 3

/-- The requests in a port's queues. -/
def DramBus.count (b : DramBus) (port : Nat) : Nat := (b.queue.filter (fun r => r.port == port)).length

/-- The panic exit in force, in per cent: a value at or above the entry acts as the entry less 1 (R233). -/
def panicOff (on off : Nat) : Int := if off ≥ on then (on : Int) - 1 else off

/-- A port is in panic after its queue has changed (R233). -/
def inPanic (was : Bool) (held depth on off : Nat) : Bool :=
  if held * 100 ≥ on * depth then true
  else was && decide ((held * 100 : Int) > panicOff on off * depth)

/-- A die's controller. -/
def State.bus (s : State) (d : Nat) : DramBus := s.ports.get d

/-- Change a die's controller. -/
def State.onBus (s : State) (d : Nat) (f : DramBus → DramBus) : State := { s with ports := s.ports.modify d f }

/-- Recompute the panic of a port of class Panic, counting an entry. -/
def State.showPanic (s : State) (d port : Nat) : State :=
  if s.rd Reg.DMC_PORT.CLASS d port ≠ 1 then s
  else
    let was := (s.bus d).panic.getLsbD port
    let now := inPanic was ((s.bus d).count port) (s.rd Reg.DMC_PORT.DEPTH d port) (s.rd Reg.DMC_PORT.PANIC_ON d port)
      (s.rd Reg.DMC_PORT.PANIC_OFF d port)
    if was = now then s
    else
      let s1 := s.onBus d (fun b => { b with panic := b.panic ^^^ (1#8 <<< port) })
      if now then s1.bump Reg.DMC_PORT.PANIC_ENTRIES d port 1 else s1

/-! ## Arbitration (R231) -/

/-- The oldest request of a list that satisfies a condition; within one rule P0 comes before P1. -/
def pickOf (l : List DramReq) (p : DramReq → Bool) : Option DramReq :=
  match l.find? p with
  | some r => if r.port = 1 then some ((l.find? (fun x => p x && x.port == 0)).getD r) else some r
  | none => none

/-- The next port of the weighted round robin among P2 to P6, with the turn after it (R231 rule 8): the port in turn while its weight
lasts, and then the next port with a request (log entry 91). -/
def nextTurn (turn : Nat × Nat) (weight : Nat → Nat) (has : Nat → Bool) : Option (Nat × (Nat × Nat)) :=
  if turn.2 ≠ 0 ∧ has turn.1 then some (turn.1, (turn.1, turn.2 - 1))
  else
    ((List.range 5).map (fun k => 2 + (turn.1 + k + 4) % 5)).find? has |>.map (fun p => (p, (p, max 1 (weight p) - 1)))

/-- The bank of a request's row among those of its die. -/
def DramReq.bankKey (r : DramReq) : Nat := ((r.pkg * 8 + dramChannel r.phys) * 2 + dramRank r.phys) * 16 + dramBank r.phys

/-- A request hits an open row. -/
def DramBus.hits (b : DramBus) (r : DramReq) : Bool := b.rows.get 0 r.bankKey == dramRow r.phys + 1

/-- A request of P2 to P6. -/
def DramReq.capped (r : DramReq) : Bool := 2 ≤ r.port && r.port ≤ 6

/-- The requests of a channel that the controller may serve: P7 alone under Pour exclusivity (R236), and of P2 to P6 no more in a µs than
DMC_THROTTLE.CAP under the throttle (R241). -/
def State.servable (s : State) (d k ch : Nat) : List DramReq :=
  let b := s.bus d
  let cap := s.rd Reg.DMC_THROTTLE.CAP d 0
  let full := s.rd Reg.DMC_MODE.THROTTLE d 0 == 1 && cap != 0 && b.used.get k ≥ cap
  b.queue.filter (fun r => r.pkg == k && dramChannel r.phys == ch &&
    (if s.rd Reg.DMC_MODE.POUR_EXCL d 0 == 1 then r.port == 7 else !(full && r.capped)))

/-- The urgency of a request in a die's controller. -/
def State.urgencyOf (s : State) (d : Nat) (r : DramReq) : Nat :=
  urgency ((s.bus d).cycle - r.cycle) (dramMhz (s.rd Reg.DMC_FSP.CURRENT d 0)) (s.rd Reg.DMC_PORT.TARGET_NS d r.port)

/-- The request that a channel serves next, with the turn of its round robin after it (R231 rules 2 to 8). -/
def State.arbitrate (s : State) (d k ch : Nat) : Option (DramReq × (Nat × Nat)) :=
  let b := s.bus d
  let l := s.servable d k ch
  let turn := b.turn.get (2, 0) (8 * k + ch)
  let urgent := fun u => pickOf l (fun r => decide (r.port ≤ 1) && s.urgencyOf d r == u)
  let first := (((((pickOf l (fun r => r.port == 7 && s.rd Reg.DMC_MODE.POUR_EXCL d 0 == 1)).or (urgent 3)).or
    (pickOf l (fun r => b.panic.getLsbD r.port))).or (urgent 2)).or (urgent 1)).or ((pickOf l b.hits).or (urgent 0))
  match first with
  | some r => some (r, turn)
  | none =>
    match nextTurn turn (fun p => s.rd Reg.DMC_PORT.WEIGHT d p) (fun p => l.any (fun r => r.port == p)) with
    | some (p, t) => (pickOf l (fun r => r.port == p)).map (fun r => (r, t))
    | none => none

/-! ## Serving a request (R227, R228) -/

/-- Look a check unit up in the 4,096 that a package interface caches (R227): the one used last comes first, and a full cache gives up the
last (log entry 91). Answers whether it was held. -/
def touchCheck (l : List (Nat × Bool)) (g : Nat) (write : Bool) : List (Nat × Bool) × Bool :=
  let was := l.find? (fun p => p.1 == g)
  (((g, write || (was.map (fun p => p.2)).getD false) :: l.filter (fun p => p.1 != g)).take 4096, was.isSome)

/-- The longest latency that R235 allows a P0 or P1 read in Serve and Doze D1. -/
def readBound : Nat := 120

/-- The time from a request's acceptance to its end in ns: its wait, and an open time for the access; at most 120 ns for a P0 or P1 read
outside the cases of R235. -/
def State.latencyOf (s : State) (d : Nat) (r : DramReq) : Nat :=
  let b := s.bus d
  let ns := (b.cycle - r.cycle) * 1000 / dramMhz (s.rd Reg.DMC_FSP.CURRENT d 0) + Config.dramNs b.cycle r.port
  if r.port ≤ 1 && !r.write && s.rd Reg.DMC_FSP.CURRENT d 0 ≤ 1 && s.rd Reg.DMC_MODE.POUR_EXCL d 0 == 0 then min ns readBound else ns

/-- The controller serves a request: it leaves its queue, its row stands open, its check unit is cached, a write replaces a poison mark,
and the events of R476 count it. -/
def State.serveReq (s : State) (d : Nat) (r : DramReq) (turn : Nat × Nat) : State :=
  let n := 2 * d + r.pkg
  let hit := (s.bus d).hits r
  let chk := touchCheck ((s.bus d).checks.get r.pkg) (r.phys / 512) r.write
  let ns := s.latencyOf d r
  let target := s.rd Reg.DMC_PORT.TARGET_NS d r.port
  let s1 := s.onBus d (fun b => { b with
    queue := b.queue.erase r
    rows := b.rows.put 0 r.bankKey (dramRow r.phys + 1)
    turn := b.turn.put (2, 0) (8 * r.pkg + dramChannel r.phys) turn
    checks := b.checks.modify r.pkg (fun _ => chk.1)
    used := b.used.modify r.pkg (fun u => if r.capped then u + 1 else u) })
  let s2 := if r.write then s1.onPkg n (fun p => { p with marks := p.marks.filter (fun u => u != r.phys / 64) }) else s1
  let s3 := ((s2.tallyP n r.port 1).tallyP n (8 + r.port) (if ns > (if target = 0 then 1000 else target) then 1 else 0)).tallyP n
    (if hit then 16 else 17) 1
  let s4 := ((s3.tallyP n 18 (if hit then 0 else 1)).tallyP n 23 (if chk.2 then 0 else 1)).tallyP n (if r.write then 29 else 28) 1
  (s4.peak Reg.DMC_PORT.LAT_MAX_NS d r.port ns).showPanic d r.port

/-- The number of a rank among those of its die. -/
def rankKey (k ch rank : Nat) : Nat := (k * 8 + ch) * 2 + rank

/-- Issue a rank's due refresh (R237): its banks take turns, and the refreshed bank is closed. -/
def State.issueRefresh (s : State) (d key : Nat) : State :=
  let bank := (s.bus d).bank.get 0 key
  (s.onBus d (fun b => { b with
    due := b.due.erase key, bank := b.bank.put 0 key ((bank + 1) % 16), rows := b.rows.put 0 (key * 16 + bank) 0 })).tallyP
      (2 * d + key / 16) 19 1

/-- The refresh of a channel that finds a gap: no request of P0 or P1 waits for its bank (R237). -/
def State.gapRefresh (s : State) (d k ch : Nat) : Option Nat :=
  let b := s.bus d
  b.due.find? (fun key => key / 2 == k * 8 + ch &&
    !b.queue.any (fun r => decide (r.port ≤ 1) && r.bankKey == key * 16 + b.bank.get 0 key))

/-- One channel of a package interface has a cycle: a refresh in a gap, or the request that arbitration selects. -/
def State.serveChannel (s : State) (d k ch : Nat) : State :=
  match s.gapRefresh d k ch with
  | some key => s.issueRefresh d key
  | none => match s.arbitrate d k ch with
    | some (r, t) => s.serveReq d r t
    | none => s

/-- One cycle of a die's controller: each channel serves one request; a new µs of DMC_THROTTLE.CAP begins where one ends. -/
def State.dramCycle (s : State) (d : Nat) : State :=
  let s1 := (List.range 16).foldl (fun s i => s.serveChannel d (i / 8) (i % 8)) s
  s1.onBus d (fun b => { b with
    cycle := b.cycle + 1
    used := if (b.cycle + 1) % dramMhz (s.rd Reg.DMC_FSP.CURRENT d 0) = 0 then ⟨0, 0⟩ else b.used })

/-- Cycles until a port's queue has room, at most `fuel` of them. -/
def State.makePort (s : State) (d port : Nat) : Nat → State
  | 0 => s
  | fuel + 1 => if (s.bus d).count port < s.rd Reg.DMC_PORT.DEPTH d port then s else (s.dramCycle d).makePort d port fuel

/-- A port accepts a request for the unit at a logical address of package n (R227, R230): one whose queue is full accepts it once the
controller has served what it takes. -/
def State.access (s : State) (n port a : Nat) (write : Bool) : State :=
  let d := n / 2
  if !s.dramOn then s
  else
    let s1 := s.makePort d port (s.bus d).queue.length
    if (s1.bus d).count port < s1.rd Reg.DMC_PORT.DEPTH d port then
      let r : DramReq := ⟨port, n % 2, s1.redirected n (physOf (a / 64 * 64)), write, (s1.bus d).cycle⟩
      (s1.onBus d (fun b => { b with queue := b.queue ++ [r] })).showPanic d port
    else s1

/-- Requests for `count` units in a row. -/
def State.accesses (s : State) (n port a count : Nat) (write : Bool) : State :=
  (List.range count).foldl (fun s k => s.access n port (a + 64 * k) write) s

/-- Cycles until a die's queues are empty, or nothing in them may be served. -/
def State.drainPorts (s : State) (d : Nat) : State := (List.range (s.bus d).queue.length).foldl (fun s _ => s.dramCycle d) s

/-- Cycles until no request of P0 to P2 waits on a die, those that hosts' requests have made (R236). -/
def State.drainHosts (s : State) (d : Nat) : State :=
  (List.range (s.bus d).queue.length).foldl (fun s _ => if (s.bus d).queue.any (fun r => decide (r.port ≤ 2)) then s.dramCycle d else s) s

/-- The requests of a start's predecessor are discarded (R236). -/
def State.dropPorts (s : State) : State := { s with ports := ⟨DramBus.idle, DramBus.idle⟩ }

/-! ## Copying a row (R247) -/

/-- The copy of a row advances by one unit, through port P5; the last one completes it. -/
def State.copyUnit (s : State) (n : Nat) : State :=
  match (s.pkg n).copying with
  | none => s
  | some (e, k) =>
    let i := 64 * (n % 2) + e
    let from_ := s.remapRow n e
    let ch := s.rd Reg.DMC_REMAP.CHANNEL (n / 2) i
    let bus := fun (b : DramBus) => { b with queue := b.queue ++ [
      ⟨5, n % 2, physAt ch (from_ / 2097152 % 2) (from_ / 131072 % 16) (from_ % 131072) (64 * k), false, b.cycle⟩,
      ⟨5, n % 2, remapTarget e ch (64 * k), true, b.cycle⟩] }
    let s1 := (s.onBus (n / 2) bus).tallyP n 25 1
    if k + 1 < 32 then s1.onPkg n (fun p => { p with copying := some (e, k + 1) })
    else (s1.onPkg n (fun p => { p with copying := none })).wr Reg.DMC_REMAP.COPY_DONE (n / 2) i 1

/-- Every unit of a running copy that is left. -/
def State.finishCopy (s : State) (n : Nat) : State := (List.range 32).foldl (fun s _ => s.copyUnit n) s

/-- A tick of the operating-time clock lasts 30 µs, in which the controllers serve all that waits and a copy ends (R235, R247). -/
def State.dramSettle (s : State) : State :=
  if !s.dramOn then s
  else
    let s1 := (List.range 4).foldl (fun s n => s.finishCopy n) s
    (s1.drainPorts 0).drainPorts 1

/-- Time passes for the controllers (log entry 91): each package's running copy advances by one unit, and each die has a cycle. -/
def State.dramTick (s : State) : State :=
  if !s.dramOn then s
  else
    let s1 := (List.range 4).foldl (fun s n => s.copyUnit n) s
    (s1.dramCycle 0).dramCycle 1

end Sys2Proof.Machine
end

