-- ==== Sys2Proof/Machine/Operands.lean ====
section
/-! DEFINITION. Where things lie and what lines hold: the address arithmetic of R26 to R34, HDM decoding, sets and ways,
the stripe geometry of R29, bytes and lines, and the numbers of units within a die. -/

namespace Sys2Proof.Machine

/-! ## Addresses (R32 to R34) -/

/-- The bytes of the DPA space. -/
def dpaBytes : Nat := 0xC0000000000

/-- The user quires of one channel (R34). -/
def quiresPerChannel : Nat := 402653184

/-- The quires of the module. -/
def quireCount : Nat := 12884901888

/-- The XOR of the 5-bit groups of a number below 2^34 (R33). -/
def fold5 (n : Nat) : Nat :=
  n % 32 ^^^ n / 32 % 32 ^^^ n / 1024 % 32 ^^^ n / 32768 % 32 ^^^ n / 1048576 % 32 ^^^ n / 33554432 % 32 ^^^
    n / 1073741824 % 32

/-- The channel of a quire (R33). -/
def chanOf (q : Nat) : Nat := fold5 q

/-- The within-channel index of a quire (R32). -/
def indexOf (q : Nat) : Nat := q / 32

/-- The quire at index i of channel c (R34). -/
def quireAt (c i : Nat) : Nat := i * 32 + (c ^^^ fold5 i)

/-- The die that owns a channel (R18). -/
def dieOf (c : Nat) : Nat := c / 16

/-- The die that owns a quire. -/
def ownerOf (q : Nat) : Nat := dieOf (chanOf q)

/-- The map page of a quire, numbered over the module (R152). -/
def pageOf (q : Nat) : Nat := chanOf q * 393216 + indexOf q / 1024

/-- DPA bytes of a decoder's range (R91). -/
def Decoder.dpaSize (d : Decoder) : Nat := d.size / d.ways

/-- Where each decoder's DPA range begins: after the one before it, plus its skip (R91). -/
def dpaBases (start : Nat) : List Decoder → List Nat
  | [] => []
  | d :: t => (start + d.skip) :: dpaBases (start + d.skip + d.dpaSize) t

/-- The DPA that a decoder gives an HPA in its range: the granule number divided by the ways (log entry 18). -/
def Decoder.translate (d : Decoder) (dpaBase hpa : Nat) : Nat :=
  let off := hpa - d.base
  dpaBase + off / d.gran / d.ways * d.gran + off % d.gran

/-- The DPA of an HPA through a head's committed decoders, none where no decoder maps it (R92). -/
def Head.dpa (hd : Head) (hpa : Nat) : Option Nat :=
  ((hd.decoders.zip (dpaBases 0 hd.decoders)).find?
    (fun p => p.1.committed && p.1.base ≤ hpa && hpa < p.1.base + p.1.size)).map
    (fun p => p.1.translate p.2 hpa)

/-! ## Media geometry (R22 to R30) -/

/-- The stack of a channel (R22). -/
def stackOf (c : Nat) : Nat := c / 2

/-- The partition of a segment (R158). -/
def partOf (t : Nat) : Nat := t / 4096

/-- The bank of a segment within the die, 0 to 1,023. -/
def bankOf (t : Nat) : Nat := t / 64

/-- The member that data slot j of stripe f uses (R29). -/
def memberOfSlot (f j : Nat) : Nat := if j < f % 9 then j else j + 1

/-- The member that holds a sheet of half h of stripe f (R29). -/
def memberOfSheet (f h sheet : Nat) : Nat := memberOfSlot f (4 * h + sheet)

/-- The frame address of stripe f of segment t (R26, R30). -/
def frameAddr (t f : Nat) : Nat := t * 4096 + f

/-- The key of a segment. -/
def segKey (c t : Nat) : Nat := c * 65536 + t

/-- The key of a stripe on media. -/
def stripeKey (c t f : Nat) : Nat := segKey c t * 4096 + f

/-- The key of a tile of a module die. -/
def tileKey (die t : Nat) : Nat := die * 65536 + t

/-- The key of a bank of a module die. -/
def bankKey (die t : Nat) : Nat := die * 1024 + bankOf t

/-! ## Map entries (R152) -/

/-- The STATE field of a map entry. -/
def entryState (e : BitVec 32) : Nat := e.toNat / 536870912

/-- The SEGMENT field of a map entry. -/
def entrySegment (e : BitVec 32) : Nat := e.toNat / 8192 % 65536

/-- The STRIPE field of a map entry. -/
def entryStripe (e : BitVec 32) : Nat := e.toNat / 2 % 4096

/-- The HALF field of a map entry. -/
def entryHalf (e : BitVec 32) : Nat := e.toNat % 2

/-- A map entry from its fields. -/
def mkEntry (state segment stripe half : Nat) : BitVec 32 :=
  BitVec.ofNat 32 (state * 536870912 + segment * 8192 + stripe * 2 + half)

/-- The entry of a quire on media. -/
def onMedia (e : BitVec 32) : Bool := entryState e == 1 || entryState e == 2

/-! ## Lines and bytes -/

/-- The bit mask of the bytes that a byte-enable mask selects. -/
def maskBits (be : BitVec 64) : BitVec 512 :=
  (List.range 64).foldl (fun m k => if be.getLsbD k then m ||| (0xFF#512 <<< (8 * k)) else m) 0

/-- Put the enabled bytes of `new` over `old` (R46, R47). -/
def mergeLine (old new : BitVec 512) (be : BitVec 64) : BitVec 512 :=
  (old &&& ~~~ maskBits be) ||| (new &&& maskBits be)

/-- Line k of a sheet. -/
def Sheet.line (s : Sheet) (k : Nat) : BitVec 512 :=
  match k with | 0 => s.l0 | 1 => s.l1 | 2 => s.l2 | _ => s.l3

/-- A sheet of zeros. -/
def Sheet.zero : Sheet := ⟨0, 0, 0, 0, 0, 0⟩

/-- What a frame whose cells all sit at L0 returns (R125): the blank pattern. -/
def Sheet.blank : Sheet := ⟨BitVec.allOnes 512, BitVec.allOnes 512, BitVec.allOnes 512, BitVec.allOnes 512, 0, 0⟩

/-- A sheet whose four lines are poisoned by the module (R162). -/
def Sheet.lost : Sheet := ⟨0, 0, 0, 0, 0xF, 0⟩

/-- A sheet of four lines of one pattern. -/
def Sheet.filled (p : BitVec 512) : Sheet := ⟨p, p, p, p, 0, 0⟩

/-- Whether any line of a half is poisoned (R160). -/
def Half.poisoned (h : Half) : Bool := (h.s0.poison ||| h.s1.poison ||| h.s2.poison ||| h.s3.poison) != 0

/-- Sheet n of a half. -/
def Half.sheet (h : Half) (n : Nat) : Sheet :=
  match n with | 0 => h.s0 | 1 => h.s1 | 2 => h.s2 | _ => h.s3

/-- Put a sheet in place n of a half. -/
def Half.setSheet (h : Half) (n : Nat) (x : Sheet) : Half :=
  match n with
  | 0 => { h with s0 := x } | 1 => { h with s1 := x } | 2 => { h with s2 := x } | _ => { h with s3 := x }

/-- The poison mask of a half over its 16 lines. -/
def Half.poison16 (h : Half) : BitVec 16 := h.s3.poison ++ h.s2.poison ++ h.s1.poison ++ h.s0.poison

/-- The host-poison mask of a half over its 16 lines. -/
def Half.host16 (h : Half) : BitVec 16 := h.s3.host ++ h.s2.host ++ h.s1.host ++ h.s0.host

/-- Set or clear bit k of a 16-bit mask. -/
def bit16 (m : BitVec 16) (k : Nat) (b : Bool) : BitVec 16 :=
  if b then m ||| (1#16 <<< k) else m &&& ~~~ (1#16 <<< k)

/-- The line of a block that holds the poison source (R202): byte 0 is 1 for a host write's poison. -/
def poisonLine (host : Bool) : BitVec 512 := if host then 1 else 0

/-- Set line k of a block valid with data or poison (R198, R207). -/
def Block16.setLine (b : Block16) (k : Nat) (data : BitVec 512) (poison : Bool) : Block16 :=
  { valid := bit16 b.valid k true, poison := bit16 b.poison k poison, part := bit16 b.part k false,
    lines := b.lines.put 0 k data, masks := b.masks.put 0 k 0 }

/-- Store enabled bytes of line k under the partial-line entry of the line (R207). -/
def Block16.setPart (b : Block16) (k : Nat) (data : BitVec 512) (be : BitVec 64) : Block16 :=
  { b with part := bit16 b.part k true, lines := b.lines.put 0 k (mergeLine (b.lines.get 0 k) data be),
           masks := b.masks.put 0 k (b.masks.get 0 k ||| be) }

/-- A line the block holds VALID. -/
def Block16.isValid (b : Block16) (k : Nat) : Bool := b.valid.getLsbD k

/-- A line the block holds PARTIAL. -/
def Block16.isPart (b : Block16) (k : Nat) : Bool := b.part.getLsbD k

/-- A line the block holds poisoned. -/
def Block16.isPoison (b : Block16) (k : Nat) : Bool := b.poison.getLsbD k

/-- Bring a line that is not valid up from a sheet's line: a PARTIAL line takes its bytes over it, and a poisoned one stays
poisoned (R61, R196, R199, R204). -/
def Block16.fillLine (b : Block16) (k : Nat) (data : BitVec 512) (poison host : Bool) : Block16 :=
  if b.isValid k then b
  else if poison then b.setLine k (poisonLine host) true
  else if b.isPart k then b.setLine k (mergeLine data (b.lines.get 0 k) (b.masks.get 0 k)) false
  else b.setLine k data false

/-- Bring all four lines of a sheet into a block. -/
def Block16.fillSheet (b : Block16) (n : Nat) (s : Sheet) : Block16 :=
  (List.range 4).foldl (fun b j =>
    b.fillLine (4 * n + j) (s.line j) (s.poison.getLsbD j) (s.host.getLsbD j)) b

/-- Poison every line of a sheet that the block does not hold valid (R199). -/
def Block16.loseSheet (b : Block16) (n : Nat) : Block16 := b.fillSheet n Sheet.lost

/-- A sheet of a block whose four lines are valid, as eviction writes it (R199, R202). -/
def Block16.sheet (b : Block16) (n : Nat) : Sheet :=
  let p := b.poison.extractLsb' (4 * n) 4
  let src := fun j => b.isPoison (4 * n + j) && (b.lines.get 0 (4 * n + j)).getLsbD 0
  let ln := fun j => if b.isPoison (4 * n + j) then 0 else b.lines.get 0 (4 * n + j)
  { l0 := ln 0, l1 := ln 1, l2 := ln 2, l3 := ln 3, poison := p,
    host := BitVec.ofBool (src 3) ++ BitVec.ofBool (src 2) ++ BitVec.ofBool (src 1) ++ BitVec.ofBool (src 0) }

/-- A half from a block whose lines are all valid. -/
def Block16.half (b : Block16) (q : Nat) (k : HalfKind) : Half :=
  ⟨q, k, b.sheet 0, b.sheet 1, b.sheet 2, b.sheet 3⟩

/-- A block whose 16 lines come from a half. -/
def Half.block (h : Half) : Block16 :=
  (List.range 4).foldl (fun b n => b.fillSheet n (h.sheet n)) Block16.empty

/-- A block whose 16 lines are one pattern. -/
def Block16.ofPattern (p : BitVec 512) : Block16 :=
  (List.range 4).foldl (fun b n => b.fillSheet n (Sheet.filled p)) Block16.empty

/-- A block whose 16 lines are poisoned by the module (R162). -/
def Block16.allPoison : Block16 := (List.range 4).foldl (fun b n => b.loseSheet n) Block16.empty

/-- The 64 bytes of a line. -/
def lineBytes (l : BitVec 512) : List (BitVec 8) := (List.range 64).map (fun k => l.extractLsb' (8 * k) 8)

/-- A line from bytes, byte 0 lowest (R9). -/
def lineOfBytes (b : List (BitVec 8)) : BitVec 512 := BitVec.ofNat 512 (leNat b)

/-! ## Bands and drift (R137, R141, R142) -/

/-- The band of a temperature, without hysteresis (R137). -/
def bandOf (t : Int) : Nat :=
  if t < 25 then 0 else if t < 45 then 1 else if t < 65 then 2 else if t < 80 then 3 else if t < 90 then 4 else 5

/-- The edges of the age buckets in minutes (R141). -/
def ageEdges : List Nat := [60, 1440, 10080, 43200, 129600, 525960]

/-- The bucket of an age in minutes (R141). -/
def ageBucket (m : Nat) : Nat := (ageEdges.filter (fun e => e ≤ m)).length

/-- The drift step D(a, b) (R142). -/
def drift (a b : Nat) : Int := driftSteps[7 * b + a]?.getD 0

/-- The probe bucket of a SWEEP median S in band b: the highest bucket with D(a, b) ≤ S, and 0 where there is none (R144). -/
def probeBucket (sweep : Int) (b : Nat) : Nat := (List.range 7).foldl (fun m a => if drift a b ≤ sweep then a else m) 0

/-- The lower edge of a bucket in minutes. -/
def bucketEdge (a : Nat) : Nat := if a = 0 then 0 else ageEdges[a - 1]?.getD 0

/-- The sizing limit of a hot band in minutes (R146). -/
def sizingLimit (b : Nat) : Nat := if b ≤ 2 then 43200 else if b = 3 then 10080 else if b = 4 then 1440 else 240

/-! ## Registers by channel, die and package -/

/-- Read a field of channel c (R151). -/
def State.rdC (s : State) (f : Field) (c : Nat) : Nat := s.rd f (c / 16) (c % 16)

/-- Write a field of channel c. -/
def State.wrC (s : State) (f : Field) (c v : Nat) : State := s.wr f (c / 16) (c % 16) v

/-- Count in a field of channel c. -/
def State.bumpC (s : State) (f : Field) (c n : Nat) : State := s.bump f (c / 16) (c % 16) n

/-- Read a field of module media die n (R151). -/
def State.rdM (s : State) (f : Field) (n : Nat) : Nat := s.rd f (n / 160) (n % 160)

/-- Write a field of module media die n. -/
def State.wrM (s : State) (f : Field) (n v : Nat) : State := s.wr f (n / 160) (n % 160) v

/-- The media die that holds a member number of a channel as serving member, or as the Returning die (R23, R290). -/
def State.holder (s : State) (c m : Nat) : Option Nat :=
  ((List.range 10).map (fun p => 10 * c + p)).find? (fun n =>
    s.rdM Reg.MED_DIE.MEMBER n == m && (s.rdM Reg.MED_DIE.ROLE n == 0 || s.rdM Reg.MED_DIE.ROLE n == 3))

/-- The state of a channel: 0 redundant, 1 rebuilding, 2 exposed, 3 verifying, 4 lost (R306). -/
def State.chanState (s : State) (c : Nat) : Nat := s.rdC Reg.SPR_CHAN.STATE c

/-- A lost channel (R286). -/
def State.chanLost (s : State) (c : Nat) : Bool := s.chanState c == 4

/-- The member of a channel that is failed, rebuilding or Returning (15 for none). -/
def State.chanMember (s : State) (c : Nat) : Nat := s.rdC Reg.SPR_CHAN.MEMBER c

/-- The bus slots a read may need on a channel (R188): 8 while a member is failed, rebuilding or Returning. -/
def State.slotCost (s : State) (c : Nat) : Nat :=
  if s.chanState c = 0 || s.chanLost c then 1 else 8

/-- The Zorsa die throttle of R455 holds on a die: its own, the board's or the inlet's. -/
def State.dieThrottled (s : State) (d : Nat) : Bool :=
  let t := s.rd Reg.THM_STATUS.THROTTLE d 0
  t.testBit 0 || t.testBit 4 || t.testBit 5

/-- Event k of channel c's group in the fixed bank of its die (R476). -/
def State.tallyC (s : State) (c k n : Nat) : State := s.tally (dieOf c) (12 * (c % 16) + k) n

/-! ## Sets and ways (R201) -/

/-- The sets of a die's Caddy with both packages, and after the loss of one (R201). -/
def setsBoth : Nat := 10485760
/-- R201. -/
def setsOne : Nat := 3670016

/-- The sets of a die's Caddy in force (R201, R219, R220): both packages serve, or one. -/
def State.sets (s : State) (die : Nat) : Nat :=
  if s.rd Reg.DMC_PKG.STATE die 0 = 0 ∧ s.rd Reg.DMC_PKG.STATE die 1 = 0 then setsBoth else setsOne

/-- The number u of a quire (R201). -/
def caddyU (q : Nat) : Nat := chanOf q % 16 * quiresPerChannel + indexOf q

/-- The set of a quire. -/
def State.setOf (s : State) (q : Nat) : Nat := caddyU q % s.sets (ownerOf q)

/-- The LPDDR5X package that holds the block and the tag line of a set of a die (R201). -/
def State.packageOfSet (s : State) (d set : Nat) : Nat :=
  if s.bothServe d then 2 * d + set % 2 else if s.pkgState (2 * d) = 0 then 2 * d else 2 * d + 1

/-- The LPDDR5X package that holds a quire's block. -/
def State.packageOf (s : State) (q : Nat) : Nat := s.packageOfSet (ownerOf q) (s.setOf q)

/-- The place of a set within its package (R201). -/
def State.setPlace (s : State) (d set : Nat) : Nat := if s.bothServe d then set / 2 else set

/-- The logical address of line k of way w of a set (R201, R224). -/
def State.lineAddr (s : State) (d set w k : Nat) : Nat :=
  DramArea.caddy.base (s.bothServe d) + (s.setPlace d set * 8 + w) * 1024 + 64 * k

/-- The logical address of a set's tag line. -/
def State.tagAddr (s : State) (d set : Nat) : Nat := DramArea.tags.base (s.bothServe d) + s.setPlace d set * 64

/-- The package and the logical address of a line of a die's map (R152, R220): pages lie on the package of their parity. -/
def State.mapAddr (s : State) (d line : Nat) : Nat × Nat :=
  let page := line / 64
  if s.bothServe d then (2 * d + page % 2, page / 2 * 4096 + line % 64 * 64)
  else (s.packageOfSet d 0, line * 64)

/-- A request for lines of the block in way w of a quire's set. -/
def State.blockAccess (s : State) (q w port k count : Nat) (write : Bool) : State :=
  s.accesses (s.packageOf q) port (s.lineAddr (ownerOf q) (s.setOf q) w k) count write

/-- The key of a way. -/
def wayKey (die set w : Nat) : Nat := (die * 16777216 + set) * 8 + w

/-- The ways of a quire's set with their numbers. -/
def State.waysOf (s : State) (q : Nat) : List (Nat × Way) :=
  (List.range 8).filterMap (fun w => (s.path.ways.find? (wayKey (ownerOf q) (s.setOf q) w)).map (fun x => (w, x)))

/-- The way that holds a quire (R202). -/
def State.wayOf (s : State) (q : Nat) : Option (Nat × Way) := (s.waysOf q).find? (fun p => p.2.quire == q)

/-- Put a way in its place. -/
def State.putWay (s : State) (q w : Nat) (x : Way) : State :=
  { s with path := { s.path with ways := s.path.ways.ins (wayKey (ownerOf q) (s.setOf q) w) x } }

/-- Clear a way (R202: PRESENT clear, every field zero). -/
def State.clearWay (s : State) (q w : Nat) : State :=
  { s with path := { s.path with ways := s.path.ways.del (wayKey (ownerOf q) (s.setOf q) w) } }

/-- The staging entries of a quire, newest first (R211). -/
def State.stagedOf (s : State) (q : Nat) : List Staged := (s.path.staged.filter (fun e => e.quire == q)).reverse

/-- A die's ways. -/
def State.dieWays (s : State) (die : Nat) : List Way :=
  (s.path.ways.filter (fun p => p.1 / 134217728 == die)).map (fun p => p.2)

/-- The dirty blocks of a die, staging included (R209). -/
def State.dirtyOfDie (s : State) (die : Nat) : Nat :=
  ((s.dieWays die).filter (fun w => w.dirty)).length + (s.path.staged.filter (fun e => ownerOf e.quire == die)).length

/-- The dirty blocks of a channel, staging included (R209). -/
def State.dirtyOfChan (s : State) (c : Nat) : Nat :=
  ((s.dieWays (dieOf c)).filter (fun w => w.dirty && chanOf w.quire == c)).length +
    (s.path.staged.filter (fun e => chanOf e.quire == c)).length

/-- The number of set bits of a mask. -/
def popCount {n : Nat} (m : BitVec n) : Nat := ((List.range n).filter (fun k => m.getLsbD k)).length

/-- The partial-line entries a die has in use (R207, R208). -/
def State.partialUsed (s : State) (die : Nat) : Nat :=
  ((s.dieWays die).map (fun w => popCount w.blk.part)).sum +
    ((s.path.staged.filter (fun e => ownerOf e.quire == die)).map (fun e => popCount e.blk.part)).sum

/-- Staging entries of a die in use. -/
def State.stagedCount (s : State) (die : Nat) : Nat :=
  (s.path.staged.filter (fun e => ownerOf e.quire == die)).length

/-- A walk covers quire q and has not reached it. -/
def Walk.waits (w : Walk) (q : Nat) : Bool :=
  w.next ≤ q && q < w.hi && !w.early.contains q &&
    (match w.kind with | .poison (some d) => ownerOf q == d | _ => true)

/-- A quire ahead of the walk keeps its contents until the walk reaches it (R349, R366), where another walk's quires read at once as
the walk leaves them (R102, R163). -/
def WalkKind.keeps : WalkKind → Bool
  | .sweep _ _ _ | .zero _ => true
  | _ => false

/-- The span covers quire q. -/
def Span.has (x : Span) (q : Nat) : Bool := x.chans.getLsbD (chanOf q) && decide (x.lo ≤ q) && decide (q < x.hi)

/-- The entry of a quire that the map does not list: of the newest span that covers it, and else STATE 0 (R57, R74, R163). -/
def unlistedEntry (l : List Span) (q : Nat) : BitVec 32 := ((l.find? (fun x => x.has q)).map (fun x => x.entry)).getD 0

/-- The map's own entry of a quire (R152). -/
def State.mapEntry (s : State) (q : Nat) : BitVec 32 := s.mapping.map.get (unlistedEntry s.mapping.unlisted q) q

/-- The map entry of a quire as a request reads it. A poison walk or an unmapping walk that has not yet reached a quire acts as if it
had (R102, R163), and so does a change that waits behind the quire's stripe in flight (R154, R169). -/
def State.entry (s : State) (q : Nat) : BitVec 32 :=
  match s.mapping.walks.find? (fun w => w.waits q && !w.kind.keeps) with
  | some w => match w.kind with | .poison _ => mkEntry 3 0 0 0 | _ => 0
  | none =>
    match s.mapping.held.find? q with
    | some h => h.entry
    | none => s.mapEntry q

/-! ## Caches of metadata lines (R153, R203) -/

/-- A cache of so many sets holds a line. -/
def Cache.holds (c : Cache) (sets line : Nat) : Bool := (c.get [] (line % sets)).any (fun p => p.1 == line)

/-- A line of a cache of so many sets and ways is used, and marked dirty where it changes: it is then the line used last, and a full set
gives up the line used longest ago (log entry 23). -/
def Cache.touch (c : Cache) (sets ways line : Nat) (dirty : Bool) : Cache :=
  let set := c.get [] (line % sets)
  let was := ((set.find? (fun p => p.1 == line)).map (fun p => p.2)).getD false
  c.put [] (line % sets) (((line, dirty || was) :: set.filter (fun p => p.1 != line)).take ways)

/-- The dirty line that a full set gives up for a line that the cache does not hold. -/
def Cache.displaced (c : Cache) (sets ways line : Nat) : Option Nat :=
  if c.holds sets line then none
  else match (c.get [] (line % sets))[ways - 1]? with
    | some (l, true) => some l
    | _ => none

/-- The 64-byte map line of a quire, within its die (R152). -/
def mapLineOf (q : Nat) : Nat := caddyU q / 16

/-- The probe of a quire's tag line through its die's tag cache (R203), with its counter and the events of R476. -/
def State.tagTouch (s : State) (q : Nat) : State :=
  let d := ownerOf q
  let x := s.path.tagCache.get d
  let s1 := ({ s with path := { s.path with tagCache := s.path.tagCache.modify d (fun _ => x.touch 4096 16 (s.setOf q) true) } }).tally d 332 1
  if x.holds 4096 (s.setOf q) then s1
  else ((s1.bump Reg.CDY_STAT_TAGC_MISS.COUNT d 0 1).tally d 222 1).access (s.packageOf q) 0 (s.tagAddr d (s.setOf q)) false

/-- Scan mode, which only a cold start ends (R358). -/
def State.scanning (s : State) : Bool := s.reg Reg.SEC_STATUS.SCAN == 1

/-- A mode in which the module serves CXL.mem (R75); in scan mode its credits are stopped (R358). -/
def State.serves (s : State) : Bool :=
  (match s.ctl.mode with | .m5 | .m6 | .m10 => true | _ => false) && !s.scanning

/-- Serve or Doze, and not in scan mode. -/
def State.inService (s : State) : Bool :=
  (match s.ctl.mode with | .m5 | .m6 => true | _ => false) && !s.scanning

/-- Modes in which firmware runs and data may move: M2 to M8. -/
def State.running (s : State) : Bool :=
  match s.ctl.mode with | .m2 | .m3 | .m4 | .m5 | .m6 | .m7 | .m8 => true | _ => false

/-- A powered module: any mode but M0. -/
def State.powered (s : State) : Bool := s.ctl.mode != .m0

end Sys2Proof.Machine
end

