-- ==== Sys2Proof/Machine/Tree.lean ====
section
/-! DEFINITION. The map cache and the integrity tree (R153, R337 to R339): map lookups and updates, the counters of protected pages and of
counter lines, the tree cache, and what writing a line of a protected page to LPDDR5X does. -/

namespace Sys2Proof.Machine

/-! ## Places (R337, R338) -/

/-- The page of a die's segment table that holds a segment's entry, as a protected page (R337). -/
def segPage (c t : Nat) : Nat := 6291456 + (c % 16 * 65536 + t) / 256

/-- The number of a counter: that of page i where the level is 0, and else that of line i of level L(level − 1) (R338). -/
def ctrKey (level i : Nat) : Nat := level * 8388608 + i

/-- The lines that come before a level's in the tree's area: those of L0 to L6, the page MACs and the segment table (R338, log entry 98). -/
def treeBefore : Nat → List Nat
  | 1 => [] | 2 => [786944] | 3 => [786944, 98368] | 4 => [786944, 98368, 12296] | 5 => [786944, 98368, 12296, 1537]
  | 6 => [786944, 98368, 12296, 1537, 193] | 7 => [786944, 98368, 12296, 1537, 193, 25] | 8 => [786944, 98368, 12296, 1537, 193, 25, 4]
  | _ => [786944, 98368, 12296, 1537, 193, 25, 4, 786944]

/-- The package and the logical address of a line of the tree's area: levels 1 to 7 are L0 to L6, 8 the page MACs, 9 the segment table.
Lines of even index lie on the die's even package (R338). -/
def State.treeAddr (s : State) (d level i : Nat) : Nat × Nat :=
  let base := DramArea.tree.base (s.bothServe d)
  if s.bothServe d then (2 * d + i % 2, base + (((treeBefore level).map (fun n => (n + 1) / 2)).sum + i / 2) * 64)
  else (s.packageOfSet d 0, base + ((treeBefore level).sum + i) * 64)

/-- A request of port P1 for a line of the tree's area. -/
def State.treeAccess (s : State) (d level i : Nat) (write : Bool) : State :=
  s.access (s.treeAddr d level i).1 1 (s.treeAddr d level i).2 write

/-! ## The tree cache (R339) -/

/-- A counter rises by one (R338, R339): 56 bits. -/
def State.raiseCtr (s : State) (d key : Nat) : State :=
  { s with mapping := { s.mapping with ctrs := s.mapping.ctrs.modify d (fun t => t.put 0 key ((t.get 0 key + 1) % 72057594037927936)) } }

/-- The tree cache of a die takes a counter line. -/
def State.putLine (s : State) (d : Nat) (x : Cache) : State :=
  { s with mapping := { s.mapping with tree := s.mapping.tree.modify d (fun _ => x) } }

/-- Bring line i of level L(level − 1) into the tree cache, dirty where one of its counters changes (R339): a line that is missing is
read through P1 and checked against its parent counter, whose line is fetched first; a dirty line that it displaces is written back, and
its parent counter rises. The root, above level 7, is on the die. The first operand bounds the chain of displacements (log entry 98). -/
def State.treeLine : Nat → State → Nat → Nat → Nat → Bool → State
  | 0, s, _, _, _, _ => s
  | fuel + 1, s, d, level, i, dirty =>
    if 8 ≤ level then s
    else
      let key := ctrKey level i
      let s1 :=
        if (s.mapping.tree.get d).holds 2048 key then s
        else (s.treeLine fuel d (level + 1) (i / 8) false).treeAccess d level i false
      let s2 := s1.putLine d ((s1.mapping.tree.get d).touch 2048 8 key dirty)
      match (s1.mapping.tree.get d).displaced 2048 8 key with
      | none => s2
      | some k =>
        ((s2.treeAccess d (k / 8388608) (k % 8388608) true).raiseCtr d k).treeLine fuel d (k / 8388608 + 1) (k % 8388608 / 8) true

/-- The chain of displacements that one access follows. -/
def treeFuel : Nat := 24

/-- A line of a protected page is written to LPDDR5X (R339): its old contents are read through P1, the page's counter rises in the tree
cache, and the line and the page's MAC word are written. -/
def State.pageWritten (s : State) (d page : Nat) (at' : Nat × Nat) : State :=
  let s1 := (((s.access at'.1 1 at'.2 false).treeLine treeFuel d 1 (page / 8) true).raiseCtr d page).access at'.1 1 at'.2 true
  s1.treeAccess d 8 (page / 8) true

/-- A line of the segment table is written (R156, R339). -/
def State.segWritten (s : State) (c t : Nat) : State :=
  s.pageWritten (dieOf c) (segPage c t) (s.treeAddr (dieOf c) 9 ((c % 16 * 65536 + t) / 4))

/-! ## The map cache (R153) -/

/-- A dirty line of the map cache is written back to LPDDR5X. -/
def State.mapWritten (s : State) (d line : Nat) : State := s.pageWritten d (line / 64) (s.mapAddr d line)

/-- The map lookup or the map update of a quire through its die's map cache (R153), with the events of R476. A dirty line that the
quire's displaces is written back. -/
def State.mapTouch (s : State) (q : Nat) (dirty : Bool) : State :=
  let d := ownerOf q
  let x := s.mapping.cache.get d
  let hit := x.holds 8192 (mapLineOf q)
  let s1 : State := { s with mapping := { s.mapping with cache := s.mapping.cache.modify d (fun _ => x.touch 8192 16 (mapLineOf q) dirty) } }
  let s2 := (s1.tally d 330 1).tally d 223 (if hit then 0 else 1)
  if hit then s2
  else
    let s3 := match x.displaced 8192 16 (mapLineOf q) with | some l => s2.mapWritten d l | none => s2
    s3.access (s.mapAddr d (mapLineOf q)).1 1 (s.mapAddr d (mapLineOf q)).2 false

/-- The dirty lines of a cache. -/
def Cache.dirtyLines (c : Cache) : List Nat := c.flatMap (fun p => (p.2.filter (fun l => l.2)).map (fun l => l.1))

/-- A cache whose lines are all clean. -/
def Cache.clean (c : Cache) : Cache := c.map (fun p => (p.1, p.2.map (fun l => (l.1, false))))

/-- The dirty counter lines of one level are written back: the parent counter of each rises. -/
def State.writeTreeLevel (s : State) (d level : Nat) : State :=
  (((s.mapping.tree.get d).dirtyLines.filter (fun k => k / 8388608 == level))).foldl (fun (s : State) k =>
    ((s.treeAccess d level (k % 8388608) true).raiseCtr d k).treeLine treeFuel d (level + 1) (k % 8388608 / 8) true) s

/-- The on-die map, tag and tree caches are written back to LPDDR5X (R415, R419, R428, R339): no line of theirs is dirty. -/
def State.writeBack (s : State) : State :=
  let s1 := [0, 1].foldl (fun (s : State) d => (s.mapping.cache.get d).dirtyLines.foldl (fun s l => s.mapWritten d l) s) s
  let s2 := [0, 1].foldl (fun (s : State) d => [1, 2, 3, 4, 5, 6, 7].foldl (fun s level => s.writeTreeLevel d level) s) s1
  { s2 with
    mapping := { s2.mapping with cache := (s2.mapping.cache.modify 0 Cache.clean).modify 1 Cache.clean
                                 tree := (s2.mapping.tree.modify 0 Cache.clean).modify 1 Cache.clean }
    path := { s2.path with tagCache := (s2.path.tagCache.modify 0 Cache.clean).modify 1 Cache.clean } }

end Sys2Proof.Machine
end

