-- ==== Sys2Proof/Machine/Runs.lean ====
section
/-! DEFINITION. Self-test runs as state (R515 to R524, R527): which slices run, the records they leave, and how a run begins, ends
and is stopped. -/

namespace Sys2Proof.Machine

/-! ## Self-test runs that a Pour or a reset stops (R524) -/

/-- Change the newest run. -/
def State.onRun (s : State) (f : TestRun → TestRun) : State :=
  match s.test with
  | [] => s
  | r :: t => { s with test := f r :: t }

/-- The run in progress, if one is. -/
def State.runningTest (s : State) : Option TestRun :=
  match s.test with
  | r :: _ => if r.state = 1 then some r else none
  | [] => none

/-- The die that runs a slice (R515). -/
def sliceDie (k : Nat) : Nat := if k < 30 then k % 2 else 0

/-- The slices that run together with slice k, itself among them (R518). -/
def slicePair (k : Nat) : List Nat := if k < 30 then [k / 2 * 2, k / 2 * 2 + 1] else [k]

/-- The budget of a slice in ms (R515). -/
def sliceBudget (k : Nat) : Nat :=
  if k < 2 then 60 else if k < 8 then 30 else if k < 16 then 20 else if k < 18 then 40 else if k < 20 then 20
  else if k < 22 then 100 else if k < 24 then 300 else if k < 26 then 400 else if k < 28 then 100 else if k < 30 then 2000
  else if k = 30 then 200 else if k = 31 then 20 else 60

/-- The budget that a record of a run shows: ten times as long on request in Serve or Doze (R520, R522). -/
def State.runBudget (s : State) (r : TestRun) (k : Nat) : Nat :=
  if r.trigger = 2 ∧ s.reg Reg.MOD_STATUS.SAFE_CAUSE = 0 then 10 * sliceBudget k else sliceBudget k

/-- Show the state of the newest run on both dies (R527). -/
def State.showRun (s : State) (state : Nat) : State :=
  (s.wr Reg.BST_RUN.STATE 0 0 state).wr Reg.BST_RUN.STATE 1 0 state

/-- Show that no slice runs. -/
def State.noSlice (s : State) : State := (s.wr Reg.BST_RUN.SLICE 0 0 63).wr Reg.BST_RUN.SLICE 1 0 63

/-- The slices of a run that are next, or that run (R518). -/
def TestRun.front (r : TestRun) : List Nat :=
  match r.left with
  | [] => []
  | k :: _ => r.left.filter (fun x => (slicePair k).contains x)

/-- The slices that run now: those that BST_RUN.SLICE shows. -/
def State.slicesNow (s : State) : List Nat :=
  match s.runningTest with
  | none => []
  | some r => r.front.filter (fun k => s.rd Reg.BST_RUN.SLICE (sliceDie k) 0 == k)

/-- Start the next slices of the run in progress. -/
def State.startSlices (s : State) : State :=
  match s.runningTest with
  | none => s
  | some r => r.front.foldl (fun (s : State) k => s.wr Reg.BST_RUN.SLICE (sliceDie k) 0 k) s

/-- Place a record among those of a run, in slice order (R523). -/
def insertRec (x : SliceRec) : List SliceRec → List SliceRec
  | [] => [x]
  | y :: t => if x.slice < y.slice then x :: y :: t else y :: insertRec x t

/-- A slice of the newest run has its record (R522, R523, R527): its registers, and for FAIL and SPARED source 625 and the record of
a FAIL. -/
def State.keepSlice (s : State) (x : SliceRec) : State :=
  let d := sliceDie x.slice
  let s1 := s.onRun (fun r => { r with left := r.left.filter (fun k => k != x.slice), recs := insertRec x r.recs })
  let s2 := (((s1.wr Reg.BST_SLICE.VERDICT d x.slice x.verdict).wr Reg.BST_SLICE.COVERAGE d x.slice x.coverage).wr
    Reg.BST_SLICE.UNITS d x.slice (min x.faulty 4095)).wr Reg.BST_SLICE.BUDGET_MS d x.slice x.budget
  let s3 := ((s2.wr Reg.BST_SLICE.DURATION_US d x.slice x.us).wr Reg.BST_SLICE.END_MIN d x.slice (x.ms / 60000)).wr
    Reg.BST_RUN.SLICE d 0 63
  if x.verdict = 3 then ((s3.wrBit Reg.BST_FAILED.MASK d 0 x.slice true).raise 625).log 1 625 [x.slice, x.first]
  else if x.verdict = 2 then s3.raise 625
  else s3

/-- The analog slices (R515). -/
def analogSlices : List Nat := (List.range 13).map (fun k => k + 20)

/-- A complete analog pass has ended (R527). -/
def State.keepAnalog (s : State) (r : TestRun) : State :=
  let verdict := fun (k : Nat) => ((r.recs.find? (fun x => x.slice == k)).map SliceRec.verdict).getD 0
  if !analogSlices.all (fun k => [1, 2, 3].contains (verdict k)) then s
  else
    let good := analogSlices.all (fun k => verdict k == 1 || verdict k == 2)
    (List.range 2).foldl (fun (s : State) d =>
      (s.wr Reg.BST_ANALOG.LAST_MIN d 0 s.minutes).wr Reg.BST_ANALOG.VALID d 0 (if good then 1 else 0)) s

/-- A run ends in a state of R523: 2 ended, 3 aborted; its Ream record, its Totals page and source 624. -/
def State.endRun (s : State) (state : Nat) : State :=
  match s.test with
  | [] => s
  | r :: _ =>
    let s1 := (((s.onRun (fun r => { r with state := state, left := [] })).showRun state).noSlice).keepAnalog r
    ((s1.pageCommit 5057).log 4 624 [r.handle, state]).raise 624

/-- Stop the run in progress: the slices that run end ABORTED and the run is aborted (R524). Their duration and coverage are open. -/
def State.stopRun (s : State) : State :=
  match s.runningTest with
  | none => s
  | some r =>
    (s.slicesNow.foldl (fun (s : State) k =>
      s.draw.keepSlice ⟨k, 4, 0, s.open? % 4294967296, s.open? / 4294967296 % 10001, s.runBudget r k, 0, s.ms,
        s.reg Reg.LNK_POWER_CYCLES.COUNT⟩) s).endRun 3

/-- A new run begins (R523): its handle follows the newest one's, and the newest 8 runs are kept. -/
def State.beginRun (s : State) (trigger : Nat) (mask : BitVec 64) (slices : List Nat) : State :=
  let handle := match s.test with | r :: _ => (r.handle + 1) % 65536 | [] => 1
  let run : TestRun := ⟨handle, 1, mask, trigger, slices, []⟩
  let s1 : State := { s with test := (run :: s.test).take 8 }
  (List.range 2).foldl (fun (s : State) d =>
    (((s.wr Reg.BST_RUN.HANDLE d 0 handle).wr Reg.BST_RUN.TRIGGER d 0 trigger).wr Reg.BST_MASK.REQUESTED d 0 mask.toNat).wr
      Reg.BST_FAILED.MASK d 0 0) ((s1.showRun 1).noSlice)

end Sys2Proof.Machine
end

