-- ==== Sys2Proof/Machine/Bus.lean ====
section
/-! DEFINITION. The media dies on their channel buses: command packets and status codes (R129 to R132), what a die does with a
program, a steep, a redirection or a status read (R124 to R126, R130, R134), the waveforms of a band (R138) and the reference
offsets of a read (R141, R142). -/

namespace Sys2Proof.Machine

/-! ## Segments (R156, R157) -/

/-- The entry of a segment. -/
def State.seg (s : State) (c t : Nat) : Seg := s.mapping.segs.get Seg.shipped (segKey c t)

/-- Change the entry of a segment, whose line of the segment table is written (R156, R339). -/
def State.onSeg (s : State) (c t : Nat) (f : Seg → Seg) : State :=
  ({ s with mapping := { s.mapping with segs := s.mapping.segs.put Seg.shipped (segKey c t) (f (s.seg c t)) } }).segWritten c t

/-- The listed segments of a channel. -/
def State.segsOf (s : State) (c : Nat) : List (Nat × Seg) :=
  (s.mapping.segs.filter (fun p => p.1 / 65536 == c)).map (fun p => (p.1 % 65536, p.2))

/-! ## Packets (R129, R130) -/

/-- The commands of a die (R130). -/
inductive MediaOp where
  | read | program | steep | suspend | resume | abortSteep | status | temp | ident | redirect | standby | powerDown | wake | sweep
deriving DecidableEq, Repr

/-- The opcode of a command (R130). -/
def MediaOp.code : MediaOp → Nat
  | .read => 0x01 | .program => 0x02 | .steep => 0x03 | .suspend => 0x04 | .resume => 0x05 | .abortSteep => 0x06 | .status => 0x07
  | .temp => 0x08 | .ident => 0x09 | .redirect => 0x0A | .standby => 0x0B | .powerDown => 0x0C | .wake => 0x0D | .sweep => 0x0E

/-- One bit step of CRC-8 with polynomial 0x07. -/
def crc8Bit (c : BitVec 8) : BitVec 8 := if c.msb then (c <<< 1) ^^^ 0x07 else c <<< 1

/-- The check byte of a packet's bytes 0 to 14 (R129): CRC-8, polynomial 0x07, initial value 0x00. -/
def crc8 (b : List (BitVec 8)) : BitVec 8 :=
  b.foldl (fun c x => crc8Bit (crc8Bit (crc8Bit (crc8Bit (crc8Bit (crc8Bit (crc8Bit (crc8Bit (c ^^^ x))))))))) 0

/-- A command packet (R129): opcode, position on the channel, frame address, and bytes 6 to 8. -/
structure Packet where
  op : MediaOp
  pos : Nat
  frame : Nat
  args : List (BitVec 8)
deriving DecidableEq, Repr

/-- Bytes 0 to 14 of a packet. -/
def Packet.body (p : Packet) : List (BitVec 8) :=
  ([BitVec.ofNat 8 p.op.code, BitVec.ofNat 8 (p.pos % 16)] ++ leBytes 4 (p.frame % 268435456) ++
    (p.args ++ List.replicate 9 0).take 9)

/-- The 16 bytes of a packet. -/
def Packet.bytes (p : Packet) : List (BitVec 8) := p.body ++ [crc8 p.body]

/-- A die at a position acts on a packet only where it carries that position and a correct check byte (R129). -/
def packetFor (pos : Nat) (b : List (BitVec 8)) : Bool :=
  b.length == 16 && b[1]? == some (BitVec.ofNat 8 pos) && b[15]? == some (crc8 (b.take 15))

/-- The packet of a READ (R129, R142): the three offsets as signed bytes. -/
def ReadCmd.packet (r : ReadCmd) : Packet :=
  ⟨.read, r.die % 10, r.frame, [BitVec.ofInt 8 r.ref1, BitVec.ofInt 8 r.ref2, BitVec.ofInt 8 r.ref3]⟩

/-- The packet of a PROGRAM or a STEEP of frame f of tile t at a band (R129, R139). -/
def bandPacket (op : MediaOp) (n t f band : Nat) : Packet := ⟨op, n % 10, frameAddr t f, [BitVec.ofNat 8 band]⟩

/-! ## Status codes (R131) -/

/-- The status codes of a die. -/
inductive MediaStatus where
  | ok | busy | progFail | steepFail | order | suspLimit | cmdCrc | blank | redirectFull
deriving DecidableEq, Repr

/-- The code of a status (R131). -/
def MediaStatus.code : MediaStatus → Nat
  | .ok => 0 | .busy => 1 | .progFail => 2 | .steepFail => 3 | .order => 4 | .suspLimit => 5 | .cmdCrc => 6 | .blank => 7
  | .redirectFull => 8

/-- The bank of segment t on a die ends a command with a status. -/
def State.bankStatus (s : State) (n t : Nat) (x : MediaStatus) : State :=
  { s with media := { s.media with status := s.media.status.put 0 (bankKey n t) x.code } }

/-- A packet with a wrong check byte reaches a die (R129): it is discarded, and the die's CMD_CRC bit is set. -/
def State.badPacket (s : State) (n : Nat) : State :=
  { s with media := { s.media with crcBit := s.media.crcBit.put false n true } }

/-- What a STATUS read of a die returns for banks 16g to 16g + 15 of a partition (R130): 4 bits to a bank, and the CMD_CRC bit. -/
def State.statusBytes (s : State) (n part g : Nat) : List (BitVec 8) :=
  let code := fun (i : Nat) => s.media.status.get 0 (n * 1024 + part * 64 + 16 * g + i)
  (List.range 8).map (fun k => BitVec.ofNat 8 (code (2 * k) + 16 * code (2 * k + 1))) ++
    [if s.media.crcBit.get false n then 1 else 0]

/-- A STATUS read clears the die's CMD_CRC bit (R130). -/
def State.statusRead (s : State) (n : Nat) : State :=
  { s with media := { s.media with crcBit := s.media.crcBit.put false n false } }

/-! ## Tiles (R122 to R126, R138) -/

/-- A tile of a die. -/
def State.tile (s : State) (n t : Nat) : Tile := s.media.tiles.get (Tile.shipped n) (tileKey n t)

/-- Change a tile of a die. -/
def State.onTile (s : State) (n t : Nat) (f : Tile → Tile) : State :=
  { s with media := { s.media with tiles := s.media.tiles.put (Tile.shipped n) (tileKey n t) (f (s.tile n t)) } }

/-- Whether a tile takes a program of frame f (R124): it has been steeped, its pointer is at most 4,095, and f is not below it. -/
def Tile.takes (x : Tile) (f : Nat) : Bool := x.steeped && x.wptr ≤ 4095 && x.wptr ≤ f

/-- The waveform of a band (R138): set start in mV, set step in mV, pulse width in ns, pulse limit and steep amplitude in mV. -/
def State.waveform (s : State) (d band : Nat) : Nat × Nat × Nat × Nat × Nat :=
  (20 * s.rd Reg.MED_WAVE.SET_START d band, s.rd Reg.MED_WAVE.SET_STEP d band, 10 * s.rd Reg.MED_WAVE.WIDTH d band,
    s.rd Reg.MED_WAVE.PULSE_LIMIT d band, 20 * s.rd Reg.MED_WAVE.STEEP_AMP d band)

/-- The pulses after which a program of a band ends with PROG_FAIL (R138). -/
def State.pulseLimit (s : State) (d band : Nat) : Nat := (s.waveform d band).2.2.2.1

/-- A die answers (R132, R280): its runs of CMD_CRC reports and of timeouts end. -/
def State.answered (s : State) (n : Nat) : State :=
  let hd := s.media.health.get DieHealth.good n
  { s with media := { s.media with health := s.media.health.put DieHealth.good n { hd with crcRun := 0, timeoutRun := 0 } } }

/-- How a program of frame f of tile t ends on a die whose frame verifies at a pulse, under the waveform of a band (R124, R138). -/
def State.programStatus (s : State) (n t f pulses band : Nat) : MediaStatus :=
  if !(s.tile n t).takes f then .order
  else if pulses > s.pulseLimit (n / 160) band then .progFail
  else .ok

/-- A program of frame f of tile t ends on a die (R124, R128): a program that the die took moves the write pointer on, and one that
did not verify counts against the tile; the module reads the status. -/
def State.programDie (s : State) (n t f pulses band : Nat) : State :=
  let x := s.programStatus n t f pulses band
  let s1 := match x with
    | .order => s
    | .progFail => s.onTile n t (fun u => { u with wptr := f + 1, progFail := u.progFail + 1 })
    | _ => s.onTile n t (fun u => { u with wptr := f + 1 })
  ((s1.bankStatus n t x).statusRead n).answered n

/-- A steep of tile t ends on a die (R124, R133): after 2.5 ms with STEEP_FAIL, otherwise with the write pointer at 0. -/
def State.steepDie (s : State) (n t us : Nat) : State :=
  let s1 := if us > 2500 then s.bankStatus n t .steepFail else (s.onTile n t (fun _ => Tile.fresh)).bankStatus n t .ok
  (s1.statusRead n).answered n

/-- ABORT_STEEP on a die's bank (R130): the tile refuses every program. -/
def State.abortDie (s : State) (n t : Nat) : State := s.onTile n t (fun u => { u with wptr := 8191 })

/-- The spare slot that serves a tile index of a bank (R126): the newest entry that names it (log entry 75). -/
def redirectSlot (used : List Nat) (index : Nat) : Option Nat :=
  ((List.range used.length).filter (fun k => used[k]? == some index)).getLast?

/-- Forget the suspensions of a segment's bank on every die of its channel: its operation has ended (R134). -/
def State.clearSuspends (s : State) (c t : Nat) : State :=
  let keys := (List.range 10).map (fun p => bankKey (10 * c + p) t)
  { s with media := { s.media with
      suspends := keys.foldl (fun u k => u.del k) s.media.suspends,
      suspended := s.media.suspended.filter (fun k => !keys.contains k) } }

/-! ## Ages and reference offsets (R141, R142) -/

/-- The off-time estimate that a die adds to the age of a segment (R141, R144): none once the segment has been steeped since the
cold start that made the estimate. -/
def State.offOf (s : State) (n : Nat) (g : Seg) : Nat := if g.fresh then 0 else s.rdM Reg.MED_DIE.OFF_AGE n

/-- The age of a segment in minutes as a die's reads take it: OFF_AGE adds to the age, as R141 and R146 say
(log entry 99). -/
def State.ageOn (s : State) (n : Nat) (g : Seg) : Nat := s.minutes - g.epoch + s.offOf n g

/-- A READ of a frame with the offsets that MED_RREF holds for an age bucket and a band (R142). -/
def State.readWith (s : State) (n t f bucket band : Nat) : ReadCmd :=
  let i := 7 * band + bucket
  ⟨n, frameAddr t f, signedVal 8 (s.rd Reg.MED_RREF.REF1 (n / 160) i), signedVal 8 (s.rd Reg.MED_RREF.REF2 (n / 160) i),
    signedVal 8 (s.rd Reg.MED_RREF.REF3 (n / 160) i)⟩

/-- The READ of a frame of a segment on a die (R142, R192): the bucket of the segment's age there, the die's present band. -/
def State.readCmd (s : State) (n t f : Nat) : ReadCmd :=
  s.readWith n t f (ageBucket (s.ageOn n (s.seg (n / 10) t))) (s.rdM Reg.MED_DIE.BAND n)

end Sys2Proof.Machine
end

