-- ==== Sys2Proof/Machine/Flags.lean ====
section
/-! DEFINITION. The flags and the mode: Degraded, Write-through and Read-only with their event records (R76, R299), the
mode and what mirrors it, the dirty budget and its limits (R209 to R220), the energy estimate (R310), and Halt entry (R344). -/

namespace Sys2Proof.Machine

/-! ## Alerts (R536) -/

/-- An alert rises, replacing one that was acknowledged. -/
def State.newAlert (s : State) (k : Nat) : State := { s with ctl := { s.ctl with acked := setBit s.ctl.acked k false } }

/-- An alert rises that only an acknowledgement ends. -/
def State.latchAlert (s : State) (k : Nat) : State :=
  { s with ctl := { s.ctl with alert := setBit s.ctl.alert k true, acked := setBit s.ctl.acked k false } }

/-- The alerts whose conditions hold. -/
def State.alerts (s : State) : Nat :=
  setBit (setBit s.ctl.alert 0 s.ctl.degraded) 2 s.ctl.writeThrough

/-- An alert stands: a condition holds that is not acknowledged. -/
def State.alertStands (s : State) : Bool := (List.range 4).any (fun k => s.alerts.testBit k && !s.ctl.acked.testBit k)

/-! ## Degraded (R299) -/

/-- A role that no engine carries as its own: the engine that had it has failed and the spare did not take it (R299). -/
def State.roleUnspared (s : State) (e : Nat) : Bool :=
  !((List.range 24).any (fun j =>
    s.rd Reg.ENG_STATE.ROLE (e % 2) j == e && s.rd Reg.ENG_STATE.STATE (e % 2) j != 3))

/-- A cause of R299 holds, or the always-on rails run from the bus (R445). Two die-to-die modules at x8 count as one that is down (R293). -/
def State.degradedCause (s : State) : Bool :=
  (List.range 32).any (fun c => s.chanState c != 0) ||
  (List.range 4).any (fun n => s.rdP Reg.DMC_PKG.STATE n != 0) ||
  (List.range 46).any (fun e => s.roleUnspared e) ||
  s.rd Reg.LNK_D2D_STATUS.DOWN 0 0 != 0 ||
  popCount (BitVec.ofNat 4 (s.rd Reg.LNK_D2D_STATUS.DEGRADED 0 0)) ≥ 2 ||
  s.reg Reg.POUR_ENERGY.EST_MJ < 13000 ||
  s.reg Reg.SPR_SPARES.PHASE_SHORT != 0 ||
  (List.range 2).any (fun d => (List.range 8).all (fun i => s.rd Reg.THM_ZORSA.BROKEN d i == 1)) ||
  s.reg Reg.PWR_STATUS.AON_FROM_BUS != 0 || s.ctl.writeThrough

/-- Recompute Degraded; a change raises a Memory Module event record (R76): warning when set, informational when cleared
(R106). -/
def State.settle (s : State) : State :=
  let d := s.degradedCause
  if d = s.ctl.degraded then s
  else
    let s1 := (({ s with ctl := { s.ctl with degraded := d } }).setReg Reg.LNK_MODE.DEGRADED (if d then 1 else 0)).newAlert 0
    if d then s1.event 1 .memoryModule (.flagSet 0) [] else s1.event 0 .memoryModule (.flagClear 0) []

/-- Enter or leave Write-through (R76, R310): its event record and source 558. -/
def State.setWriteThrough (s : State) (b : Bool) : State :=
  if b = s.ctl.writeThrough then s
  else
    let s1 := ((({ s with ctl := { s.ctl with writeThrough := b } }).setReg Reg.LNK_MODE.WRITE_THROUGH
      (if b then 1 else 0)).newAlert 2).raise 558
    let s2 := (s1.wr Reg.CDY_STATUS.WRITE_THROUGH 0 0 (if b then 1 else 0)).wr Reg.CDY_STATUS.WRITE_THROUGH 1 0
      (if b then 1 else 0)
    if b then s2.event 1 .memoryModule (.flagSet 1) [] else s2.event 0 .memoryModule (.flagClear 1) []

/-- Enter Read-only, which never clears (R76, R181). -/
def State.setReadOnly (s : State) : State :=
  if s.ctl.readOnly then s
  else
    ((((({ s with ctl := { s.ctl with readOnly := true } }).setReg Reg.LNK_MODE.READ_ONLY 1).wr
      Reg.MAP_OP_MIN.READ_ONLY 0 0 1).wr Reg.MAP_OP_MIN.READ_ONLY 1 0 1)).event 2 .memoryModule (.flagSet 2) []

/-! ## The energy estimate and the dirty budget (R209, R310, R311, R220) -/

/-- The energy of one sub-bank in units of 10⁻⁶ mJ·2: C in µF, V in mV capped at 35 V (R310). -/
def subBankEnergy (capUf mv : Nat) : Nat :=
  let v := min mv 35000
  if v < 12000 then 0 else capUf * (v * v - 144000000)

/-- E of R310 in mJ, rounded down, over the sub-banks that are not isolated. A sub-bank below 12 V holds no usable energy
(log entry 25). -/
def State.energyMj (s : State) : Nat :=
  ((List.range 8).map (fun i =>
    if s.rd Reg.POUR_SUBBANK.ISOLATED 0 i = 1 then 0
    else subBankEnergy (s.rd Reg.POUR_SUBBANK.CAP_UF 0 i) (s.pour.volts[i]?.getD 0))).sum / 2000000000

/-- The budget that an energy estimate selects (R310). -/
def budgetOf (mj : Nat) : Nat :=
  if mj ≥ 13000 then 8 else if mj ≥ 10000 then 6 else if mj ≥ 7500 then 4 else if mj ≥ 5000 then 2 else 0

/-- The cap of STRAP_POUR_DEFAULT (R311). -/
def strapCapGib (v : Nat) : Nat := match v with | 0 => 8 | 1 => 4 | _ => 2

/-- The dirty limit of a die in blocks at budget B (R209). -/
def dieLimit (b : Nat) : Nat := if b = 0 then 4096 else b * 524288

/-- The dirty limit of a channel in blocks at budget B (R209). -/
def chanLimit (b : Nat) : Nat := if b = 0 then 256 else b * 36864

/-- Show the limits of the budget in force on both dies; a die with a returning package holds at most 1,048,576 blocks
(R220). -/
def State.showLimits (s : State) : State :=
  let b := s.reg Reg.LNK_DIRTY_BUDGET.GIB
  (List.range 2).foldl (fun s d =>
    let ret := s.rd Reg.CDY_STATUS.PKG_RETURNING d 0 != 0
    (s.wr Reg.CDY_DIRTY_LIMIT.BLOCKS d 0 (if ret then min (dieLimit b) 1048576 else dieLimit b)).wr
      Reg.CDY_DIRTY_LIMIT.CHAN_BLOCKS d 0 (chanLimit b)) s

/-- Recompute E and B from the voltages held (R310, R311): the registers that show them, source 555 on a change of B,
Write-through below 5 J, the limits, and Degraded. The cap of R311 ends once every sub-bank that is not isolated has
been measured. -/
def State.updateEnergy (s : State) : State :=
  let e := s.energyMj
  let capped := s.reg Reg.POUR_ENERGY.STRAP_CAP == 1 &&
    !((List.range 8).all (fun i => s.rd Reg.POUR_SUBBANK.ISOLATED 0 i == 1 || s.pour.measured.contains i))
  let b := if capped then min (budgetOf e) (strapCapGib (s.reg Reg.POUR_CFG.STRAP_DEFAULT)) else budgetOf e
  let s1 := ((s.setReg Reg.POUR_ENERGY.EST_MJ e).setReg Reg.POUR_ENERGY.BUDGET_GIB b).setReg
    Reg.POUR_ENERGY.STRAP_CAP (if capped then 1 else 0)
  let s2 := if b = s.reg Reg.LNK_DIRTY_BUDGET.GIB then s1 else (s1.setReg Reg.LNK_DIRTY_BUDGET.GIB b).raise 555
  ((s2.setWriteThrough (decide (e < 5000))).showLimits).settle

/-! ## Modes (R412, R113) -/

/-- Set or clear Memory_Active at a head whose CXL.mem is enabled, with source 512 + 12h + 5 on a change (R75, R109). -/
def State.memActiveAt (s : State) (h : Nat) (on : Bool) : State :=
  let v := if on && s.rd Reg.LNK_STATUS.CXL_MEM h 0 == 1 then 1 else 0
  if s.rd Reg.LNK_STATUS.MEM_ACTIVE h 0 = v then s
  else (s.wr Reg.LNK_STATUS.MEM_ACTIVE h 0 v).raise (512 + 12 * h + 5)

/-- Memory_Active of both heads. -/
def State.memActive (s : State) (on : Bool) : State :=
  let s1 := s.memActiveAt 0 on
  if s.dual then s1.memActiveAt 1 on else s1

/-- The modes that show Memory_Active (R113). -/
def Mode.active : Mode → Bool
  | .m5 | .m6 | .m7 => true
  | _ => false

/-- Enter a mode: PREV_MODE, and Memory_Active of R113. -/
def State.toMode (s : State) (m : Mode) : State :=
  (({ s with ctl := { s.ctl with mode := m } }).setReg Reg.MOD_STATUS.PREV_MODE s.ctl.mode.num).memActive m.active

/-- A pending removal is cancelled (R539): source 627 and its event record. -/
def State.cancelRemoval (s : State) : State :=
  if s.reg Reg.PIN_REMOVAL.STATE ≠ 1 then s
  else ((s.setReg Reg.PIN_REMOVAL.STATE 0).event 0 .memoryModule .removalCancelled []).raise 627

/-! ## Doze and the DRAM (R243, R437) -/

/-- Package n's self-refresh entry is counted where it serves (R476 event 26 of its group). -/
def State.refreshEntry (s : State) (n : Nat) : State :=
  if s.rdP Reg.DMC_PKG.STATE n = 0 then s.tally (n / 2) (256 + 32 * (n % 2) + 26) 1 else s

/-- The LPDDR5X of both dies enters or leaves self-refresh (R243). -/
def State.selfRefresh (s : State) (on : Bool) : State :=
  (List.range 2).foldl (fun (s : State) d =>
    let s1 := if on && s.rd Reg.DMC_MODE.SELF_REFRESH d 0 == 0 then (s.refreshEntry (2 * d)).refreshEntry (2 * d + 1) else s
    s1.wr Reg.DMC_MODE.SELF_REFRESH d 0 (if on then 1 else 0)) s

/-- Show a Doze state (R437, R118) and what it makes of the links, which are in L1 in D3 and D4 (R85, R429), and of the DRAM (R243). -/
def State.showDoze (s : State) (d : Nat) : State :=
  let power := fun (hd : Head) => { hd with l1 := hd.linkUp && decide (d ≥ 3) }
  let s1 := (((s.setReg Reg.MOD_STATUS.DOZE d).setReg Reg.LNK_MODE.DOZE d).onHead 0 power).onHead 1 power
  (List.range 2).foldl (fun (s : State) k =>
    s.wr Reg.DMC_MODE.DEEP_SLEEP k 0 (if d ≥ 4 then 1 else 0)) (s1.selfRefresh (decide (d ≥ 3)))

/-! ## Halt (R343, R344) -/

/-- Answer every read that waits on a plan with poison and every Write-through write that waits with its completion. -/
def State.answerAll (s : State) : State :=
  let reads := s.path.plans.flatMap (fun p => p.readers.map (fun r => Out.memData r.head r.tag none))
  let writes := s.path.staged.flatMap (fun e => e.waiters.map (fun w => Out.memDone w.head w.tag))
  { s with
    out := writes.reverse ++ (reads.reverse ++ s.out),
    path := { s.path with plans := [], staged := s.path.staged.map (fun e => { e with waiters := [] }) } }

/-- ABORT_STEEP to every bank of a steep (R130, R150): its tiles refuse programs, and a segment that was steeped whole returns to
DIRTY. -/
def State.abortSteep (s : State) (x : Steep) : State :=
  let s1 := (x.dies.foldl (fun (s : State) p => s.abortDie p.1 x.segment) s).clearSuspends x.channel x.segment
  if x.member.isSome then s1 else s1.onSeg x.channel x.segment (fun g => { g with state := .dirty })

/-- ABORT_STEEP to every steeping bank (R130, R150). Steeps that have not been issued are asked for again later (R165). -/
def State.abortSteeps (s : State) : State :=
  let s1 := s.media.steeps.foldl State.abortSteep s
  { s1 with media := { s1.media with steeps := [] } }

/-- Where a failed check lay (SEC_HALT_LOC). -/
structure HaltLoc where
  channel : Nat
  member : Nat
  frame : Nat
  page : Nat
  level : Nat
deriving DecidableEq, Repr

/-- A location that names nothing. -/
def HaltLoc.none : HaltLoc := ⟨0, 0, 0, 0, 0⟩

/-- A trigger that waits for its Quiesce is dropped when the module leaves for a mode other than M5; a package that had become
returning is lost again, and so is a GPF that waited (R434). -/
def State.dropTriggers (s : State) : State :=
  let s1 := (List.range 4).foldl (fun (s : State) n =>
    if s.rdP Reg.DMC_PKG.STATE n = 3 then
      (s.wrP Reg.DMC_PKG.STATE n 1).wr Reg.CDY_STATUS.PKG_RETURNING (n / 2) 0
        (setBit (s.rd Reg.CDY_STATUS.PKG_RETURNING (n / 2) 0) (n % 2) false)
    else s) s
  { s1 with ctl := { s1.ctl with quiesceQueue := [] }, pour := { s1.pour with gpf := [] } }

/-- Every bulk operation that has not ended stops with RESULT halt (R374). -/
def State.stopBulk (s : State) : State :=
  let live := s.bulk.filter (fun b => b.state != .free && b.state != .ended)
  let s1 : State := { s with bulk := s.bulk.map (fun b =>
    if b.state != .free && b.state != .ended then { b with state := .ended, result := 5 } else b) }
  live.foldl (fun s _ => s.raise 614) s1

/-- Enter Halt (R344, R524): out of Doze, the self-test run stopped, requests answered, steeps aborted, slot keys cleared, Pour disabled, the marker and its record
written, Fatal reported, source 536 raised. -/
def State.halt (s : State) (cause : Nat) (l : HaltLoc) : State :=
  let s0 := if s.ctl.mode = .m6 then s.showDoze 0 else s
  let s1 := s0.stopRun.answerAll.abortSteeps.dropTriggers.stopBulk
  let s2 : State := { s1 with
    ctl := { s1.ctl with quiesce := none }
    sec := { s1.sec with keysLoaded := false, haltMarker := true, haltCause := cause, destroys := [] }
    pour := { s1.pour with running := false, gpf := [] } }
  let s3 := ((s2.setReg Reg.SEC_STATUS.HALT 1).setReg Reg.SEC_STATUS.HALT_CAUSE cause).setReg
    Reg.SEC_HALT_LOC.CHANNEL l.channel
  let s4 := (((s3.setReg Reg.SEC_HALT_LOC.MEMBER l.member).setReg Reg.SEC_HALT_LOC.FRAME l.frame).setReg
    Reg.SEC_HALT_LOC.PAGE l.page).setReg Reg.SEC_HALT_LOC.LEVEL l.level
  let s5 := (((s4.wr Reg.LNK_BAR2_GRANT.HALT_LIMIT 0 0 1).wr Reg.LNK_BAR2_GRANT.HALT_LIMIT 1 0 1).toMode .m10)
  let s6 := s5.log 1 536 [cause, l.channel, l.member, l.frame, l.page, l.level]
  let s7 : State := { s6 with ream := { s6.ream with haltRec := s6.ream.log.getLast? } }
  ((s7.pageCommit 5048).event 3 .memoryModule .halt [cause]).raise 536

end Sys2Proof.Machine
end

