-- ==== Sys2Proof/Machine/Poison.lean ====
section
/-! DEFINITION. The poison index (R101, R268) and the General Media record of a loss (R267). Lines are numbered DPA / 64. -/

namespace Sys2Proof.Machine

/-- The most runs the index holds (R101). -/
def poisonRuns : Nat := 262144

/-- The longest run in lines (R268). -/
def runMax : Nat := 4194304

/-- What stays of a run when the lines lo … hi − 1 leave it. -/
def Run.without (r : Run) (lo hi : Nat) : List Run :=
  if r.first + r.len ≤ lo ∨ hi ≤ r.first then [r]
  else
    (if r.first < lo then [{ r with len := lo - r.first }] else []) ++
      (if hi < r.first + r.len then [{ r with first := hi, len := r.first + r.len - hi }] else [])

/-- Join neighbours of one source up to the longest run (R268). -/
def mergeRuns : List Run → List Run
  | [] => []
  | r :: t =>
    match mergeRuns t with
    | [] => [r]
    | n :: u =>
      if r.first + r.len = n.first ∧ r.host = n.host ∧ r.len + n.len ≤ runMax then
        { r with len := r.len + n.len } :: u
      else r :: n :: u

/-- Put a run among runs in ascending order. -/
def insertRun (x : Run) : List Run → List Run
  | [] => [x]
  | r :: t => if x.first < r.first then x :: r :: t else r :: insertRun x t

/-- What stays of a range when lo … hi − 1 leave it. -/
def rangeWithout (lo hi : Nat) (r : Nat × Nat) : List (Nat × Nat) :=
  if r.2 ≤ lo ∨ hi ≤ r.1 then [r]
  else (if r.1 < lo then [(r.1, lo)] else []) ++ (if hi < r.2 then [(hi, r.2)] else [])

/-- Count lines lo … hi − 1 as omitted: overflow flag, its time, and the omission span; scans made before no longer count for them
(R101). -/
def PoisonIndex.omit (p : PoisonIndex) (lo hi ms : Nat) : PoisonIndex :=
  { p with
    overflow := true
    overflowMs := if p.overflow then p.overflowMs else ms
    omitted := match p.omitted with | none => some (lo, hi) | some (a, b) => some (min a lo, max b hi)
    scanned := if p.overflow then p.scanned.flatMap (rangeWithout lo hi) else [] }

/-- Take lines out of the index; the upper part of a split that finds no room is omitted (R268). -/
def PoisonIndex.remove (p : PoisonIndex) (lo hi ms : Nat) : PoisonIndex :=
  let rs := p.runs.flatMap (fun r => r.without lo hi)
  if rs.length ≤ poisonRuns then { p with runs := rs }
  else
    let kept := rs.filter (fun r => r.first != hi)
    let gone := rs.filter (fun r => r.first == hi)
    gone.foldl (fun p r => p.omit r.first (r.first + r.len) ms) { p with runs := kept }

/-- Enter one run of at most the longest length, or omit it where the index is full (R101, R268). -/
def PoisonIndex.enter (p : PoisonIndex) (first len : Nat) (host : Bool) (ms : Nat) : PoisonIndex :=
  let q := p.remove first (first + len) ms
  let rs := mergeRuns (insertRun ⟨first, len, host⟩ q.runs)
  if rs.length ≤ poisonRuns then { q with runs := rs } else q.omit first (first + len) ms

/-- Enter a stretch of any length, in pieces of the longest run. -/
def PoisonIndex.add (p : PoisonIndex) (first len : Nat) (host : Bool) (ms : Nat) : PoisonIndex :=
  (List.range ((len + runMax - 1) / runMax)).foldl
    (fun p k => p.enter (first + k * runMax) (min runMax (len - k * runMax)) host ms) p

/-- List `len` lines from line `first` as poisoned. -/
def State.poisonAdd (s : State) (first len : Nat) (host : Bool) : State :=
  { s with mapping := { s.mapping with poison := s.mapping.poison.add first len host s.ms } }

/-- Take lines off the list: they are no longer poisoned. -/
def State.poisonDel (s : State) (first len : Nat) : State :=
  { s with mapping := { s.mapping with poison := s.mapping.poison.remove first (first + len) s.ms } }

/-- List the lines of a quire whose bit is set in a mask. -/
def State.poisonMask (s : State) (q : Nat) (m : BitVec 16) (host : Bool) : State :=
  (List.range 16).foldl (fun s k => if m.getLsbD k then s.poisonAdd (q * 16 + k) 1 host else s) s

/-- Memory event transaction types of R267, in CXL's numbers (log entry 27): 1 host read, 5 internal media scrub, 6 internal
media management. -/
def txHostRead : Nat := 1
/-- R267. -/
def txScrub : Nat := 5
/-- R267. -/
def txManage : Nat := 6

/-- The lowest bit set in a mask of up to 16 lines, 0 where there is none. -/
def lowestBit (m : BitVec 16) : Nat := ((List.range 16).find? (fun k => m.getLsbD k)).getD 0

/-- The General Media record of lost lines (R267): DPA, type Media ECC Error (0), transaction, channel, and rank and device
where the loss is of one frame. -/
def State.mediaLoss (s : State) (line tx channel : Nat) (frame : Option (Nat × Nat)) : State :=
  s.event 2 .generalMedia .dataLost ([line * 64, 0, tx, channel] ++
    (match frame with | some (m, d) => [m, d] | none => []))

/-- The media die that holds a member when a loss is found (R267). -/
def State.deviceOf (s : State) (c m : Nat) : Nat := (s.holder c m).getD (10 * c + m)

end Sys2Proof.Machine
end

