-- ==== Sys2Proof/Machine/Frontier.lean ====
section
/-! DEFINITION. The write frontier (R152 to R177, R281 to R284, R297, R298): map changes, segments, journal records,
stripes from their first half to their completion, steeps, retirement and the spare pool. -/

namespace Sys2Proof.Machine

/-- Remove the first element equal to a given one. -/
def removeFirst {α : Type} [DecidableEq α] (a : α) : List α → List α
  | [] => []
  | b :: t => if a = b then t else b :: removeFirst a t

/-! ## Segments (R157, R180, R181) -/

/-- The RESERVE segments of a channel (R157). -/
def State.reserveCount (s : State) (c : Nat) : Nat := ((s.segsOf c).filter (fun p => p.2.state == .reserve)).length

/-- FREE segments of a channel, N of R180: of the 512 of the media reserve, those still to be placed are never among them (log entry
26). -/
def State.freeCount (s : State) (c : Nat) : Nat :=
  65536 - (512 - s.reserveCount c) - ((s.segsOf c).filter (fun p => p.2.state != .free)).length

/-- OPEN segments of a channel. -/
def State.openCount (s : State) (c : Nat) : Nat := ((s.segsOf c).filter (fun p => p.2.state == .opened)).length

/-- The row of R180 in force: 0 none, 1 pulp priority, 2 throttled, 3 Pour only. -/
def State.throttle (s : State) (c : Nat) : Nat :=
  let n := s.freeCount c
  if n ≤ 64 then 3 else if n ≤ 576 then 2 else if n ≤ 1023 then 1 else 0

/-- Over-provisioning of a channel in segments (R181). -/
def State.overProvision (s : State) (c : Nat) : Nat := 65536 - s.rdC Reg.MAP_CHAN.RETIRED c - 50240

/-- The highest GENERATION of a channel. -/
def State.genMax (s : State) (c : Nat) : Nat := ((s.segsOf c).map (fun p => p.2.gen)).foldl max 1

/-- Segments out of use on a channel: retired ones, and those that the media reserve holds (log entry 76). -/
def SegState.outOfUse : SegState → Bool
  | .retired | .reserve => true
  | _ => false

/-- The mean GENERATION of a channel's segments in use, rounded down; a segment that is not listed stands at 1
(log entry 76). -/
def State.genMean (s : State) (c : Nat) : Nat :=
  let used := (s.segsOf c).filter (fun p => !p.2.state.outOfUse)
  let fresh := 65536 - (s.segsOf c).length
  ((used.map (fun p => p.2.gen)).sum + fresh) / max 1 (used.length + fresh)

/-! ## The journal (R173, R174) -/

/-- The bytes of a die's journal ring (R174). -/
def ringBytes : Nat := 10737418240

/-- Bytes are placed in a die's journal ring (R161, R174). -/
def State.ringTake (s : State) (die n : Nat) : State :=
  { s with mapping := { s.mapping with ringPos := s.mapping.ringPos.modify die (· + n) } }

/-- A die's open journal page is issued (R173): it has its place in the ring. -/
def State.issuePage (s : State) (die : Nat) : State :=
  let m := s.mapping
  ({ s with mapping := { m with
      openPage := m.openPage.modify die (fun _ => []), issued := m.issued ++ [m.openPage.get die] } }).ringTake die 4096

/-- The open journal pages that hold a record are issued. -/
def State.issueOpen (s : State) : State :=
  (List.range 2).foldl (fun (s : State) d => if (s.mapping.openPage.get d).isEmpty then s else s.issuePage d) s

/-- Hold a journal record in its die's open page; a page of 128 records is issued. -/
def State.journal (s : State) (die channel : Nat) (b : JBody) : State :=
  let r : JRec := ⟨die, s.mapping.jseq.get die, channel, b⟩
  let m : Mapping := { s.mapping with
    jseq := s.mapping.jseq.modify die (· + 1), openPage := s.mapping.openPage.modify die (fun l => l ++ [r]) }
  let s1 := ({ s with mapping := m }).tally die 333 1
  if (m.openPage.get die).length ≥ 128 then s1.issuePage die else s1

/-- Hold a record that concerns a channel. -/
def State.journalC (s : State) (c : Nat) (b : JBody) : State := s.journal (dieOf c) c b

/-- The next write sequence of a channel (R155). -/
def State.seqOf (s : State) (c : Nat) : Nat := s.mapping.nextSeq[c]?.getD 1

/-- Give one write sequence of a channel (R155, R255). -/
def State.takeSeq (s : State) (c : Nat) : State :=
  { s with mapping := { s.mapping with nextSeq := s.mapping.nextSeq.modify c (· + 1) } }

/-- The code of a record's TYPE (R173). -/
def JBody.code : JBody → Nat
  | .segOpen _ _ _ => 0x01 | .segClose _ _ _ => 0x02 | .pendingSteep _ _ => 0x03 | .steeped _ _ => 0x04 | .retired _ => 0x05
  | .zero _ _ _ => 0x06 | .ckptBegin _ _ _ => 0x07 | .openSet _ => 0x08 | .ckptEnd _ _ => 0x09 | .dieRole _ _ _ => 0x0A
  | .reserve _ _ => 0x0B | .poison _ _ _ => 0x0C

/-- Numbers of given byte counts, one after another. -/
def packBytes : List (Nat × Nat) → List (BitVec 8)
  | [] => []
  | (n, v) :: t => leBytes n v ++ packBytes t

/-- The 16 payload bytes of a record (R173). SEG_OPEN's places are the rule's; the other payloads have the values that the rule names
one after another, in bytes enough for each (log entry 77). -/
def JBody.payload (b : JBody) : List (BitVec 8) :=
  let l := match b with
    | .segOpen t stream gen => packBytes [(2, t), (1, stream % 4), (5, 0), (6, gen)]
    | .segClose t filled address => packBytes [(2, t), (2, filled), (8, address)]
    | .pendingSteep t gen | .steeped t gen => packBytes [(2, t), (6, gen)]
    | .retired t => leBytes 2 t
    | .zero first n seq | .poison first n seq => packBytes [(4, first), (4, n), (6, seq)]
    | .ckptBegin num area fence => packBytes [(4, num), (1, area), (6, fence)]
    | .openSet ts => ts.flatMap (leBytes 2)
    | .ckptEnd num area => packBytes [(4, num), (1, area)]
    | .dieRole n role m => packBytes [(2, n), (1, role), (1, m)]
    | .reserve t use => packBytes [(2, t), (1, use)]
  (l ++ List.replicate 16 0).take 16

/-- The 32 bytes of a journal record (R173), with their CRC-32C. -/
def JRec.bytes (r : JRec) : List (BitVec 8) :=
  let l := [BitVec.ofNat 8 r.body.code, BitVec.ofNat 8 r.channel, 0, 0] ++ leBytes 8 r.jseq ++ r.body.payload
  l ++ leBytes 4 (crc32c l)

/-! ## The spare pool and life (R297, R298, R300) -/

/-- The greatest number in a list. -/
def maxOf (l : List Nat) : Nat := l.foldl max 0

/-- TILE_PCT: the worst serving member die (R297). -/
def State.tilePct (s : State) : Nat :=
  maxOf ((List.range 320).map (fun n =>
    if s.rdM Reg.MED_DIE.ROLE n = 0 then s.rdM Reg.MED_DIE.SPARE_TILES_USED n * 100 / 4096 else 0))

/-- OP_PCT: the worst channel that is not lost (R297). -/
def State.opPct (s : State) : Nat :=
  maxOf ((List.range 32).map (fun c => if s.chanLost c then 0 else s.rdC Reg.MAP_CHAN.RETIRED c * 100 / 10380))

/-- DIE_PCT (R297). -/
def State.diePct (s : State) : Nat :=
  if (List.range 32).any (fun c => s.chanState c == 2 || s.chanLost c) then 100
  else ((List.range 32).filter (fun c => s.rdC Reg.SPR_CHAN.SPARE_FREE c == 0)).length * 100 / 32

/-- The level that a percentage reaches (R298). -/
def poolLevel (pct : Nat) : Nat := if pct ≥ 95 then 3 else if pct ≥ 80 then 2 else if pct ≥ 50 then 1 else 0

/-- Wear used in 0.001 %: the highest GENERATION × 100,000 / 5 × 10⁷, rounded up (R300). -/
def State.wearMilli (s : State) : Nat := (maxOf ((List.range 32).map s.genMax) * 100000 + 49999999) / 50000000

/-- One level of R298 is reached for the first time: its event record and its Ream record of class 0x40A. -/
def State.poolReached (s : State) (level : Nat) (shares : List Nat) : State :=
  ((s.latchAlert 1).event 1 .memoryModule .sparePool (level :: shares)).log (if level = 3 then 1 else 3) 0x40A (level :: shares)

/-- Recompute SPR_POOL, SPR_WEAR and LIFE_USED (R297, R298, R300). -/
def State.poolUpdate (s : State) : State :=
  let t := min s.tilePct 100
  let o := min s.opPct 100
  let d := min s.diePct 100
  let p := max t (max o d)
  let wear := s.wearMilli
  let life := min 100 (max (s.ms / 3600000 * 100 / 87660) (max p (wear * 10 / 1000)))
  let s1 := (((((s.setReg Reg.SPR_POOL.TILE_PCT t).setReg Reg.SPR_POOL.OP_PCT o).setReg Reg.SPR_POOL.DIE_PCT d).setReg
    Reg.SPR_POOL.POOL_PCT p).setReg Reg.SPR_WEAR.MILLI_PCT wear).setReg Reg.SPR_POOL.LIFE_USED life
  let old := s.reg Reg.SPR_POOL.LEVEL
  if poolLevel p ≤ old then s1
  else
    ((List.range 3).filter (fun k => old < k + 1 && k + 1 ≤ poolLevel p)).foldl
      (fun s k => s.poolReached (k + 1) [p, t, o, d]) (s1.setReg Reg.SPR_POOL.LEVEL (poolLevel p))

/-! ## Retirement (R126, R128, R181, R265) -/

/-- Retire a segment: Read-only first, where the channel would fall below 4,916 of over-provisioning (R181). -/
def State.retireSeg (s : State) (c t : Nat) : State :=
  let s1 := if s.overProvision c ≤ 4916 then s.setReadOnly else s
  ((((s1.onSeg c t (fun g => { g with state := .retired })).bumpC Reg.MAP_CHAN.RETIRED c 1).journalC c
    (.retired t))).poolUpdate

/-- Redirect a tile of a die to a spare of its bank (R126), which waits for its first steep. Answers whether
the bank had one; a bank whose four entries are valid refuses with REDIRECT_FULL. -/
def State.redirect (s : State) (n t : Nat) : State × Bool :=
  let used := s.media.redirects.get [] (bankKey n t)
  if used.length ≥ 4 then (s.bankStatus n t .redirectFull, false)
  else
    let s1 : State := { s with media := { s.media with
      redirects := s.media.redirects.put [] (bankKey n t) (used ++ [t % 64]) } }
    let s2 := (s1.onTile n t (fun _ => { Tile.fresh with steeped := false })).bump Reg.MED_DIE.SPARE_TILES_USED (n / 160) (n % 160) 1
    ((if used.length = 3 then s2.bump Reg.MED_DIE.BANKS_EXHAUSTED (n / 160) (n % 160) 1 else s2).poolUpdate, true)

/-- A tile is due for retirement at its segment's next PENDING (R128, R265). -/
def State.tileDue (s : State) (n t : Nat) : Bool :=
  let x := s.tile n t
  x.progFail ≥ 2 || x.failed ≥ max 1 (s.reg Reg.PRT_SCRUB_CFG.RETIRE_UE) ||
    x.high ≥ max 1 (s.reg Reg.PRT_SCRUB_CFG.RETIRE_HIGH)

/-- A retired tile counts against its die (R280) and, for read errors, raises source 12·ch + 5 (R265, R276). -/
def State.countRetired (s : State) (n t : Nat) : State :=
  let c := n / 10
  let hd := s.media.health.get DieHealth.good n
  let hd1 := { hd with tiles := s.minutes :: hd.tiles }
  let s1 : State := { s with media := { s.media with health := s.media.health.put DieHealth.good n hd1 } }
  if (s.tile n t).progFail ≥ 2 then s1 else (s1.bumpC Reg.PRT_ERR.RETIRED c 1).raise (12 * c + 5)

/-- Retire the tiles of a segment that are due; answers whether every one found a spare. -/
def State.retireTiles (s : State) (c t : Nat) : State × Bool :=
  (List.range 10).foldl (fun p k =>
    let n := 10 * c + k
    if p.1.tileDue n t then
      let r := (p.1.countRetired n t).redirect n t
      (r.1, p.2 && r.2)
    else p) (s, true)

/-- The age of a segment in minutes, by the member die that has been off longest (R141; log entry 99). -/
def State.segAge (s : State) (c : Nat) (g : Seg) : Nat :=
  maxOf ((List.range 10).map (fun p =>
    if s.rdM Reg.MED_DIE.MEMBER (10 * c + p) < 9 then s.ageOn (10 * c + p) g else 0))

/-- The generation that a segment's next steep gives it (R31, R165): 48 bits. -/
def Seg.nextGen (g : Seg) : Nat := (g.gen + 1) % 281474976710656

/-- A segment asks for its steep: its due tiles retire (R128, R265); with no spare left the segment retires, and otherwise
PENDING_STEEP is journalled with the next generation (R165). -/
def State.askSteep (s : State) (c t : Nat) (x : SegState) : State :=
  let p := s.retireTiles c t
  if p.2 then
    (p.1.onSeg c t (fun g => { g with state := x })).journalC c (.pendingSteep t (p.1.seg c t).nextGen)
  else p.1.retireSeg c t

/-- A victim that LIVE has left becomes PENDING (R168, R170); a sizing pass that ends past its deadline counts as late. -/
def State.toPending (s : State) (c t : Nat) : State :=
  let g := s.seg c t
  let late := g.due && s.segAge c g > sizingLimit g.hotBand
  (if late then s.bump Reg.MAP_SIZING.LATE (dieOf c) 0 1 else s).askSteep c t .pending

/-- A segment becomes DIRTY and asks for a steep (R157, R165). -/
def State.toDirty (s : State) (c t : Nat) : State :=
  (s.onSeg c t (fun g => { g with live := 0 })).askSteep c t .dirty

/-! ## Map changes (R154, R160) -/

/-- One live quire fewer in a segment; a victim that reaches 0 becomes PENDING (R168). -/
def State.lessLive (s : State) (c t : Nat) : State :=
  let s1 := s.onSeg c t (fun g => { g with live := g.live - 1 })
  if (s1.seg c t).state = .victim ∧ (s1.seg c t).live = 0 then s1.toPending c t else s1

/-- Change the map entry of a quire in the map cache (R153), with the LIVE counts of both segments (R160) and the page's changed bit
(R270). -/
def State.applyEntry (s : State) (q : Nat) (e : BitVec 32) : State :=
  let c := chanOf q
  let old := s.mapEntry q
  let m := s.mapping
  let s1 : State := { s with mapping := { m with
    map := m.map.put (unlistedEntry m.unlisted q) q e
    changed := m.changed.put false (pageOf q) true
    mapChanged := true } }
  let s1 := (s1.mapTouch q true).tally (dieOf c) 329 1
  let s2 := if onMedia e then s1.onSeg c (entrySegment e) (fun g => { g with live := g.live + 1 }) else s1
  if onMedia old then s2.lessLive c (entrySegment old) else s2

/-- Every quire of a span takes its entry at once, but for those that `but` names, which keep theirs: what a walk does by its end, or a
record that Rebuild replays (R102, R163, R173, R176). -/
def State.setSpan (s : State) (x : Span) (but : List Nat) : State :=
  let m := s.mapping
  let keep := (but.filter (fun q => x.has q)).map (fun q => (q, s.mapEntry q))
  let map := m.map.filter (fun p => !x.has p.1)
  { s with mapping := { m with
      unlisted := x :: m.unlisted.filter (fun y => !(y.chans &&& ~~~ x.chans == 0 && decide (x.lo ≤ y.lo) && decide (y.hi ≤ x.hi)))
      map := keep.foldl (fun t p => t.put x.entry p.1 p.2) map
      mapChanged := true } }

/-- The halves of a stripe with their places. -/
def Stripe.halves (x : Stripe) : List (Nat × Half) :=
  (match x.h0 with | some h => [(0, h)] | none => []) ++ (match x.h1 with | some h => [(1, h)] | none => [])

/-- A stripe that carries the quire has taken its write sequence and is not complete (R154). -/
def State.assembled (s : State) (q : Nat) : Bool :=
  (s.media.queue ++ s.media.inProgram).any (fun x => x.halves.any (fun p => p.2.quire == q))

/-- A map change of the quire is in flight (R154): in a stripe, or in a half that waits for its second. -/
def State.inFlight (s : State) (q : Nat) : Bool :=
  s.media.waiting.any (fun p => p.2.quire == q) || s.assembled q

/-- A record of the journal with a write sequence changes a quire's entry, behind the quire's stripe in flight if there is one (R154,
R169, R170). -/
def State.changeEntry (s : State) (q : Nat) (e : BitVec 32) (seq : Nat) : State :=
  if s.assembled q then { s with mapping := { s.mapping with held := s.mapping.held.ins q ⟨e, seq⟩ } }
  else s.applyEntry q e

/-- The change that waited behind a quire's stripe is applied (R154). -/
def State.applyHeld (s : State) (q : Nat) : State :=
  match s.mapping.held.find? q with
  | none => s
  | some h =>
    if s.assembled q then s
    else ({ s with mapping := { s.mapping with held := s.mapping.held.del q } }).applyEntry q h.entry

/-- The map entry a walk gives the quires it reaches (R102, R163, R349). -/
def WalkKind.entry : WalkKind → BitVec 32
  | .poison _ => mkEntry 3 0 0 0
  | _ => 0

/-- Free a staging entry whose stripe is complete, with the completions of its Write-through writes (R211, R216). -/
def State.freeStaged (s : State) (id : Nat) : State :=
  match s.path.staged.find? (fun e => e.id == id) with
  | none => s
  | some e =>
    let s1 : State := { s with
      path := { s.path with staged := s.path.staged.filter (fun e => e.id != id) },
      out := (e.waiters.map (fun w => Out.memDone w.head w.tag)).reverse ++ s.out }
    s1.bump Reg.CDY_STAT_WT_WRITE.COUNT (ownerOf e.quire) 0 e.waiters.length

/-- A half of a quire that still waits for its second half goes. -/
def State.dropWaiting (s : State) (q : Nat) : State :=
  { s with media := { s.media with waiting := s.media.waiting.filter (fun p => p.2.quire != q) } }

/-- Drop what the Caddy holds of a quire: its way and its staging entries (R221, R367). Completions owed by the entries are
sent. -/
def State.dropQuire (s : State) (q : Nat) : State :=
  let s1 := match s.wayOf q with | some p => s.clearWay q p.1 | none => s
  (s1.stagedOf q).foldl (fun s e => s.freeStaged e.id) s1

/-- A quire is unmapped by a record of the journal (R57, R61, R367): what the Caddy and the frontier hold of it goes, its lines leave the
poison list, and its entry becomes STATE 0 (R221). -/
def State.unmapQuire (s : State) (q seq : Nat) : State :=
  (((s.dropQuire q).dropWaiting q).poisonDel (q * 16) 16).changeEntry q 0 seq

/-- The write sequence of a walk's record on the channel of a quire. -/
def Walk.seqOf (w : Walk) (q : Nat) : Nat := ((w.seqs.find? (fun p => p.1 == chanOf q)).map (fun p => p.2)).getD 0

/-- A walk reaches a quire (R102, R163, R349, R367). On a lost channel a sweep or a ZERO changes nothing (R287). -/
def State.walkReaches (s : State) (w : Walk) (q : Nat) : State :=
  if w.kind.keeps then
    if s.chanLost (chanOf q) then s else s.unmapQuire q (w.seqOf q)
  else s.changeEntry q w.kind.entry (w.seqOf q)

/-- Bring every walk that still has to reach a quire to it, out of order (R102, R163, R349, R367). -/
def State.reachEarly (s : State) (q : Nat) : State :=
  match s.mapping.walks.find? (fun w => w.waits q) with
  | none => s
  | some w =>
    let s1 := s.walkReaches w q
    { s1 with mapping := { s1.mapping with
      walks := s1.mapping.walks.map (fun v => if v.waits q then { v with early := q :: v.early } else v) } }

/-- A sweep or a ZERO has yet to reach a quire. -/
def State.sweepAhead (s : State) (q : Nat) : Bool := s.mapping.walks.any (fun w => w.waits q && w.kind.keeps)

/-! ## Opening segments (R158, R164, R180) -/

/-- Streams: 0 hot, 1 cold, 2 Pour (R156). -/
def State.ring (s : State) (c stream : Nat) : List Nat :=
  (match stream with | 0 => s.media.ringHot | 1 => s.media.ringCold | _ => s.media.ringPour)[c]?.getD []

/-- Replace the ring of a stream on a channel. -/
def State.setRing (s : State) (c stream : Nat) (l : List Nat) : State :=
  { s with media :=
      match stream with
      | 0 => { s.media with ringHot := s.media.ringHot.set c l }
      | 1 => { s.media with ringCold := s.media.ringCold.set c l }
      | _ => { s.media with ringPour := s.media.ringPour.set c l } }

/-- The RESERVE segments that a channel is filling; each counts as one of its cold segments (R158). -/
def State.fillingReserve (s : State) (c : Nat) : List Nat :=
  (s.media.reserve.filter (fun r => r.channel == c && r.filling)).map (fun r => r.segment)

/-- Partitions of a channel without an OPEN segment (R158). -/
def State.freeParts (s : State) (c : Nat) : List Nat :=
  let used := (((s.segsOf c).filter (fun p => p.2.state == .opened)).map (fun p => p.1) ++ s.fillingReserve c).map partOf
  (List.range 16).filter (fun p => !used.contains p)

/-- The first segment of a partition that the table does not list, FREE at generation 1. -/
def State.firstUnlisted (s : State) (c part : Nat) : Option Nat :=
  ((List.range (min 4096 (s.mapping.segs.length + 1))).find? (fun k =>
    (s.mapping.segs.find? (segKey c (part * 4096 + k))).isNone)).map (fun k => part * 4096 + k)

/-- The repair record of a channel. -/
def State.repairOf (s : State) (c : Nat) : ChanRepair := s.media.repair.get ChanRepair.none c

/-- Change the repair record of a channel. -/
def State.onRepair (s : State) (c : Nat) (f : ChanRepair → ChanRepair) : State :=
  { s with media := { s.media with repair := s.media.repair.put ChanRepair.none c (f (s.repairOf c)) } }

/-- A segment is short of a member's tile (R283). -/
def ChanRepair.short (r : ChanRepair) (t m : Nat) : Bool := r.lagging.any (fun p => p.1 == m && !p.2.contains t)

/-- The members whose frames are absent from a stripe written to segment t now (R282, R283, R285, R290). -/
def State.absentMembers (s : State) (c t : Nat) : List Nat :=
  (List.range 9).filter (fun m => (s.holder c m).isNone || (s.repairOf c).short t m)

/-- The member whose frame is absent. -/
def State.absentMember (s : State) (c t : Nat) : Option Nat := (s.absentMembers c t).head?

/-- The FREE segment a stream opens: lowest GENERATION, then lowest index, in a partition without an OPEN one (R164). A segment whose
stripes would miss two frames keeps nothing safe and is left out. -/
def State.bestFree (s : State) (c : Nat) : Option Nat :=
  let parts := s.freeParts c
  let listed := (s.segsOf c).filter (fun p => p.2.state == .free && parts.contains (partOf p.1) && (s.absentMembers c p.1).length ≤ 1)
  let fresh := parts.filterMap (fun p => (s.firstUnlisted c p).map (fun t => (t, Seg.shipped)))
  ((listed ++ fresh.filter (fun p => (s.absentMembers c p.1).length ≤ 1)).foldl (fun (best : Option (Nat × Seg)) p =>
    match best with
    | none => some p
    | some b => if p.2.gen < b.2.gen ∨ (p.2.gen = b.2.gen ∧ p.1 < b.1) then some p else some b) none).map (fun p => p.1)

/-- Whether a stream may open a segment now: the reserves of R164 and the throttle of R180. -/
def State.mayOpen (s : State) (c stream : Nat) : Bool :=
  let n := s.freeCount c
  match stream with
  | 0 => decide (n > 576) || (decide (n > 64) && s.media.pulpFreed[c]?.getD false)
  | 1 => decide (n > 64)
  | _ => decide (n > 0)

/-- The segments a stream keeps OPEN on a channel (R158, R315). -/
def State.quota (s : State) (c stream : Nat) : Nat := if stream = 1 then 4 - (s.fillingReserve c).length else 8

/-- Open one segment for a stream, journalling SEG_OPEN; unchanged where the stream may open none. -/
def State.openOne (s : State) (c stream : Nat) : State :=
  if (s.ring c stream).length < s.quota c stream && s.mayOpen c stream then
    match s.bestFree c with
    | none => s
    | some t =>
      let s1 := s.onSeg c t (fun g => { g with state := .opened, stream := stream, live := 0, filled := 0,
                                               due := false, epoch := 0, hotBand := 0 })
      let s2 := (s1.setRing c stream (s1.ring c stream ++ [t])).journalC c (.segOpen t stream (s.seg c t).gen)
      let s2 := s2.tally (dieOf c) 341 1
      if stream = 0 then
        { s2 with media := { s2.media with pulpFreed := s2.media.pulpFreed.set c false } }
      else s2
  else s

/-- Bring a stream up to the segments it keeps OPEN. -/
def State.topUp (s : State) (c stream : Nat) : State :=
  (List.range (s.quota c stream)).foldl (fun s _ => s.openOne c stream) s

/-- A channel keeps its hot and its cold segments OPEN (R158). -/
def State.keepOpen (s : State) (c : Nat) : State := if s.chanLost c then s else (s.topUp c 0).topUp c 1

/-- The summary of a segment as its stripes on media stand (R161). -/
def State.summaryOf (s : State) (c t : Nat) : Summary :=
  let g := s.seg c t
  let half := fun (h : Option Half) => h.map (fun h => (h.quire, h.poisoned))
  ⟨s.mapping.ringPos.get (dieOf c) % ringBytes, g.gen, g.filled, (List.range 4096).map (fun f =>
    match s.media.images.find? (stripeKey c t f) with
    | none => (0, none, none)
    | some x => (x.seq, half x.h0, half x.h1))⟩

/-- The half of an entry of a summary block, as its four bytes (R161): within-channel index, poisoned and valid. -/
def summaryHalf : Option (Nat × Bool) → List (BitVec 8)
  | none => leBytes 4 0
  | some (q, p) => leBytes 4 (indexOf q % 536870912 + (if p then 536870912 else 0) + 2147483648)

/-- The 64 KiB of a summary block (R161). -/
def Summary.bytes (x : Summary) : List (BitVec 8) :=
  x.entries.flatMap (fun e => leBytes 8 e.1 ++ summaryHalf e.2.1 ++ summaryHalf e.2.2)

/-! ## The media reserve (R157, R173, R179; log entry 26) -/

/-- The RESERVE segments that a use may hold on a channel (R179). -/
def reserveShare (use : Nat) : Nat := match use with | 0 => 384 | 1 => 80 | _ => 16

/-- A RESERVE segment is released (R157): it becomes DIRTY and asks for a steep. -/
def State.releaseReserve (s : State) (r : ResSeg) : State :=
  ({ s with media := { s.media with reserve := removeFirst r s.media.reserve } }).toDirty r.channel r.segment

/-- The segments of a use on a channel beyond its share are released, the oldest first. -/
def State.trimReserve (s : State) (c use : Nat) : State :=
  let l := s.media.reserve.filter (fun r => r.channel == c && r.use == use)
  (l.take (l.length - reserveShare use)).foldl State.releaseReserve s

/-- A RESERVE segment is full: its summary and SEG_CLOSE as for any segment (R157). -/
def State.closeReserve (s : State) (r : ResSeg) : State :=
  let x := s.summaryOf r.channel r.segment
  let s1 : State := { s with
    media := { s.media with reserve := s.media.reserve.map (fun y => if y == r then { y with filling := false } else y) }
    mapping := { s.mapping with summaries := s.mapping.summaries.ins (segKey r.channel r.segment) x } }
  ((s1.ringTake (dieOf r.channel) 65536).onSeg r.channel r.segment (fun g => { g with filled := 4096 })).journalC r.channel
    (.segClose r.segment 4096 x.address)

/-- Open a FREE segment of a channel for a reserve use (R157, R173): the one filling before is full. -/
def State.openReserve (s : State) (c use round : Nat) : State :=
  let s0 := (s.media.reserve.filter (fun r => r.channel == c && r.use == use && r.filling)).foldl State.closeReserve s
  match s0.bestFree c with
  | none => s0
  | some t =>
    let s1 := (s0.onSeg c t (fun g => { g with state := .reserve, stream := 1, live := 0, filled := 0, epoch := s.minutes })).journalC c
      (.reserve t use)
    ({ s1 with media := { s1.media with reserve := s1.media.reserve ++ [(⟨c, t, use, round, true⟩ : ResSeg)] } }).trimReserve c use

/-- The channel of a die that holds the fewest RESERVE segments of a use, the lowest on a tie. -/
def State.reserveChannel (s : State) (die use : Nat) : Nat :=
  let n := fun (c : Nat) => (s.media.reserve.filter (fun r => r.channel == c && r.use == use)).length
  (List.range 16).foldl (fun b k => if n (16 * die + k) < n b then 16 * die + k else b) (16 * die)

/-- Bytes of reserve contents are written (R157): a segment is opened for each 8 MiB. -/
def State.reserveAdd (s : State) (die use bytes : Nat) : State :=
  let key := 2 * use + die % 2
  let total := s.media.resBytes.get 0 key + bytes
  let opened := s.media.resOpened.get 0 key
  let s1 : State := { s with media := { s.media with
    resBytes := s.media.resBytes.put 0 key total
    resOpened := s.media.resOpened.put 0 key (max opened ((total + 8388607) / 8388608)) } }
  (List.range ((total + 8388607) / 8388608 - opened)).foldl (fun s _ =>
    s.openReserve (s.reserveChannel (die % 2) use) use (s.rd Reg.MAP_CKPT.ROUND 0 0)) s1

/-- The pages of the Ream's log that hold records not yet on media are programmed (R496), into the Ream's share of the reserve. -/
def State.programLog (s : State) : State :=
  let n := logBytes (s.ream.log.filter (fun r => s.ream.programmed < r.seq))
  let s1 : State := { s with ream := { s.ream with programmed := s.ream.nextSeq - 1 } }
  if n = 0 then s1 else s1.reserveAdd 0 4 ((n + 4095) / 4096 * 4096)

/-- A segment takes no more stripes: those not written stay blank, and it leaves its ring (R161, R314). -/
def State.shutSeg (s : State) (c t : Nat) : State :=
  let k := (s.seg c t).stream
  (s.onSeg c t (fun g => { g with state := .closed })).setRing c k ((s.ring c k).filter (· != t))

/-- The summary block of a segment goes into the die's journal, then SEG_CLOSE (R161). -/
def State.sumSeg (s : State) (c t : Nat) : State :=
  let x := s.summaryOf c t
  let s0 : State := { s with mapping := { s.mapping with summaries := s.mapping.summaries.ins (segKey c t) x } }
  ((s0.ringTake (dieOf c) 65536).reserveAdd (dieOf c) 1 65536).journalC c (.segClose t x.filled x.address)

/-- Close a segment (R161). -/
def State.closeSeg (s : State) (c t : Nat) : State := (s.shutSeg c t).sumSeg c t

/-- The OPEN segments of a channel. -/
def State.openSegs (s : State) (c : Nat) : List Nat :=
  ((s.segsOf c).filter (fun p => p.2.state == .opened)).map (fun p => p.1)

/-- Close every OPEN segment of a channel (R281). -/
def State.closeAll (s : State) (c : Nat) : State := (s.openSegs c).foldl (fun s t => s.closeSeg c t) s

/-- Shut every OPEN segment of a channel and leave its summary block for later (R314 step 2). -/
def State.shutAll (s : State) (c : Nat) : State := (s.openSegs c).foldl (fun s t => s.shutSeg c t) s

/-- The segments of a channel that are shut and have no summary block yet. -/
def State.unsummed (s : State) (c : Nat) : List Nat :=
  ((s.segsOf c).filter (fun p => p.2.state == .closed && (s.mapping.summaries.find? (segKey c p.1)).isNone)).map (fun p => p.1)

/-- Write the summary blocks that a channel's shut segments lack (R161, R314 step 6). -/
def State.sumAll (s : State) (c : Nat) : State := (s.unsummed c).foldl (fun s t => s.sumSeg c t) s

/-- A stripe that completes in a segment whose summary is written has its entry there (R161). -/
def State.summed (s : State) (x : Stripe) : State :=
  let key := segKey x.channel x.segment
  match s.mapping.summaries.find? key with
  | none => s
  | some y =>
    let half := fun (h : Option Half) => h.map (fun h => (h.quire, h.poisoned))
    let z : Summary := { y with entries := y.entries.set x.index (x.seq, half x.h0, half x.h1) }
    { s with mapping := { s.mapping with summaries := s.mapping.summaries.ins key z } }

/-! ## Issue (R25, R159, R160) -/

/-- The member dies that serve a channel, with their member numbers and present bands (R23, R137). -/
def State.serving (s : State) (c : Nat) : List (Nat × Nat × Nat) :=
  (List.range 9).filterMap (fun m => (s.holder c m).map (fun n => (m, n, s.rdM Reg.MED_DIE.BAND n)))

/-- The places that a stripe's PROGRAMs take (R25): one for each member with a frame. -/
def Stripe.places (x : Stripe) : Nat := if x.absent.isSome then 8 else 9

/-- Programs and steeps counted against a stack (R24, R25). -/
def State.stackInUse (s : State) (k : Nat) : Nat :=
  ((s.media.inProgram.filter (fun x => stackOf x.channel == k)).map Stripe.places).sum +
    ((s.media.steeps.filter (fun x => stackOf x.channel == k)).map (fun x => x.dies.length)).sum

/-- The segments in which a media die programs or steeps, that of member m of channel c (R24, R25). -/
def State.dieRuns (s : State) (c m n : Nat) : List Nat :=
  (s.media.inProgram.filter (fun x => x.channel == c && x.absent != some m)).map (fun x => x.segment) ++
    (s.media.steeps.filter (fun x => x.dies.any (fun p => p.1 == n))).map (fun x => x.segment)

/-- A die has room for one more program or steep in segment t (R24, R25, R135): its bank runs none, its partition fewer than 2, the
die fewer than 32. -/
def roomFor (runs : List Nat) (t : Nat) : Bool :=
  runs.all (fun u => bankOf u != bankOf t) && (runs.filter (fun u => partOf u == partOf t)).length < 2 && runs.length < 32

/-- The stack limit in force (R136): 128 in a Pour (R314). -/
def State.stackLimit (s : State) (k : Nat) : Nat :=
  if s.ctl.mode = .m8 then 128 else min 128 (s.rd Reg.MED_STACK_PROG.LIMIT (k / 8) (k % 8))

/-- Put each stack's program limit in force (R448): the lower of the budget cap and its thermal limit; a Pour overrides both. -/
def State.showStacks (s : State) : State :=
  (List.range 16).foldl (fun (s : State) k =>
    s.wr Reg.MED_STACK_PROG.LIMIT (k / 8) (k % 8)
      (if s.ctl.mode = .m8 then 128
        else min (s.reg Reg.PWR_BUDGET.STACK_CAP) (s.rd Reg.THM_STACK.LIMIT (k / 8) (k % 8)))) s

/-- The highest band that the member dies of a channel show (R140). -/
def State.memberBand (s : State) (c : Nat) : Nat :=
  maxOf ((List.range 10).map (fun p =>
    if s.rdM Reg.MED_DIE.MEMBER (10 * c + p) < 9 then s.rdM Reg.MED_DIE.BAND (10 * c + p) else 0))

/-- The power of the cores ends while stripes are in program (R150): each lies on media as far as it was programmed, and Rebuild finds
whether it decodes (R176). -/
def State.dropPrograms (s : State) : State :=
  { s with media := { s.media with
    images := s.media.inProgram.foldl (fun t x => t.ins (stripeKey x.channel x.segment x.index) x) s.media.images
    inProgram := [] } }

/-- Program a queued stripe at the fill pointer of segment t, the next of its ring (R159), under the waveforms of the dies' bands
(R139); the ring advances, and leaves a segment whose last stripe this is. -/
def State.program (s : State) (x : Stripe) (t : Nat) : State :=
  let c := x.channel
  let f := (s.seg c t).filled
  let y := { x with
    segment := t, index := f, absent := s.absentMember c t
    bands := (List.range 9).map (fun m => (((s.serving c).find? (fun p => p.1 == m)).map (fun p => p.2.2)).getD 0) }
  let s1 := s.onSeg c t (fun g =>
    if f = 0 then { g with filled := 1, epoch := s.minutes, hotBand := s.memberBand c }
    else { g with filled := f + 1, hotBand := max g.hotBand (s.memberBand c) })
  let rest := (s1.ring c x.stream).drop 1
  let s2 := s1.setRing c x.stream (if f + 1 = 4096 then rest else rest ++ [t])
  let s3 : State := { s2 with
    media := { s2.media with queue := removeFirst x s2.media.queue, inProgram := s2.media.inProgram ++ [y] } }
  s3.tallyC c 2 y.places

/-- The queued stripes of a channel that may go next: a Write-through stripe first (R216), else the first of each stream, the hot one
first unless it is the pulp pass's turn (R171, R180). -/
def State.nextStripes (s : State) (c : Nat) : List Stripe :=
  match s.media.queue.find? (fun x => x.channel == c && x.wt) with
  | some x => [x]
  | none =>
    let first := fun (k : Nat) => (s.media.queue.find? (fun x => x.channel == c && x.stream == k)).toList
    (if s.media.coldTurn.getLsbD c then first 1 ++ first 0 else first 0 ++ first 1) ++ first 2

/-- A stripe can be programmed in segment t (R25, R159): no stripe of the segment is in program, and every member's bank, partition and
die have room. -/
def State.segRoom (s : State) (c t : Nat) : Bool :=
  !s.media.inProgram.any (fun y => y.channel == c && y.segment == t) &&
    (s.serving c).all (fun p => s.absentMember c t == some p.1 || roomFor (s.dieRuns c p.1 p.2.1) t)

/-- Pulp and sizing passes have at least half of a channel's places: at 768 FREE segments or fewer (R180), and while a segment is DUE
after a long time without power (R171). -/
def State.pulpHalf (s : State) (c : Nat) : Bool :=
  s.freeCount c ≤ 768 ||
    ((List.range 10).any (fun p => s.rdM Reg.MED_DIE.OFF_AGE (10 * c + p) ≥ 43200) && (s.segsOf c).any (fun p => p.2.due && !p.2.fresh))

/-- The place of a stripe: the next segment of its stream's ring, where it can go now. -/
def State.placeStripe (s : State) (x : Stripe) : Option (Nat × State) :=
  match s.ring x.channel x.stream with
  | [] => none
  | t :: _ =>
    if s.segRoom x.channel t then
      let turn := if x.stream = 0 then s.pulpHalf x.channel else false
      let s1 := s.program x t
      some (if (s.absentMember x.channel t).isSome then 8 else 9,
        { s1 with media := { s1.media with coldTurn :=
            if turn then s1.media.coldTurn ||| (1#32 <<< x.channel) else s1.media.coldTurn &&& ~~~(1#32 <<< x.channel) } })
    else none

/-- Start a steep whose record is programmed (R165), with the waveforms of the dies' bands (R139): the generation rises when the tiles
are steeped together. -/
def State.startSteep (s : State) (x : Steep) : State :=
  let s1 := match x.member with
    | none => s.onSeg x.channel x.segment (fun g => { g with state := .steeping, gen := g.nextGen })
    | some _ => s
  let y := { x with dies := ((s.serving x.channel).filter (fun p => x.member.all (fun m => m == p.1))).map (fun p => p.2) }
  let s2 : State := { s1 with
    media := { s1.media with ready := removeFirst x s1.media.ready, steeps := s1.media.steeps ++ [y] } }
  s2.tallyC x.channel 3 y.dies.length

/-- A steep may be issued (R24, R25, R158): no other segment of its partition is STEEPING, and its dies have room. -/
def State.steepRoom (s : State) (x : Steep) : Bool :=
  !(s.media.steeps.any (fun y => y.channel == x.channel && partOf y.segment == partOf x.segment)) &&
    (s.serving x.channel).all (fun p =>
      !x.member.all (fun m => m == p.1) || roomFor (s.dieRuns x.channel p.1 p.2.1) x.segment)

/-- The next steep of a channel (R164): of those that may be issued, the segment of the lowest GENERATION, then the lowest index. -/
def State.nextSteep (s : State) (c : Nat) : Option Steep :=
  (s.media.ready.filter (fun x => x.channel == c && s.steepRoom x)).foldl (fun (best : Option Steep) x =>
    match best with
    | none => some x
    | some b =>
      let g := (s.seg c x.segment).gen
      let h := (s.seg c b.segment).gen
      if g < h ∨ (g = h ∧ x.segment < b.segment) then some x else some b) none

/-- The engine that carries a role is not resetting: its work need not wait (R471). -/
def State.roleWorks (s : State) (r : Nat) : Bool :=
  !((List.range 24).any (fun j => s.rd Reg.ENG_STATE.STATE (r % 2) j == 1 &&
    (s.rd Reg.ENG_STATE.ROLE (r % 2) j == r || s.rd Reg.ENG_STATE.ABSORBED (r % 2) j == r)))

/-- The role that commands a channel's media dies, CE (R20). -/
def ceOf (c : Nat) : Nat := 2 * (c % 16) + c / 16

/-- The role that changes a channel's map, ME (R20). -/
def meOf (c : Nat) : Nat := 32 + 2 * (c % 16 / 4) + c / 16

/-- The next issue unit of a channel: what it costs, and the state once it is issued (R25). While the channel's engine resets, its
programs and steeps wait (R471). -/
def State.nextUnit (s : State) (c : Nat) : Option (Nat × State) :=
  if !s.roleWorks (ceOf c) then none else
  let s0 := if s.media.queue.any (fun x => x.channel == c) then (s.keepOpen c).topUp c 2 else s
  match (s0.nextStripes c).findSome? s0.placeStripe with
  | some u => some u
  | none => (s.nextSteep c).map (fun x =>
      (((s.serving c).filter (fun p => x.member.all (fun m => m == p.1))).length, s.startSteep x))

/-- Issue one unit of a stack, if one fits: the channels alternate while both wait (R25). -/
def State.issueOne (s : State) (k : Nat) : Option State :=
  let turn := s.media.stackTurn[k]?.getD 0
  let a := 2 * k + turn
  let b := 2 * k + (1 - turn)
  let fits := fun cost => decide (s.stackInUse k + cost ≤ s.stackLimit k)
  let flip := fun (t : State) => { t with media := { t.media with stackTurn := t.media.stackTurn.set k (1 - turn) } }
  match s.nextUnit a, s.nextUnit b with
  | some u, some _ => if fits u.1 then some (flip u.2) else none
  | some u, none => if fits u.1 then some u.2 else none
  | none, some u => if fits u.1 then some u.2 else none
  | none, none => none

/-- Issue units of a stack while they fit; n bounds the units. -/
def State.issueN (s : State) (k : Nat) : Nat → State
  | 0 => s
  | n + 1 =>
    match s.issueOne k with
    | none => s
    | some t => t.issueN k n

/-- Issue what the stack of a channel has room for. Nothing is issued outside M2 to M7, nor in Doze below D1, where the stacks
stand by (R429); a Pour writes its own stripes (R314). -/
def State.issue (s : State) (c : Nat) : State :=
  if s.running && s.ctl.mode != .m8 && !(s.ctl.mode == .m6 && s.reg Reg.MOD_STATUS.DOZE ≥ 2) then
    s.issueN (stackOf c) (s.media.queue.length + s.media.ready.length)
  else s

/-! ## Halves and stripes (R159, R160) -/

/-- Assemble a stripe: it takes its write sequence and waits for issue (R155, R159). -/
def State.assemble (s : State) (c stream : Nat) (h0 h1 : Option Half) (wt : Bool) : State :=
  let x : Stripe := ⟨c, stream, 0, 0, s.seqOf c, wt, none, [], h0, h1⟩
  let s1 := s.takeSeq c
  ({ s1 with media := { s1.media with queue := s1.media.queue ++ [x] } }).issue c

/-- Bring the walks to the quire of a half that waits, before a stripe takes it (R163, R367). -/
def State.reachWaiting (s : State) (key : Nat) : State :=
  match s.media.waiting.find? key with
  | none => s
  | some w => s.reachEarly w.quire

/-- Enter a half into a stream: with the half that waits, at once alone (`now`), or waiting for a second (R159). -/
def State.enterHalf (s : State) (stream : Nat) (h : Half) (now wt : Bool) : State :=
  let c := chanOf h.quire
  let key := 3 * c + stream
  let s := s.reachWaiting key
  match s.media.waiting.find? key with
  | some w =>
    ({ s with media := { s.media with waiting := s.media.waiting.del key } }).assemble c stream (some w) (some h) wt
  | none =>
    if now then s.assemble c stream (some h) none wt
    else { s with media := { s.media with waiting := s.media.waiting.ins key h } }

/-- A half that has waited long enough goes with a pad (R159). -/
def State.flushHalf (s : State) (c stream : Nat) : State :=
  let key := 3 * c + stream
  let s := s.reachWaiting key
  match s.media.waiting.find? key with
  | none => s
  | some w =>
    ({ s with media := { s.media with waiting := s.media.waiting.del key } }).assemble c stream (some w) none false

/-- Enter a staged quire whose lines are all valid into a hot stripe, unless a change of the quire is in flight (R154,
R211). On a lost channel nothing is written, and a Pour writes Pour stripes alone (R315). -/
def State.enterStaged (s : State) (id : Nat) : State :=
  match s.path.staged.find? (fun e => e.id == id) with
  | none => s
  | some e =>
    if s.ctl.mode = .m8 then s
    else if s.sweepAhead e.quire then s.reachEarly e.quire
    else if e.inStripe || e.blk.valid != BitVec.allOnes 16 || s.inFlight e.quire || s.chanLost (chanOf e.quire) then s
    else
      let s1 : State := { s with path := { s.path with
        staged := modifyFirst (fun e => e.id == id) (fun e => { e with inStripe := true, merging := false })
          s.path.staged } }
      s1.enterHalf 0 (e.blk.half e.quire (.evict id)) e.wt e.wt

/-- Enter the oldest staged copy of a quire that may go now. -/
def State.pumpQuire (s : State) (q : Nat) : State :=
  match s.path.staged.find? (fun e => e.quire == q && !e.inStripe && e.blk.valid == BitVec.allOnes 16) with
  | none => s
  | some e => s.enterStaged e.id

/-- Whether a completing half still applies (R154, R160, R264): its staging entry is there, or the map still names the place
its copy was read from. -/
def State.halfApplies (s : State) (h : Half) : Bool :=
  match h.kind with
  | .evict id => s.path.staged.any (fun e => e.id == id)
  | .copy e => s.mapEntry h.quire == e
  | .loss e _ _ => s.mapEntry h.quire == e
  | .void => false

/-- Report the frames that a scrubber's copy records as lost (R264 step 5, R267, R276). -/
def State.reportLoss (s : State) (h : Half) (tx : Nat) (frames : List (Nat × Nat)) : State :=
  let c := chanOf h.quire
  frames.foldl (fun s f =>
    let n := f.1
    let m : BitVec 16 := (h.sheet n).poison.setWidth 16 <<< (4 * n)
    let s1 := ((s.bumpC Reg.PRT_ERR.LOST c 1).tally (dieOf c) 344 1).mediaLoss (h.quire * 16 + lowestBit m) tx c
      (some (f.2, s.deviceOf c f.2))
    (s1.poisonMask h.quire m false).raiseLog (12 * c + 3) 2 [h.quire * 1024 + n * 256]) s

/-- A change held behind a quire's stripe is applied before one of a higher write sequence, whose place it then takes (R154). -/
def State.applyOlder (s : State) (q seq : Nat) : State :=
  match s.mapping.held.find? q with
  | none => s
  | some h =>
    if h.seq < seq then ({ s with mapping := { s.mapping with held := s.mapping.held.del q } }).applyEntry q h.entry else s

/-- Apply one half of a complete stripe (R160): the map entry names the stripe; then what waited behind it, and the quire's next
change may go (R154). -/
def State.applyHalf (s : State) (x : Stripe) (place : Nat) (h : Half) : State :=
  let s := (s.reachEarly h.quire).applyOlder h.quire x.seq
  let s1 := if s.halfApplies h then
      let s2 := s.applyEntry h.quire
        (mkEntry (if h.poisoned then 2 else 1) x.segment x.index place)
      match h.kind with
      | .evict id => s2.freeStaged id
      | .loss _ tx frames => s2.reportLoss h tx frames
      | .copy _ | .void => s2
    else s
  (s1.applyHeld h.quire).pumpQuire h.quire

/-- The PROGRAMs of a stripe, as member, die and band, on the members that have a frame in it. -/
def State.programsOf (s : State) (x : Stripe) : List (Nat × Nat × Nat) :=
  ((s.serving x.channel).filter (fun p => x.absent != some p.1)).map (fun p => (p.1, p.2.1, x.bands[p.1]?.getD 0))

/-- The PROGRAMs of a stripe end on their dies (R124, R138), member m's frame having verified at pulse `pulses[m]`. -/
def State.programsEnd (s : State) (x : Stripe) (pulses : List Nat) : State :=
  ((s.clearSuspends x.channel x.segment).programsOf x).foldl (fun s p =>
    s.programDie p.2.1 x.segment x.index (pulses[p.1]?.getD 1) p.2.2) (s.clearSuspends x.channel x.segment)

/-- A stripe's programs have all ended with OK (R160): its frames stand, its map changes
apply, a filled segment closes (R161), and waiting units are issued. In Halt nothing but the frames changes (R344). -/
def State.stripeDone (s : State) (x : Stripe) : State :=
  let c := x.channel
  let s2 : State := { s with media := { s.media with
    inProgram := removeFirst x s.media.inProgram
    images := s.media.images.ins (stripeKey c x.segment x.index) x
    lastStripeMin := s.media.lastStripeMin.set c s.minutes } }
  let s2 := s2.summed x
  if s.ctl.mode = .m10 then s2
  else
    let s3 := x.halves.foldl (fun s p => s.applyHalf x p.1 p.2) s2
    let s3 := (s3.tally (dieOf c) (325 + min x.stream 2) 1).tally (dieOf c) 328 (2 - x.halves.length)
    let s4 := if x.stream = 0 then s3.bump Reg.MAP_WA_HOST.QUIRES (dieOf c) 0 x.halves.length
      else if x.stream = 1 then s3.bump Reg.MAP_WA_COPY.QUIRES (dieOf c) 0 x.halves.length else s3
    let s5 := if (s4.seg c x.segment).filled = 4096 ∧ (s4.seg c x.segment).state = .opened ∧
        ¬ s4.media.inProgram.any (fun y => y.channel == c && y.segment == x.segment) then s4.closeSeg c x.segment else s4
    s5.issue c

/-- A half that a new stripe still carries: one whose quire has been unmapped or poisoned since, or that names what the map has left,
is superseded. -/
def State.keepsHalf (s : State) (h : Option Half) : Option Half :=
  match h with
  | none => none
  | some h => if (s.mapping.held.find? h.quire).isSome || !s.halfApplies h then none else some h

/-- A stripe whose program failed, or that lost a member in flight, is never complete: its quires go into a new stripe with a
new write sequence (R150, R160, R281), but for those that a record since has unmapped, whose change is then applied (R154). -/
def State.rewrite (s : State) (x : Stripe) : State :=
  let s0 := s.clearSuspends x.channel x.segment
  let s1 : State := { s0 with media := { s0.media with inProgram := removeFirst x s0.media.inProgram } }
  let y := { x with
    segment := 0, index := 0, absent := none, bands := [], seq := s1.seqOf x.channel, h0 := s1.keepsHalf x.h0, h1 := s1.keepsHalf x.h1 }
  let s2 := if y.halves.isEmpty then s1
    else
      let t := s1.takeSeq x.channel
      { t with media := { t.media with queue := y :: t.media.queue } }
  x.halves.foldl (fun s p => (s.applyHeld p.2.quire).pumpQuire p.2.quire) s2

/-! ## Quires on media -/

/-- The half that a map entry names. A place that no stripe has been written to holds the blank pattern (R125). -/
def State.halfAt (s : State) (q : Nat) (e : BitVec 32) : Half :=
  let blank : Half := ⟨q, .copy e, Sheet.blank, Sheet.blank, Sheet.blank, Sheet.blank⟩
  match s.media.images.find? (stripeKey (chanOf q) (entrySegment e) (entryStripe e)) with
  | none => blank
  | some x => ((if entryHalf e = 0 then x.h0 else x.h1).getD blank)

/-- A copy of a quire as it stands on media, for a relocation (R167). -/
def State.copyOf (s : State) (q : Nat) : Half := { s.halfAt q (s.mapEntry q) with kind := .copy (s.mapEntry q) }

/-- Relocate a quire that is on media through a stream, unless a change of it is in flight (R154, R197, R263). -/
def State.relocate (s : State) (stream q : Nat) : State :=
  let s := s.reachEarly q
  if onMedia (s.mapEntry q) && !s.inFlight q && !s.chanLost (chanOf q) then
    s.enterHalf stream (s.copyOf q) false false
  else s

/-- Relocate a quire with lost sheets, each a sheet and its member, as R264 writes it: the lines the Caddy holds valid keep
their data and the others are poisoned. -/
def State.relocateLost (s : State) (q tx : Nat) (frames : List (Nat × Nat)) : State :=
  let s := s.reachEarly q
  let e := s.mapEntry q
  if onMedia e && !s.inFlight q && !s.chanLost (chanOf q) then
    let held := (match s.wayOf q with | some p => [p.2.blk] | none => []) ++ (s.stagedOf q).map (fun x => x.blk)
    let h := frames.foldl (fun (h : Half) f =>
      let n := f.1
      let lost : Sheet := { Sheet.lost with poison := 0xF, host := (h.sheet n).host &&& (h.sheet n).poison }
      let blk := (List.range 4).foldl (fun (b : Block16) j =>
        match held.find? (fun x => x.isValid (4 * n + j)) with
        | some x => b.setLine (4 * n + j) (x.lines.get 0 (4 * n + j)) (x.isPoison (4 * n + j))
        | none => b) Block16.empty
      h.setSheet n ((blk.fillSheet n lost).sheet n)) (s.copyOf q)
    s.enterHalf 1 { h with kind := .loss e tx frames } false false
  else s

/-! ## Staging and poison quires (R162, R211) -/

/-- Make a staging entry. -/
def State.stage (s : State) (q : Nat) (b : Block16) (merging wt : Bool) (w : List LotEntry) : State :=
  let e : Staged := ⟨s.path.nextStaged, q, b, merging, false, wt, w⟩
  let s1 : State := { s with path := { s.path with staged := s.path.staged ++ [e], nextStaged := s.path.nextStaged + 1 } }
  s1.tally (ownerOf q) 321 1

/-- Poison a whole quire that has no readable copy (R162): a poison quire goes through the hot stream, and until its stripe
completes the staging entry answers reads with poison (R62). -/
def State.poisonQuire (s : State) (q : Nat) : State :=
  let s1 := (((s.dropQuire q).stage q Block16.allPoison false false []).poisonAdd (q * 16) 16 false).tally (ownerOf q) 345 1
  s1.pumpQuire q

end Sys2Proof.Machine
end

