-- ==== Sys2Proof/Machine/Health.lean ====
section
/-! DEFINITION. Media dies and channels as units that fail and return (R280 to R292, R304, R305): the swap, the member
rebuild, exposure, loss, and the Returning die. -/

namespace Sys2Proof.Machine

/-! ## Live quires of a segment (R167) -/

/-- The stripes on media of a segment. -/
def State.stripesOf (s : State) (c t : Nat) : List Stripe :=
  (s.media.images.filter (fun p => p.1 / 4096 == segKey c t)).map (fun p => p.2)

/-- A half on media that its quire's map entry names (R167, R262). -/
def State.isLive (s : State) (x : Stripe) (place : Nat) (h : Half) : Bool :=
  let e := s.mapEntry h.quire
  onMedia e && entrySegment e == x.segment && entryStripe e == x.index && entryHalf e == place

/-- The live quires of a stripe. -/
def State.liveOf (s : State) (x : Stripe) : List Nat :=
  (x.halves.filter (fun p => s.isLive x p.1 p.2)).map (fun p => p.2.quire)

/-- The live quires of a segment. -/
def State.liveQuires (s : State) (c t : Nat) : List Nat := (s.stripesOf c t).flatMap (fun x => s.liveOf x)

/-! ## Rebuild (R283, R284) -/

/-- Segments of a channel that hold stripes, those of the media reserve among them. -/
def State.filledSegs (s : State) (c : Nat) : List Nat :=
  ((s.segsOf c).filter (fun p => p.2.state == .reserve || p.2.filled > 0 &&
    (p.2.state == .opened || p.2.state == .closed || p.2.state == .victim))).map (fun p => p.1)

/-- Show what is left to rebuild or verify. -/
def State.showLeft (s : State) (c : Nat) : State := s.wrC Reg.SPR_CHAN.LEFT c (s.repairOf c).old.length

/-- The member rebuild or the verification scrub of a channel has nothing left (R284, R290): the channel is redundant again,
with source 12·ch + 9 or + 10 and an informational record; the Returning die takes ROLE 0. -/
def State.repairDone (s : State) (c : Nat) : State :=
  let m := s.chanMember c
  match s.holder c m with
  | none => s
  | some n =>
    if (s.repairOf c).old.isEmpty && (s.chanState c == 1 || s.chanState c == 3) then
      let verifying := s.chanState c == 3
      let s1 := (((s.wrC Reg.SPR_CHAN.STATE c 0).wrC Reg.SPR_CHAN.MEMBER c 15).wrM Reg.MED_DIE.ROLE n 0).wrC
        Reg.SPR_REBUILD.DURATION_S c (s.ms / 1000 - s.rdC Reg.SPR_REBUILD.START_MIN c * 60)
      let s2 := s1.onRepair c (fun r => { r with old := [], verified := [] })
      ((s2.raise (12 * c + (if verifying then 10 else 9))).event 0 .memoryModule
        (if verifying then .verifyDone else .rebuildDone) [c]).settle
    else s

/-- A segment is steeped, or retired: it has left the set that is to be rebuilt or verified, and no frame of an exposed member is left
in it (R290). -/
def State.leaveOld (s : State) (c t : Nat) : State :=
  if s.chanState c = 2 then s.onRepair c (fun r => { r with steeped := t :: r.steeped.filter (· != t) })
  else if (s.repairOf c).old.contains t then
    ((s.onRepair c (fun r => { r with old := r.old.filter (· != t) })).showLeft c).repairDone c
  else s

/-- A segment's tile of a member has been steeped: the segment is no longer short of it (R283). -/
def State.markWhole (s : State) (c t m : Nat) : State :=
  if (s.repairOf c).short t m then
    s.onRepair c (fun r => { r with lagging := r.lagging.map (fun p => if p.1 == m then (m, t :: p.2) else p) })
  else s

/-- The next short FREE segment of a partition whose tile of a serving member is to be steeped (R281 step 4). -/
def State.nextShort (s : State) (c part : Nat) : Option (Nat × Nat) :=
  (s.repairOf c).lagging.findSome? (fun p =>
    if (s.holder c p.1).isNone then none
    else
      (((List.range (min 4096 (s.mapping.segs.length + p.2.length + 2))).map (fun k => part * 4096 + k)).find? (fun t =>
        (s.seg c t).state == .free && !p.2.contains t &&
          !((s.media.steeps ++ s.media.ready).any (fun y => y.channel == c && y.segment == t)))).map (fun t => (t, p.1)))

/-- Ask for the steep of a partition's next short segment. -/
def State.askShort (s : State) (c part : Nat) : State :=
  match s.nextShort c part with
  | none => s
  | some (t, m) => { s with media := { s.media with ready := s.media.ready ++ [⟨c, t, some m, [], false⟩] } }

/-! ## Loss of stripes and channels -/

/-- Poison the live quires of stripes that lost two frames (R286, R305), each with its General Media record. -/
def State.poisonLive (s : State) (c : Nat) (qs : List Nat) : State :=
  qs.foldl (fun s q => (s.poisonQuire q).mediaLoss (q * 16) txManage c none) s

/-- Answer with poison the reads that wait on a channel's plans, and forget the plans. -/
def State.dropPlans (s : State) (c : Nat) : State :=
  let gone := s.path.plans.filter (fun p => chanOf p.quire == c)
  { s with
    out := (gone.flatMap (fun p => p.readers.map (fun r => Out.memData r.head r.tag none))).reverse ++ s.out
    path := { s.path with plans := s.path.plans.filter (fun p => chanOf p.quire != c) } }

/-- What the Caddy and the frontier hold of a channel goes (R287); completions owed are sent. -/
def State.dropChannel (s : State) (c : Nat) : State :=
  let qs := ((s.path.ways.map (fun p => p.2.quire)) ++ (s.path.staged.map (fun e => e.quire))).filter
    (fun q => chanOf q == c)
  let s1 := (qs.foldl (fun s q => s.dropQuire q) s).dropPlans c
  { s1 with
    mapping := { s1.mapping with held := s1.mapping.held.filter (fun p => chanOf p.1 != c) }
    media := { s1.media with
      waiting := s1.media.waiting.filter (fun p => p.1 / 3 != c)
      queue := s1.media.queue.filter (fun x => x.channel != c)
      inProgram := s1.media.inProgram.filter (fun x => x.channel != c)
      steeps := s1.media.steeps.filter (fun x => x.channel != c)
      ready := s1.media.ready.filter (fun x => x.channel != c) } }

/-- A channel is lost (R286, R287). -/
def State.loseChannel (s : State) (c cause : Nat) : State :=
  if s.chanLost c then s
  else
    let s1 := (List.range 10).foldl (fun s p =>
      ((s.wrM Reg.MED_DIE.ROLE (10 * c + p) 2).wrM Reg.MED_DIE.MEMBER (10 * c + p) 15).journalC c
        (.dieRole (10 * c + p) 2 15)) s
    let s2 := (((s1.wrC Reg.SPR_CHAN.STATE c 4).wrC Reg.SPR_CHAN.CAUSE c cause).wrC Reg.SPR_CHAN.SPARE_FREE c 0).wrC
      Reg.SPR_CHAN.LEFT c 0
    let s3 := ((s2.onRepair c (fun _ => ChanRepair.none)).dropChannel c)
    let s4 : State := { s3 with mapping := { s3.mapping with poison := s3.mapping.poison.omit 0 (quireCount * 16) s3.ms } }
    (((s4.raise (12 * c + 11)).event 3 .memoryModule .channelLost [c]).poolUpdate).settle

/-! ## Failed dies (R280, R281, R285) -/

/-- Stripes of a channel in program are never complete once a member is lost, and OPEN segments close (R281 step 2). -/
def State.stopChannel (s : State) (c : Nat) : State :=
  let xs := s.media.inProgram.filter (fun x => x.channel == c)
  (xs.foldl (fun s x => s.rewrite x) s).closeAll c

/-- Show a channel's state, the member it concerns and what is left. -/
def State.setChan (s : State) (c state member : Nat) : State :=
  ((s.wrC Reg.SPR_CHAN.STATE c state).wrC Reg.SPR_CHAN.MEMBER c member).showLeft c

/-- The spare die of a channel, unused. -/
def State.spareOf (s : State) (c : Nat) : Option Nat :=
  ((List.range 10).map (fun p => 10 * c + p)).find? (fun n => s.rdM Reg.MED_DIE.ROLE n == 1)

/-- A member is lost with no spare to take its number: the channel is exposed (R285), and no rebuild runs. Another member that still
lags behind does so until its tiles are steeped. -/
def State.expose (s : State) (c m : Nat) : State :=
  let s1 := s.onRepair c (fun r =>
    { lagging := r.lagging.filter (fun p => p.1 != m), old := [], verified := [], steeped := [] })
  ((s1.setChan c 2 m).raise (12 * c + 11))

/-- The spare takes a failed member's number (R281); it serves once its DIE_ROLE is programmed. -/
def State.swap (s : State) (c m spare : Nat) : State :=
  let s1 := s.onRepair c (fun r => ⟨(m, []) :: r.lagging.filter (fun p => p.1 != m), s.filledSegs c, [], []⟩)
  (((s1.setChan c 1 m).wrC Reg.SPR_CHAN.SPARE_FREE c 0).wrC Reg.SPR_REBUILD.START_MIN c s.minutes).journalC c
    (.dieRole spare 0 m)

/-- A member that is not under repair fails: swap the spare in, or expose the channel. -/
def State.swapOrExpose (s : State) (c m : Nat) : State :=
  match s.spareOf c with
  | some n => if s.rdC Reg.SPR_CHAN.SPARE_FREE c = 1 then s.swap c m n else s.expose c m
  | none => s.expose c m

/-- Every live quire of the segments still to rebuild or verify that has an unverified stripe. -/
def State.atRisk (s : State) (c : Nat) : List Nat :=
  let r := s.repairOf c
  r.old.flatMap (fun t => ((s.stripesOf c t).filter (fun x =>
    !r.verified.contains (stripeKey c t x.index))).flatMap (fun x => s.liveOf x))

/-- What a failed member number does to its channel, by the channel's state (R281, R285, R286, R290, R305). -/
def State.memberLost (s : State) (c m cause : Nat) : State :=
  let cm := s.chanMember c
  match s.chanState c with
  | 0 => s.swapOrExpose c m
  | 1 => if m = cm then s.expose c m else (s.poisonLive c (s.atRisk c)).expose c m
  | 2 => s.loseChannel c cause
  | 3 =>
    if m = cm then (s.onRepair c (fun r => { r with old := [], verified := [], steeped := [] })).setChan c 2 m
    else
      let s1 := s.poisonLive c (s.atRisk c)
      let s2 := match s1.holder c cm with | some n => s1.wrM Reg.MED_DIE.ROLE n 0 | none => s1
      s2.swapOrExpose c m
  | _ => s

/-- A failed die's steeps stop (R281 step 2); a steep of its tile alone is over. -/
def State.stopSteeps (s : State) (n : Nat) : State :=
  let on := fun (x : Steep) => x.dies.any (fun p => p.1 == n)
  { s with media := { s.media with steeps := (s.media.steeps.filter (fun x => !(on x && x.member.isSome))).map (fun x =>
      { x with dies := x.dies.filter (fun p => p.1 != n) }) } }

/-- A media die is declared failed (R280) with a cause of SPR_CHAN.CAUSE: it leaves its role, source 12·ch + 8 and its record
are raised, and its channel swaps, is exposed or is lost. A die already failed or retired changes nothing (R305). -/
def State.dieFailed (s : State) (n cause : Nat) : State :=
  let c := n / 10
  let role := s.rdM Reg.MED_DIE.ROLE n
  let m := s.rdM Reg.MED_DIE.MEMBER n
  if role = 2 ∨ role = 4 then s
  else
    let hd := s.media.health.get DieHealth.good n
    let s1 : State := { s with media := { s.media with
      health := s.media.health.put DieHealth.good n { hd with cause := cause, former := m } } }
    let s2 := (((s1.wrM Reg.MED_DIE.ROLE n 2).wrM Reg.MED_DIE.MEMBER n 15).wrC Reg.SPR_CHAN.CAUSE c cause).journalC c
      (.dieRole n 2 15)
    let s3 := (s2.raise (12 * c + 8)).event 2 .memoryModule .unitFailed [n]
    let s4 := if role = 1 then s3.wrC Reg.SPR_CHAN.SPARE_FREE c 0 else ((s3.stopSteeps n).stopChannel c).memberLost c m cause
    ((s4.poolUpdate).settle).issue c

/-- A die of a member answered: its runs of reports and timeouts end. -/
def State.dieAnswered (s : State) (c m : Nat) : State :=
  match s.holder c m with
  | none => s
  | some n => s.answered n

/-- Minutes within the last 24 hours of operating time. -/
def State.recent (s : State) (l : List Nat) : List Nat := l.filter (fun m => s.minutes < m + 1440)

/-- A frame of a member failed to decode (R276, R280): counts against its tile, its die and its channel. -/
def State.frameFailed (s : State) (c m t : Nat) : State :=
  let s1 := (((s.dieAnswered c m).bumpC Reg.PRT_ERR.FAILED c 1).tallyC c 9 1).raise (12 * c + 1)
  match s1.holder c m with
  | none => s1
  | some n =>
    let hd := s1.media.health.get DieHealth.good n
    let recent := s1.minutes :: s1.recent hd.failed
    let s2 := s1.onTile n t (fun x => { x with failed := x.failed + 1 })
    let s3 : State := { s2 with media := { s2.media with
      health := s2.media.health.put DieHealth.good n { hd with failed := recent } } }
    if recent.length ≥ max 1 (s3.rd Reg.SPR_DIE_CFG.FAIL_UE 0 0) then s3.dieFailed n 3 else s3

/-- A die whose retired tiles within 24 hours reach the limit fails (R280). -/
def State.tilesChecked (s : State) (n : Nat) : State :=
  if (s.recent (s.media.health.get DieHealth.good n).tiles).length ≥ max 1 (s.rd Reg.SPR_DIE_CFG.FAIL_TILES 0 0) then
    s.dieFailed n 4 else s

/-- A CMD_CRC report of a member's die on a command for segment t (R129, R132): the packet was discarded, and the third report in a
row fails the die. -/
def State.cmdCrc (s : State) (c m t : Nat) : State :=
  let s1 := (s.bumpC Reg.MED_CHAN.CMD_CRC_ERR c 1).tallyC c 11 1
  match s1.holder c m with
  | none => s1
  | some n =>
    let s1 := (s1.badPacket n).bankStatus n t .cmdCrc
    let hd := s1.media.health.get DieHealth.good n
    let s2 : State := { s1 with media := { s1.media with
      health := s1.media.health.put DieHealth.good n { hd with crcRun := hd.crcRun + 1 } } }
    if hd.crcRun + 1 ≥ 3 then s2.dieFailed n 1 else s2

/-- A READ of a member's die timed out (R194, R280): the eighth in a row fails the die. -/
def State.readTimeout (s : State) (c m : Nat) : State :=
  match s.holder c m with
  | none => s
  | some n =>
    let hd := s.media.health.get DieHealth.good n
    let s2 : State := { s with media := { s.media with
      health := s.media.health.put DieHealth.good n { hd with timeoutRun := hd.timeoutRun + 1 } } }
    if hd.timeoutRun + 1 ≥ 8 then s2.dieFailed n 2 else s2

/-! ## Return (R289 to R291) -/

/-- A failed die that its cause allows to qualify (R289). -/
def State.mayReturn (s : State) (n : Nat) : Bool :=
  let cause := (s.media.health.get DieHealth.good n).cause
  s.rdM Reg.MED_DIE.ROLE n == 2 && cause != 3 && cause != 4 && !s.chanLost (n / 10)

/-- A qualified die comes back (R290, R291): as the Returning member of its exposed channel, or as the channel's spare. -/
def State.dieReturns (s : State) (n : Nat) : State :=
  let c := n / 10
  let m := (s.media.health.get DieHealth.good n).former
  let s0 : State := { s with media := { s.media with health := s.media.health.put DieHealth.good n DieHealth.good } }
  if s.chanState c = 2 ∧ s.chanMember c = m ∧ (s.holder c m).isNone then
    let s1 := ((s0.wrM Reg.MED_DIE.ROLE n 3).wrM Reg.MED_DIE.MEMBER n m).journalC c (.dieRole n 3 m)
    let s2 := (s1.onRepair c (fun r =>
      { lagging := (m, []) :: r.lagging.filter (fun p => p.1 != m), verified := [], steeped := []
        old := (s.filledSegs c).filter (fun t => !r.steeped.contains t) })).wrC
      Reg.SPR_REBUILD.START_MIN c s.minutes
    (((s2.setChan c 3 m).repairDone c).poolUpdate).settle
  else
    (((((s0.wrM Reg.MED_DIE.ROLE n 1).wrM Reg.MED_DIE.MEMBER n 15).wrC Reg.SPR_CHAN.SPARE_FREE c 1).journalC c
      (.dieRole n 1 15)).poolUpdate).settle

/-! ## What is asked for again (R165, R283) -/

/-- A steep of a whole segment waits, runs, or waits for its record. -/
def State.steepAsked (s : State) (c t : Nat) : Bool :=
  (s.media.ready ++ s.media.steeps).any (fun x => x.channel == c && x.segment == t && x.member == none) ||
    (s.mapping.issued.flatten ++ s.mapping.openPage.zero ++ s.mapping.openPage.one).any (fun r =>
      r.channel == c && (match r.body with | .pendingSteep u _ => u == t | _ => false))

/-- Every segment that waits for a steep nobody has asked for is asked for again: those of an ABORT_STEEP, and those that a start finds
DIRTY, PENDING or STEEPING (R157, R165, R176). -/
def State.askSteeps (s : State) : State :=
  s.mapping.segs.foldl (fun (s : State) p =>
    let c := p.1 / 65536
    let t := p.1 % 65536
    match p.2.state with
    | .dirty | .pending | .steeping => if s.steepAsked c t then s else s.toDirty c t
    | _ => s) s

/-- Steeps of short segments are asked for again (R281, R283). -/
def State.askAllShort (s : State) : State :=
  (List.range 32).foldl (fun (s : State) c =>
    if (s.repairOf c).lagging.isEmpty then s else (List.range 16).foldl (fun s p => s.askShort c p) s) s

end Sys2Proof.Machine
end

