-- ==== Sys2Proof/Machine/Caddy.lean ====
section
/-! DEFINITION. The Caddy and the Kettle as operations (R184 to R221): credits, lookup, ways, staging and eviction, planned
reads and their end. -/

namespace Sys2Proof.Machine

/-! ## The line order tables (R185) -/

/-- A head whose CXL.mem is enabled and whose CXL.mem stream is not insecure after a failed check: while it is, what arrives is dropped
(R97; log entry 82). -/
def State.memLink (s : State) (h : Nat) : Bool :=
  s.hasHead h && s.rd Reg.LNK_STATUS.CXL_MEM h 0 == 1 && !(s.heads.get h).ideInsecureMem

/-- LOT entries of a die in use: reads at stage 5 and Write-through writes that wait for their stripe (R185). -/
def State.lotEntries (s : State) (d : Nat) : List LotEntry :=
  (s.path.plans.filter (fun p => ownerOf p.quire == d)).flatMap (fun p => p.readers) ++
    (s.path.staged.filter (fun e => ownerOf e.quire == d)).flatMap (fun e => e.waiters)

/-- The number of LOT entries of a die in use. -/
def State.lotUsed (s : State) (d : Nat) : Nat := (s.lotEntries d).length

/-- The lowest free place in a die's LOT (log entry 72). -/
def State.freePlace (s : State) (d : Nat) : Nat :=
  let used := (s.lotEntries d).map (fun r => r.index)
  ((List.range (used.length + 1)).find? (fun k => !used.contains k)).getD 0

/-- Reads of a head outstanding. -/
def State.readsOut (s : State) (h : Nat) : Nat :=
  (s.path.plans.map (fun p => (p.readers.filter (fun r => r.head == h)).length)).sum

/-- Writes of a head outstanding. -/
def State.writesOut (s : State) (h : Nat) : Nat :=
  (s.path.staged.map (fun e => (e.waiters.filter (fun w => w.head == h)).length)).sum

/-! ## Credits (R87, R188, R189, R210, R455; log entries 8 and 9) -/

/-- The sheets of a block that a merge must read. -/
def Block16.missing (b : Block16) : Nat :=
  ((List.range 4).filter (fun n => !(List.range 4).all (fun j => b.isValid (4 * n + j)))).length

/-- The bus slots that issued deadline reads of a channel commit (R191): host reads, and the merges of Write-through stripes (R216). -/
def State.committed (s : State) (c : Nat) : Nat :=
  ((s.path.plans.filter (fun p => chanOf p.quire == c && p.purpose == .host && p.issued)).map
    (fun p => if p.around then 8 else 1)).sum +
  ((s.path.staged.filter (fun e => chanOf e.quire == c && e.wt && e.merging)).map (fun e => e.blk.missing * s.slotCost c)).sum

/-- S_c (R188): the slots committed, and k_c for each read that waits for a slot. -/
def State.slots (s : State) (c : Nat) : Nat :=
  s.committed c + ((s.path.plans.filter (fun p => chanOf p.quire == c && p.purpose == .host && !p.issued)).map
    (fun p => p.readers.length * s.slotCost c)).sum

/-- The lowest of a list of numbers, `d` where it is empty. -/
def minOf (d : Nat) (l : List Nat) : Nat := l.foldl min d

/-- The greatest H that the LOTs leave (R188). -/
def State.lotFree (s : State) : Nat := minOf 4096 ((List.range 2).map (fun d => 4096 - s.lotUsed d))

/-- The greatest H_r that the channels leave (R188); a lost channel never limits it. -/
def State.readRoom (s : State) : Nat :=
  minOf 20 ((List.range 32).map (fun c => if s.chanLost c then 20 else (20 - s.slots c) / s.slotCost c))

/-- The greatest H_w that the dirty budget, the staging areas and the partial-line tables leave (R210). In Halt no write reaches the
Caddy. -/
def State.writeRoom (s : State) : Nat :=
  if s.ctl.mode = .m10 then 4096
  else
    minOf 4096 ((List.range 2).flatMap (fun d =>
      [s.rd Reg.CDY_DIRTY_LIMIT.BLOCKS d 0 - s.dirtyOfDie d, 65536 - s.stagedCount d - 4096, 32768 - s.partialUsed d - 4096]) ++
      (List.range 32).map (fun c => s.rd Reg.CDY_DIRTY_LIMIT.CHAN_BLOCKS (dieOf c) 0 - s.dirtyOfChan c))

/-- A throttled die holds at most half of a limit of R87 (R455). -/
def State.halfRoom (s : State) (limit : Nat) : Bool :=
  (List.range 2).all (fun d => !(s.dieThrottled d) || s.lotUsed d < limit / 2)

/-- The most credits of a kind that a head's host may hold: of `room` for both hosts, what the other host leaves and no more than half
in dual-head mode (log entry 8), and within the head's limit of R87. -/
def State.creditCap (s : State) (room other limit out : Nat) : Nat :=
  if s.halfRoom limit then min (min (if s.dual then (room + 1) / 2 else room) (room - other)) (limit - out) else 0

/-- Return to a head the credits that R87, R188 and R210 allow, if the module grants any in its mode (R75). -/
def State.grant (s : State) (h : Nat) : State :=
  if !(s.serves && s.memLink h) then s
  else
    let mine := s.path.credits.get h
    let other := s.path.credits.get (1 - h)
    let total := s.lotFree - (mine.rd + mine.wr + other.rd + other.wr)
    let rd := max mine.rd (min (s.creditCap s.readRoom other.rd (if s.dual then 3072 else 6144) (s.readsOut h)) (mine.rd + total))
    let left := total - (rd - mine.rd)
    let wr := max mine.wr (min (s.creditCap s.writeRoom other.wr (if s.dual then 1024 else 2048) (s.writesOut h)) (mine.wr + left))
    let s1 : State := { s with path := { s.path with credits := s.path.credits.modify h (fun _ => ⟨rd, wr⟩) } }
    (s1.tally h 208 (rd - mine.rd)).tally h 209 (wr - mine.wr)

/-- A request of a head uses a read credit, or a write credit. -/
def State.useCredit (s : State) (h : Nat) (write : Bool) : State :=
  { s with path := { s.path with credits := s.path.credits.modify h (fun c =>
      if write then { c with wr := c.wr - 1 } else { c with rd := c.rd - 1 }) } }

/-- The hosts' unused request credits, H of R188, and their unused read credits, H_r. -/
def State.unused (s : State) : Nat × Nat :=
  (s.path.credits.zero.rd + s.path.credits.zero.wr + s.path.credits.one.rd + s.path.credits.one.wr,
    s.path.credits.zero.rd + s.path.credits.one.rd)

/-- Count the return of a credit that R188, or for a write R210, defers (LOT_CREDIT.WITHHELD). -/
def State.withheld (s : State) (d : Nat) (write : Bool) : State :=
  if s.unused.1 + 1 > s.lotFree || (!write && s.unused.2 + 1 > s.readRoom) then
    (s.bump Reg.LOT_CREDIT.WITHHELD d 0 1).tally d 210 1
  else if write && s.path.credits.zero.wr + s.path.credits.one.wr + 1 > s.writeRoom then s.tally d 211 1
  else s

/-- The credits of a head end with its link: a new link begins without any (R81, R87). -/
def State.dropCredits (s : State) (h : Nat) : State :=
  { s with path := { s.path with credits := s.path.credits.modify h (fun _ => ⟨0, 0⟩) } }

/-! ## Admission (R186, R187) -/

/-- Admit a request for a line: an earlier entry for the line, or a request admitted before it in the same cycle, counts as a hazard
(R186, R187). -/
def State.takeIn (s : State) (line : Nat) (behind : Bool) : State :=
  let d := ownerOf (line / 16)
  if behind || (s.lotEntries d).any (fun r => r.line == line) then (s.bump Reg.LOT_HAZARD.COUNT d 0 1).tally d 204 1 else s

/-- The LOT entry of a request of a line (R185). -/
def State.entryOf (s : State) (line h : Nat) (tag : BitVec 16) (op state : Nat) (poison : Bool) (cycle : BitVec 16)
    (data : BitVec 512) (be : BitVec 64) : LotEntry :=
  ⟨s.freePlace (ownerOf (line / 16)), line, h, tag, op, state, 0, poison, cycle + 5720, data, be⟩

/-- A CXL.mem request of a head arrives for a line: its event of R476, the die-to-die crossing of one that another die owns, and the
time that PIN_LED shows as activity (R535). -/
def State.request (s : State) (event h line : Nat) : State :=
  let d := ownerOf (line / 16)
  let s1 := ({ s with ctl := { s.ctl with lastMem := some s.ms } }).tally d event 1
  if d = h then s1 else (s1.tally h 207 1).tally d 206 1

/-- Answer a read of a line: with data, or with poison, which event 203 counts. -/
def State.sendRead (s : State) (d h : Nat) (tag : BitVec 16) (data : Option (BitVec 512)) : State :=
  (s.send (.memData h tag data)).tally d 203 (if data.isNone then 1 else 0)

/-- Answer reads: the responses in order, with their poison responses counted. -/
def State.sendReads (s : State) (d : Nat) (l : List Out) : State :=
  let bad := (l.filter (fun o => match o with | .memData _ _ none => true | _ => false)).length
  ({ s with out := l.reverse ++ s.out }).tally d 203 bad

/-! ## Ways (R202, R205) -/

/-- A way that a planned read will fill. -/
def State.pinned (s : State) (q : Nat) : Bool := s.path.plans.any (fun p => p.quire == q)

/-- The way of a list with the highest AGE, the lowest number on a tie. -/
def oldestWay : List (Nat × Way) → Option (Nat × Way)
  | [] => none
  | p :: t =>
    match oldestWay t with
    | none => some p
    | some b => if b.2.age > p.2.age then some b else some p

/-- A way that an allocation may take without eviction (R205): an absent one, else the oldest clean unpinned one. -/
def State.freeWay (s : State) (q : Nat) : Option Nat :=
  let ws := s.waysOf q
  match (List.range 8).find? (fun w => !ws.any (fun p => p.1 == w)) with
  | some w => some w
  | none => (oldestWay (ws.filter (fun p => !p.2.dirty && !s.pinned p.2.quire))).map (fun p => p.1)

/-- A way newly given to a quire. -/
def State.newWay (s : State) (q age : Nat) (b : Block16) : Way :=
  ⟨caddyU q / s.sets (ownerOf q), q, false, age, b⟩

/-- Dirty ways of the set of a quire. -/
def State.dirtyWays (s : State) (q : Nat) : List (Nat × Way) := (s.waysOf q).filter (fun p => p.2.dirty)

/-! ## Staging and eviction (R199, R211) -/

/-- Complete a staging entry that needs no media: zeros for STATE 0, poison for STATE 3 (R199). -/
def Block16.completeFrom (b : Block16) (state : Nat) : Block16 :=
  if state = 0 then (List.range 4).foldl (fun b n => b.fillSheet n Sheet.zero) b
  else if state = 3 then (List.range 4).foldl (fun b n => b.loseSheet n) b
  else b

/-- Stage a quire's block: it enters a hot stripe when its lines are all valid or need no media, and otherwise waits for its
deferred merge (R199, R211, R216). -/
def State.stageBlock (s : State) (q : Nat) (b : Block16) (wt : Bool) (w : List LotEntry) : State :=
  let st := entryState (s.entry q)
  let full := b.valid == BitVec.allOnes 16
  let b1 := if full then b else b.completeFrom st
  let s1 := if !full && (st == 0 || st == 3) then s.bump Reg.CDY_STAT_MERGE.COUNT (ownerOf q) 0 1 else s
  (s1.stage q b1 (b1.valid != BitVec.allOnes 16) wt w).pumpQuire q

/-- Evict a dirty way into staging (R211). -/
def State.evictWay (s : State) (p : Nat × Way) : State :=
  let q := p.2.quire
  (((s.clearWay q p.1).blockAccess q p.1 4 0 16 false).bump Reg.CDY_STAT_EVICT.COUNT (ownerOf q) 0 1).stageBlock q p.2.blk
    s.ctl.writeThrough []

/-- Make room in the set of a quire (R212): evict the oldest dirty way; the write's latency counts in CDY_ROOM_MAX. -/
def State.makeRoom (s : State) (q ns : Nat) : State :=
  match oldestWay (s.dirtyWays q) with
  | none => s
  | some p => (((s.evictWay p).bump Reg.CDY_STAT_ROOM_WAIT.COUNT (ownerOf q) 0 1).peak Reg.CDY_ROOM_MAX.NS (ownerOf q) 0 ns).tally
      (ownerOf q) 212 1

/-- What the Caddy holds of a quire in staging, the newest entry first in every line. -/
def State.stagedBlock (s : State) (q : Nat) : Option Block16 :=
  match s.stagedOf q with
  | [] => none
  | e :: _ => some e.blk

/-- The way that a write takes in a set without an absent, clean or dirty way to give up: every way is clean and pinned, and the oldest
one goes, whose read then finds its fill without a place (log entry 78). -/
def State.pinnedWay (s : State) (q : Nat) : Nat := ((oldestWay (s.waysOf q)).map (fun p => p.1)).getD 0

/-- Give a write its way (R198, R205, R207, R212): the quire's own, or a new one that takes over the staging entry's lines. A
set never holds more than 6 dirty ways. -/
def State.wayForWrite (s : State) (q ns : Nat) : State × Nat × Way :=
  let d := ownerOf q
  match s.wayOf q with
  | some p =>
    let s1 := s.bump Reg.CDY_STAT_WRITE_HIT.COUNT d 0 1
    if !p.2.dirty && (s.dirtyWays q).length ≥ 6 then (s1.makeRoom q ns, p.1, p.2) else (s1, p.1, p.2)
  | none =>
    let s1 := s.bump Reg.CDY_STAT_WRITE_ALLOC.COUNT d 0 1
    let s2 := if (s.dirtyWays q).length ≥ 6 || (s.freeWay q).isNone then s1.makeRoom q ns else s1
    (s2, (s2.freeWay q).getD (s2.pinnedWay q), s2.newWay q 0 ((s.stagedBlock q).getD Block16.empty))

/-- A limit of R209 is exceeded on a die: of the die, or of one of its channels (R215). -/
def State.overLimit (s : State) (d : Nat) : Bool :=
  s.dirtyOfDie d > s.rd Reg.CDY_DIRTY_LIMIT.BLOCKS d 0 ||
    (List.range 16).any (fun l => s.dirtyOfChan (16 * d + l) > s.rd Reg.CDY_DIRTY_LIMIT.CHAN_BLOCKS d 0)

/-- Recompute whether a channel is evicting (R213, R215): above EVICT_START per cent of its limit or its die's, until 5 points
below; every channel of a die while one of its limits is exceeded, and always in Write-through. -/
def State.evicting (s : State) (c : Nat) : State :=
  let d := dieOf c
  let start := min 95 (max 10 (s.rd Reg.CDY_CFG.EVICT_START 0 0))
  let cl := s.rd Reg.CDY_DIRTY_LIMIT.CHAN_BLOCKS d 0
  let dl := s.rd Reg.CDY_DIRTY_LIMIT.BLOCKS d 0
  let above := fun pct => s.dirtyOfChan c * 100 > pct * cl || s.dirtyOfDie d * 100 > pct * dl
  let was := s.rdC Reg.CDY_CHAN_DIRTY.EVICTING c == 1
  let now := above start || (was && above (start - 5)) || s.overLimit d || s.ctl.writeThrough
  s.wrC Reg.CDY_CHAN_DIRTY.EVICTING c (if now then 1 else 0)

/-- What a write does to line k of a block (R61, R198, R207): a poisoned write poisons the line; a full one sets it valid; a partial
one, whatever its enables, merges into a valid line (a poisoned line stays poisoned), completes with zeros in a quire of STATE 0, and
is stored under its mask otherwise. -/
def Block16.write (b : Block16) (k state : Nat) (data : BitVec 512) (be : BitVec 64) (full poison host : Bool) : Block16 :=
  if poison then b.setLine k (poisonLine host) true
  else if full then b.setLine k data false
  else if b.isValid k then
    if b.isPoison k then b else b.setLine k (mergeLine (b.lines.get 0 k) data be) false
  else if state = 0 then b.setLine k (mergeLine 0 data be) false
  else b.setPart k data be

/-- Keep the poison index with a write to a line (R61, R268). -/
def State.indexWrite (s : State) (line : Nat) (full poison host : Bool) : State :=
  if poison then s.poisonAdd line 1 host
  else if full then s.poisonDel line 1
  else s

/-- Order the partial-line entries of a die by the time they were taken (R207, R208). -/
def State.takePartial (s : State) (q k : Nat) : State :=
  { s with path := { s.path with partials := s.path.partials.filter (fun p => p != (q, k)) ++ [(q, k)] } }

/-- The event of R476 that counts a write's completion after ns nanoseconds. -/
def writeLatency (ns : Nat) : Nat :=
  if ns < 200 then 240 + ns / 25 else if ns < 400 then 248 else if ns < 1000 then 249 else if ns < 2000 then 250
  else if ns < 4000 then 251 else if ns < 6000 then 252 else if ns < 9000 then 253 else 254

/-- Apply a write to a line in its way (R198, R207, R216, R76): dirty, or in Write-through staged at once with the completion
owed by its stripe. `data` and `be` are what the request carries; in Read-only the line is poisoned instead. -/
def State.writeLine (s : State) (line : Nat) (data : BitVec 512) (be : BitVec 64) (full poison host : Bool) (ns : Nat)
    (w : Option LotEntry) : State :=
  let q := line / 16
  let k := line % 16
  let s := if s.sweepAhead q then s.reachEarly q else s
  let p := s.wayForWrite q ns
  let blk := p.2.2.blk.write k (entryState (s.entry q)) data be full poison host
  let taken := blk.isPart k && !p.2.2.blk.isPart k
  let wt := s.ctl.writeThrough
  let d := ownerOf q
  let s0 := (p.1.putWay q p.2.1 { p.2.2 with dirty := p.2.2.dirty || !wt, age := 0, blk := blk }).blockAccess q p.2.1 2 (line % 16) 1
    true
  let s1 := ((s0.tally d 324 (if p.2.2.dirty || wt then 0 else 1)).tally d 213 (if wt then 1 else 0)).tally d 323
    (if taken then 1 else 0)
  let s2 := if taken then s1.takePartial q k else s1
  let s3 := s2.indexWrite line full poison host
  let s4 := if wt then s3.stageBlock q blk true w.toList
    else match w with | some w => (s3.send (.memDone w.head w.tag)).tally d (writeLatency ns) 1 | none => s3
  s4.evicting (chanOf q)

end Sys2Proof.Machine
end

