-- ==== Sys2Proof/Machine/Engines.lean ====
section
/-! DEFINITION. Engines (R463 to R474, R272 to R275): faults, resets, failures, roles, DMA halts and the SRAM sweep. Engine e
lies on die e mod 2 at local index e div 2. -/

namespace Sys2Proof.Machine

/-! ## Reading and writing an engine -/

/-- Read a field of engine e. -/
def State.rdE (s : State) (f : Field) (e : Nat) : Nat := s.rd f (e % 2) (e / 2)

/-- Write a field of engine e. -/
def State.wrE (s : State) (f : Field) (e v : Nat) : State := s.wr f (e % 2) (e / 2) v

/-- Engine e raises its source k (R463): 0 a fault, a reset or a change of state, 1 a DMA channel halt. -/
def State.raiseE (s : State) (e k : Nat) : State := s.raise (384 + 2 * e + k)

/-- The number that stands for no role. -/
def noRole : Nat := 63

/-- The engines of a die in ascending order. -/
def enginesOf (die : Nat) : List Nat := (List.range 24).map (fun j => 2 * j + die)

/-- An engine whose ports are open: one that has not failed, or that has failed and could not be isolated (R469). -/
def State.engineRuns (s : State) (e : Nat) : Bool :=
  s.rdE Reg.ENG_STATE.STATE e != 3 || s.rdE Reg.ENG_STATE.ROLE e != noRole

/-- Modes in which engines run (R412): all that power the cores. -/
def State.enginesOn (s : State) : Bool :=
  match s.ctl.mode with | .m0 | .m1 | .m11 => false | _ => true

/-! ## Roles (R469, R470) -/

/-- A die's spare engine without a role. -/
def State.spareEngine (s : State) (die : Nat) : Option Nat :=
  (enginesOf die).find? (fun e => s.rdE Reg.ENG_STATE.STATE e == 4 && s.rdE Reg.ENG_STATE.ROLE e == noRole)

/-- The absorber of a role (R469): its neighbour of the same kind, and SE2 or SE3 for MG0 or MG1. -/
def absorberOf (r : Nat) : Nat := if r ≥ 44 then 42 + r % 2 else r ^^^ 2

/-- An engine that works and carries only its own role. -/
def State.freeAbsorber (s : State) (e : Nat) : Bool :=
  s.rdE Reg.ENG_STATE.STATE e == 0 && s.rdE Reg.ENG_STATE.ROLE e == e && s.rdE Reg.ENG_STATE.ABSORBED e == noRole

/-- Give a role of a failed engine to the spare, or to its absorber (R469); none where neither is free. -/
def State.passRole (s : State) (r : Nat) : Option State :=
  match s.spareEngine (r % 2) with
  | some x =>
    some ((((s.wrE Reg.ENG_STATE.STATE x 0).wrE Reg.ENG_STATE.ROLE x r).wr Reg.SPR_SPARES.ENGINE_FREE (r % 2) 0 0).raiseE x 0)
  | none =>
    let a := absorberOf r
    if !s.freeAbsorber a then none
    else if r < 44 then some ((s.wrE Reg.ENG_STATE.ABSORBED a r).raiseE a 0)
    else
      let b := absorberOf a
      if s.freeAbsorber b then
        some ((((s.wrE Reg.ENG_STATE.ROLE a r).wrE Reg.ENG_STATE.ABSORBED b a).raiseE a 0).raiseE b 0)
      else none

/-- The engine that holds a role now, other than a given one. -/
def State.holderOfRole (s : State) (r e : Nat) : Nat :=
  ((enginesOf (r % 2)).find? (fun x => x != e &&
    (s.rdE Reg.ENG_STATE.ROLE x == r || s.rdE Reg.ENG_STATE.ABSORBED x == r))).getD noRole

/-- Pass the role in one field of a failed engine on, if it has one, with the record of class 0x407 (R493); it keeps a role that
no other engine can take. -/
def State.passField (s : State) (f : Field) (e : Nat) : State :=
  let r := s.rdE f e
  if r = noRole then s
  else match s.passRole r with
    | some t =>
      let u := t.wrE f e noRole
      u.log 2 0x407 [e, u.holderOfRole r e]
    | none => s

/-- An absorbed role moves into the field of an engine's role, where it has passed its own on. -/
def State.promote (s : State) (e : Nat) : State :=
  if s.rdE Reg.ENG_STATE.ROLE e = noRole ∧ s.rdE Reg.ENG_STATE.ABSORBED e ≠ noRole then
    (s.wrE Reg.ENG_STATE.ROLE e (s.rdE Reg.ENG_STATE.ABSORBED e)).wrE Reg.ENG_STATE.ABSORBED e noRole
  else s

/-! ## Reset, fault and failure (R466 to R468) -/

/-- Restart an engine (R467): its SRAM, of which the boot ROM writes every word (R275), its DMA channels and every field of reset kind E. It serves again at ENGINE_RESET_READY; one that
has failed without a holder for its role keeps STATE 3. -/
def State.engineReset (s : State) (e : Nat) : State :=
  let s1 := ({ s with sram := s.sram.del e }.resetRegs .engine (fun k => keyOnDie e k && k % 1048576 == e / 2)).tally (e % 2) 370 1
  (if s.rdE Reg.ENG_STATE.STATE e = 3 then s1 else s1.wrE Reg.ENG_STATE.STATE e 1).raiseE e 0

/-- The channels that a role serves (R20, R472). -/
def channelsOfRole (r : Nat) : List Nat :=
  if r < 32 then [16 * (r % 2) + r / 2]
  else if r < 40 then (List.range 4).map (fun k => 16 * (r % 2) + 4 * ((r - 32) / 2) + k)
  else if r < 46 then (List.range 16).map (fun k => 16 * (r % 2) + k)
  else []

/-- The channels of the roles that an engine carries. -/
def State.channelsOf (s : State) (e : Nat) : List Nat :=
  channelsOfRole (s.rdE Reg.ENG_STATE.ROLE e) ++ channelsOfRole (s.rdE Reg.ENG_STATE.ABSORBED e)

/-- An engine is declared failed (R468, R469): its roles pass on, and the failure is recorded in the quire store. A role that no
engine takes stays, and the engine is then restarted after each fault. What waited on the channels it served goes on (R471). -/
def State.engineFailed (s : State) (e cause : Nat) : State :=
  let s1 := (s.wrE Reg.ENG_STATE.STATE e 3).wrE Reg.ENG_STATE.CAUSE e cause
  let s2 := if e ≥ 46 then s1.wr Reg.SPR_SPARES.ENGINE_FREE (e % 2) 0 0 else s1
  let s3 := ((s2.passField Reg.ENG_STATE.ROLE e).passField Reg.ENG_STATE.ABSORBED e).promote e
  (s.channelsOf e).foldl (fun s c => s.issue c) ((s3.raiseE e 0).pageCommit 5056).settle

/-- Write the fault record of an engine (R466): counters, cause, address, its source and its Ream record. -/
def State.faultRecord (s : State) (e cause pc addr : Nat) : State :=
  let s1 := if cause = 3 then s.bump Reg.ENG_COUNT.WD_EXPIRED (e % 2) (e / 2) 1
    else s.bump Reg.ENG_COUNT.TRAPS (e % 2) (e / 2) 1
  let s2 := ((s1.wrE Reg.ENG_STATE.CAUSE e cause).wrE Reg.ENG_FAULT.PC e pc).wrE Reg.ENG_FAULT.ADDR e addr
  (s2.raiseE e 0).log 2 (384 + 2 * e) [cause, pc, addr]

/-- The faults of an engine within the last 24 hours of operating time, this one included (R468). -/
def State.countFault (s : State) (e : Nat) : State :=
  let l := s.minutes :: s.recent (s.engFaults.get [] e)
  ({ s with engFaults := s.engFaults.put [] e l }).wrE Reg.ENG_STATE.FAULTS_24H e (min l.length 15)

/-- The channels that the Pour can no longer reach: those of engines that have faulted twice in it (R472). -/
def State.pourStopped (s : State) : List Nat :=
  (s.pourFaults.filter (fun e => 2 ≤ s.pourFaults.count e)).flatMap s.channelsOf

/-- A fault of an engine with a cause of ENG_STATE.CAUSE (R466, R468, R472): it leads to an engine reset or to a declaration; in
a Pour always to a reset. -/
def State.engineFaults (s : State) (e cause pc addr : Nat) : State :=
  let s1 := (s.faultRecord e cause pc addr).countFault e
  let limit := max 1 (s.rd Reg.ENG_CFG.FAULT_LIMIT 0 0)
  if s.pour.running then
    ({ s1 with pourFaults := e :: s1.pourFaults }).engineReset e
  else if s.rdE Reg.ENG_STATE.STATE e = 3 then s1.engineReset e
  else if cause = 4 then s1.engineFailed e 4
  else if (s1.engFaults.get [] e).length ≥ limit then
    let s2 := s1.engineFailed e 3
    if s2.engineRuns e then s2.engineReset e else s2
  else s1.engineReset e

/-- The code of a fault's cause in ENG_STATE.CAUSE (R474). -/
def causeCode : EngineCause → Nat
  | .fetchTrap => 1
  | .dataTrap => 2
  | .notReady => 4
  | .otherTrap => 7

/-- Traps of the SRAM are counted (R273). -/
def State.countTrap (s : State) (e : Nat) (cause : EngineCause) : State :=
  match cause with
  | .fetchTrap => s.bump Reg.PRT_SRAM.FETCH_TRAPS (e % 2) 0 1
  | .dataTrap => s.bump Reg.PRT_SRAM.DATA_TRAPS (e % 2) 0 1
  | _ => s

/-- ENGINE_FAULT (R466, R273). -/
def execEngineFault (engine : Fin 48) (cause : EngineCause) (pc : BitVec 64) (addr : BitVec 48) (s : State) : Res :=
  .next (
    let e := engine.val
    if !s.enginesOn || !s.engineRuns e then s
    else (s.countTrap e cause).engineFaults e (causeCode cause) pc.toNat addr.toNat)

/-- WATCHDOG_EXPIRY (R465): the watchdog pauses in Doze. -/
def execWatchdogExpiry (engine : Fin 48) (pc : BitVec 64) (s : State) : Res :=
  .next (
    let e := engine.val
    if !s.enginesOn || s.ctl.mode == .m6 || !s.engineRuns e || s.rdE Reg.ENG_STATE.STATE e == 1 then s
    else s.engineFaults e 3 pc.toNat 0)

/-- ENGINE_RESET_READY (R467, R468, R471): the reset ends, and what waited on its channels is issued; an engine that is not ready by the bound faults and fails. -/
def execEngineResetReady (engine : Fin 48) (ready : Bool) (s : State) : Res :=
  .next (
    let e := engine.val
    let st := s.rdE Reg.ENG_STATE.STATE e
    if !s.enginesOn || !(st == 1 || (st == 3 && s.rdE Reg.ENG_STATE.ROLE e != noRole)) then s
    else if !ready then s.engineFaults e 4 0 0
    else
      let s1 := s.bump Reg.ENG_COUNT.RESETS (e % 2) (e / 2) 1
      (s.channelsOf e).foldl (fun s c => s.issue c) ((if st = 3 then s1
        else s1.wrE Reg.ENG_STATE.STATE e (if s.rdE Reg.ENG_STATE.ROLE e = noRole then 4 else 0)).raiseE e 0))

/-- DMA_HALT (R274): the channel keeps its descriptor; the core and the other channels go on. -/
def execDmaHalt (engine : Fin 48) (channel : Fin 4) (addr : BitVec 48) (s : State) : Res :=
  .next (
    let e := engine.val
    if !s.enginesOn || !s.engineRuns e then s
    else
      (((s.wrBit Reg.ENG_STATE.DMA_HALTED (e % 2) (e / 2) channel true).wrE Reg.ENG_FAULT.ADDR e addr.toNat).bump
        Reg.ENG_COUNT.DMA_HALTS (e % 2) (e / 2) 1).bump Reg.PRT_SRAM.DMA_HALTS (e % 2) 0 1 |>.raiseE e 1)

/-- SRAM_SWEEP (R272): single-bit errors are corrected and counted. A word with a double-bit error stays as it is, and is remembered by its
engine's local index and its number (State.sram): its effect is felt at the next read, as ENGINE_FAULT and DMA_HALT give. -/
def execSramSweep (die : Fin 2) (corrected : Nat) (uncorrectable : List (Fin 24 × Nat)) (s : State) : Res :=
  .next (
    if !s.enginesOn then s
    else
      let s1 := (s.bump Reg.PRT_SRAM.CORRECTED die 0 corrected).tally die 371 corrected
      uncorrectable.foldl (fun (s : State) p =>
        let e := 2 * p.1.val + die.val
        let old := s.sram.get [] e
        { s with sram := s.sram.put [] e (p.2 :: old.filter (fun w => w != p.2)) }) s1)

/-! ## Return and start (R470, R473) -/

/-- The engine that has absorbed a role, with the role, for engine e to take back (R473): its own where one has, else the lowest of its
die. -/
def State.absorbed (s : State) (e : Nat) : Option (Nat × Nat) :=
  (e :: (List.range 46).filter (fun r => r % 2 == e % 2)).findSome? (fun r =>
    if r = noRole then none
    else ((enginesOf (e % 2)).find? (fun x => s.rdE Reg.ENG_STATE.ABSORBED x == r)).map (fun x => (x, r)))

/-- MG0's or MG1's role, carried by an SE whose own role another SE has absorbed, goes back to its engine, and so does the SE's (R469,
R473). -/
def State.takeBackMg (s : State) (e : Nat) : Option State :=
  let a := absorberOf e
  let b := absorberOf a
  if e ≥ 44 && e < 46 && s.rdE Reg.ENG_STATE.ROLE a == e && s.rdE Reg.ENG_STATE.ABSORBED b == a then
    some ((((s.wrE Reg.ENG_STATE.ABSORBED b noRole).wrE Reg.ENG_STATE.ROLE a a).wrE Reg.ENG_STATE.ROLE e e).wrE Reg.ENG_STATE.STATE e 0)
  else none

/-- A qualified engine returns (R473): it takes back a role that an absorber carries, and otherwise becomes its die's spare. One that
failed without a holder for its role serves it again. -/
def State.engineReturns (s : State) (e : Nat) : State :=
  let d := e % 2
  let s0 := s.wrE Reg.ENG_STATE.CAUSE e 0
  let s1 :=
    if s.rdE Reg.ENG_STATE.ROLE e ≠ noRole then s0.wrE Reg.ENG_STATE.STATE e 0
    else match s0.takeBackMg e, s.absorbed e with
      | some t, _ => t
      | none, some (x, r) => ((s0.wrE Reg.ENG_STATE.ABSORBED x noRole).wrE Reg.ENG_STATE.ROLE e r).wrE Reg.ENG_STATE.STATE e 0
      | none, none => (s0.wrE Reg.ENG_STATE.STATE e 4).wr Reg.SPR_SPARES.ENGINE_FREE d 0 1
  ((s1.raiseE e 0).pageCommit 5056).settle

/-- Lay the roles out again from the recorded failures, in engines whose SRAM the boot ROM has written (R275, R470). -/
def State.layRoles (s : State) : State :=
  let s : State := { s with sram := [] }
  let bad := (List.range 48).filter (fun e => s.rdE Reg.ENG_STATE.STATE e == 3)
  let s1 := (List.range 48).foldl (fun (s : State) e =>
    let own := if e < 46 then e else noRole
    ((if bad.contains e then s else s.wrE Reg.ENG_STATE.STATE e (if e < 46 then 0 else 4)).wrE Reg.ENG_STATE.ROLE e own).wrE
      Reg.ENG_STATE.ABSORBED e noRole) s
  let s2 := (List.range 2).foldl (fun (s : State) d =>
    s.wr Reg.SPR_SPARES.ENGINE_FREE d 0 (if bad.contains (46 + d) then 0 else 1)) s1
  bad.foldl (fun s e => s.passField Reg.ENG_STATE.ROLE e) s2

/-- A role without a holder (R470): its engine has failed and kept it. -/
def State.roleUnheld (s : State) : Bool :=
  (List.range 48).any (fun e => s.rdE Reg.ENG_STATE.STATE e == 3 && s.rdE Reg.ENG_STATE.ROLE e != noRole)

/-- The last working holder of a role (R472): an engine whose failure would leave one of its roles without a holder. -/
def State.lastHolder (s : State) (e : Nat) : Bool :=
  let t := ((s.wrE Reg.ENG_STATE.STATE e 3).passField Reg.ENG_STATE.ROLE e).passField Reg.ENG_STATE.ABSORBED e
  t.rdE Reg.ENG_STATE.ROLE e != noRole || t.rdE Reg.ENG_STATE.ABSORBED e != noRole

end Sys2Proof.Machine
end

