-- ==== Sys2Proof/Machine/Packages.lean ====
section
/-! DEFINITION. The LPDDR5X packages: refresh (R237 to R240), the outcome of a unit (R226, R228), the loss of a package and its
return (R219, R220, R249). Package n is local package n mod 2 of die n div 2. -/

namespace Sys2Proof.Machine

/-! ## What the packages show -/

/-- Recompute the bits of CDY_STATUS that show a die's packages (R222). -/
def State.showPackages (s : State) (d : Nat) : State :=
  let bits := fun (k : Nat) => (if s.pkgState (2 * d) = k then 1 else 0) + (if s.pkgState (2 * d + 1) = k then 2 else 0)
  (s.wr Reg.CDY_STATUS.PKG_LOST d 0 (bits 1 + bits 2 + bits 3)).wr Reg.CDY_STATUS.PKG_RETURNING d 0 (bits 3)

/-! ## Refresh (R237 to R240) -/

/-- The factor of a refresh rate's code. -/
def rateFactor (code : Nat) : Nat := 2 ^ code

/-- Pay every refresh a package owes (R240). A payment, as DMC_REFRESH.PAYMENTS and event 20 count them, is that of one rank's whole debt,
which the spec does not define (log entry 93). -/
def State.payDebt (s : State) (n : Nat) : State :=
  let owed := (s.pkg n).debt
  ((s.onPkg n (fun p => { p with debt := [] })).bump Reg.DMC_REFRESH.PAYMENTS (n / 2) (n % 2) owed.length).tallyP n 20 owed.length

/-- Change the refresh rate of a package (R238, R240): a rise recomputes the debt of each rank and pays it. -/
def State.setRate (s : State) (n code : Nat) : State :=
  let old := s.rdP Reg.DMC_REFRESH.RATE n
  if code = old then s
  else
    let s1 := (s.wrP Reg.DMC_REFRESH.RATE n code).raiseP n 3
    if code < old then s1
    else
      let worst := ((s.pkg n).debt.map (fun p => p.2 * rateFactor code / rateFactor old)).foldl max 0
      (s1.peak Reg.DMC_REFRESH.DEBT_MAX (n / 2) (n % 2) (min worst 256)).payDebt n

/-- REFRESH_DUE (R237, R239): under Pour exclusivity the controller postpones up to 64 refreshes of a rank. Otherwise the refresh is due,
and is issued in a gap (`State.dramCycle`); one that was due already has reached its latest issue time and is issued first. -/
def execRefreshDue (package : Fin 4) (channel : Fin 8) (rank : Fin 2) (s : State) : Res :=
  .next (
    let n := package.val
    let d := n / 2
    let k := 2 * channel.val + rank.val
    let key := rankKey (n % 2) channel rank
    let owed := (s.pkg n).debt.get 0 k
    if !s.dramOn || s.pkgState n == 1 then s
    else if s.rd Reg.DMC_MODE.POUR_EXCL d 0 == 1 && owed < 64 then
      (s.onPkg n (fun p => { p with debt := p.debt.put 0 k (owed + 1) })).peak Reg.DMC_REFRESH.DEBT_MAX d (n % 2) (owed + 1)
    else
      let s1 := if (s.bus d).due.contains key then s.issueRefresh d key else s
      s1.onBus d (fun b => { b with due := b.due ++ [key] }))

/-! ## Loss of a package (R219, R249) -/

/-- The blocks a die holds, with their way numbers. -/
def State.waysOn (s : State) (d : Nat) : List (Nat × Way) :=
  (s.path.ways.filter (fun p => p.1 / 134217728 == d)).map (fun p => (p.1 % 8, p.2))

/-- Evict every dirty block of a die into staging. -/
def State.evictDie (s : State) (d : Nat) : State :=
  ((s.waysOn d).filter (fun p => p.2.dirty)).foldl (fun s p => s.evictWay p) s

/-- Drop every block of a die with its cached tag lines, and restart it with a number of sets (R219 step 4, R220 step 4). -/
def State.emptyDie (s : State) (d sets : Nat) : State :=
  ({ s with path := { s.path with
    ways := s.path.ways.filter (fun p => p.1 / 134217728 != d)
    tagCache := s.path.tagCache.modify d (fun _ => []) } }).wr Reg.CDY_CAPS.SETS d 0 sets

/-- What is left of a dirty block whose data is lost (R219 step 2): its valid and partial lines poisoned, no other. -/
def Block16.lostData (b : Block16) : Block16 :=
  (List.range 16).foldl (fun (x : Block16) k =>
    if b.isValid k || b.isPart k then x.setLine k 0 true else x) Block16.empty

/-- Dirty lines of a quire are lost with their LPDDR5X units (R60, R271): poison list, DRAM record and Ream record. -/
def State.dramLoss (s : State) (n q : Nat) (mask : BitVec 16) : State :=
  ((s.poisonMask q mask false).event 2 .dram .dataLost [q * 1024, n, mask.toNat]).log 2 (480 + 8 * n + 1) [q * 1024, mask.toNat]

/-- A dirty block of a lost package becomes a staging entry of poisoned lines, its poison recorded (R219 step 2, R60). -/
def State.loseBlock (s : State) (n : Nat) (p : Nat × Way) : State :=
  let q := p.2.quire
  let b := p.2.blk.lostData
  ((s.clearWay q p.1).dramLoss n q b.poison).stageBlock q b s.ctl.writeThrough []

/-- Re-lay a die onto its other package (R219): lost dirty lines poisoned, the rest evicted, the Caddy emptied, the die's engines
restarted. -/
def State.relay (s : State) (n : Nat) : State :=
  let d := n / 2
  let bad := (s.waysOn d).filter (fun p => p.2.dirty && s.packageOf p.2.quire == n)
  let s0 := s.onBus d (fun b => { b with queue := b.queue.filter (fun r => r.pkg != n % 2) })
  let s1 := ((bad.foldl (fun s p => s.loseBlock n p) s0).evictDie d).emptyDie d setsOne
  ((enginesOf d).filter (fun e => s.rdE Reg.ENG_STATE.STATE e == 0)).foldl (fun s e => s.engineReset e) s1

/-- A package is lost with a cause of DMC_PKG.CAUSE (R249, R219): its die is re-laid, or loses its channels with its last package
(R286). -/
def State.packageLost (s : State) (n cause : Nat) : State :=
  if s.pkgState n = 1 then s
  else
    let d := n / 2
    let last := s.pkgState (n ^^^ 1) != 0
    let s1 := if s.pkgState n = 0 && !last then s.relay n else s
    let s2 := ((s1.wrP Reg.DMC_PKG.STATE n 1).wrP Reg.DMC_PKG.CAUSE n cause).onPkg n (fun p => { p with
      lostMs := s.ms, marks := [], copying := none, debt := [] })
    let s3 := ((s2.showPackages d).raiseP n 6)
    let s4 := (s3.event 2 .dram .packageLost [n]).event 2 .memoryModule .packageLost [n, cause]
    let s5 := if last then (List.range 16).foldl (fun s c => s.loseChannel (16 * d + c) 7) s4 else s4
    (s5.showLimits).settle

/-- Re-admit a returning package (R220): the die's dirty blocks are evicted and it restarts empty on both packages. -/
def State.readmit (s : State) (n : Nat) : State :=
  if s.pkgState n ≠ 3 then s
  else
    let d := n / 2
    let s1 := (s.evictDie d).emptyDie d setsBoth
    let s2 := (s1.wrP Reg.DMC_PKG.STATE n 0).wrP Reg.DMC_PKG.CAUSE n 0
    ((s2.showPackages d).showLimits).settle

/-! ## Corrected and uncorrectable units (R228, R249) -/

/-- The operating ms of uncorrectable units within the last second. -/
def withinSecond (ms : Nat) (l : List Nat) : List Nat := l.filter (fun t => ms < t + 1000)

/-- Count corrected units of a channel (R228, R251): source 0 at each multiple of 1,024. -/
def State.dramCorrected (s : State) (n ch : Nat) : State :=
  let i := 8 * (n % 2) + ch
  let s1 := (s.bump Reg.DMC_ECC.CORRECTED (n / 2) i 1).tallyP n 21 1
  if s1.rd Reg.DMC_ECC.CORRECTED (n / 2) i % 1024 = 0 then s1.raiseP n 0 else s1

/-- What reading a unit gives (R228). -/
inductive UnitRead where
  | clean | corrected | uncorrectable
deriving DecidableEq, Repr

/-- What the code gives for a unit with erroneous bytes at these places of its 64 bytes and 8 check bytes (R226): any 3 are corrected, any
4 or 5 detected; of more the code promises nothing, and what it answers is open. -/
def unitRead (bad : List (Fin 72)) : UnitRead :=
  let n := bad.dedup.length
  if n = 0 then .clean
  else if n ≤ 3 then .corrected
  else if n ≤ 5 then .uncorrectable
  else match Config.beyondCode (bad.map Fin.val) % 3 with | 0 => .clean | 1 => .corrected | _ => .uncorrectable

/-- An uncorrectable data unit (R228, R249, R251): counted, given the poison mark if it does not carry it, and its row remembered. More
than 64 within a second lose the package, and so do those of more than 8 rows within an hour while the remap table is full. -/
def State.unitLost (s : State) (n p : Nat) : State :=
  let marked := (s.pkg n).marks.contains (p / 64)
  let s1 := (((s.bump Reg.DMC_ECC.UNCORRECTABLE (n / 2) (8 * (n % 2) + dramChannel p) 1).tallyP n 22 1).tallyP n 30
    (if marked then 0 else 1)).raiseP n 1
  let burst := s.ms :: withinSecond s.ms (s.pkg n).burst
  let rows := (rowOfPhys p, s.minutes) :: (s.pkg n).badRows.filter (fun r => s.minutes < r.2 + 60 && r.1 != rowOfPhys p)
  let s2 := s1.onPkg n (fun x => { x with
    burst := burst, badRows := rows, marks := if marked then x.marks else (p / 64) :: x.marks })
  if burst.length > 64 then s2.packageLost n 3
  else if rows.length > 8 && (List.range 64).all (fun e => s.remapValid n e) then s2.packageLost n 4
  else s2

end Sys2Proof.Machine
end

