-- ==== Sys2Proof/Machine/Lookup.lean ====
section
/-! DEFINITION. Lookup and the Kettle as operations (R184, R190 to R206, R221, R271): lost metadata and bad data under a request, where
a line's newest data lies, planned reads and their end. -/

namespace Sys2Proof.Machine

/-! ## Lost metadata and bad data under a request (R203, R221, R269 to R271) -/

/-- The quires that use a set (R221). -/
def State.quiresOfSet (s : State) (d set : Nat) : List Nat :=
  let n := s.sets d
  ((List.range (6442450944 / (if n = 0 then 6442450944 else n) + 1)).map (fun t => t * n + set)).filterMap (fun u =>
    if u < 6442450944 then some (quireAt (16 * d + u / quiresPerChannel) (u % quiresPerChannel)) else none)

/-- A tag line is lost in both copies (R221): every quire of its set without a staging entry is poisoned, with the
General Media, DRAM and Ream records (R60, R269). -/
def State.tagLost (s : State) (q : Nat) : State :=
  let d := ownerOf q
  let qs := (s.quiresOfSet d (s.setOf q)).filter (fun x => (s.stagedOf x).isEmpty)
  let s1 := (qs.foldl (fun s x => s.poisonQuire x) s).bump Reg.PRT_META.BOTH_LOST d 0 1
  ((s1.mediaLoss (q * 16) txManage (chanOf q) none).event 2 .dram .dataLost [d, q]).log 2 (12 * chanOf q + 3) [q * 1024]

/-- The 16 quires of the map line of a quire (R269). -/
def mapLineQuires (q : Nat) : List Nat :=
  (List.range 16).map (fun k => quireAt (chanOf q) (indexOf q / 16 * 16 + k))

/-- A map line is lost in both copies (R269, R270 case 3): its quires are poisoned. `read` says that a host read found it (R267). -/
def State.mapLost (s : State) (q : Nat) (read : Bool) : State :=
  let s1 := ((mapLineQuires q).foldl (fun s x => s.poisonQuire x) s).bump Reg.PRT_META.BOTH_LOST (ownerOf q) 0 1
  (s1.mediaLoss (q * 16) (if read then txHostRead else txManage) (chanOf q) none).raiseLog (12 * chanOf q + 3) 2 [q * 1024]

/-- What a line of Caddy data that is lost becomes (R60, R271): a clean way drops it, a dirty one or a staging entry poisons it. -/
def State.lineLost (s : State) (line : Nat) : State :=
  let q := line / 16
  let k := line % 16
  let n := s.packageOf q
  match s.wayOf q with
  | some p =>
    if !(p.2.blk.isValid k) && !(p.2.blk.isPart k) then s
    else if p.2.dirty then
      ((s.putWay q p.1 { p.2 with blk := p.2.blk.setLine k 0 true }).blockAccess q p.1 2 k 1 true).dramLoss n q (1#16 <<< k)
    else
      s.putWay q p.1 { p.2 with blk := { p.2.blk with
        valid := bit16 p.2.blk.valid k false, poison := bit16 p.2.blk.poison k false, lines := p.2.blk.lines.put 0 k 0 } }
  | none =>
    if (s.stagedOf q).any (fun e => (e.blk.isValid k || e.blk.isPart k) && !e.inStripe) then
      ({ s with path := { s.path with staged := s.path.staged.map (fun (e : Staged) =>
          if e.quire == q && (e.blk.isValid k || e.blk.isPart k) && !e.inStripe then
            { e with blk := e.blk.setLine k 0 true } else e) } }).dramLoss n q (1#16 <<< k)
    else s

/-- The LPDDR5X unit of a line's Caddy data is uncorrectable (R228, R271). -/
def State.dataBad (s : State) (line : Nat) : State :=
  let q := line / 16
  match s.wayOf q with
  | some p =>
    (s.lineLost line).unitLost (s.packageOf q) (s.redirected (s.packageOf q) (physOf (s.lineAddr (ownerOf q) (s.setOf q) p.1 (line % 16))))
  | none => s.lineLost line

/-- What a request meets on its way. An uncorrectable map line is read from its page's checkpoint copy, or re-derived where the page has
changed since (R270). It meets: the probe and the lookup through their caches, lost lines of metadata and bad data (R153, R190,
R203, R270, R271). -/
def State.meets (s : State) (line : Nat) (env : PathEnv) (read : Bool) : State :=
  let q := line / 16
  let d := ownerOf q
  let s1 := (s.tagTouch q).mapTouch q false
  let s2 := match env.tags with
    | .good => s1
    | .mirror => s1.bump Reg.PRT_META.MIRROR_USED d 0 1
    | .lost => s1.tagLost q
  let s3 := match env.map with
    | .good => s2
    | .restored =>
      if s.mapping.changed.get false (pageOf q) then s2.bump Reg.PRT_META.MAP_REDERIVED d 0 1
      else s2.bump Reg.PRT_META.MIRROR_USED d 0 1
    | .lost => s2.mapLost q read
  if env.dataBad then s3.dataBad line else s3

/-! ## Lookup (R190, R204) -/

/-- Where a line's newest data lies (R204). -/
inductive Found where
  | caddy (data : BitVec 512) (poison : Bool)
  | zeros
  | poison
  | media
deriving DecidableEq, Repr

/-- Look a line up (R190, R204). -/
def State.find (s : State) (line : Nat) : Found :=
  let q := line / 16
  let k := line % 16
  let blocks := (match s.wayOf q with | some p => [p.2.blk] | none => []) ++ (s.stagedOf q).map (fun e => e.blk)
  match blocks.find? (fun b => b.isValid k) with
  | some b => .caddy (b.lines.get 0 k) (b.isPoison k)
  | none =>
    match entryState (s.entry q) with
    | 0 => .zeros
    | 1 | 2 => .media
    | _ => .poison

/-- The written bytes of a line that is not valid, from staging and then the way (R204). -/
def State.partBytes (s : State) (line : Nat) : BitVec 64 × BitVec 512 :=
  let q := line / 16
  let k := line % 16
  let blocks := ((s.stagedOf q).map (fun e => e.blk)).reverse ++
    (match s.wayOf q with | some p => [p.2.blk] | none => [])
  (blocks.filter (fun b => b.isPart k)).foldl (fun (acc : BitVec 64 × BitVec 512) b =>
    (acc.1 ||| b.masks.get 0 k, mergeLine acc.2 (b.lines.get 0 k) (b.masks.get 0 k))) (0, 0)

/-! ## The Kettle (R191 to R194) -/

/-- What runs in a member's bank on a channel: nothing, a Write-through program, a program, a steep. -/
inductive BankUse where
  | idle | throughProgram | program | steep
deriving DecidableEq, Repr

/-- What runs in the bank of segment t on the die of member m (R134, R193). -/
def State.bankUse (s : State) (c t m : Nat) : BankUse :=
  match s.media.inProgram.find? (fun x => x.channel == c && bankOf x.segment == bankOf t && x.absent != some m) with
  | some x => if x.wt then .throughProgram else .program
  | none =>
    if s.media.steeps.any (fun x => x.channel == c && bankOf x.segment == bankOf t &&
        (x.member == none || x.member == some m)) then .steep
    else .idle

/-- The frame of a member can be read by itself (R191): a serving member, not an absent frame, not an unrebuilt frame, not an
older frame of a Returning die. -/
def State.readable (s : State) (c t f m : Nat) : Bool :=
  let r := s.repairOf c
  (s.holder c m).isSome &&
    (match s.media.images.find? (stripeKey c t f) with | some x => x.absent != some m | none => true) &&
    !(s.chanMember c == m && s.chanState c == 1 && r.old.contains t) &&
    !(s.chanMember c == m && s.chanState c == 3 && r.short t m)

/-- Suspensions of a die's bank so far. -/
def State.suspendsOf (s : State) (key : Nat) : Nat := s.media.suspends.get 0 key

/-- Plan whether a frame is read directly, suspending its bank where that is needed and still allowed (R191, R193). Answers
whether the plan is a read-around. `late` says that a direct read, which may have to wait for another read of its bank, would miss
the deadline (R150, R191). -/
def State.kettle (s : State) (c t f m : Nat) (late : Bool) : State × Bool :=
  if !s.readable c t f m || late then (s, true)
  else
    let key := bankKey ((s.holder c m).getD 0) t
    let suspend := fun (limit : Nat) =>
      if s.media.suspended.contains key then (s, false)
      else if s.suspendsOf key < limit then
        (({ s with media := { s.media with
            suspends := s.media.suspends.put 0 key (s.suspendsOf key + 1)
            suspended := s.media.suspended ++ [key] } }).bumpC Reg.LOT_KETTLE.SUSPENDS c 1 |>.tallyC c 4 1, false)
      else (((s.bankStatus ((s.holder c m).getD 0) t .suspLimit).bumpC Reg.MED_CHAN.SUSP_REFUSED c 1).tallyC c 5 1, true)
    match s.bankUse c t m with
    | .idle => (s, false)
    | .throughProgram => (s, true)
    | .program => suspend 8
    | .steep => suspend 64

/-- The READs of a plan (R191, R192): of the frame's own die, or of the stripe's other members. -/
def State.readsFor (s : State) (p : Plan) (around : Bool) : List ReadCmd :=
  let c := chanOf p.quire
  let m := memberOfSheet p.stripe p.half p.sheet
  let cmd := fun (k : Nat) => (s.holder c k).map (fun n => s.readCmd n p.segment p.stripe)
  if around then (List.range 9).filterMap (fun k => if k = m then none else cmd k) else (cmd m).toList

/-- Issue a plan (R191): a host read as the Kettle finds it, if the channel has slots left for it, and a background read at once, which
suspends nothing. Unchanged where a host read must wait. -/
def State.issuePlan (s : State) (p : Plan) : State :=
  let c := chanOf p.quire
  let m := memberOfSheet p.stripe p.half p.sheet
  let k := match p.purpose with
    | .host => s.kettle c p.segment p.stripe m p.late
    | .background => (s, !s.readable c p.segment p.stripe m)
  if p.purpose == .host && s.committed c + (if k.2 then 8 else 1) > 20 then s
  else
    let s1 := match p.purpose with
      | .host =>
        if k.2 then ((k.1.bumpC Reg.LOT_KETTLE.AROUND c 1).tally (dieOf c) 201 1).tallyC c 1 8
        else (k.1.tally (dieOf c) 200 1).tallyC c 0 1
      | .background => k.1.tallyC c 6 (if k.2 then 8 else 1)
    let set := fun (x : Plan) => { x with around := k.2, issued := true, reads := s.readsFor p k.2 }
    { s1 with path := { s1.path with plans := modifyFirst (fun x => x.id == p.id) set s1.path.plans } }

/-- Plan a frame read of a sheet, for the host or in the background (R191, R206). -/
def State.plan (s : State) (q sheet : Nat) (purpose : Purpose) (late : Bool) (rs : List LotEntry) : State :=
  let e := s.entry q
  let seq := match s.media.images.find? (stripeKey (chanOf q) (entrySegment e) (entryStripe e)) with | some x => x.seq | none => 0
  let p : Plan := ⟨s.path.nextPlan, q, sheet, entrySegment e, entryStripe e, entryHalf e, seq, false, late, false, purpose, [],
    (s.halfAt q e).sheet sheet, rs⟩
  ({ s with path := { s.path with plans := s.path.plans ++ [p], nextPlan := s.path.nextPlan + 1 } }).issuePlan p

/-- The map still names the frame that a plan reads: its place, and there the stripe of its write sequence. -/
def State.current (s : State) (p : Plan) : Bool :=
  let e := s.entry p.quire
  onMedia e && entrySegment e == p.segment && entryStripe e == p.stripe && entryHalf e == p.half &&
    (match s.media.images.find? (stripeKey (chanOf p.quire) p.segment p.stripe) with | some x => x.seq == p.seq | none => p.seq == 0)

/-- A plan serves a later read of a line (R187): an earlier read of the line waits on it, and the map still names its frame. -/
def State.attaches (s : State) (line : Nat) (p : Plan) : Bool := p.readers.any (fun x => x.line == line) && s.current p

/-- A host read of a line goes to stage 5: attached to the media read of an earlier read of the line, or planned, with the
quire's other sheets in the background under QUIRE_FILL, which a throttle suspends (R187, R191, R206, R455). -/
def State.stage5 (s : State) (late : Bool) (r : LotEntry) : State :=
  let q := r.line / 16
  let n := r.line % 16 / 4
  if s.path.plans.any (s.attaches r.line) then
    { s with path := { s.path with
      plans := modifyFirst (s.attaches r.line) (fun p => { p with readers := p.readers ++ [r] }) s.path.plans } }
  else
    let s1 := s.plan q n .host late [r]
    if s.rd Reg.CDY_CFG.QUIRE_FILL 0 0 = 1 ∧ s.dieThrottled (ownerOf q) = false then
      let blk := match s.wayOf q with | some p => p.2.blk | none => Block16.empty
      ((List.range 4).filter (fun m => m != n && !((List.range 4).all (fun j => blk.isValid (4 * m + j))))).foldl
        (fun s m => s.plan q m .background false []) s1
    else s1

/-! ## The end of a planned read (R195 to R197) -/

/-- Forget a plan: a bank suspended for reads resumes once no direct host read needs it (R193), and reads that waited for its slots are
issued, the earliest first (R191, R192). -/
def State.endPlan (s : State) (p : Plan) : State :=
  let left := s.path.plans.filter (fun x => x.id != p.id)
  let busy := (left.filter (fun x => x.issued && !x.around && x.purpose == .host)).flatMap (fun x =>
    x.reads.map (fun r => bankKey r.die (r.frame / 4096)))
  let s1 : State := { s with
    path := { s.path with plans := left }
    media := { s.media with suspended := s.media.suspended.filter (fun k => busy.contains k) } }
  (left.filter (fun x => !x.issued && chanOf x.quire == chanOf p.quire)).foldl State.issuePlan s1

/-- Fill a sheet clean into the Caddy (R196, R204, R205): only while the map still names the place it was read from; a quire
that is only in staging is not filled. -/
def State.fill (s : State) (p : Plan) : State :=
  let q := p.quire
  if !s.current p then s
  else
    match s.wayOf q with
    | some w =>
      ((s.putWay q w.1 { w.2 with blk := w.2.blk.fillSheet p.sheet p.frame }).blockAccess q w.1 3 (4 * p.sheet) 4 true).tally
        (ownerOf q) 320 1
    | none =>
      if !(s.stagedOf q).isEmpty then s
      else
        match s.freeWay q with
        | some w =>
          ((s.putWay q w (s.newWay q (s.rd Reg.CDY_CFG.FILL_AGE 0 0) (Block16.empty.fillSheet p.sheet p.frame))).blockAccess q w 3
            (4 * p.sheet) 4 true).tally (ownerOf q) 320 1
        | none => (s.bump Reg.CDY_STAT_FILL_DROP.COUNT (ownerOf q) 0 1).tally (ownerOf q) 221 1

/-- What a reader of a decoded sheet is answered (R187, R195, R204): poison where the line's mask bit is set, and the line under
the written bytes it found otherwise. -/
def Plan.answer (p : Plan) (r : LotEntry) : Out :=
  .memData r.head r.tag
    (if p.frame.poison.getLsbD (r.line % 4) then none else some (mergeLine (p.frame.line (r.line % 4)) r.data r.be))

/-- A planned read has its frame: answer every reader and fill (R195, R196). -/
def State.deliver (s : State) (p : Plan) : State :=
  ((s.endPlan p).fill p).sendReads (ownerOf p.quire) (p.readers.map p.answer)

/-- The corrected bits from which a frame counts as a high-correction frame (R263). -/
def State.relocBits (s : State) : Nat :=
  let raw := s.rd Reg.PRT_SCRUB_CFG.RELOC_BITS 0 0
  if raw = 0 || raw > 20 then 20 else raw

/-- Count a frame that decoded clean (R257, R263, R276): its corrected bits, and at RELOC_BITS or more against its tile. -/
def State.frameClean (s : State) (c m t bits : Nat) : State :=
  let s0 := s.dieAnswered c m
  let s1 := if bits > 0 then (s0.bumpC Reg.PRT_ERR.CORRECTED c 1).tallyC c 8 1 else s0
  if bits ≥ s.relocBits then
    let s2 := s1.bumpC Reg.PRT_ERR.HIGH c 1
    let s3 := match s2.holder c m with
      | some n => s2.onTile n t (fun x => { x with high := x.high + 1 })
      | none => s2
    if s3.rdC Reg.PRT_ERR.HIGH c % 1024 = 0 then s3.raise (12 * c) else s3
  else s1

/-- The bytes that a read of a plan stood for, once its frame is lost: still the line's newest data where nothing has changed it
since. -/
def State.stillThere (s : State) (p : Plan) (r : LotEntry) : Bool :=
  match s.find r.line with
  | .media =>
    let x := (s.halfAt p.quire (s.entry p.quire)).sheet (r.line % 16 / 4)
    x.line (r.line % 4) == p.frame.line (r.line % 4) && x.poison.getLsbD (r.line % 4) == p.frame.poison.getLsbD (r.line % 4)
  | _ => false

/-- Deep recovery gave up a frame that the map has left: a quire that has only moved is read where it now lies, and a line that has
changed since is lost to the reads that came before (R49, R62). -/
def State.staleLost (s : State) (p : Plan) : State :=
  p.readers.foldl (fun s r =>
    if s.stillThere p r then s.stage5 p.late r else s.sendRead (ownerOf p.quire) r.head r.tag none) (s.endPlan p)

/-- Deep recovery gave a sheet up (R197 step 6, R60, R62): the lines that the Caddy does not hold are poisoned at once through a
staging entry, the loss is reported, and the readers are answered with poison. -/
def State.sheetLost (s : State) (p : Plan) (m : Nat) : State :=
  let q := p.quire
  let c := chanOf q
  let held := (match s.wayOf q with | some w => [w.2.blk] | none => []) ++ (s.stagedOf q).map (fun e => e.blk)
  let lines := (List.range 4).filter (fun j => !held.any (fun b => b.isValid (4 * p.sheet + j)))
  let s1 := lines.foldl (fun s j => s.poisonAdd (q * 16 + 4 * p.sheet + j) 1 false) (s.endPlan p)
  let s2 := (((s1.bumpC Reg.PRT_ERR.LOST c 1).tally (dieOf c) 344 1).mediaLoss (q * 16 + (lines.map (4 * p.sheet + ·)).headD (4 * p.sheet)) txHostRead c
    (some (m, s1.deviceOf c m))).raiseLog (12 * c + 3) 2 [q * 1024 + p.sheet * 256]
  let s3 :=
    if lines.isEmpty then s2
    else
      match s2.wayOf q with
      | some w => s2.putWay q w.1 { w.2 with dirty := true, blk := w.2.blk.loseSheet p.sheet }
      | none =>
        match s2.stagedOf q with
        | [] => s2.stageBlock q (lines.foldl (fun (b : Block16) j => b.setLine (4 * p.sheet + j) 0 true) Block16.empty) false []
        | e :: _ =>
          let set := fun (x : Staged) => { x with blk := x.blk.loseSheet p.sheet }
          ({ s2 with path := { s2.path with staged := modifyFirst (fun x => x.id == e.id) set s2.path.staged } }).pumpQuire q
  s3.sendReads (ownerOf q) (p.readers.map (fun r => Out.memData r.head r.tag none))

/-- A half whose change R264 step 3 abandons. -/
def Half.void (h : Half) : Half := { h with kind := .void }

/-- A half that records the loss of a sheet of a quire. -/
def Half.losesSheet (h : Half) (q n : Nat) : Bool :=
  h.quire == q && (match h.kind with | .loss _ _ fs => fs.any (fun f => f.1 == n) | _ => false)

/-- A deep recovery gave a sheet's frame: the scrubber's record of its loss is abandoned (R264 step 3). -/
def State.abandonLoss (s : State) (q n : Nat) : State :=
  let fix := fun (x : Stripe) => { x with
    h0 := x.h0.map (fun h => if h.losesSheet q n then h.void else h), h1 := x.h1.map (fun h => if h.losesSheet q n then h.void else h) }
  { s with media := { s.media with
      waiting := s.media.waiting.filter (fun p => !p.2.losesSheet q n)
      queue := s.media.queue.map fix, inProgram := s.media.inProgram.map fix } }

/-- The step at which a deep recovery ends: a READ is issued again only where R194 sent it here, and step 4 is left out where the plan
was a read-around already (R197). -/
def Plan.deepStep (p : Plan) (reissue : Bool) : DeepOutcome → DeepOutcome
  | .step1 => if reissue then .step1 else .step2
  | .step4 => if p.around then .step5 else .step4
  | o => o

/-- A host read in deep recovery (R197): counted, recorded with the step it ended at, and ended. -/
def State.deepRecovery (s : State) (p : Plan) (m : Nat) (reissue : Bool) (o : DeepOutcome) (ns : Nat) : State :=
  let c := chanOf p.quire
  let s0 := ((s.bumpC Reg.LOT_KETTLE.DEEP c 1).tally (dieOf c) 202 1).tally (dieOf c) 239 p.readers.length
  let s1 := (s0.raise (12 * c + 4)).peak Reg.LOT_MISS_MAX.DEEP_NS (dieOf c) 0 ns
  let o := p.deepStep reissue o
  let step := match o with | .step1 => 1 | .step2 => 2 | .step3 => 3 | .step4 => 4 | .step5 => 5 | .gaveUp => 6 | .tagBad => 0
  let ended := fun (s : State) => (s.bump Reg.LOT_DEEP_STEP.COUNT (dieOf c) step (if step < 2 then 0 else 1)).log 4 (12 * c + 4)
    [step, p.quire, p.sheet]
  match o with
  | .tagBad => s1.halt 1 ⟨c, m, frameAddr p.segment p.stripe, 0, 0⟩
  | .gaveUp => if s1.current p then (ended s1).sheetLost p m else (ended s1).staleLost p
  | .step1 | .step4 => ((ended s1).deliver p).abandonLoss p.quire p.sheet
  | _ =>
    let s2 := ((ended s1).deliver p).abandonLoss p.quire p.sheet
    if s1.current p then s2.relocate 0 p.quire else s2

/-- A frame of a plan did not decode: a host read goes to deep recovery, a background read is given up. A plan that went with its channel,
when the frame's die was declared failed, has been answered (R287). -/
def State.planFailed (s : State) (p : Plan) (m : Nat) (reissue : Bool) (o : DeepOutcome) (ns : Nat) : State :=
  if !(s.path.plans.any (fun x => x.id == p.id)) then s
  else
    match p.purpose with
    | .host => s.deepRecovery p m reissue o ns
    | .background => s.endPlan p

/-- Whether the frame that a plan reads has been programmed since its tile's steep; a frame that has not reads as the blank pattern
(R125). -/
def State.written (s : State) (p : Plan) : Bool :=
  (s.media.images.find? (stripeKey (chanOf p.quire) p.segment p.stripe)).isSome

/-- What a plan's frame gives (R125, R194, R257): a frame that no program has written is BLANK and no recovery finds data in it, a
written one is not blank, and a direct read is of its own member. -/
def State.seen (s : State) (p : Plan) (o : ReadOutcome) : ReadOutcome :=
  let m : Fin 9 := Fin.ofNat 9 (memberOfSheet p.stripe p.half p.sheet)
  let own := fun (x : Fin 9) => if p.around then x else m
  if !s.written p then { o with frame := .blank m, deep := .gaveUp }
  else
    { o with frame := match o.frame with
      | .failed x | .blank x => .failed (own x)
      | .cmdCrc x => .cmdCrc (own x)
      | f => f }

/-- The dies of a read-around have all answered. -/
def State.allAnswered (s : State) (p : Plan) : State := p.reads.foldl (fun s r => s.answered r.die) s

/-- A planned read ends (R194, R195). A rebuilt frame is accepted only without a corrected bit (R259); a background READ that reports
CMD_CRC is issued again (R132). -/
def State.planDone (s : State) (p : Plan) (o : ReadOutcome) : State :=
  let c := chanOf p.quire
  let m := memberOfSheet p.stripe p.half p.sheet
  let o := s.seen p o
  let s0 := s.tallyC c 7 (if p.around then 8 else 1)
  match o.frame with
  | .clean bits =>
    if p.around && bits.val != 0 then (s0.allAnswered p).planFailed p m false o.deep o.ns
    else
      let s1 := if p.purpose = .host then s0.peak Reg.LOT_MISS_MAX.NS (dieOf c) 0 o.ns else s0
      let s2 := s1.tally (ownerOf p.quire) (224 + min 14 (o.ns / 200)) (if p.purpose = .host then p.readers.length else 0)
      (if p.around then s2.allAnswered p else s2.frameClean c m p.segment bits).deliver p
  | .tagBad => s0.halt 1 ⟨c, m, frameAddr p.segment p.stripe, 0, 0⟩
  | .failed x => (s0.frameFailed c x p.segment).planFailed p x false o.deep o.ns
  | .blank x =>
    let s1 := match s0.holder c x with | some n => (s0.bankStatus n p.segment .blank).answered n | none => s0
    (s1.tallyC c 10 1).planFailed p x true o.deep o.ns
  | .cmdCrc x =>
    let s1 := s0.cmdCrc c x p.segment
    match p.purpose with
    | .host => s1.planFailed p x true o.deep o.ns
    | .background => s1

end Sys2Proof.Machine
end

