-- ==== Sys2Proof/Machine/Dram.lean ====
section
/-! DEFINITION. The LPDDR5X controller's own work (R229, R241 to R252): the patrol, set points, training, drift and rows. Package n is
local package n mod 2 of die n div 2. -/

namespace Sys2Proof.Machine

/-! ## Patrol, drift and rows (R229, R246 to R248) -/

/-- The lines that an address of a package holds as Caddy data (R201, R224), by the ways that lie there. -/
def State.lineAt (s : State) (n a : Nat) : Option Nat :=
  let d := n / 2
  (List.find? (fun (p : Nat × Way) =>
    let set := p.1 / 8 % 16777216
    p.1 / 134217728 == d && s.packageOfSet d set == n &&
      s.lineAddr d set (p.1 % 8) 0 ≤ a && a < s.lineAddr d set (p.1 % 8) 0 + 1024) s.path.ways).map
    (fun p => p.2.quire * 16 + (a - DramArea.caddy.base (s.bothServe d)) / 64 % 16)

/-- A unit that reads uncorrectable: what its owner does where the unit is Caddy data (R271), and what the controller does (R228). -/
def State.unitBad (s : State) (n p : Nat) : State :=
  let s1 := match (logicalOf p).bind (s.lineAt n) with | some line => s.lineLost line | none => s
  s1.unitLost n p

/-- The patrol reads a unit, whose erroneous bytes are given (R228, R229): one that carries the poison mark, or whose check unit has been
lost, reads uncorrectable. A corrected unit is counted, and written back. -/
def State.patrolUnit (s : State) (n p : Nat) (bad : List (Fin 72)) (checkLost : Bool) : State :=
  if checkLost || (s.pkg n).marks.contains (p / 64) then s.unitBad n p
  else match unitRead bad with
    | .clean => s
    | .corrected => s.dramCorrected n (dramChannel p)
    | .uncorrectable => s.unitBad n p

/-- The groups of a package (R225). -/
def patrolGroups : Nat := 134217728

/-- The patrol reads a group of a package through port P5. An uncorrectable check unit raises source 2, and its seven data units, which
then read uncorrectable, count as seven and raise source 1 (log entry 94). -/
def State.patrolGroup (s : State) (n : Nat) (data : List (Fin 7 × List (Fin 72))) (check : List (Fin 72)) : State :=
  let g := (s.pkg n).patrol
  let errors := fun (u : Nat) => (data.filter (fun x => x.1.val == u)).flatMap (fun x => x.2)
  let checkLost := unitRead check == .uncorrectable
  let s1 := (s.accesses n 5 (448 * g) 7 false).tallyP n 24 8
  let s2 := if checkLost then s1.raiseP n 2 else if unitRead check == .corrected then s1.dramCorrected n (dramChannel (512 * g)) else s1
  let s3 := (List.range 7).foldl (fun s u => s.patrolUnit n (512 * g + 64 * u) (errors u) checkLost) s2
  let s4 := s3.onPkg n (fun x => { x with patrol := (g + 1) % patrolGroups })
  if g + 1 = patrolGroups then s4.bump Reg.DMC_PATROL.PASSES (n / 2) 0 1 else s4

/-- DRAM_PATROL (R229): the next group of a package in ascending physical order, with the places of the erroneous bytes of its units.
DMC_PATROL.PASSES counts the passes over each package of the die, which the spec leaves open (log entry 94). -/
def execDramPatrol (package : Fin 4) (data : List (Fin 7 × List (Fin 72))) (check : List (Fin 72)) (s : State) : Res :=
  .next (
    let n := package.val
    if !s.dramOn || s.pkgState n != 0 then s else s.patrolGroup n data check)

/-- The temperature of a package's sensor. -/
def State.packageTemp (s : State) (n : Nat) : Int := (s.sensors.get Sensor.initial (400 + n)).value

/-- Write the training slot of a package (R245): the 25 pages of the older of its two slots, with the temperature and the time. -/
def State.trainingSlot (s : State) (n : Nat) : State :=
  let first := 4816 + 50 * n
  let older := if s.qst.serials.get 0 first ≤ s.qst.serials.get 0 (first + 25) then first else first + 25
  let s1 := s.onPkg n (fun p => { p with slot := some (s.packageTemp n, s.minutes) })
  (List.range 25).foldl (fun s k => s.pageCommit (older + k)) s1

/-- The drift of a channel in per cent (R246): the slot is rewritten when the drift comes to exceed 5 %, not at each check above it (log
entry 95); above 20 % the channel is due for a retrain. -/
def State.driftSeen (s : State) (n channel drift : Nat) : State :=
  let old := (s.pkg n).drift[channel]?.getD 0
  let s1 := (s.onPkg n (fun p => { p with drift := p.drift.set channel drift })).peak Reg.DMC_TRAIN.DRIFT_MAX
    (n / 2) (n % 2) drift
  let s2 := if drift > 5 && old ≤ 5 then s1.trainingSlot n else s1
  let due := (s2.rdP Reg.DMC_TRAIN.RETRAIN_DUE n).testBit channel
  if drift > 20 && !due then (s2.wrBit Reg.DMC_TRAIN.RETRAIN_DUE (n / 2) (n % 2) channel true).raiseP n 4 else s2

/-- DRIFT_CHECK (R246): above 35 % the package is lost. -/
def execDriftCheck (package : Fin 4) (channel : Fin 8) (drift : Nat) (s : State) : Res :=
  .next (
    let n := package.val
    if !s.dramOn || s.pkgState n != 0 then s
    else if drift > 35 then (s.driftSeen n channel drift).packageLost n 2
    else s.driftSeen n channel drift)

/-- Show how many remap entries a package uses. -/
def State.showRemap (s : State) (n : Nat) : State :=
  s.wrP Reg.DMC_PPR.REMAP_USED n ((List.range 64).filter (fun e => s.remapValid n e)).length

/-- A row enters the remap table (R247): the copy of its units begins, once an earlier one has ended. -/
def State.remapInto (s : State) (n e channel rank bank row : Nat) : State :=
  let i := 64 * (n % 2) + e
  let d := n / 2
  let s0 := s.finishCopy n
  let s1 := (((s0.wr Reg.DMC_REMAP.VALID d i 1).wr Reg.DMC_REMAP.PPR_PENDING d i 1).wr Reg.DMC_REMAP.CHANNEL d i channel).wr
    Reg.DMC_REMAP.RANK d i rank
  let s2 := ((s1.wr Reg.DMC_REMAP.BANK d i bank).wr Reg.DMC_REMAP.ROW d i row).wr Reg.DMC_REMAP.COPY_DONE d i 0
  ((s2.onPkg n (fun p => { p with copying := some (e, 0) })).showRemap n).pageCommit (5032 + 2 * n + e / 32) |>.raiseP n 5

/-- ROW_REMAP (R247): a row with an uncorrectable error, or with corrected errors in 3 distinct units within 24 hours, named
by their numbers. A full table leaves the row as it is. -/
def execRowRemap (package : Fin 4) (channel : Fin 8) (rank : Fin 2) (bank : Fin 16) (row : Fin 131072)
    (uncorrectable : Bool) (units : List Nat) (s : State) : Res :=
  .next (
    let n := package.val
    let key := rowKey channel rank bank row
    let bad := uncorrectable || (s.pkg n).badRows.any (fun r => r.1 == key)
    if !s.dramOn || s.pkgState n != 0 || !(bad || units.dedup.length ≥ 3) ||
        (List.range 64).any (fun e => s.remapValid n e && s.remapRow n e == key) then s
    else
      match (List.range 64).find? (fun e => !s.remapValid n e) with
      | some e => s.remapInto n e channel rank bank row
      | none => s.raiseP n 5)

/-- Post-package repair of a package's pending rows at a cold start, while repair resources last (R248). -/
def State.repairRows (s : State) (n : Nat) : State :=
  (List.range 64).foldl (fun (s : State) e =>
    let i := 64 * (n % 2) + e
    if s.remapValid n e && s.rdP Reg.DMC_PPR.AVAILABLE n > 0 then
      let s1 := ((s.wr Reg.DMC_REMAP.VALID (n / 2) i 0).wr Reg.DMC_REMAP.PPR_PENDING (n / 2) i 0).wr
        Reg.DMC_REMAP.COPY_DONE (n / 2) i 0
      ((s1.bump Reg.DMC_PPR.REPAIRED (n / 2) (n % 2) 1).wrP Reg.DMC_PPR.AVAILABLE n
        (s.rdP Reg.DMC_PPR.AVAILABLE n - 1)).showRemap n
    else s) s

/-! ## Set points (R241, R242) -/

/-- The active timing set becomes the shadow (R242 step 5). -/
def State.shadowTiming (s : State) (d : Nat) : State :=
  ((((s.wr Reg.DMC_TIMING_SHADOW.SET d 0 (s.rd Reg.DMC_TIMING_ACTIVE.SET d 0)).wr Reg.DMC_TIMING_SHADOW.TRCD_NS d 0
    (s.rd Reg.DMC_TIMING_ACTIVE.TRCD_NS d 0)).wr Reg.DMC_TIMING_SHADOW.TRP_NS d 0 (s.rd Reg.DMC_TIMING_ACTIVE.TRP_NS d 0)).wr
    Reg.DMC_TIMING_SHADOW.TRFCPB_NS d 0 (s.rd Reg.DMC_TIMING_ACTIVE.TRFCPB_NS d 0)).wr Reg.DMC_TIMING_SHADOW.TREFIPB_NS d 0
    (s.rd Reg.DMC_TIMING_ACTIVE.TREFIPB_NS d 0)

/-- Change the set point of a die (R242): its packages' debt is paid, and the target's timing set becomes the active one. -/
def State.setPoint (s : State) (d code : Nat) : State :=
  if s.rd Reg.DMC_FSP.CURRENT d 0 = code then s
  else
    let s1 := ((((s.payDebt (2 * d)).payDebt (2 * d + 1)).bump Reg.DMC_FSP.CHANGES d 0 1).tallyP (2 * d) 27 1).tallyP
      (2 * d + 1) 27 1
    ((s1.shadowTiming d).wr Reg.DMC_FSP.CURRENT d 0 code).wr Reg.DMC_TIMING_ACTIVE.SET d 0 code

/-- The set point of Serve: 6,400 MT/s while the LPDDR5X throttle is held, else 9,600 (R241). -/
def State.serveSetPoint (s : State) (d : Nat) : Nat := s.rd Reg.DMC_MODE.THROTTLE d 0

/-- A channel whose read-centering check failed in a set-point change or at a start (R242, R246): it raises source 4 and is retrained at
once; where that fails too, the package is lost (R249). -/
def State.centerBad (s : State) (c : Centering) : State :=
  let n := c.package.val
  if s.pkgState n ≠ 0 then s
  else
    let s1 := s.raiseP n 4
    if c.lost then s1.packageLost n 1
    else
      (s1.wrBit Reg.DMC_TRAIN.RETRAIN_DUE (n / 2) (n % 2) c.channel false).onPkg n (fun p => { p with drift := p.drift.set c.channel 0 })

/-- Step 7 of the set-point changes made since `before`: the channels whose check fails (R242). -/
def State.centered (s before : State) (l : List Centering) : State :=
  l.foldl (fun (s : State) c =>
    let d := c.package.val / 2
    if s.rd Reg.DMC_FSP.CURRENT d 0 ≠ before.rd Reg.DMC_FSP.CURRENT d 0 then s.centerBad c else s) s

/-- Retrain the channels that are due (R246), at a Quiesce, D3 entry or start: drift and marks clear. -/
def State.retrain (s : State) (n : Nat) : State :=
  let due := s.rdP Reg.DMC_TRAIN.RETRAIN_DUE n
  if due = 0 then s
  else
    (s.wrP Reg.DMC_TRAIN.RETRAIN_DUE n 0).onPkg n (fun p => { p with
      drift := p.drift.mapIdx (fun i x => if due.testBit i then 0 else x) })

end Sys2Proof.Machine
end

