-- ==== Sys2Proof/Machine/Path.lean ====
section
/-! DEFINITION. The commands of the read and write paths: MEMRD, MEMSPECRD, MEMWR, MEMWRPTL, the ends of media reads, and
the evictions and merges of the Caddy (R184 to R221). -/

namespace Sys2Proof.Machine

/-! ## Requests at the LOT -/

/-- Answer a read from where its line lies (R190, R204). -/
def State.readAt (s : State) (line : Nat) (env : PathEnv) (h : Nat) (tag : BitVec 16) : State :=
  let q := line / 16
  let d := ownerOf q
  match s.find line with
  | .caddy data poison =>
    let s1 := match s.wayOf q with
      | some p => (s.putWay q p.1 { p.2 with age := 0 }).blockAccess q p.1 0 (line % 16) 1 false
      | none => s
    ((s1.bump Reg.CDY_STAT_READ_HIT.COUNT d 0 1).tally d (if (s.wayOf q).isSome then 196 else 197) 1).sendRead d h tag
      (if poison then none else some data)
  | .zeros => ((s.bump Reg.CDY_STAT_READ_UNMAPPED.COUNT d 0 1).tally d 198 1).sendRead d h tag (some 0)
  | .poison => s.sendRead d h tag none
  | .media =>
    let p := s.partBytes line
    ((s.bump Reg.CDY_STAT_READ_MISS.COUNT d 0 1).tally d 199 1).stage5 env.late
      (s.entryOf line h tag 0 2 false env.cycle p.2 p.1)

/-- A read of a DPA line that has its credit (R184, R190): poison in Halt, on a lost channel and where the map line is lost in
both copies; otherwise from where the line lies. -/
def State.readLine (s : State) (line : Nat) (env : PathEnv) (behind : Bool) (h : Nat) (tag : BitVec 16) : State :=
  let s1 := s.takeIn line behind
  let d := ownerOf (line / 16)
  if s.ctl.mode = .m10 ∨ s.chanLost (chanOf (line / 16)) then s1.sendRead d h tag none
  else
    let s2 := s1.meets line env true
    if env.map = .lost then s2.sendRead d h tag none else s2.readAt line env h tag

/-- A write of a DPA line that has its credit (R198): completed and discarded in Halt and on a lost channel (R73, R287); in
Read-only the line is poisoned (R76). `full` is a MemWr. -/
def State.writeDpa (s : State) (line : Nat) (data : BitVec 512) (be : BitVec 64) (full poison : Bool) (env : PathEnv) (behind : Bool)
    (h : Nat) (tag : BitVec 16) : State :=
  let s1 := s.takeIn line behind
  let d := ownerOf (line / 16)
  let w := s1.entryOf line h tag (if full then 1 else 2) 5 poison env.cycle data be
  if s.ctl.mode = .m10 ∨ s.chanLost (chanOf (line / 16)) then ((s1.send (.memDone h tag)).tally d 214 1).tally d (writeLatency env.ns) 1
  else
    let s2 := s1.meets line env false
    if s.ctl.readOnly then (s2.tally d 214 1).writeLine line 0 be full true false env.ns (some w)
    else s2.writeLine line data be full poison true env.ns (some w)

/-- The DPA line of an HPA at a head, none where no committed decoder maps it (R92). -/
def State.lineOf (s : State) (h hpa : Nat) : Option Nat := ((s.heads.get h).dpa hpa).map (fun a => a / 64)

/-- A read that has arrived with its credit (R184): an HPA that no committed decoder maps completes with poison (R92). -/
def State.admitRead (s : State) (h : Nat) (tag : BitVec 16) (hpa : Nat) (env : PathEnv) (behind : Bool) : State :=
  let s1 := s.useCredit h false
  match s1.lineOf h hpa with
  | none => s1.send (.memData h tag none)
  | some line => ((s1.request 192 h line).readLine line env behind h tag).withheld (ownerOf (line / 16)) false

/-- A write that has arrived with its credit (R198, R207): one whose HPA no committed decoder maps completes and is discarded (R92). -/
def State.admitWrite (s : State) (h : Nat) (tag : BitVec 16) (hpa : Nat) (data : BitVec 512) (be : BitVec 64) (full poison : Bool)
    (env : PathEnv) (behind : Bool) : State :=
  let s1 := s.useCredit h true
  match s1.lineOf h hpa with
  | none => s1.send (.memDone h tag)
  | some line =>
    ((s1.request (if full then 193 else 194) h line).writeDpa line data be full poison env behind h tag).withheld (ownerOf (line / 16)) true

/-- A CXL.mem request with its head, HPA, whether it writes, and what it meets. -/
structure Request where
  head : Nat
  hpa : Nat
  write : Bool
  env : PathEnv
deriving DecidableEq, Repr

/-- The request that a command carries. -/
def requestOf : Instr → Option Request
  | .memrd h _ a e => some ⟨h, a, false, e⟩
  | .memwr h _ a _ _ e => some ⟨h, a, true, e⟩
  | .memwrptl h _ a _ _ _ e => some ⟨h, a, true, e⟩
  | _ => none

/-- The module takes the request of a head: it serves CXL.mem, or the request had its credit before a Quiesce (R75, R87). -/
def State.takes (s : State) (r : Request) : Bool :=
  (s.serves || s.ctl.mode == .m7) && s.memLink r.head &&
    (if r.write then (s.path.credits.get r.head).wr != 0 else (s.path.credits.get r.head).rd != 0)

/-- Admit a request that the module takes; `behind` says that another request for its line was admitted before it in the same cycle.
A request without a credit waits at the host (log entry 9). -/
def State.letIn (s : State) (i : Instr) (behind : Bool) : State :=
  match requestOf i with
  | none => s
  | some r =>
    let s1 := s.grant r.head
    if !s1.takes r then s1
    else
      match i with
      | .memrd h tag a env => s1.admitRead h tag a env behind
      | .memwr h tag a data poison env => s1.admitWrite h tag a data (BitVec.allOnes 64) true poison env behind
      | .memwrptl h tag a data be poison env => s1.admitWrite h tag a data be false poison env behind
      | _ => s1

/-- Two requests for one line that the two inputs of its LOT present in one cycle (R186). -/
def State.sameCycle (s : State) (i j : Instr) : Bool :=
  match requestOf i, requestOf j with
  | some a, some b => a.head != b.head && s.dual && (s.lineOf a.head a.hpa).isSome && s.lineOf a.head a.hpa == s.lineOf b.head b.hpa
  | _, _ => false

/-- The die whose LOT admits a request. -/
def State.lotOf (s : State) (i : Instr) : Nat :=
  match requestOf i with
  | some r => ((s.lineOf r.head r.hpa).map (fun l => ownerOf (l / 16))).getD 0
  | none => 0

/-- The LOT's input that a request comes through (R186): 0 that of the head on its own die, 1 the die-to-die ingress. -/
def State.inputOf (s : State) (i : Instr) : Nat :=
  match requestOf i with | some r => if r.head = s.lotOf i then 0 else 1 | none => 0

/-- A read behind a write of the same cycle takes its data from the write's buffer (R187). -/
def State.forwards (s : State) (first second : Instr) : State :=
  match requestOf first, requestOf second with
  | some a, some b =>
    if a.write && !b.write then (s.bump Reg.LOT_HAZARD.FORWARD (s.lotOf second) 0 1).tally (s.lotOf second) 205 1 else s
  | _, _ => s

/-- Admit the two requests of a tie in order: the round-robin pointer then passes to the other input (R55, R186). -/
def State.passTie (s : State) (first : Instr) : State := s.wr Reg.LOT_RR.NEXT (s.lotOf first) 0 (1 - s.inputOf first)

/-- A request arrives. With the request at the front of the queue, if that is for the same line in the same cycle, it makes a tie: the
one on the input that the round-robin pointer favours is admitted first, the other right after it (R55, R186). -/
def State.arrive (s : State) (i : Instr) : State :=
  match s.path.tied with
  | some (a, ran) =>
    let s1 : State := { s with path := { s.path with tied := none } }
    if !s1.sameCycle a i then (if ran then s1 else s1.letIn a false).letIn i false
    else if ran then (s1.forwards a i).letIn i true
    else ((((s1.passTie i).letIn i false)).forwards i a).letIn a true
  | none =>
    match requestOf i, s.pending with
    | some r, j :: _ =>
      if r.env.tie && s.sameCycle i j then
        if s.rd Reg.LOT_RR.NEXT (s.lotOf i) 0 = s.inputOf i then
          let s1 := (s.passTie i).letIn i false
          { s1 with path := { s1.path with tied := some (i, true) } }
        else { s with path := { s.path with tied := some (i, false) } }
      else s.letIn i false
    | _, _ => s.letIn i false

/-- MEMRD (R184). -/
def execMemrd (head : Fin 2) (tag : BitVec 16) (hpa : Nat) (env : PathEnv) (s : State) : Res :=
  .next (s.arrive (.memrd head tag hpa env))

/-- MEMSPECRD (R184): a background read of the sheet where the quire misses the Caddy and is on media. -/
def execMemspecrd (head : Fin 2) (hpa : Nat) (env : PathEnv) (s : State) : Res :=
  .next (
    if !(s.inService && s.memLink head) then s
    else
      match s.lineOf head hpa with
      | none => s
      | some line =>
        let q := line / 16
        if s.chanLost (chanOf q) then s
        else
          let s1 := (s.request 195 head line).meets line env false
          if (s1.wayOf q).isNone && (s1.stagedOf q).isEmpty && onMedia (s1.entry q) then
            s1.plan q (line % 16 / 4) .background false []
          else s1)

/-- MEMWR (R198). -/
def execMemwr (head : Fin 2) (tag : BitVec 16) (hpa : Nat) (data : Line) (poison : Bool) (env : PathEnv)
    (s : State) : Res :=
  .next (s.arrive (.memwr head tag hpa data poison env))

/-- MEMWRPTL (R207). -/
def execMemwrptl (head : Fin 2) (tag : BitVec 16) (hpa : Nat) (data : Line) (be : ByteEnables) (poison : Bool)
    (env : PathEnv) (s : State) : Res :=
  .next (s.arrive (.memwrptl head tag hpa data be poison env))

/-- MEDIA_READ_READY (R195): a plan that does not exist has ended already, and one that waits for a slot has not been read. -/
def execMediaReadReady (plan : Nat) (o : ReadOutcome) (s : State) : Res :=
  .next (
    match s.path.plans.find? (fun p => p.id == plan && p.issued) with
    | none => s
    | some p => s.planDone p o)

/-- MEDIA_READ_TIMEOUT (R194): of a direct read, the frame's own member; of a read-around, the member named. -/
def execMediaReadTimeout (plan : Nat) (member : Fin 9) (deep : DeepOutcome) (ns : Nat) (s : State) : Res :=
  .next (
    match s.path.plans.find? (fun p => p.id == plan && p.issued) with
    | none => s
    | some p =>
      let m := if p.around then member.val else memberOfSheet p.stripe p.half p.sheet
      let deep := if s.written p then deep else .gaveUp
      ((s.readTimeout (chanOf p.quire) m).tallyC (chanOf p.quire) 9 1).planFailed p m true deep ns)

/-- DIE_SELF_RESUME (R134). -/
def execDieSelfResume (die : Fin 320) (bank : Fin 1024) (s : State) : Res :=
  .next { s with media := { s.media with
    suspended := s.media.suspended.filter (fun k => k != die.val * 1024 + bank.val) } }

/-- Evict the ways of one set that the sweep takes (R213). -/
def State.sweepSet (s : State) (d set : Nat) : State :=
  (List.range 8).foldl (fun s w =>
    match s.path.ways.find? (wayKey d set w) with
    | none => s
    | some x =>
      let y := { x with age := min 7 (x.age + 1) }
      let c := chanOf x.quire
      let s1 : State := { s with path := { s.path with ways := s.path.ways.ins (wayKey d set w) y } }
      let old := y.age ≥ s.rd Reg.CDY_CFG.EVICT_AGE 0 0 || s.path.anyAge.getLsbD c
      if y.dirty && s.rdC Reg.CDY_CHAN_DIRTY.EVICTING c == 1 && old && s.stagedCount d < 61440 then
        ({ s1 with path := { s1.path with found := s1.path.found ||| (1#32 <<< c) } }).evictWay (w, y)
      else s1) s

/-- The channels of a die as a mask over the 32. -/
def dieChans (d : Nat) : BitVec 32 := if d = 0 then 0x0000FFFF#32 else 0xFFFF0000#32

/-- EVICTION_SWEEP (R213). After a pass that found no candidate of an evicting channel, the next takes its dirty ways at any
AGE. -/
def execEvictionSweep (die : Fin 2) (s : State) : Res :=
  .next (
    if !s.inService then s
    else
      let d := die.val
      let s0 := (List.range 16).foldl (fun s l => s.evicting (16 * d + l)) s
      let set := s0.path.sweep.get d
      let s1 := s0.sweepSet d set
      let last := set + 1 ≥ s1.sets d
      let s2 : State := { s1 with path := { s1.path with
        sweep := s1.path.sweep.modify d (fun _ => if last then 0 else set + 1) } }
      if last then
        { s2 with path := { s2.path with
          anyAge := (s2.path.anyAge &&& ~~~ dieChans d) ||| (~~~ s2.path.found &&& dieChans d)
          found := s2.path.found &&& ~~~ dieChans d } }
      else s2)

/-- Evict dirty ways of a die in set order until at most `floor` blocks are dirty in ways (R214, R215). The blocks that go to staging
stay dirty until their stripes complete. -/
def State.evictDown (s : State) (d floor : Nat) : State :=
  (s.path.ways.filter (fun p => p.1 / 134217728 == d && p.2.dirty)).foldl (fun s p =>
    if ((s.dieWays d).filter (fun w => w.dirty)).length > floor && s.stagedCount d < 61440 then
      s.evictWay (p.1 % 8, p.2)
    else s) s

/-- IDLE_EVICTION (R214). -/
def execIdleEviction (die : Fin 2) (s : State) : Res :=
  .next (
    if !s.inService || s.rd Reg.CDY_CFG.IDLE_MS 0 0 == 0 then s
    else
      s.evictDown die (min 100 (s.rd Reg.CDY_CFG.IDLE_FLOOR 0 0) * s.rd Reg.CDY_DIRTY_LIMIT.BLOCKS die 0 / 100))

/-- Poison the lines of a sheet that a merge could not read (R199), with their report. -/
def State.mergeLost (s : State) (q n : Nat) (before after : Block16) : State :=
  let e := s.entry q
  let m := memberOfSheet (entryStripe e) (entryHalf e) n
  let c := chanOf q
  let lost := after.poison &&& ~~~ before.poison
  let s1 := (s.poisonMask q lost false).tally (dieOf c) 344 1
  ((s1.mediaLoss (q * 16 + lowestBit lost) txManage c (some (m, s1.deviceOf c m)))).raiseLog (12 * c + 3) 2 [q * 1024 + n * 256]

/-- PARTIAL_MERGE (R208): the oldest partial line of the die, while more than half of the table is in use. -/
def execPartialMerge (die : Fin 2) (o : SheetOutcome) (s : State) : Res :=
  .next (
    if !s.inService || s.partialUsed die ≤ 16384 then s
    else
      match s.path.partials.find? (fun p => ownerOf p.1 == die.val &&
          (match s.wayOf p.1 with | some w => w.2.blk.isPart p.2 | none => false)) with
      | none => s
      | some (q, k) =>
        match s.wayOf q with
        | none => s
        | some w =>
          let n := k / 4
          let e := s.entry q
          let sheet := match entryState e with
            | 1 | 2 => (s.halfAt q e).sheet n
            | 0 => Sheet.zero
            | _ => Sheet.lost
          let fill := fun (x : Sheet) => w.2.blk.fillLine k (x.line (k % 4)) (x.poison.getLsbD (k % 4)) (x.host.getLsbD (k % 4))
          let s1 := (s.bump Reg.CDY_STAT_MERGE.COUNT die 0 1).tally die 322 1
          let s2 : State := { s1 with path := { s1.path with partials := removeFirst (q, k) s1.path.partials } }
          match o with
          | .good => s2.putWay q w.1 { w.2 with blk := fill sheet }
          | .lost => (s2.putWay q w.1 { w.2 with blk := fill Sheet.lost }).mergeLost q n w.2.blk (fill Sheet.lost)
          | .tagBad => s.halt 2 ⟨chanOf q, memberOfSheet (entryStripe e) (entryHalf e) n,
              frameAddr (entrySegment e) (entryStripe e), 0, 0⟩)

/-- One sheet of a deferred merge (R199). -/
def State.mergeSheet (s : State) (q n : Nat) (b : Block16) (o : SheetOutcome) : State × Block16 :=
  let e := s.entry q
  if (List.range 4).all (fun j => b.isValid (4 * n + j)) then (s, b)
  else
    match entryState e with
    | 0 => (s, b.fillSheet n Sheet.zero)
    | 1 | 2 =>
      match o with
      | .lost => (s.mergeLost q n b (b.loseSheet n), b.loseSheet n)
      | _ => (s, b.fillSheet n ((s.halfAt q e).sheet n))
    | _ => (s, b.loseSheet n)

/-- A deferred merge ends (R199): every line of the staging entry is supplied, and the quire enters a hot stripe. -/
def State.mergeStaged (s : State) (e : Staged) (sheets : List SheetOutcome) : State :=
  let q := e.quire
  let p := (List.range 4).foldl (fun (p : State × Block16) n =>
    p.1.mergeSheet q n p.2 (sheets[n]?.getD .good)) (s, e.blk)
  let s1 := (p.1.bump Reg.CDY_STAT_MERGE.COUNT (ownerOf q) 0 1).tally (ownerOf q) 322 1
  let s2 : State := { s1 with path := { s1.path with
    staged := modifyFirst (fun x => x.id == e.id) (fun x => { x with blk := p.2, merging := false }) s1.path.staged } }
  s2.pumpQuire q

/-- DEFERRED_MERGE (R199): a failed tag leads to Halt. -/
def execDeferredMerge (staged : Nat) (sheets : List SheetOutcome) (s : State) : Res :=
  .next (
    match s.path.staged.find? (fun e => e.id == staged && e.merging) with
    | none => s
    | some e =>
      if s.ctl.mode = .m10 then s
      else if sheets.contains .tagBad then
        let x := s.entry e.quire
        s.halt 2 ⟨chanOf e.quire, 0, frameAddr (entrySegment x) (entryStripe x), 0, 0⟩
      else s.mergeStaged e sheets)

/-- STRIPE_WAIT_EXPIRY (R159): the waiting half goes with a pad. -/
def execStripeWaitExpiry (channel : Fin 32) (stream : Fin 3) (s : State) : Res :=
  .next (
    if s.running then s.flushHalf channel stream else s)

end Sys2Proof.Machine
end

