-- ==== Sys2Proof/Machine/LeafRows.lean ====
section
/-! DEFINITION. The rows of the leaf table (R407), and the transports with their dies and merge inputs (R386, R402). -/

namespace Sys2Proof.Machine

/-! ## The opcode table (R407) -/

/-- The owners of a setting (R403). `head` is the head whose own setting it is; a setting with other owners is checked by its leaf. -/
inductive Owner where
  | any | primaryPm | head | manager
deriving DecidableEq, Repr

/-- The modes of the Class column (R405). -/
inductive LeafModes where
  | any | serve | serveSafe
deriving DecidableEq, Repr

/-- A row of R407: opcode, class W, modes, owners of the setting, Sec, whether a leaf of die 1 is forwarded to die 0, and the
payload lengths it allows: `lo` to `hi` in steps. R21 forwards every leaf that reads or changes a module-wide setting and lists none:
the column is the model's (DESIGN CHOICE, log entry 84). It forwards every leaf but those that only report what is no setting
(IDENTIFY, GET_MEASUREMENTS, GET_CERTIFICATE, HEALTH_REPORT, GET_STATUS, GET_UNIT) and those with an unknown opcode. -/
structure LeafRow where
  opcode : Nat
  write : Bool
  modes : LeafModes
  owner : Owner
  sec : Bool
  wide : Bool
  lo : Nat
  hi : Nat
  stride : Nat
deriving DecidableEq, Repr

/-- R407. -/
def rowIdentify : LeafRow := ⟨0x0000, false, .any, .any, false, false, 0, 0, 1⟩
/-- R407. -/
def rowGetMeasurements : LeafRow := ⟨0x0001, false, .any, .any, false, false, 4, 4, 1⟩
/-- R407. -/
def rowGetCertificate : LeafRow := ⟨0x0002, false, .any, .any, false, false, 8, 8, 1⟩
/-- R407. -/
def rowScanChallenge : LeafRow := ⟨0x0003, true, .any, .primaryPm, false, true, 0, 0, 1⟩
/-- R407. -/
def rowScanUnlock : LeafRow := ⟨0x0004, true, .any, .primaryPm, false, true, 146, 146, 1⟩
/-- R407. -/
def rowHealthReport : LeafRow := ⟨0x0100, false, .any, .any, false, false, 0, 0, 1⟩
/-- R407. -/
def rowGetStatus : LeafRow := ⟨0x0101, false, .any, .any, false, false, 0, 0, 1⟩
/-- R407. -/
def rowGetUnit : LeafRow := ⟨0x0102, false, .any, .any, false, false, 4, 4, 1⟩
/-- R407. -/
def rowSetWallClock : LeafRow := ⟨0x0103, true, .any, .any, false, true, 8, 8, 1⟩
/-- R407. -/
def rowSetEventMask : LeafRow := ⟨0x0104, true, .any, .manager, false, true, 80, 80, 1⟩
/-- R407. -/
def rowSetWindowGrant : LeafRow := ⟨0x0200, true, .serve, .primaryPm, false, true, 8, 8, 1⟩
/-- R407. -/
def rowGetWindowGrant : LeafRow := ⟨0x0201, false, .any, .any, false, true, 0, 0, 1⟩
/-- R407. -/
def rowRegRead : LeafRow := ⟨0x0202, false, .any, .primaryPm, false, true, 8, 8, 1⟩
/-- R407. -/
def rowRegWrite : LeafRow := ⟨0x0203, true, .any, .primaryPm, false, true, 8, 65536, 8⟩
/-- R407. -/
def rowSetLatencyTolerance : LeafRow := ⟨0x0300, true, .any, .head, false, true, 4, 4, 1⟩
/-- R407. -/
def rowGetPower : LeafRow := ⟨0x0301, false, .any, .any, false, true, 0, 0, 1⟩
/-- R407. -/
def rowWarmReset : LeafRow := ⟨0x0302, true, .any, .primaryPm, false, true, 0, 0, 1⟩
/-- R407. -/
def rowPowerRequest : LeafRow := ⟨0x0303, true, .any, .primaryPm, false, true, 4, 4, 1⟩
/-- R407. -/
def rowBulkStart : LeafRow := ⟨0x0400, true, .serve, .any, false, true, 128, 128, 1⟩
/-- R407. -/
def rowBulkStatus : LeafRow := ⟨0x0401, false, .any, .any, false, true, 2, 2, 1⟩
/-- R407. -/
def rowBulkAbort : LeafRow := ⟨0x0402, true, .any, .any, false, true, 2, 2, 1⟩
/-- R407. -/
def rowKeyProvision : LeafRow := ⟨0x0500, true, .any, .any, true, true, 40, 40, 1⟩
/-- R407. -/
def rowKeyDestroy : LeafRow := ⟨0x0501, true, .any, .any, true, true, 2, 2, 1⟩
/-- R407. -/
def rowRangeWrite : LeafRow := ⟨0x0502, true, .any, .head, true, true, 8, 8, 1⟩
/-- R407. -/
def rowKeyStatus : LeafRow := ⟨0x0503, false, .any, .any, false, true, 2, 2, 1⟩
/-- R407. -/
def rowFwTransfer : LeafRow := ⟨0x0600, true, .any, .primaryPm, false, true, 8, 65536, 1⟩
/-- R407. -/
def rowFwActivate : LeafRow := ⟨0x0601, true, .serveSafe, .primaryPm, false, true, 0, 0, 1⟩
/-- R407. -/
def rowFwInfo : LeafRow := ⟨0x0602, false, .any, .any, false, true, 0, 0, 1⟩
/-- R407. -/
def rowSvnCommit : LeafRow := ⟨0x0603, true, .any, .primaryPm, false, true, 0, 0, 1⟩
/-- R407. -/
def rowSelftestRun : LeafRow := ⟨0x0700, true, .any, .primaryPm, false, true, 8, 8, 1⟩
/-- R407. -/
def rowSelftestResult : LeafRow := ⟨0x0701, false, .any, .any, false, true, 2, 2, 1⟩
/-- R407. -/
def rowReamRead : LeafRow := ⟨0x0800, false, .any, .any, false, true, 8, 8, 1⟩
/-- R407. -/
def rowQstRead : LeafRow := ⟨0x0801, false, .any, .any, false, true, 16, 16, 1⟩
/-- R407. -/
def rowQstWrite : LeafRow := ⟨0x0802, true, .any, .any, false, true, 16, 65536, 1⟩
/-- R407. -/
def rowQstPassword : LeafRow := ⟨0x0803, true, .any, .any, false, true, 24, 24, 1⟩
/-- R407. -/
def rowUnitOut : LeafRow := ⟨0x0900, true, .serve, .primaryPm, false, true, 4, 4, 1⟩
/-- R407. -/
def rowUnitReturn : LeafRow := ⟨0x0901, true, .serve, .primaryPm, false, true, 4, 4, 1⟩
/-- R407. -/
def rowLocate : LeafRow := ⟨0x0902, true, .any, .primaryPm, false, true, 4, 4, 1⟩
/-- R407. -/
def rowRemovalRequest : LeafRow := ⟨0x0903, true, .any, .primaryPm, false, true, 0, 0, 1⟩
/-- R407. -/
def rowTallyRead : LeafRow := ⟨0x0A00, false, .any, .any, false, true, 8, 8, 1⟩
/-- R407. -/
def rowTallyConfig : LeafRow := ⟨0x0A01, true, .any, .primaryPm, false, true, 4, 65536, 1⟩
/-- R407. -/
def rowTallySample : LeafRow := ⟨0x0A02, true, .any, .primaryPm, false, true, 8, 8, 1⟩

/-- An opcode outside the table. -/
def rowUnknown (op : Nat) : LeafRow := ⟨op, true, .any, .any, false, false, 0, 65536, 1⟩

/-- An opcode that a request may carry (R407); EVENT_NOTIFY is not one. -/
def leafKnown (op : Nat) : Bool :=
  [0x0000, 0x0001, 0x0002, 0x0003, 0x0004, 0x0100, 0x0101, 0x0102, 0x0103, 0x0104, 0x0200, 0x0201, 0x0202, 0x0203, 0x0300, 0x0301,
   0x0302, 0x0303, 0x0400, 0x0401, 0x0402, 0x0500, 0x0501, 0x0502, 0x0503, 0x0600, 0x0601, 0x0602, 0x0603,
   0x0700, 0x0701, 0x0800, 0x0801, 0x0802, 0x0803, 0x0900, 0x0901, 0x0902, 0x0903, 0x0A00, 0x0A01, 0x0A02].contains op

/-- The row, header and payload of a command that is a leaf. -/
def leafOf : Instr → Option (LeafRow × LeafHdr × List Byte)
  | .leafUnknownOpcode op h p => some (rowUnknown op.toNat, h, p)
  | .identify h p => some (rowIdentify, h, p)
  | .getMeasurements h p => some (rowGetMeasurements, h, p)
  | .getCertificate h p => some (rowGetCertificate, h, p)
  | .scanChallenge h p => some (rowScanChallenge, h, p)
  | .scanUnlock h p _ => some (rowScanUnlock, h, p)
  | .healthReport h p => some (rowHealthReport, h, p)
  | .getStatus h p => some (rowGetStatus, h, p)
  | .getUnit h p => some (rowGetUnit, h, p)
  | .setWallClock h p => some (rowSetWallClock, h, p)
  | .setEventMask h p => some (rowSetEventMask, h, p)
  | .setWindowGrant h p => some (rowSetWindowGrant, h, p)
  | .getWindowGrant h p => some (rowGetWindowGrant, h, p)
  | .regRead h p => some (rowRegRead, h, p)
  | .regWrite h p => some (rowRegWrite, h, p)
  | .setLatencyTolerance h p => some (rowSetLatencyTolerance, h, p)
  | .getPower h p => some (rowGetPower, h, p)
  | .warmReset h p => some (rowWarmReset, h, p)
  | .powerRequestOff h p => some (rowPowerRequest, h, p)
  | .powerRequestOn h p => some (rowPowerRequest, h, p)
  | .zero h p => some (rowBulkStart, h, p)
  | .fill h p => some (rowBulkStart, h, p)
  | .copy h p => some (rowBulkStart, h, p)
  | .check h p => some (rowBulkStart, h, p)
  | .compare h p => some (rowBulkStart, h, p)
  | .eraseKey h p => some (rowBulkStart, h, p)
  | .bulkStatus h p => some (rowBulkStatus, h, p)
  | .bulkAbort h p => some (rowBulkAbort, h, p)
  | .keyProvision h p => some (rowKeyProvision, h, p)
  | .keyDestroy h p => some (rowKeyDestroy, h, p)
  | .rangeWrite h p => some (rowRangeWrite, h, p)
  | .keyStatus h p => some (rowKeyStatus, h, p)
  | .fwTransfer h p _ => some (rowFwTransfer, h, p)
  | .fwActivate h p _ => some (rowFwActivate, h, p)
  | .fwInfo h p => some (rowFwInfo, h, p)
  | .svnCommit h p => some (rowSvnCommit, h, p)
  | .selftestRun h p => some (rowSelftestRun, h, p)
  | .selftestResult h p => some (rowSelftestResult, h, p)
  | .reamRead h p => some (rowReamRead, h, p)
  | .reamRewindToMark h p => some (rowReamRead, h, p)
  | .reamSetMark h p => some (rowReamRead, h, p)
  | .qstRead h p => some (rowQstRead, h, p)
  | .qstWrite h p => some (rowQstWrite, h, p)
  | .qstPassword h p => some (rowQstPassword, h, p)
  | .unitOut h p => some (rowUnitOut, h, p)
  | .unitReturn h p _ => some (rowUnitReturn, h, p)
  | .locate h p => some (rowLocate, h, p)
  | .removalRequest h p => some (rowRemovalRequest, h, p)
  | .tallyRead h p => some (rowTallyRead, h, p)
  | .tallyConfig h p => some (rowTallyConfig, h, p)
  | .tallySample h p => some (rowTallySample, h, p)
  | _ => none

/-! ## Requesters, dies and inputs (R386, R402) -/

/-- The requester behind a transport: head 0, head 1, or 2 for the platform manager (R386). A transport of 8 or more is that of a leaf
whose reply is discarded (R409). -/
def requesterOf (t : Nat) : Nat :=
  match t % 8 with | 0 | 1 | 4 => 0 | 2 | 3 | 5 => 1 | _ => 2

/-- The die and merge input of a transport (R402). -/
def cqInput (t : Nat) : Nat × Nat :=
  match t % 8 with
  | 0 => (0, 0) | 1 => (0, 1) | 4 => (0, 2) | 2 => (1, 0) | 3 => (1, 1) | 5 => (1, 2) | _ => (0, 3)

/-- The die that runs a leaf and the input it came in on there: MG1 forwards a module-wide leaf to input 4 of die 0 (R402). -/
def runsOn (wide : Bool) (t : Nat) : Nat × Nat := if wide && (cqInput t).1 == 1 then (0, 4) else cqInput t

/-- The transport of a leaf whose reply is discarded, where head h sent it (R409). -/
def orphan (h t : Nat) : Nat := if t < 6 ∧ requesterOf t = h then t + 8 else t

/-- Head h has been reset: its leaves run to their end, and their replies are discarded (R409). -/
def State.discardReplies (s : State) (h : Nat) : State :=
  let work := fun (w : QWork) => match w with
    | .activateLeaf t tag n => QWork.activateLeaf (orphan h t) tag n
    | w => w
  { s with
    held := s.held.map (fun x => match leafOf x.1 with
      | some (_, l, _) => (x.1, x.2 && requesterOf l.transport != h)
      | none => x)
    qst := { s.qst with queue := s.qst.queue.map (fun w => { w with transport := orphan h w.transport }) }
    sec := { s.sec with destroys := s.sec.destroys.map (fun d => { d with transport := orphan h d.transport }) }
    ctl := { s.ctl with quiesce := s.ctl.quiesce.map work, quiesceQueue := s.ctl.quiesceQueue.map work } }

end Sys2Proof.Machine
end

