-- ==== Sys2Proof/Machine/Media.lean ====
section
/-! DEFINITION. The commands of the map, the media and the scrubber (R152 to R182, R261 to R270, R280 to R292). -/

namespace Sys2Proof.Machine

/-! ## Programs and steeps -/

/-- Commands to members' dies for a segment report CMD_CRC (R132). -/
def State.cmdCrcs (s : State) (c t : Nat) (ms : List Nat) : State := ms.foldl (fun s m => s.cmdCrc c m t) s

/-- STRIPE_COMPLETE (R160, R150): the programs of the stripe in program in the segment end. A die that reports CMD_CRC has its PROGRAM
issued again (R132); while the channel's engines reset, the status is held (R467, R471). With every program OK the stripe is complete; otherwise its quires are written again. -/
def execStripeComplete (channel : Fin 32) (segment : Fin 65536) (ends : ProgramEnds) (s : State) : Res :=
  .next (
    let c := channel.val
    let t := segment.val
    match s.media.inProgram.find? (fun x => x.channel == c && x.segment == t) with
    | none => s
    | some x =>
      let ps := s.programsOf x
      let again := (ends.crc.map Fin.val).filter (fun m => ps.any (fun p => p.1 == m))
      if !(s.roleWorks (ceOf c) && s.roleWorks (meOf c)) then s
      else if !again.isEmpty then (s.cmdCrcs c t again).issue c
      else
        let status := ps.map (fun p => s.programStatus p.2.1 t x.index (ends.pulses[p.1]?.getD 1) p.2.2)
        let s1 := s.programsEnd x ends.pulses
        if status.all (fun e => e == .ok) then s1.stripeDone x
        else ((s1.bumpC Reg.MED_CHAN.PROG_FAIL c (status.filter (fun e => e == .progFail)).length).rewrite x).issue c)

/-- A whole steep is done (R157, R165, R283): the segment is FREE, and what it held is gone. The member that lagged behind the pool no
longer does in this segment, if its tile was steeped with the others. -/
def State.steeped (s : State) (x : Steep) : State :=
  let c := x.channel
  let t := x.segment
  let s1 := s.onSeg c t (fun g =>
    { g with state := .free, hotBand := 0, due := false, live := 0, filled := 0, stream := 0, epoch := 0, fresh := true })
  let s2 : State := { s1 with
    mapping := { s1.mapping with summaries := s1.mapping.summaries.del (segKey c t) }
    media := { s1.media with
      steeps := removeFirst x s1.media.steeps
      images := s1.media.images.filter (fun p => p.1 / 4096 != segKey c t)
      pulpFreed := if x.pulp then s1.media.pulpFreed.set c true else s1.media.pulpFreed } }
  let s3 := (s2.tally (dieOf c) 340 1).onRepair c (fun r => { r with verified := r.verified.filter (fun k => k / 4096 != segKey c t) })
  let s4 := (List.range 9).foldl (fun s m =>
    if (s.holder c m).any (fun n => x.dies.any (fun p => p.1 == n)) then s.markWhole c t m else s) s3
  ((s4.leaveOld c t).journalC c (.steeped t (s2.seg c t).gen))

/-- A background mailbox command of a head's primary mailbox ends (R98, R120): its completion asserts vector 0 when the
mailbox's background interrupt is enabled. -/
def State.bgDone (s : State) (h rc : Nat) : State :=
  let s1 := s.onHead h (fun hd => { hd with
    background := hd.background.modify 0 (fun b => { b with running := false, percent := 100, rc := rc }) })
  if (s.heads.get h).bgInt.zero then s1.msix h 0 else s1

/-- Segments of a channel that have held data and are not steeped since (R102), by their keys. -/
def State.usedSegs (s : State) (c : Nat) : List Nat :=
  ((s.segsOf c).filter (fun p =>
    match p.2.state with
    | .opened => p.2.filled > 0
    | .closed | .victim | .pending | .dirty | .steeping => true
    | _ => false)).map (fun p => segKey c p.1)

/-- A segment of a running Sanitize is steeped; the last one, once the walk has ended, completes the command (R102). -/
def State.eraseSteeped (s : State) (c t : Nat) : State :=
  match s.ctl.erase with
  | none => s
  | some e =>
    let left := e.segments.filter (· != segKey c t)
    if !e.segments.contains (segKey c t) then s
    else if left.isEmpty && !s.mapping.walks.any (fun w => w.kind == .unmap) then
      ({ s with ctl := { s.ctl with erase := none } }).bgDone e.head 0
    else { s with ctl := { s.ctl with erase := some { e with segments := left } } }

/-- A tile's steep failed on a media die (R128, R150): the tile retires; answers whether its bank had a spare. -/
def State.steepFailed (s : State) (c t n : Nat) : State × Bool :=
  let s1 := s.bumpC Reg.MED_CHAN.STEEP_FAIL c 1
  let hd := s1.media.health.get DieHealth.good n
  let s2 : State := { s1 with media := { s1.media with
    health := s1.media.health.put DieHealth.good n { hd with tiles := s1.minutes :: hd.tiles } } }
  let r := s2.redirect n t
  (r.1.tilesChecked n, r.2)

/-- A steep has ended on every die that it runs on: of a whole segment, or of one member's tile (R283). -/
def State.steepEnds (s : State) (x : Steep) : State :=
  let c := x.channel
  let t := x.segment
  match x.member with
  | none => ((s.steeped x).eraseSteeped c t).issue c
  | some m =>
    let s1 : State := { s with media := { s.media with steeps := removeFirst x s.media.steeps } }
    ((((s1.clearSuspends c t).markWhole c t m).askShort c (partOf t)).repairDone c).issue c

/-- The steep of a segment that runs, with its dies as they now stand. -/
def State.steepAt (s : State) (c t : Nat) : Option Steep := s.media.steeps.find? (fun x => x.channel == c && x.segment == t)

/-- STEEP_DONE (R165, R128, R150): the dies' steeps end, `us` microseconds after issue by member. A die that reports CMD_CRC has its
STEEP issued again; a tile that failed is redirected, and the steep goes on with its spare; without a spare the segment retires. -/
def execSteepDone (channel : Fin 32) (segment : Fin 65536) (ends : SteepEnds) (s : State) : Res :=
  .next (
    let c := channel.val
    let t := segment.val
    match s.steepAt c t with
    | none => s
    | some x =>
      let on := (s.serving c).filter (fun p => x.dies.any (fun y => y.1 == p.2.1))
      let again := (ends.crc.map Fin.val).filter (fun m => on.any (fun p => p.1 == m))
      if !s.roleWorks (ceOf c) then s
      else if !again.isEmpty then (s.cmdCrcs c t again).issue c
      else
        let s1 := on.foldl (fun s p => s.steepDie p.2.1 t (ends.us[p.1]?.getD 1500)) (s.clearSuspends c t)
        let failed := (on.filter (fun p => ends.us[p.1]?.getD 1500 > 2500)).map (fun p => p.2.1)
        if failed.isEmpty then s1.steepEnds x
        else
          let r := failed.foldl (fun (r : State × Bool) n => let u := r.1.steepFailed c t n; (u.1, r.2 && u.2)) (s1, true)
          match r.1.steepAt c t with
          | none => r.1.issue c
          | some y =>
            if r.2 then
              let z : Steep := { y with dies := y.dies.filter (fun p => failed.contains p.1) }
              if z.dies.isEmpty then r.1.steepEnds y
              else { r.1 with media := { r.1.media with steeps := modifyFirst (fun v => v == y) (fun _ => z) r.1.media.steeps } }
            else
              let s2 : State := { r.1 with media := { r.1.media with steeps := removeFirst y r.1.media.steeps } }
              (((s2.retireSeg c t).leaveOld c t).eraseSteeped c t).issue c)

/-- SEGMENT_OPEN_TIMEOUT (R161). -/
def execSegmentOpenTimeout (channel : Fin 32) (segment : Fin 65536) (s : State) : Res :=
  .next (
    if s.running && (s.seg channel segment).state == .opened && (s.seg channel segment).filled > 0 then
      s.closeSeg channel segment
    else s)

/-- The element of a list that a measure puts lowest, the first on a tie. -/
def leastBy {α : Type} (f : α → Int) : List α → Option α
  | [] => none
  | a :: t =>
    match leastBy f t with
    | none => some a
    | some b => if f b < f a then some b else some a

/-- Minutes left to a segment's sizing deadline (R171): below 0 past it. -/
def State.timeLeft (s : State) (c : Nat) (g : Seg) : Int := (sizingLimit g.hotBand : Int) - s.segAge c g

/-- A segment is within 10 % of its sizing limit, or past it (R166, R171). -/
def State.nearLimit (s : State) (c : Nat) (g : Seg) : Bool := s.segAge c g * 10 ≥ sizingLimit g.hotBand * 9

/-- A wear swap is due on a channel (R166). -/
def State.wearSwap (s : State) (c : Nat) : Bool := s.genMax c * 2 > s.genMean c * 3 + 1000

/-- The victim of a pulp pass (R166, R171, R284): a segment within 10 % of its sizing limit, one to rebuild, a wear swap, one
that is due, and below 1,024 FREE segments the greedy choice. -/
def State.victim (s : State) (c : Nat) : Option Nat :=
  let closed := (s.segsOf c).filter (fun p => p.2.state == .closed)
  let old := (s.segsOf c).filter (fun p => s.chanState c == 1 && (p.2.state == .closed || p.2.state == .reserve) &&
    (s.repairOf c).old.contains p.1)
  let pick := fun (f : Nat × Seg → Int) l => (leastBy f l).map (fun p => p.1)
  (pick (fun p => s.timeLeft c p.2) (closed.filter (fun p => s.nearLimit c p.2))).orElse fun _ =>
  (pick (fun p => p.1) old).orElse fun _ =>
  (pick (fun p => p.2.gen) (if s.wearSwap c then closed else [])).orElse fun _ =>
  (pick (fun p => s.timeLeft c p.2) (closed.filter (fun p => p.2.due))).orElse fun _ =>
  pick (fun p => p.2.live * 4294967296 + p.2.epoch) (if s.freeCount c < 1024 then closed else [])

/-- The event of R476 that a pass on a segment counts: a sizing pass, a rebuild, a wear swap or a greedy pass. -/
def State.passEvent (s : State) (c t : Nat) : Nat :=
  let g := s.seg c t
  if g.due || s.nearLimit c g then 337
  else if s.chanState c == 1 && (s.repairOf c).old.contains t then 339
  else if s.wearSwap c then 338 else 336

/-- The live quires of a victim (R167): those of its summary block's halves that the map still places there. A victim without a summary
block is scanned for its reverse maps. -/
def State.victimQuires (s : State) (c t : Nat) : List Nat :=
  match s.mapping.summaries.find? (segKey c t) with
  | none => s.liveQuires c t
  | some x =>
    let at' := fun (f place : Nat) (h : Option (Nat × Bool)) =>
      match h with
      | some (q, _) =>
        let e := s.mapEntry q
        if onMedia e && entrySegment e == t && entryStripe e == f && entryHalf e == place then [q] else []
      | none => []
    (x.entries.zipIdx).flatMap (fun p => at' p.2 0 p.1.2.1 ++ at' p.2 1 p.1.2.2)

/-- A RESERVE segment to be rebuilt has its contents rewritten into another one, and is released (R284). -/
def State.rewriteReserve (s : State) (c t : Nat) : State :=
  match s.media.reserve.find? (fun r => r.channel == c && r.segment == t) with
  | none => s
  | some r => (((s.openReserve c r.use r.round).releaseReserve r).leaveOld c t).issue c

/-- A pulp pass over a victim (R167, R168): its live quires are copied into the cold stream, those with lost sheets as R264 writes
them; a victim without any becomes PENDING at once. `lost` names the sheets that no recovery reads, as (quire, sheet). -/
def State.pulpPass (s : State) (c t : Nat) (lost : List (Nat × Nat)) : State :=
  let s0 := s.tally (dieOf c) (s.passEvent c t) 1
  if (s.seg c t).state = .reserve then s0.rewriteReserve c t
  else
    let s1 := s0.onSeg c t (fun g => { g with state := .victim })
    let s2 := (s1.victimQuires c t).foldl (fun s q =>
      let e := s.mapEntry q
      match (lost.filter (fun p => p.1 == q && p.2 < 4)).map (fun p =>
          (p.2, memberOfSheet (entryStripe e) (entryHalf e) p.2)) with
      | [] => s.relocate 1 q
      | fs => s.relocateLost q txManage fs) s1
    (if (s2.seg c t).live = 0 ∧ (s2.seg c t).state = .victim then s2.toPending c t else s2).issue c

/-- PULP_PASS_START (R166 to R168): the work of SE2 and SE3 (R20), which waits while they reset (R471). -/
def execPulpPassStart (channel : Fin 32) (lost : List (Nat × Nat)) (s : State) : Res :=
  .next (
    if !(s.inService && s.roleWorks (42 + channel / 16)) then s
    else
      match s.victim channel with
      | none => s
      | some t => s.pulpPass channel t lost)

/-- SIZING_DUE (R171). -/
def execSizingDue (channel : Fin 32) (segment : Fin 65536) (s : State) : Res :=
  .next (
    if s.running && s.roleWorks (40 + channel / 16) && (s.seg channel segment).state == .closed then
      s.onSeg channel segment (fun g => { g with due := true })
    else s)

/-- Sixteen probe stripes of a channel (R144): stripes without a quire, through the cold stream. -/
def State.probe (s : State) (c : Nat) : State :=
  if s.chanLost c then s else (List.range 16).foldl (fun s _ => s.assemble c 1 none none false) s

/-- PROBE_STRIPES (R144): in Doze D2 to D4 they wait for the next service wake. -/
def execProbeStripes (channel : Fin 32) (s : State) : Res :=
  .next (
    if !s.inService then s
    else if s.ctl.mode = .m6 ∧ s.reg Reg.MOD_STATUS.DOZE ≥ 2 then
      { s with media := { s.media with probeDue := s.media.probeDue ||| (1#32 <<< channel.val) } }
    else s.probe channel)

/-- The probe stripes that waited for a service wake are written (R144, R432). -/
def State.probesDue (s : State) : State :=
  let due := s.media.probeDue
  ((List.range 32).filter (fun c => due.getLsbD c)).foldl State.probe { s with media := { s.media with probeDue := 0 } }

/-! ## The journal and checkpoints (R172 to R175) -/

/-- JOURNAL_PAGE_FLUSH (R173): the die's open page is issued. -/
def execJournalPageFlush (die : Fin 2) (s : State) : Res :=
  .next (if !s.running || (s.mapping.openPage.get die).isEmpty then s else s.issuePage die)

/-- What a programmed record releases (R168, R174, R281): the steep of a PENDING_STEEP, and the spare of a DIE_ROLE, whose tile a
running steep of a whole segment then takes in (R283). -/
def State.recordDone (s : State) (r : JRec) : State :=
  let c := r.channel
  match r.body with
  | .pendingSteep t gen =>
    let g := s.seg c t
    if (g.state = .pending ∨ g.state = .dirty) ∧ g.nextGen = gen ∧
        ¬ (s.media.ready ++ s.media.steeps).any (fun x => x.channel == c && x.segment == t) then
      let x : Steep := ⟨c, t, none, [], g.state == .pending⟩
      ({ s with media := { s.media with ready := s.media.ready ++ [x] } }).issue c
    else s
  | .dieRole n role m =>
    if role = 0 ∧ s.rdM Reg.MED_DIE.ROLE n = 1 then
      let s1 := (s.wrM Reg.MED_DIE.ROLE n 0).wrM Reg.MED_DIE.MEMBER n m
      let take := fun (x : Steep) =>
        if x.channel = c ∧ x.member = none then { x with dies := x.dies ++ [(n, s1.rdM Reg.MED_DIE.BAND n)] } else x
      let s2 : State := { s1 with media := { s1.media with steeps := s1.media.steeps.map take } }
      (((List.range 16).foldl (fun s p => s.askShort c p) s2).repairDone c).issue c
    else s
  | _ => s

/-- A journal page is on media: event 334 of its die (R476), and its 4 KiB of the journal's reserve (R157). -/
def State.pageProgrammed (s : State) (pg : List JRec) : State :=
  match pg with | [] => s | r :: _ => (s.tally r.die 334 1).reserveAdd r.die 1 4096

/-- JOURNAL_PAGE_PROGRAMMED (R174): the oldest issued page is on media. -/
def execJournalPageProgrammed (s : State) : Res :=
  .next (
    match s.mapping.issued with
    | [] => s
    | pg :: rest =>
      if !s.running then s
      else
        pg.foldl (fun s r => s.recordDone r)
          (({ s with mapping := { s.mapping with issued := rest, ring := s.mapping.ring ++ pg } }).pageProgrammed pg))

/-- Every journal record held or programmed. -/
def State.records (s : State) : List JRec :=
  s.mapping.ring ++ s.mapping.issued.flatten ++ s.mapping.openPage.zero ++ s.mapping.openPage.one

/-- The fence of a channel (R172): the lowest write sequence of a stripe, a ZERO or a poison walk whose map changes are not all applied,
or the next one. -/
def State.fence (s : State) (c : Nat) : Nat :=
  let stripes := ((s.media.queue ++ s.media.inProgram).filter (fun x => x.channel == c)).map (fun x => x.seq)
  let walks := s.mapping.walks.flatMap (fun w => (w.seqs.filter (fun p => p.1 == c)).map (fun p => p.2))
  let held := (s.mapping.held.filter (fun p => chanOf p.1 == c)).map (fun p => p.2.seq)
  minOf (s.seqOf c) (stripes ++ walks ++ held)

/-- Split a list into pieces of six (OPEN_SET, R173). -/
def sixes : Nat → List Nat → List (List Nat)
  | 0, _ => []
  | n + 1, l => if l.length ≤ 6 then [l] else l.take 6 :: sixes n (l.drop 6)

/-- Begin a checkpoint round (R172). -/
def State.ckptBegin (s : State) : State :=
  let num := (s.rd Reg.MAP_CKPT.ROUND 0 0 + 1) % 4294967296
  let area := 1 - s.rd Reg.MAP_CKPT.AREA 0 0
  let rd : Round := ⟨num, area, (List.range 32).map s.fence,
    (List.range 32).flatMap (fun c => (s.openSegs c).map (fun t => (c, t))), s.mapping.ringPos, [], [], [], ⟨[], []⟩, false⟩
  let s1 := (List.range 32).foldl (fun s c =>
    (sixes 3 (s.openSegs c)).foldl (fun s l => s.journalC c (.openSet l))
      (s.journalC c (.ckptBegin num area (s.fence c)))) s
  let s2 := (((s1.wr Reg.MAP_CKPT.ROUND 0 0 num).wr Reg.MAP_CKPT.AREA 0 0 area).wr Reg.MAP_CKPT.PAGES_DONE 0 0 0).wr
    Reg.MAP_CKPT.PAGES_DONE 1 0 0
  { s2 with mapping := { s2.mapping with ckpt := some rd, mapChanged := false } }

/-- CKPT_BEGIN (R172, R430): the next round begins when the previous one has ended and a map change has applied. -/
def execCkptBegin (s : State) : Res :=
  .next (
    if s.inService && s.mapping.ckpt.isNone && s.mapping.mapChanged then s.ckptBegin else s)

/-- The journal sequence that follows the last record on media of each die (R336, R341). -/
def State.journalNext (s : State) : Two Nat :=
  let next := fun (d : Nat) => maxOf ((s.mapping.ring.filter (fun r => r.die == d)).map (fun r => r.jseq + 1))
  ⟨next 0, next 1⟩

/-- Write a root slot of a kind on both dies (R341): 1 final, which the Pour's number names, 2 round, 3 serving. -/
def State.rootSlots (s : State) (kind : Nat) : State :=
  let num := if kind = 1 then s.reg Reg.POUR_STATUS.COUNT else s.rd Reg.MAP_CKPT.ROUND 0 0
  let put := fun (s : State) (d : Nat) =>
    let line := if kind = 2 then [] else (List.range 8).map (fun i => (s.mapping.ctrs.get d).get 0 (ctrKey 7 i))
    let x : RootSlot := ⟨kind, num, s.journalNext.get d, s.ms, line⟩
    let s1 : State := { s with sec := { s.sec with roots := s.sec.roots.modify d (fun l => (x :: l).take 128) } }
    (s1.bump Reg.SEC_VERIFY.ROOT_WRITES d 0 1).pageCommit (4352 + (s.rd Reg.SEC_VERIFY.ROOT_WRITES d 0 + d) % 128)
  put (put s 0) 1

/-- Write a slot of the ring of R175: the RESERVE segments, one of each channel, that hold the latest journal pages and the latest
checkpoint directory, as the newest of each use stand. -/
def State.journalSlot (s : State) : State :=
  let last := fun (use : Nat) => ((s.media.reserve.filter (fun r => r.use == use)).map (fun r => segKey r.channel r.segment)).getLast?
  ({ s with mapping := { s.mapping with headSlot := (last 1, last 0) } }).bump Reg.QST_WRITES.SLOTS 0 0 1

/-- Records of each die from the CKPT_BEGIN of a round on (R174); round 0 stands for none, and all of them. -/
def sinceRound (num : Nat) (l : List JRec) : List JRec :=
  if num = 0 then l
  else [0, 1].flatMap (fun d => (l.filter (fun r => r.die == d)).dropWhile (fun r =>
    match r.body with | .ckptBegin n _ _ => n < num | _ => true))

/-- End a checkpoint round (R172, R174, R175, R270, R341). Its pages are the map as it stands at this moment, and the segment tables'
copy is written with them (log entry 79), and so is the poison index (R268); the area that they fill takes over RESERVE segments of the oldest round (R157, R179). -/
def State.ckptEnd (s : State) (rd : Round) : State :=
  let done := { rd with map := s.mapping.map, unlisted := s.mapping.unlisted, segs := s.mapping.segs, ctrs := s.mapping.ctrs, done := true }
  let s0 := (List.range 2).foldl (fun s d => (s.reserveAdd d 0 25769803776).reserveAdd d 2 16777216) s
  let s1 := (s0.journal 0 255 (.ckptEnd rd.num rd.area)).journal 1 255 (.ckptEnd rd.num rd.area)
  let keep := match s.mapping.rounds with | r :: _ => r.num | [] => 0
  let s2 := ((((s1.wr Reg.MAP_CKPT.PAGES_DONE 0 0 6291456).wr Reg.MAP_CKPT.PAGES_DONE 1 0 6291456).tally 0 335 6291456).tally 1 335 6291456)
  let s3 : State := { s2 with mapping := { s2.mapping with
    ckpt := none, changed := [], savedPoison := s2.mapping.poison, rounds := done :: s2.mapping.rounds.take 1, ring := sinceRound keep s2.mapping.ring } }
  (s3.rootSlots 2).journalSlot

/-- CKPT_END (R172). -/
def execCkptEnd (s : State) : Res :=
  .next (
    match s.mapping.ckpt with
    | none => s
    | some rd => if s.running then s.ckptEnd rd else s)

/-- MAP_PAGE_VERIFY (R340, R343): a clean page, or a clean counter line, that fails is a
tamper; a code failure is served from its duplicate (R269). -/
def execMapPageVerify (die : Fin 2) (page : Nat) (o : VerifyOutcome) (s : State) : Res :=
  .next (
    if !s.running then s
    else
      match o with
      | .good => s.bump Reg.SEC_VERIFY.PAGES die 0 1
      | .tamper => s.halt 6 ⟨0, 0, 0, page, 0⟩
      | .counterLine level index => s.halt 5 ⟨0, 0, 0, index, level⟩
      | .codeFailed => (s.bump Reg.SEC_VERIFY.PAGES die 0 1).bump Reg.PRT_META.MIRROR_USED die 0 1)

/-! ## The scrubber (R261 to R266) -/

/-- The state codes of segments the patrol reads (R261). -/
def SegState.scrubbed : SegState → Bool
  | .opened | .closed | .victim | .reserve => true
  | _ => false

/-- Count one scrubbed frame (R263): a clean one by its corrected bits, a failed one against tile, die and channel. -/
def State.scrubCount (s : State) (c t m : Nat) (f : ScrubFrame) : State :=
  match f with
  | .clean bits => s.frameClean c m t bits
  | .tagBad | .cmdCrc => s
  | .failed _ | .rebuiltTagBad => s.frameFailed c m t

/-- A frame that did not decode. -/
def frameBad : ScrubFrame → Bool
  | .failed _ | .rebuiltTagBad => true
  | _ => false

/-- The frames of a stripe that no step reads: failed and not recovered, or absent, failed, unrebuilt or unverified members'
(R260, R263). -/
def State.unread (s : State) (x : Stripe) (frames : List ScrubFrame) : List Nat :=
  (List.range 9).filter (fun m =>
    !s.readable x.channel x.segment x.index m ||
      (match frames[m]?.getD (.clean 0) with | .failed r => !r | .rebuiltTagBad => true | _ => false))

/-- The sheets that live halves of a stripe have on the given members. -/
def State.sheetsOn (s : State) (x : Stripe) (ms : List Nat) : List (Nat × List (Nat × Nat)) :=
  (x.halves.filter (fun p => s.isLive x p.1 p.2)).map (fun p =>
    (p.2.quire, ((List.range 4).filter (fun n => ms.contains (memberOfSheet x.index p.1 n))).map (fun n =>
      (n, memberOfSheet x.index p.1 n))))

/-- Act on a scrubbed stripe (R263, R264). Where a die reports CMD_CRC, its READ is issued again and the stripe is read later (R132). -/
def State.scrub (s : State) (x : Stripe) (frames : List ScrubFrame) : State :=
  let c := x.channel
  let t := x.segment
  let readable := fun (m : Nat) => s.readable c t x.index m
  let at' := fun (m : Nat) => if readable m then frames[m]?.getD (.clean 0) else .clean 0
  let again := (List.range 9).filter (fun m => at' m == .cmdCrc)
  let live := s.liveOf x
  let liveMembers := (x.halves.filter (fun p => s.isLive x p.1 p.2)).flatMap (fun p =>
    (List.range 4).map (fun n => memberOfSheet x.index p.1 n))
  let failed := (List.range 9).filter (fun m => frameBad (at' m))
  let gone := s.unread x frames
  let tagBad := fun (m : Nat) => liveMembers.contains m &&
    (at' m == .tagBad || (at' m == .rebuiltTagBad && gone.length ≤ 1))
  if !again.isEmpty then s.cmdCrcs c t again
  else
    match (List.range 9).find? tagBad with
    | some m => s.halt 3 ⟨c, m, frameAddr t x.index, 0, 0⟩
    | none =>
      let s1 := ((List.range 9).foldl (fun s m =>
        if readable m then s.scrubCount c t m (at' m) else s) s).tally (dieOf c) 342 1
      let high := (List.range 9).filter (fun m =>
        match at' m with | .clean b => decide (b.val ≥ s.relocBits) && liveMembers.contains m | _ => false)
      let s2 :=
        if failed.isEmpty then
          ((s1.sheetsOn x high).filter (fun p => !p.2.isEmpty)).foldl (fun s p => (s.relocate 1 p.1).tally (dieOf c) 343 1) s1
        else if gone.length ≤ 1 then
          let s2 := (failed.filter liveMembers.contains).foldl (fun s _ => (s.bumpC Reg.PRT_ERR.REBUILT c 1).raise (12 * c + 2)) s1
          live.foldl (fun s q => (s.relocate 1 q).tally (dieOf c) 343 1) s2
        else
          (s1.sheetsOn x gone).foldl (fun s p =>
            if p.2.isEmpty then s.relocate 1 p.1 else s.relocateLost p.1 txScrub p.2) s1
      s2.issue c

/-- The patrol of a channel reaches a segment (R261): one below the cursor begins a new pass, which records the last. -/
def State.patrolAt (s : State) (c t : Nat) : State :=
  let s1 := if t < s.rdC Reg.PRT_SCRUB.CURSOR c then
      let s1 := ((s.bumpC Reg.PRT_SCRUB.PASSES c 1).wrC Reg.PRT_SCRUB.LAST_PASS_S c
        ((s.ms - s.media.passStart[c]?.getD 0) / 1000)).raise (12 * c + 6)
      { s1 with media := { s1.media with passStart := s1.media.passStart.set c s.ms } }
    else s
  s1.wrC Reg.PRT_SCRUB.CURSOR c t

/-- PATROL_SCRUB_STRIPE (R261 to R264): `frames` by member. -/
def execPatrolScrubStripe (channel : Fin 32) (segment : Fin 65536) (stripe : Fin 4096) (frames : List ScrubFrame)
    (s : State) : Res :=
  .next (
    let c := channel.val
    let t := segment.val
    if !s.inService || !s.roleWorks (40 + c / 16) || !(s.seg c t).state.scrubbed || s.chanLost c then s
    else
      match s.media.images.find? (stripeKey c t stripe) with
      | none => s.patrolAt c t
      | some x => (s.patrolAt c t).scrub x frames)

/-- VERIFICATION_SCRUB_STRIPE (R290): a match marks the Returning die's frame verified; otherwise the live quires move. A
segment whose stripes are all handled leaves the scrub. -/
def execVerificationScrubStripe (channel : Fin 32) (segment : Fin 65536) (stripe : Fin 4096) (same : Bool)
    (s : State) : Res :=
  .next (
    let c := channel.val
    let t := segment.val
    if !s.inService || !s.roleWorks (40 + c / 16) || s.chanState c != 3 || !(s.repairOf c).old.contains t then s
    else
      let key := stripeKey c t stripe
      let s1 := if same then s
        else match s.media.images.find? key with
          | none => s
          | some x => (s.liveOf x).foldl (fun s q => s.relocate 1 q) s
      let s2 := s1.onRepair c (fun r => { r with verified := key :: r.verified.filter (· != key) })
      if (s2.stripesOf c t).all (fun x => (s2.repairOf c).verified.contains (stripeKey c t x.index)) then s2.leaveOld c t
      else s2)

/-- SPARE_DIE_CHECK (R280). -/
def execSpareDieCheck (channel : Fin 32) (ok : Bool) (s : State) : Res :=
  .next (
    if !s.running || ok then s
    else match s.spareOf channel with
      | none => s
      | some n => s.dieFailed n 5)

/-! ## Walks (R102, R163) -/

/-- The next quire a walk reaches. -/
def Walk.skip (w : Walk) : Nat → Nat → Nat
  | 0, q => q
  | n + 1, q => if q < w.hi && !w.waits q then w.skip n (q + 1) else q

/-- One step of a walk: the next quire takes its entry. Answers whether the walk has ended; it then leaves the list. -/
def State.walkOne (s : State) (w : Walk) : State × Bool :=
  let q := w.skip (w.early.length + 64) w.next
  let s1 := if q < w.hi then s.walkReaches w q else s
  let next := { w with next := q + 1 }
  let ended := (next.skip (w.early.length + 64) next.next) ≥ w.hi
  ({ s1 with mapping := { s1.mapping with
      walks := if ended then removeFirst w s1.mapping.walks
        else modifyFirst (fun v => v == w) (fun _ => next) s1.mapping.walks } }, ended)

/-- POISON_WALK_STEP (R163). -/
def execPoisonWalkStep (s : State) : Res :=
  .next (
    match s.mapping.walks.find? (fun w => match w.kind with | .poison _ => true | _ => false) with
    | none => s
    | some w => if s.running then (s.walkOne w).1 else s)

/-- A segment that a Sanitize steeps (R102): emptied by the walk, it goes the way of a victim (R168). -/
def State.eraseSeg (s : State) (c t : Nat) : State :=
  let g := s.seg c t
  if g.state = .closed ∨ g.state = .victim then
    let s1 := s.onSeg c t (fun g => { g with state := .victim })
    if g.live = 0 then s1.toPending c t else s1
  else s

/-- The unmapping walk has ended (R102): Secure Erase is complete, and Sanitize steeps every segment that held data. -/
def State.unmapped (s : State) : State :=
  match s.ctl.erase with
  | none => s
  | some e =>
    if e.segments.isEmpty then ({ s with ctl := { s.ctl with erase := none } }).bgDone e.head 0
    else e.segments.foldl (fun s k => s.eraseSeg (k / 65536) (k % 65536)) s

/-- UNMAPPING_WALK_STEP (R102). -/
def execUnmappingWalkStep (s : State) : Res :=
  .next (
    match s.mapping.walks.find? (fun w => w.kind == .unmap) with
    | none => s
    | some w =>
      if !s.running then s
      else
        let p := s.walkOne w
        if p.2 then p.1.unmapped else p.1)

/-! ## Scan Media (R101, R266) -/

/-- The poisoned lines of a quire and those a host write poisoned: from STATE 3, or from the frames of a quire on media. -/
def State.poisonOf (s : State) (q : Nat) : BitVec 16 × BitVec 16 :=
  let e := s.entry q
  match entryState e with
  | 3 => (BitVec.allOnes 16, 0)
  | 2 => ((s.halfAt q e).poison16, (s.halfAt q e).host16)
  | _ => (0, 0)

/-- Rebuild the poison index for a range of quires from the map (R101); lines that the Caddy holds newer are as it holds them. -/
def State.reindex (s : State) (lo hi : Nat) : State :=
  (List.range (hi - lo)).foldl (fun s k =>
    let q := lo + k
    let p := s.poisonOf q
    let blocks := (match s.wayOf q with | some w => [w.2.blk] | none => []) ++ (s.stagedOf q).map (fun e => e.blk)
    (List.range 16).foldl (fun s j =>
      let here := match blocks.find? (fun b => b.isValid j) with
        | some b => (b.isPoison j, (b.lines.get 0 j).getLsbD 0)
        | none => (p.1.getLsbD j, p.2.getLsbD j)
      if here.1 then s.poisonAdd (q * 16 + j) 1 here.2 else s.poisonDel (q * 16 + j) 1) s) s

/-- Ranges cover a span. -/
def covers (rs : List (Nat × Nat)) (lo hi : Nat) : Nat → Bool
  | 0 => decide (hi ≤ lo)
  | n + 1 =>
    if hi ≤ lo then true
    else match rs.find? (fun r => r.1 ≤ lo && lo < r.2) with
      | none => false
      | some r => covers rs r.2 hi n

/-- A scan of a range begins to count towards the clearing of the overflow flag (R101). -/
def PoisonIndex.scanBegin (p : PoisonIndex) (lo hi : Nat) : PoisonIndex :=
  if p.overflow then { p with scanned := (lo, hi) :: p.scanned } else p

/-- The overflow flag clears once the scans since it was set cover the omission span, and nothing in them was omitted again (R101). -/
def PoisonIndex.scanDone (p : PoisonIndex) : PoisonIndex :=
  match p.omitted with
  | none => p
  | some (a, b) =>
    if p.overflow && covers p.scanned a b p.scanned.length then { p with overflow := false, omitted := none, scanned := [] } else p

/-- The runs of the index that touch a range of lines, clipped to it (R101). -/
def PoisonIndex.clip (p : PoisonIndex) (lo hi : Nat) : List Run :=
  (p.runs.filter (fun r => r.first < hi && lo < r.first + r.len)).map (fun r =>
    { r with first := max r.first lo, len := min (r.first + r.len) hi - max r.first lo })

/-- A Scan Media reaches its end (R101, R266, R276). -/
def State.scanEnd (s : State) (sc : Scan) : State :=
  let s0 : State := { s with mapping := { s.mapping with poison := s.mapping.poison.scanBegin (sc.lo * 16) (sc.hi * 16) } }
  let s1 := s0.reindex sc.lo sc.hi
  let p := s1.mapping.poison.scanDone
  let s2 : State := { s1 with mapping := { s1.mapping with
    poison := p
    scan := some { sc with running := false, found := p.clip (sc.lo * 16) (sc.hi * 16) } } }
  ((List.range 32).foldl (fun s c => s.raise (12 * c + 7)) s2).bgDone sc.head 0

/-- SCAN_MEDIA_QUIRE (R266): the next mapped quire of the range is read and its stripe scrubbed. -/
def execScanMediaQuire (frames : List ScrubFrame) (s : State) : Res :=
  .next (
    match s.mapping.scan with
    | none => s
    | some sc =>
      if !sc.running || !s.inService then s
      else
        match List.find? (fun (p : Nat × BitVec 32) => decide (sc.next ≤ p.1) && decide (p.1 < sc.hi) && onMedia (s.entry p.1)) s.mapping.map with
        | none => s.scanEnd sc
        | some (q, _) =>
          let e := s.entry q
          let s1 : State := { s with mapping := { s.mapping with scan := some { sc with next := q + 1 } } }
          match s1.media.images.find? (stripeKey (chanOf q) (entrySegment e) (entryStripe e)) with
          | none => s1
          | some x => if s1.chanLost (chanOf q) then s1 else s1.scrub x frames)

end Sys2Proof.Machine
end

