-- ==== Sys2Proof/Machine/Sensors.lean ====
section
/-! DEFINITION. Temperature sensors and what the registers show of them (R449 to R456, R462), and the registers that a reset restores and
the module derives again at once from what it keeps (R14, R438). -/

namespace Sys2Proof.Machine

/-! ## Sensors, classes and zones (R449) -/

/-- The key of a sensor in `State.sensors`. -/
def sensorKey : SensorId → Nat
  | .zorsa d i => 8 * d.val + i.val
  | .vyen n => 16 + n.val
  | .package n => 400 + n.val
  | .capacitor i => 410 + i.val
  | .board i => 420 + i.val
  | .inlet => 430

/-- The class of a sensor (R449). -/
def sensorClass : SensorId → Nat
  | .zorsa _ _ => 0 | .vyen _ => 1 | .package _ => 2 | .capacitor _ => 3 | .board _ => 4 | .inlet => 5

/-- The keys of the sensors that share a sensor's zone, itself among them. -/
def zoneKeys : SensorId → List Nat
  | .zorsa d _ => (List.range 8).map (fun i => 8 * d.val + i)
  | .vyen n => (List.range 20).map (fun i => 16 + n.val / 20 * 20 + i)
  | .package _ => (List.range 4).map (fun i => 400 + i)
  | .capacitor _ => [410, 411]
  | .board _ => (List.range 4).map (fun i => 420 + i)
  | .inlet => [430]

/-- The unit whose level a sensor's class keeps (R452): the sensors that govern it. -/
def unitKeys : SensorId → List Nat
  | .package n => [400 + n.val]
  | x => zoneKeys x

/-- The die a sensor's registers lie on. -/
def sensorDie : SensorId → Nat
  | .zorsa d _ => d.val | .vyen n => n.val / 160 | .package n => n.val / 2 | _ => 0

/-- A value in a sensor's range (R449). -/
def inRange (cls : Nat) (t : Int) : Bool := decide (-40 ≤ t) && decide (t ≤ if cls = 0 then 150 else 125)

/-- The sensor of a key, none for a number that is no key. -/
def sensorAt (k : Nat) : Option SensorId :=
  if k < 16 then some (.zorsa (Fin.ofNat 2 (k / 8)) (Fin.ofNat 8 k))
  else if k < 336 then some (.vyen (Fin.ofNat 320 (k - 16)))
  else if k < 400 then none
  else if k < 404 then some (.package (Fin.ofNat 4 (k - 400)))
  else if k < 410 then none
  else if k < 412 then some (.capacitor (Fin.ofNat 2 (k - 410)))
  else if k < 420 then none
  else if k < 424 then some (.board (Fin.ofNat 4 (k - 420)))
  else if k = 430 then some .inlet
  else none

/-- A sensor's record. The band edges of a media die's sensor that has given no sample stand as the die's band has them, which every
reset keeps (R137, R151). -/
def State.sensor (s : State) (k : Nat) : Sensor :=
  match s.sensors.find? k with
  | some x => x
  | none =>
    if 16 ≤ k ∧ k < 336 then
      let b := s.rdM Reg.MED_DIE.BAND (k - 16)
      { Sensor.initial with thr := List.replicate 6 ⟨0, 0, false⟩ ++ (List.range 5).map (fun i => ⟨0, 0, decide (i < b)⟩) }
    else Sensor.initial

/-! ## Thresholds (R451, R452, R456) -/

/-- The thresholds of a class, in the order of `Sensor.thr`: warning, throttle, shutdown, the three fan levels from 3 down, and the
band or refresh edges. The inlet has no shutdown: no value in a sensor's range reaches the number that stands for it. -/
def thresholds (cls profile : Nat) : List Int :=
  let base : List Int := match cls with
    | 0 => [95, 100, 110] | 1 => [85, 90, 100] | 2 => [90, 95, 105] | 3 => [70, 75, 85] | 4 => [95, 105, 115] | _ => [45, 50, 1000]
  let thr := base[1]?.getD 0
  let fan := [5, 10, 20].map (fun (x : Int) => thr - (x + 2 * (profile : Int)) - 1)
  base ++ fan ++ (match cls with | 1 => [24, 44, 64, 79, 89] | 2 => [85, 95] | _ => [])

/-- One sample against one threshold (R451): three in a row above cross it, three in a row below T − 3 clear it. -/
def Thr.sample (x : Thr) (t v : Int) : Thr :=
  if v > t then (let n := min (x.up + 1) 3; ⟨n, 0, x.on || n == 3⟩)
  else if v < t - 3 then (let n := min (x.down + 1) 3; ⟨0, n, x.on && n != 3⟩)
  else ⟨0, 0, x.on⟩

/-- Whether threshold k of a sensor stands crossed. -/
def Sensor.over (x : Sensor) (k : Nat) : Bool := match x.thr[k]? with | some t => t.on | none => false

/-- The level of a sensor (R452). -/
def Sensor.level (x : Sensor) : Nat := if x.over 2 then 3 else if x.over 1 then 2 else if x.over 0 then 1 else 0

/-- The highest level among sensors. -/
def State.levelOf (s : State) (ks : List Nat) : Nat := maxOf (ks.map (fun k => (s.sensor k).level))

/-- The hottest value among sensors. -/
def State.hottest (s : State) (ks : List Nat) : Option Int :=
  ks.foldl (fun (m : Option Int) k =>
    match s.sensors.find? k with
    | some x => some (match m with | some v => max v x.value | none => x.value)
    | none => m) none

/-- The working sensors of a zone, other than one. -/
def State.workingBut (s : State) (ks : List Nat) (me : Nat) : List Nat :=
  ks.filter (fun k => k != me && (match s.sensors.find? k with | some x => !x.broken | none => false))

/-- The value that stands in for a broken sensor (R454). -/
def State.substitute (s : State) (x : SensorId) : Int :=
  match s.hottest (s.workingBut (zoneKeys x) (sensorKey x)) with
  | some v => v + 5
  | none => (thresholds (sensorClass x) 0)[1]?.getD 0

/-! ## Registers of a sensor (R151, R462) -/

/-- Show a sensor's value, FAST and BROKEN. -/
def State.showSensor (s : State) (x : SensorId) (k : Sensor) : State :=
  let b := if k.broken then 1 else 0
  let fast := if (thresholds (sensorClass x) (s.rd Reg.THM_CFG.PROFILE 0 0)).any (fun t => (k.value - t).natAbs ≤ 5) then 1 else 0
  let v := signedBits 8 k.value
  let aux := fun (j : Nat) =>
    ((s.wr Reg.THM_AUX.TEMP 0 j v).wr Reg.THM_AUX.FAST 0 j fast).wr Reg.THM_AUX.BROKEN 0 j b
  match x with
  | .zorsa d i => ((s.wr Reg.THM_ZORSA.TEMP d i v).wr Reg.THM_ZORSA.FAST d i fast).wr Reg.THM_ZORSA.BROKEN d i b
  | .vyen n => (s.wrM Reg.MED_DIE.TEMP n v).wrM Reg.MED_DIE.SENSOR_BROKEN n b
  | .package n => ((s.wrP Reg.THM_PKG.TEMP n v).wrP Reg.THM_PKG.FAST n fast).wrP Reg.THM_PKG.BROKEN n b
  | .capacitor i => aux (4 + i.val)
  | .board i => aux i.val
  | .inlet => aux 6

/-! ## Actions (R455, R456, R458) -/

/-- The thermal limit of a stack (R455). -/
def State.thermalLimit (s : State) (k : Nat) : Nat :=
  let own := match s.rd Reg.THM_STACK.LEVEL (k / 8) (k % 8) with | 0 => 128 | 1 => 96 | _ => 32
  if s.dieThrottled (k / 8) then min own 64 else own

/-- Recompute every stack's thermal limit and the limit in force. -/
def State.showThermal (s : State) : State :=
  ((List.range 16).foldl (fun (s : State) k => s.wr Reg.THM_STACK.LIMIT (k / 8) (k % 8) (s.thermalLimit k)) s).showStacks

/-- The units of a class that die d's bit of THM_STATUS covers: its own of classes 0 to 2, the module's of the others. -/
def classKeys (cls d : Nat) : List Nat :=
  match cls with
  | 0 => (List.range 8).map (fun i => 8 * d + i)
  | 1 => (List.range 160).map (fun i => 16 + 160 * d + i)
  | 2 => [400 + 2 * d, 401 + 2 * d]
  | 3 => [410, 411]
  | 4 => [420, 421, 422, 423]
  | _ => [430]

/-- Show a class's bits of THM_STATUS on both dies. -/
def State.showClass (s : State) (cls : Nat) : State :=
  (List.range 2).foldl (fun (s : State) d =>
    let l := s.levelOf (classKeys cls d)
    (s.wrBit Reg.THM_STATUS.WARNING d 0 cls (decide (l ≥ 1))).wrBit Reg.THM_STATUS.THROTTLE d 0 cls (decide (l ≥ 2))) s

/-- The fan-request level that the sensors ask for (R456). -/
def State.fanLevel (s : State) : Nat :=
  let any := fun (k : Nat) => s.sensors.any (fun p => p.2.over k)
  if any 3 || any 1 then 3 else if any 4 then 2 else if any 5 then 1 else 0

/-- The fan-request level (R456), with source 596 on a change. -/
def State.showFan (s : State) : State :=
  let n := s.fanLevel
  if s.reg Reg.THM_STATUS.FAN_LEVEL = n then s else (s.setReg Reg.THM_STATUS.FAN_LEVEL n).raise 596

/-- The LPDDR5X throttle of a die (R241, R455): while either of its packages is at throttle. -/
def State.showDramThrottle (s : State) (d : Nat) : State :=
  let on := s.levelOf [400 + 2 * d, 401 + 2 * d] ≥ 2
  (s.wr Reg.DMC_MODE.THROTTLE d 0 (if on then 1 else 0)).wr Reg.DMC_THROTTLE.CAP d 0 (if on then 1200 else 0)

/-- The registers of a unit whose level is `n` (R462). -/
def State.writeLevel (s : State) (x : SensorId) (n : Nat) : State :=
  match x with
  | .zorsa d _ => s.wr Reg.THM_STATUS.ZORSA_LEVEL d 0 n
  | .vyen m => s.wr Reg.THM_STACK.LEVEL (m.val / 160) (m.val / 20 % 8) n
  | .package m => (s.wrP Reg.THM_PKG.LEVEL m n).showDramThrottle (m.val / 2)
  | .capacitor _ => (s.wr Reg.THM_AUX.LEVEL 0 4 n).wr Reg.THM_AUX.LEVEL 0 5 n
  | .board _ => (List.range 4).foldl (fun (s : State) j => s.wr Reg.THM_AUX.LEVEL 0 j n) s
  | .inlet => s.wr Reg.THM_AUX.LEVEL 0 6 n

/-- The source of a unit's level (R460). -/
def levelSource : SensorId → Nat
  | .zorsa d _ => 584 + d.val | .vyen _ => 593 | .package m => 586 + m.val | .capacitor _ => 590 | .board _ => 591 | .inlet => 592

/-- The hottest value of a stack (R462). -/
def State.showHot (s : State) (k : Nat) : State :=
  s.wr Reg.THM_STACK.HOT (k / 8) (k % 8) (signedBits 8 ((s.hottest (zoneKeys (.vyen (Fin.ofNat 320 (20 * k))))).getD 0))

/-- The code of the refresh rate that a package's sensor asks for (R238). -/
def Sensor.rate (x : Sensor) : Nat := if x.over 7 then 2 else if x.over 6 then 1 else 0

/-! ## Counter rings at a start (R508) -/

/-- The serial of slot i of a ring, none where nothing is written there or the CRC is not good. -/
def State.ringSlot (s : State) (ring i : Nat) : Option Nat :=
  let b := (List.range 16).map (fun k => s.qstByte ((ringOf ring).1 + i / 16) (16 * (i % 16) + k))
  let serial := leNat ((b.drop 8).take 4)
  if serial = 0 then none
  else if leNat (b.drop 12) = crc32c (b.take 12) then some serial else none

/-- The valid slot of a ring with the highest serial, with that serial: one that follows the slot before it, or the only one. -/
def State.ringNewest (s : State) (ring : Nat) : Option (Nat × Nat) :=
  let n := (ringOf ring).2
  let l := (List.range n).filterMap (fun i => (s.ringSlot ring i).map (fun v => (i, v)))
  match l with
  | [x] => some x
  | _ => l.foldl (fun (m : Option (Nat × Nat)) x =>
      if s.ringSlot ring ((x.1 + n - 1) % n) = some (x.2 - 1) then
        (match m with | some y => if y.2 < x.2 then some x else some y | none => some x)
      else m) none

/-- Show the newest slot of each ring (R507, R508, R513). -/
def State.showRings (s : State) : State :=
  (List.range 4).foldl (fun (s : State) r =>
    match s.ringNewest r with
    | some (i, v) => (s.wr Reg.QST_RING.NEWEST 0 r i).wr Reg.QST_RING.SERIAL 0 r v
    | none => s) s

/-! ## What a reset derives again (R14, R438) -/

/-- Sensors: values, levels, classes, fan request, refresh rate and the broken ones, from the samples that the module keeps. -/
def State.deriveSensors (s : State) : State :=
  let s1 := s.sensors.foldl (fun (s : State) p =>
    match sensorAt p.1 with
    | some x =>
      let t := (s.showSensor x p.2).writeLevel x (s.levelOf (unitKeys x))
      (match x with | .package n => t.wrP Reg.DMC_REFRESH.RATE n p.2.rate | _ => t)
    | none => s) s
  let s2 := (List.range 16).foldl (fun (s : State) k =>
    if (zoneKeys (.vyen (Fin.ofNat 320 (20 * k)))).any (fun j => (s.sensors.find? j).isSome) then s.showHot k else s) s1
  let s3 := (List.range 6).foldl (fun (s : State) k => s.showClass k) s2
  let s4 := s3.setReg Reg.THM_STATUS.FAN_LEVEL s3.fanLevel
  (List.range 2).foldl (fun (s : State) d =>
    let broken := (s.sensors.filter (fun p => p.2.broken && (sensorAt p.1).any (fun x => sensorDie x == d))).length
    s.wr Reg.SPR_SPARES.SENSORS_BROKEN d 0 broken) s4

/-- The energy estimate and the budget with their limits (R310, R311), from the voltages held. -/
def State.deriveEnergy (s : State) : State :=
  let e := s.energyMj
  let b := if s.reg Reg.POUR_ENERGY.STRAP_CAP = 1 then min (budgetOf e) (strapCapGib (s.reg Reg.POUR_CFG.STRAP_DEFAULT)) else budgetOf e
  ((((s.setReg Reg.POUR_ENERGY.EST_MJ e).setReg Reg.POUR_ENERGY.BUDGET_GIB b).setReg Reg.POUR_ENERGY.BUS_MV s.pour.bus).setReg
    Reg.LNK_DIRTY_BUDGET.GIB b).showLimits

/-- The flags, and the set point and the drift of the LPDDR5X (R76, R222, R241, R246). -/
def State.deriveFlags (s : State) : State :=
  let wt := if s.ctl.writeThrough then 1 else 0
  let s1 := (s.setReg Reg.LNK_MODE.DEGRADED (if s.ctl.degraded then 1 else 0)).setReg Reg.LNK_MODE.WRITE_THROUGH wt
  let s2 := (List.range 2).foldl (fun (s : State) d =>
    let t := ((s.wr Reg.CDY_STATUS.WRITE_THROUGH d 0 wt).showPackages d).wr Reg.CDY_CAPS.SETS d 0 (s.sets d)
    (t.wr Reg.DMC_FSP.CURRENT d 0 (t.serveSetPoint d)).wr Reg.DMC_TIMING_ACTIVE.SET d 0 (t.serveSetPoint d)) s1
  (List.range 4).foldl (fun (s : State) n =>
    let drift := (s.pkg n).drift
    (s.wrP Reg.DMC_TRAIN.DRIFT_MAX n (maxOf drift)).wrP Reg.DMC_TRAIN.RETRAIN_DUE n
      (((List.range 8).filter (fun ch => drift[ch]?.getD 0 > 20)).map (fun ch => 2 ^ ch)).sum) s2

/-- What registers show of state that a reset keeps is derived again at once (R14, R438; log entry 32). The limits of the stacks follow at
the next start's first issue (R136, `State.showThermal`). -/
def State.rederive (s : State) : State := s.showRings.deriveSensors.deriveFlags.deriveEnergy

end Sys2Proof.Machine
end

