-- ==== Sys2Proof/Machine/Resets.lean ====
section
/-! DEFINITION. Resets and power-down as operations (R14, R110, R111, R413, R414, R418, R426, R433, R438): head reset, warm reset,
the kind of the next start, and standby. -/

namespace Sys2Proof.Machine

/-! ## Bulk operations that pause (R374) -/

/-- Bulk operations pause at the next quire boundary (R374). -/
def State.pauseBulk (s : State) : State :=
  { s with bulk := s.bulk.map (fun b => if b.state = .running then { b with state := .paused } else b) }

/-- Paused bulk operations run again. -/
def State.resumeBulk (s : State) : State :=
  { s with bulk := s.bulk.map (fun b => if b.state = .paused then { b with state := .running } else b) }

/-! ## Latency tolerance and Doze (R426, R427, R433) -/

/-- No tolerance. -/
def noTolerance : Nat := 0xFFFFFFFF

/-- The tolerance of STRAP_LAT_DEFAULT in µs (R425). -/
def strapTolerance (v : Nat) : Nat := match v with | 0 => 2 | 1 => 40 | 2 => 400 | _ => noTolerance

/-- The tolerance in force (R426). -/
def State.tolerance (s : State) : Nat :=
  if s.dual then min (s.rd Reg.MOD_LATENCY.US 0 0) (s.rd Reg.MOD_LATENCY.US 0 1) else s.rd Reg.MOD_LATENCY.US 0 0

/-- The exit latency of a Doze state in µs (R428). -/
def exitLatency (d : Nat) : Nat := match d with | 0 => 0 | 1 => 2 | 2 => 40 | 3 => 400 | _ => 5000

/-- The deepest Doze state at or above `d` that a tolerance allows (R427, R433). -/
def deepest (tol : Nat) : Nat → Nat
  | 0 => 0
  | d + 1 => if exitLatency (d + 1) ≤ tol then d + 1 else deepest tol d

/-- The set point of Serve on both dies (R241, R242). -/
def State.servePoint (s : State) : State :=
  let s1 := s.setPoint 0 (s.serveSetPoint 0)
  s1.setPoint 1 (s1.serveSetPoint 1)

/-- Leave Doze for Serve: the set point of Serve returns and the channels issue what waits. -/
def State.leaveDoze (s : State) : State :=
  let s1 := ((s.showDoze 0).toMode .m5).servePoint
  (List.range 32).foldl (fun s c => s.issue c) s1

/-- Rise from Doze as far as the tolerance in force asks (R433): above D2 at the set point of Serve. -/
def State.clampDoze (s : State) : State :=
  if s.ctl.mode != .m6 then s
  else
    let d := s.reg Reg.MOD_STATUS.DOZE
    let n := deepest s.tolerance d
    if n = d then s
    else match n with
      | 0 => s.leaveDoze
      | 1 => (List.range 32).foldl (fun s c => s.issue c) (s.showDoze 1).servePoint
      | n => s.showDoze n

/-- Show the tolerance in force and act on it. -/
def State.showTolerance (s : State) : State := (s.setReg Reg.MOD_LATENCY_FORCE.US s.tolerance).clampDoze

/-! ## What a head loses with its link (R109) -/

/-- Head h raises its source k (R109). -/
def State.raiseH (s : State) (h k : Nat) : State := s.raise (512 + 12 * h + k)

/-- Set a link IDE stream secure or not (R96, R97): status, source, vector 7 and event record on a change. -/
def State.setIde (s : State) (h : Nat) (mem on : Bool) : State :=
  let f := if mem then Reg.LNK_STATUS.IDE_MEM else Reg.LNK_STATUS.IDE_IO
  let k := if mem then 7 else 6
  if (s.rd f h 0 == 1) = on then s
  else
    (((s.wr f h 0 (if on then 1 else 0)).raiseH h k).event 0 .memoryModule .ideChange [h, k, if on then 1 else 0]).msix h 7

/-- Drop a head's requests in flight and its credits: their responses are not sent (R72, R81, R87, R111). -/
def State.dropRequests (s : State) (h : Nat) : State :=
  let mine := fun (i : Instr) => match i with
    | .memrd x _ _ _ | .memwr x _ _ _ _ _ | .memwrptl x _ _ _ _ _ _ => x.val == h
    | _ => false
  let s1 := s.dropCredits h
  { s1 with path := { s1.path with
      plans := s1.path.plans.map (fun p => { p with readers := p.readers.filter (fun r => r.head != h) })
      staged := s1.path.staged.map (fun e => { e with waiters := e.waiters.filter (fun w => w.head != h) })
      tied := s1.path.tied.filter (fun p => !mine p.1) } }

/-- The link of a head is gone, and nothing beyond it resets (R72, R109, R413): its streams, CXL.mem, Memory_Active and the link itself
end with their sources. -/
def State.linkGone (s : State) (h : Nat) : State :=
  let up := (s.heads.get h).linkUp
  let s1 := (s.setIde h true false).setIde h false false
  let s2 := if s1.rd Reg.LNK_STATUS.CXL_MEM h 0 = 1 then (s1.wr Reg.LNK_STATUS.CXL_MEM h 0 0).raiseH h 4 else s1
  let s3 := (((s2.memActiveAt h false).wr Reg.LNK_STATUS.WIDTH h 0 0).wr Reg.LNK_STATUS.RATE h 0 0).dropRequests h
  let s4 := s3.onHead h (fun hd => { hd with
    linkUp := false, l1 := false, d3hot := false, ideInsecureIo := false, ideInsecureMem := false, doeError := ⟨false, false⟩ })
  if up then s4.raiseH h 1 else s4

/-- Every head's link is gone. -/
def State.linksGone (s : State) : State := (s.linkGone 0).linkGone 1

/-! ## Head reset (R111) -/

/-- Restore a head's configuration, decoders, MSI-X table, mailbox interrupt enables, event interrupt policy and alerts (R438); its logs,
background commands and pending completions stay. -/
def Head.restore (hd : Head) : Head :=
  { hd with d3hot := false, l1 := false, linkUp := false, decoders := List.replicate 4 Decoder.idle, ideKeysIo := 0, ideKeysMem := 0,
            ideContain := false, ideInsecureIo := false, ideInsecureMem := false, doeError := ⟨false, false⟩,
            policy := [0, 0, 0, 0], alerts := [],
            msixMasked := BitVec.allOnes 32, dbInt := ⟨false, false⟩, aggCount := List.replicate 24 0 }

/-- The register copies that a reset of head h restores: the LNK block of its die, that of both dies in single-head mode, where both
PHYs are head 0's (R35), and its tolerance. -/
def headKeys (dual : Bool) (h k : Nat) : Bool :=
  (keyInBlock .LNK k && (keyOnDie h k || (!dual && h == 0))) ||
    (k / 33554432 == Reg.MOD_LATENCY.US.num && k % 1048576 == h) ||
    (k / 33554432 == Reg.MOD_LATENCY.SET.num && k % 1048576 == h)

/-- A head takes the strap's tolerance again (R426). -/
def State.strapHead (s : State) (h : Nat) : State :=
  s.wr Reg.MOD_LATENCY.US 0 h (strapTolerance (s.reg Reg.MOD_STRAPS.LAT_DEFAULT))

/-- A head reset (R111): requests, the replies owed to it, configuration, registers of reset kind H, and the tolerance. A grant falls with the primary
head's (R117). SPDM sessions on the head's DOE end. -/
def State.headReset (s : State) (h : Nat) : State :=
  let s1 := (((s.dropRequests h).discardReplies h).onHead h Head.restore).resetRegs .head (headKeys s.dual h)
  let s2 : State := { s1 with sec := { s1.sec with sessions := s1.sec.sessions.filter (fun x => x.transport != h) } }
  (s2.strapHead h).showTolerance

/-! ## Power-down and the next start (R413, R414, R416, R418) -/

/-- Rails that are switched off read STATE 0 (R442, R461). -/
def State.railsOff (s : State) (l : List Nat) : State := l.foldl (fun (s : State) r => s.wr Reg.PWR_RAIL.STATE 0 r 0) s

/-- The rails that stay up while the LPDDR5X is retained (R442): its own, and the bus and the bank that feed them. -/
def dramRails : List Nat := [2, 3, 8, 9, 10, 11]

/-- The PHYs go off at step 3 of a Pour (R313): every head loses its link. -/
def State.physOff (s : State) : State := s.linksGone

/-- The cores are off, and the links and the caches on the dies with them (R113, R314 step 8, R415 step 4): what lay in the channels is
gone, what was in program stays as it is on the media (R150), and a transfer of an image begins anew (R120). The quire store goes on with
the page writes it has been given, as it runs in the always-on domain (R38), but no reply is formed. -/
def State.coresOff (s : State) : State :=
  let s1 := ((s.railsOff [4, 5, 6, 7, 12, 13, 14, 15]).dropTriggers).linksGone.dropPrograms
  { s1 with
    media := { s1.media with waiting := [], queue := [], steeps := [], ready := [], suspended := [], suspends := [] }
    path := { s1.path with plans := [], tagCache := ⟨[], []⟩, tied := none }
    mapping := { s1.mapping with cache := ⟨[], []⟩ }
    held := []
    presented := []
    qst := { s1.qst with queue := s1.qst.queue.map (fun w => { w with transport := w.transport % 8 + 16 }) }
    sec := { s1.sec with transfer := none }
    ctl := { s1.ctl with quiesce := none, quiesceQueue := [], resetHold := false } }

/-- The kind of the next start: 2 warm, 1 cold (R414, R422). -/
def State.kind (s : State) : Nat :=
  if s.ctl.retained && s.ctl.auxKept && s.reg Reg.MOD_LADDER.WARM_FAILS < 3 && !s.sec.haltMarker && !s.sec.scanMarker then 2 else 1

/-- Enter M2 with a start due (R413, R414). -/
def State.beginStart (s : State) : State :=
  let k := s.kind
  let s1 := s.toMode .m2
  { s1 with ctl := { s1.ctl with due := k } }

/-- Enter M2 with a cold start due. -/
def State.beginCold (s : State) : State :=
  let s1 := s.toMode .m2
  { s1 with ctl := { s1.ctl with due := 1, retained := false } }

/-- The always-on domain loses its power: a page write that runs on a plane leaves an uncommitted copy and the page as it was, and the
writes behind it are lost (R505, R511). QST_TORN counts the copies that the next start finds. -/
def State.storeOff (s : State) : State :=
  let torn := ((List.range 4).filter (fun k => s.qst.queue.any (fun w => w.page % 4 == k))).length
  ({ s with qst := { s.qst with queue := [] } }).bump Reg.QST_TORN.PAGES 0 0 torn

/-- Power the cores down into M1, or M0 where no auxiliary power keeps the always-on domain up or one of its rails has faulted
(R445); a held on request acts in M1
(R413, R416). -/
def State.toStandby (s : State) : State :=
  let s0 := if s.ctl.retained then s.coresOff else s.coresOff.railsOff dramRails
  let stays := s.ctl.aux && !s.ctl.afterPourOff
  let s1 := (if stays then s0 else s0.storeOff).toMode (if stays then .m1 else .m0)
  let s2 := ({ s1 with ctl := { s1.ctl with auxKept := s1.ctl.aux, due := 0, afterPourOff := false } })
  if s2.ctl.mode = .m1 ∧ s.reg Reg.MOD_REQUEST.ON_PENDING = 1 then
    let s3 := s2.setReg Reg.MOD_REQUEST.ON_PENDING 0
    if s3.ctl.p12 ∧ s3.reg Reg.PIN_LEVEL.PWRDIS = 0 then (s3.setReg Reg.MOD_REQUEST.OFF_STANDING 0).beginStart else s3
  else s2

/-- A PERST# line of the module is asserted: PERST# alone in single-head mode (R35). -/
def State.lineAsserted (s : State) : Bool :=
  s.reg Reg.PIN_LEVEL.PERST == 1 || (s.dual && s.reg Reg.PIN_LEVEL.PERST1 == 1)

/-- What a warm reset restores (R438): every field of reset kind W, the configuration of both heads with the strap's tolerances, and
the platform manager's event mask; what those fields show of kept state is derived again. SPDM sessions end. -/
def State.restoreWarm (s : State) : State :=
  let s1 := s.resetRegs .warm (fun _ => true)
  let s2 := (s1.onHead 0 Head.restore).onHead 1 Head.restore
  let s3 : State := { s2 with
    pm := { s2.pm with mask := 0 }, sec := { s2.sec with sessions := [] }, ctl := { s2.ctl with lowering := false } }
  let s4 := (s3.strapHead 0).strapHead 1
  ((s4.setReg Reg.MOD_LATENCY_FORCE.US s4.tolerance).setReg Reg.PWR_STATUS.LOAD_LIMITED 0).rederive

/-- A warm reset (R413, R418): credits stop, the links go down, bulk operations pause, the LPDDR5X enters self-refresh, and the start it
leads to is warm, or of the kind of the start it interrupts. Programs and steeps go on. Asked for by a PERST# line, it holds the module
while a line stays asserted. It is ignored while a removal is in progress (R540). -/
def State.warmReset (s : State) (byLine : Bool) : State :=
  if s.reg Reg.PIN_REMOVAL.STATE ≥ 2 then s
  else
    let early := s.ctl.mode == .m2 || s.ctl.mode == .m3 || s.ctl.mode == .m4
    let s1 := s.stopRun.pauseBulk.linksGone.dropTriggers
    let s3 := s1.restoreWarm.toMode .m2
    let s4 := s3.selfRefresh true
    { s4 with
      ctl := { s4.ctl with
        resetHold := byLine && s.lineAsserted, retained := s.ctl.retained || !early, auxKept := s.ctl.aux,
        due := if early then s.ctl.due else if s.sec.scanMarker then 1 else 2, quiesce := none, idlePeriods := [] }
      pour := { s4.pour with warmAfter := false }
      path := { s4.path with plans := [], tied := none }
      held := [], presented := [] }

/-- A warm reset asked for by a PERST# line or a leaf (R413, R120, R436): at once in M2 to M6, at the end of a Quiesce or of a GPF
Pour, and in no other mode. -/
def State.askWarm (s : State) (byLine : Bool) : State :=
  match s.ctl.mode with
  | .m2 | .m3 | .m4 | .m5 | .m6 => s.warmReset byLine
  | .m7 => { s with pour := { s.pour with warmAfter := true } }
  | .m8 => if s.reg Reg.POUR_STATUS.CAUSE = 3 then { s with pour := { s.pour with warmAfter := true } } else s
  | _ => s

/-- P12V_IN is gone: in M1 retention ends; Halt and the other modes without a Pour fall to M1, or to M0 without auxiliary power
(R413). -/
def State.inputGone (s : State) : State :=
  let s1 : State := { s.railsOff (if s.ctl.mode = .m1 then dramRails else []) with
    ctl := { s.ctl with p12 := false, retained := false } }
  match s.ctl.mode with
  | .m0 => s1
  | .m10 => s1.toStandby
  | _ => if s.ctl.aux then s1 else s1.toStandby

end Sys2Proof.Machine
end

