-- ==== Sys2Proof/Machine/Pour.lean ====
section
/-! DEFINITION. The Pour and the hold-up bank (R307 to R328): what starts a Pour, its steps, its record, the end of its energy,
the hold, GPF, and the measurement and isolation of sub-banks. -/

namespace Sys2Proof.Machine

/-! ## The record (R318) -/

/-- The bytes of a Pour record (R318). -/
def PourRec.bytes (r : PourRec) : List (BitVec 8) :=
  let b := leBytes 2 1 ++ leBytes 1 r.state ++ leBytes 1 r.cause ++ leBytes 4 r.num ++ leBytes 6 r.ms ++ leBytes 2 0 ++
    leBytes 4 r.cycles ++ leBytes 4 r.dirty ++ leBytes 4 r.energy ++ leBytes 4 r.energyEnd ++ leBytes 4 r.durationUs ++
    leBytes 4 r.quires ++ leBytes 8 r.lists.zero ++ leBytes 8 r.lists.one ++ List.replicate 196 0
  b ++ leBytes 4 (crc32c b)

/-- Write the Pour record to its page and show it. -/
def State.writeRecord (s : State) (r : PourRec) : State :=
  let s1 := s.pageWrite (4544 + r.num % 16) 0 r.bytes
  let s2 : State := { s1 with pour := { s1.pour with record := some r } }
  (s2.setReg Reg.POUR_STATUS.LAST_STATE r.state).setReg Reg.POUR_LAST.DIRTY_BLOCKS r.dirty

/-- Show the newest record's end. -/
def State.showLast (s : State) (r : PourRec) : State :=
  ((s.setReg Reg.POUR_LAST.DURATION_US r.durationUs).setReg Reg.POUR_LAST.END_MJ r.energyEnd).setReg
    Reg.POUR_LAST.QUIRES r.quires

/-! ## The dirty set (R314 to R317) -/

/-- The quires with a dirty block or a staging entry. -/
def State.dirtyQuires (s : State) : List Nat :=
  ((s.path.ways.filter (fun p => p.2.dirty)).map (fun p => p.2.quire) ++ s.path.staged.map (fun e => e.quire)).dedup

/-- Put a newer block over an older one: its lines, and its partial bytes over the older line's. -/
def Block16.onto (y x : Block16) : Block16 :=
  (List.range 16).foldl (fun (b : Block16) k =>
    if b.isValid k then b
    else if x.isValid k then b.fillLine k (x.lines.get 0 k) (x.isPoison k) ((x.lines.get 0 k).getLsbD 0)
    else if x.isPart k then
      (x.lines.get 0 k, x.masks.get 0 k) |> fun old =>
        { b with
          part := bit16 b.part k true
          lines := b.lines.put 0 k (mergeLine old.1 (b.lines.get 0 k) (b.masks.get 0 k))
          masks := b.masks.put 0 k (old.2 ||| b.masks.get 0 k) }
    else b) y

/-- The newest copy that the Caddy holds of a quire: its way, over its staging entries (R204, R316). -/
def State.newest (s : State) (q : Nat) : Block16 :=
  let blocks := (match s.wayOf q with | some p => [p.2.blk] | none => []) ++ (s.stagedOf q).map (fun e => e.blk)
  blocks.foldl (fun b x => b.onto x) Block16.empty

/-- The line mask of a quire's entry (R317): lines VALID or PARTIAL in its dirty way or staging entries. -/
def State.lineMask (s : State) (q : Nat) : BitVec 16 :=
  let way := match s.wayOf q with | some p => if p.2.dirty then p.2.blk.valid ||| p.2.blk.part else 0 | none => 0
  (s.stagedOf q).foldl (fun m e => m ||| e.blk.valid ||| e.blk.part) way

/-- The dirty lists (R317), one for each channel that has entries. -/
def State.dirtyLists (s : State) : List DirtyList :=
  let qs := s.dirtyQuires
  ((List.range 32).map (fun c =>
    (⟨c, (qs.filter (fun q => chanOf q == c)).map (fun q => (indexOf q, s.lineMask q))⟩ : DirtyList))).filter
    (fun l => !l.entries.isEmpty)

/-- The bytes of an entry of a dirty list (R317). -/
def listEntry (e : Nat × BitVec 16) : List (BitVec 8) := leBytes 4 (e.1 % 536870912) ++ leBytes 2 e.2.toNat ++ leBytes 2 0

/-- The bytes of a channel's dirty list (R317). -/
def DirtyList.bytes (l : DirtyList) (num : Nat) : List (BitVec 8) :=
  let head := leBytes 4 num ++ leBytes 1 l.channel ++ leBytes 3 0 ++ leBytes 4 l.entries.length ++ List.replicate 48 0
  let body := l.entries.flatMap listEntry
  head ++ leBytes 4 (crc32c (head ++ body)) ++ body

/-- Step 4: the dirty lists go into their dies' journal rings, one behind the other (R314, R317; log entry 80). -/
def State.placeLists (s : State) (ls : List DirtyList) : State :=
  ls.foldl (fun s l => s.ringTake (dieOf l.channel) (64 + 8 * l.entries.length)) s

/-- Replace what the Caddy holds of a quire by a whole block: in its way, or in its staging entries. -/
def State.setNewest (s : State) (q : Nat) (b : Block16) : State :=
  match s.wayOf q with
  | some p => s.putWay q p.1 { p.2 with blk := b }
  | none => { s with path := { s.path with staged := s.path.staged.map (fun (e : Staged) =>
      if e.quire == q then { e with blk := b, merging := false } else e) } }

/-- Complete a dirty quire for the Pour by the deferred merge of R199 (R316); the Pour reads its block through port P7. -/
def State.completeQuire (s : State) (lost : List (Nat × Fin 4)) (q : Nat) : State :=
  let s := match s.wayOf q with | some w => s.blockAccess q w.1 7 0 16 false | none => s
  let p := (List.range 4).foldl (fun (p : State × Block16) n =>
    p.1.mergeSheet q n p.2 (if lost.any (fun x => x.1 == q && x.2.val == n) then .lost else .good)) (s, s.newest q)
  p.1.setNewest q p.2

/-- A dirty quire that needs media: its newest copy is not whole and its entry is on media. -/
def State.needsMedia (s : State) (q : Nat) : Bool :=
  onMedia (s.entry q) && (s.newest q).valid != BitVec.allOnes 16

/-! ## Steps 1 to 4 (R314) -/

/-- The opcode of each Pour cause (R318). -/
inductive PourCause where
  | loss | pwrdis | gpf | removal | trip
deriving DecidableEq, Repr

/-- The CAUSE of a Pour (R318). -/
def PourCause.code : PourCause → Nat
  | .loss => 1 | .pwrdis => 2 | .gpf => 3 | .removal => 4 | .trip => 5

/-- Step 3: every held journal page is programmed (R174). -/
def State.programJournal (s : State) : State :=
  let s0 := s.issueOpen
  let recs := s0.mapping.issued.flatten
  let s1 := s0.mapping.issued.foldl (fun s pg => s.pageProgrammed pg) s0
  recs.foldl (fun s r => s.recordDone r) { s1 with mapping := { s1.mapping with issued := [], ring := s1.mapping.ring ++ recs } }

/-- Step 2: what stops when a Pour starts. Steeps are aborted and suspended programs go on, the OPEN segments are shut, measurements
discarded (R309), and reads admitted and not answered dropped. -/
def State.pourStop (s : State) : State :=
  let s1 := (List.range 32).foldl (fun s c => s.shutAll c) s.stopRun.abortSteeps
  let s2 := (List.range 8).foldl (fun (s : State) i => s.wr Reg.POUR_SUBBANK.MEASURING 0 i 0) s1
  { s2 with
    path := { s2.path with plans := [] }
    media := { s2.media with suspended := [], suspends := [] } }

/-- The Pour has ended. -/
def State.pourOver (s : State) : State :=
  let s1 := (List.range 4).foldl (fun s n => s.payDebt n) s
  let s2 := ((s1.wr Reg.DMC_MODE.POUR_EXCL 0 0 0).wr Reg.DMC_MODE.POUR_EXCL 1 0 0).setReg Reg.POUR_STATUS.STEP 0
  ({ s2 with pour := { s2.pour with running := false, lists := [], poured := [] }, pourFaults := [] }).setReg
    Reg.POUR_STATUS.CAUSE 0

/-- Start a Pour: steps 1 to 4 of R314, out of Doze (R313) at the set point of Serve (R241). The dirty set is frozen and each of its quires completed from media; a failed tag in a
merge leads to Halt with the record at STATE 1 (R326). -/
def State.pourBegin (s : State) (cause : PourCause) (inputs : PourInputs) : State :=
  let num := s.reg Reg.POUR_STATUS.COUNT + 1
  let pulled := s.reg Reg.PIN_REMOVAL.STATE != 0 && s.reg Reg.PIN_REMOVAL.STATE != 4 && cause == .loss
  let s0 := if pulled then s.bump Reg.PIN_COUNT.EARLY_PULLS 0 0 1 else s
  let s0 := (s0.drainHosts 0).drainHosts 1
  let s1 := (((s0.pourStop.pauseBulk).toMode .m8).showStacks.wr Reg.DMC_MODE.POUR_EXCL 0 0 1).wr Reg.DMC_MODE.POUR_EXCL 1 0 1
  let s2 := if s.ctl.mode = .m6 then (s1.showDoze 0).servePoint else s1.showDoze 0
  let qs := s2.dirtyQuires
  let s3 := (((s2.setReg Reg.POUR_STATUS.COUNT num).setReg Reg.POUR_STATUS.CAUSE cause.code).setReg
    Reg.POUR_STATUS.STEP 5).programJournal
  let at' := fun (d : Nat) => s3.mapping.ringPos.get d % ringBytes
  let r : PourRec := ⟨1, cause.code, num, s.ms, s.reg Reg.LNK_POWER_CYCLES.COUNT, qs.length,
    s.reg Reg.POUR_ENERGY.EST_MJ, 0, 0, 0, ⟨at' 0, at' 1⟩⟩
  let s4 := (s3.writeRecord r).placeLists s3.dirtyLists
  let s5 : State := { s4 with
    pour := { s4.pour with running := true, lists := s4.dirtyLists, poured := [], hold := false }, pourFaults := [] }
  let linked := match cause with | .gpf | .removal => true | _ => false
  let s6 := (if linked then s5 else s5.physOff).raise 552
  match (if inputs.tagBad then qs.find? (fun q => s6.needsMedia q) else none) with
  | some q =>
    let e := s6.entry q
    (s6.halt 2 ⟨chanOf q, 0, frameAddr (entrySegment e) (entryStripe e), 0, 0⟩).pourOver
  | none => qs.foldl (fun s q => s.completeQuire inputs.lost q) s6

/-! ## Steps 5 to 8 (R315, R319, R320, R323, R324) -/

/-- Write one stripe of a stream and apply it at once (R160, R315). -/
def State.pourStripe (s : State) (c stream : Nat) (h0 h1 : Option Half) : State :=
  let s1 := s.topUp c stream
  match s1.ring c stream with
  | [] => s
  | t :: _ =>
    let x : Stripe := ⟨c, stream, 0, 0, s1.seqOf c, false, none, [], h0, h1⟩
    let s2 := (s1.takeSeq c).program x t
    match s2.media.inProgram.getLast? with
    | some y => s2.stripeDone y
    | none => s2

/-- The half of a quire that the Pour or a clean shutdown writes: it replaces whatever the map names. -/
def State.pourHalf (s : State) (q : Nat) : Half := (s.newest q).half q (.copy (s.entry q))

/-- Write halves of one channel two to a stripe. -/
def State.pourHalves (s : State) (c stream : Nat) : List Nat → State
  | [] => s
  | [q] => s.pourStripe c stream (some (s.pourHalf q)) none
  | p :: q :: t => (s.pourStripe c stream (some (s.pourHalf p)) (some (s.pourHalf q))).pourHalves c stream t

/-- Write quires into stripes of a stream, channel by channel. A walk reaches them first (R163, R349). -/
def State.writeQuires (s : State) (stream : Nat) (qs : List Nat) : State :=
  let s1 := (List.range 32).foldl (fun s c =>
    (qs.filter (fun q => chanOf q == c)).foldl (fun s q => s.reachEarly q) s) s
  (List.range 32).foldl (fun s c => s.pourHalves c stream (qs.filter (fun q =>
    chanOf q == c && (s1.newest q).valid == BitVec.allOnes 16))) s1

/-- The listed quires that the Pour can still write, in the order of its lists: those that the Caddy still holds, on channels
that an engine serves (R472) and whose die runs (R445). -/
def State.toPour (s : State) : List Nat :=
  s.pour.lists.flatMap (fun l =>
    if s.pourStopped.contains l.channel || !(s.pour.listsReadable.get (dieOf l.channel)) then []
    else (l.entries.map (fun e => quireAt l.channel e.1)).filter (fun q =>
      (s.newest q).valid == BitVec.allOnes 16 && !(s.chanLost (chanOf q))))

/-- Step 5: write the first n quires of the lists into Pour stripes. -/
def State.pourWrite (s : State) (n : Nat) : State :=
  let qs := s.toPour.take n
  let s1 := s.writeQuires 2 qs
  { s1 with pour := { s1.pour with poured := qs } }

/-- Step 6: close every OPEN segment, write the summary blocks left for it, program what is left of the journal and of the Ream's log
(R496), and write the poison index (R268). -/
def State.pourClose (s : State) : State :=
  let s1 := ((List.range 32).foldl (fun s c => (s.shutAll c).sumAll c) s).programJournal.programLog
  { s1 with mapping := { s1.mapping with savedPoison := s1.mapping.poison } }

/-- A written quire stays in its way, now clean; its staging entries are freed, with the completions that they owe (R216, R324). -/
def State.cleaned (s : State) (qs : List Nat) : State :=
  let s1 : State := { s with path := { s.path with
    ways := s.path.ways.map (fun p => if qs.contains p.2.quire then (p.1, { p.2 with dirty := false }) else p) } }
  ((s.path.staged.filter (fun e => qs.contains e.quire)).map (fun e => e.id)).foldl State.freeStaged s1

/-- Every listed quire has been poured. -/
def State.pouredAll (s : State) : Bool :=
  s.pour.lists.all (fun l => l.entries.all (fun e =>
    let q := quireAt l.channel e.1
    s.pour.poured.contains q || (s.stagedOf q).isEmpty && (s.wayOf q).isNone))

/-- The energy and time that a Pour used enter its record. -/
def State.endRecord (s : State) (state energyEnd us : Nat) : State :=
  match s.pour.record with
  | none => s
  | some r =>
    let t := { r with state := state, energyEnd := energyEnd, durationUs := us, quires := s.pour.poured.length }
    (s.writeRecord t).showLast t

/-- A channel whose Pour reserve is short (R323, R327). -/
def State.checkReserve (s : State) : State :=
  let short := (List.range 32).any (fun c => s.freeCount c < 64 && !(s.chanLost c))
  if (s.reg Reg.POUR_STATUS.RESERVE_SHORT == 1) = short then s
  else
    let s1 := s.setReg Reg.POUR_STATUS.RESERVE_SHORT (if short then 1 else 0)
    if short then s1.raise 559 else s1

/-- The end of a Pour that powers down (R320, R413, R416, R445, R459): M11 where Trip is latched, M0 for an always-on rail, a warm
start where the input is back, the hold after a 12 V loss, and else M1. -/
def State.pourDown (s : State) (cause : Nat) : State :=
  let back := s.ctl.p12 && cause == 1
  if s.reg Reg.THM_STATUS.TRIP = 1 then
    if s.ctl.p12 || s.ctl.aux then
      let s1 := s.coresOff.toMode .m11
      { s1 with ctl := { s1.ctl with retained := false } }
    else s.toStandby
  else if s.ctl.afterPourOff then ({ s with ctl := { s.ctl with retained := false } }).toStandby
  else if back then
    ({ s.coresOff with ctl := { s.coresOff.ctl with retained := true, auxKept := s.ctl.aux } }).beginStart
  else if cause = 1 then
    let s2 := (s.selfRefresh true).coresOff
    { s2 with pour := { s2.pour with hold := true } }
  else
    let s2 := ({ s with ctl := { s.ctl with retained := false } }).toStandby
    if cause = 4 then
      (((s2.setReg Reg.PIN_REMOVAL.STATE 4).bump Reg.PIN_COUNT.REMOVALS 0 0 1).event 0 .memoryModule .safeToRemove []).raise 628
    else s2

/-- Step 7: the phase 2 of each head that asked completes where its link is still trained (R324, R326). -/
def State.gpfComplete (s : State) : State :=
  let t := s.pour.gpf.foldl (fun (s : State) h => if (s.heads.get h).linkUp then s.send (.gpfDone h) else s) s
  { t with pour := { t.pour with gpf := [] } }

/-- Steep one more segment of a channel whose Pour reserve is short (R323), without what STEEP_DONE would say of a failing tile (log
entry 16). -/
def State.restoreOne (s : State) (c : Nat) : State :=
  if s.freeCount c ≥ 64 then s
  else
    match s.nextSteep c with
    | none => s
    | some x =>
      let s1 := s.startSteep x
      match s1.media.steeps.getLast? with
      | some y => (s1.clearSuspends c y.segment).steepEnds y
      | none => s1

/-- Restore the Pour reserve before the first credit after a Pour (R323): segments are steeped until every channel that is not lost
has 64 FREE. -/
def State.restoreReserve (s : State) : State :=
  (List.range 32).foldl (fun s c =>
    if s.chanLost c then s else (List.range (64 - s.freeCount c)).foldl (fun s _ => s.restoreOne c) s) s.programJournal

/-- A GPF Pour returns to Serve (R323, R324): what the Pour cut off is asked for again (R165), the reserve restored, the stacks' limits
put back, and the frontier goes on. -/
def State.gpfReturn (s : State) : State :=
  let s1 := ((s.gpfComplete.askSteeps.askAllShort).restoreReserve).checkReserve
  let s2 := (s1.toMode .m5).showStacks
  let s3 := (s2.path.staged.map (fun e => e.quire)).dedup.foldl (fun s q => s.pumpQuire q) s2
  let s4 := (List.range 32).foldl (fun s c => (s.keepOpen c).issue c) s3
  if s.pour.warmAfter then s4.warmReset true else s4

/-- The programs that ran when the Pour's last stripe was written have completed (R314, R319; log entry 16). -/
def State.programsOver (s : State) : State := s.media.inProgram.foldl (fun s x => s.stripeDone x) s

/-- POUR_COMPLETE (R314 steps 5 to 8, R320, R323, R324): the listed quires are written, the segments closed, the roots, the slot of
R175 and the record written; then the module powers down, or a GPF returns to Serve. -/
def State.pourFinish (s : State) (energyEnd us : Nat) : State :=
  let cause := s.reg Reg.POUR_STATUS.CAUSE
  let s1 := (s.pourWrite s.toPour.length).pourClose
  let all := s1.pouredAll && s.pour.listsReadable.zero && s.pour.listsReadable.one
  let s2 := (((s1.rootSlots 1).journalSlot).endRecord (if all then 2 else 3) energyEnd us).raise 553
  let s3 := if all then s2 else { s2 with pour := { s2.pour with lists := s2.pour.lists.map (fun l =>
    { l with entries := l.entries.filter (fun e => !s2.pour.poured.contains (quireAt l.channel e.1)) }) } }
  let keep := s3.pour.lists
  let s4 := ((s3.cleaned s3.pour.poured).programsOver).pourOver
  let s5 : State := if all then s4 else { s4 with pour := { s4.pour with lists := keep } }
  if cause = 3 && s.reg Reg.THM_STATUS.TRIP = 0 then s5.gpfReturn
  else s5.gpfComplete.pourDown cause

/-! ## What follows the loss or return of power -/

/-- A Halt met in a Pour whose input is gone ends in M1 (R413, R326). -/
def State.haltWithoutInput (s : State) : State :=
  if s.ctl.mode = .m10 ∧ s.ctl.p12 = false then s.inputGone else s

/-- The comparator trips and the input switch opens (R308). -/
def State.inputLost (s : State) : State :=
  let s1 := if s.ctl.mode = .m0 ∨ s.ctl.mode = .m1 then s else s.bump Reg.POUR_COMPARATOR.TRIPS 0 0 1
  { s1 with ctl := { s1.ctl with p12 := false } }

/-- P12V_LOSS (R308, R313, R413): a Pour in M2 to M7; a GPF Pour goes on with CAUSE 1. -/
def execP12vLoss (inputs : PourInputs) (s : State) : Res :=
  .next (
    if !s.ctl.p12 then s
    else
      let s1 := s.inputLost
      match s.ctl.mode with
      | .m2 | .m3 | .m4 | .m5 | .m6 | .m7 => (s1.pourBegin .loss inputs).haltWithoutInput
      | .m8 =>
        let s2 := (if s.reg Reg.PIN_REMOVAL.STATE = 3 then s1.bump Reg.PIN_COUNT.EARLY_PULLS 0 0 1 else s1).physOff
        if s.reg Reg.POUR_STATUS.CAUSE = 3 then
          let s3 := s2.setReg Reg.POUR_STATUS.CAUSE 1
          match s3.pour.record with
          | some r => { s3 with pour := { s3.pour with record := some { r with cause := 1 } } }
          | none => s3
        else s2
      | _ => s1.inputGone)

/-- HOLD_END (R320): the hold ends, and the LPDDR5X with it. A held on request starts the module at the return of its input (R416). -/
def execHoldEnd (s : State) : Res :=
  .next (
    if s.ctl.mode == .m8 && s.pour.hold then
      ({ s with pour := { s.pour with hold := false }, ctl := { s.ctl with retained := false } }).toStandby
    else s)

/-- P12V_RETURN (R308, R320, R326, R413): in a Pour the input is back for its end; in the hold a warm start follows; in Safe a cold
one; in M1 a standing off request ends. -/
def execP12vReturn (s : State) : Res :=
  .next (
    if s.ctl.p12 || s.ctl.mode == .m0 then s
    else
      let s1 : State := { s with ctl := { s.ctl with p12 := true } }
      match s.ctl.mode with
      | .m8 =>
        if s.pour.hold then
          ({ s1 with pour := { s1.pour with hold := false },
                     ctl := { s1.ctl with retained := true, auxKept := s.ctl.aux } }).beginStart
        else s1
      | .m9 =>
        ((s1.setReg Reg.MOD_LADDER.WARM_FAILS 0).setReg Reg.MOD_LADDER.COLD_FAILS 0).beginCold
      | _ => s1.setReg Reg.MOD_REQUEST.OFF_STANDING 0)

/-- PWRDIS_ASSERT (R308, R313): the pin's source, and a Pour with CAUSE 2, which cancels a pending removal (R543); Halt falls to M1 (R413). A GPF Pour goes on with that
cause. -/
def execPwrdisAssert (inputs : PourInputs) (s : State) : Res :=
  .next (
    if s.reg Reg.PIN_LEVEL.PWRDIS = 1 then s
    else if s.ctl.mode = .m0 then s.setReg Reg.PIN_LEVEL.PWRDIS 1
    else
      let s1 := (s.setReg Reg.PIN_LEVEL.PWRDIS 1).raise 631
      match s.ctl.mode with
      | .m2 | .m3 | .m4 | .m5 | .m6 | .m7 =>
        let s2 := s1.cancelRemoval.pourBegin .pwrdis inputs
        if s2.ctl.mode = .m10 then ({ s2 with ctl := { s2.ctl with retained := false } }).toStandby else s2
      | .m8 => if s.reg Reg.POUR_STATUS.CAUSE = 3 then (s1.setReg Reg.POUR_STATUS.CAUSE 2).physOff else s1
      | .m10 => ({ s1 with ctl := { s1.ctl with retained := false } }).toStandby
      | _ => { s1 with ctl := { s1.ctl with retained := false } })

/-- PWRDIS_RELEASE (R313): the pin alone; the cold start follows by COLD_START. -/
def execPwrdisRelease (s : State) : Res :=
  .next (s.setReg Reg.PIN_LEVEL.PWRDIS 0)

/-- GPF_PHASE2 (R324, R326, R436): a Pour with 12 V present. In a Pour already running the head's phase 2 completes with it; in a
Quiesce it waits for the Quiesce's end, and before Serve for Serve. -/
def execGpfPhase2 (head : Fin 2) (inputs : PourInputs) (s : State) : Res :=
  .next (
    if !s.hasHead head || s.rd Reg.LNK_STATUS.CXL_MEM head 0 == 0 then s
    else
      let add := fun (s : State) => ({ s with pour := { s.pour with gpf := s.pour.gpf ++ [head.val] } } : State)
      match s.ctl.mode with
      | .m5 | .m6 => (add s).pourBegin .gpf inputs
      | .m2 | .m3 | .m4 | .m7 | .m8 => add s
      | _ => s)

/-! ## The hold-up bank (R294, R309 to R311) -/

/-- CAP_MEASUREMENT_START (R309): the next sub-bank, while the bus stands at 34.5 V, no Pour runs and none is
charging; a throttle of the bank pauses it (R455). -/
def execCapMeasurementStart (s : State) : Res :=
  .next (
    let i := s.pour.next
    let next := (i + 1) % 8
    let busy := (List.range 8).any (fun k => s.rd Reg.POUR_SUBBANK.MEASURING 0 k == 1 ||
      (s.rd Reg.POUR_SUBBANK.ISOLATED 0 k == 0 && s.pour.volts[k]?.getD 0 < 34500))
    if !s.running || s.ctl.mode == .m8 || s.pour.bus < 34500 || busy ||
        (s.rd Reg.THM_STATUS.THROTTLE 0 0).testBit 3 then s
    else
      let s1 : State := { s with pour := { s.pour with next := next } }
      if s.rd Reg.POUR_SUBBANK.ISOLATED 0 i = 1 then s1 else s1.wr Reg.POUR_SUBBANK.MEASURING 0 i 1)

/-- C of R309 in µF from a drop in mV, rounded down and capped under R307: 0.99 × 0.1 A × 0.04 s / ΔV. -/
def capOf (drop : Nat) : Nat := min 3500 (if drop = 0 then 3500 else 3960000 / drop)

/-- Isolate a sub-bank (R294). -/
def State.isolate (s : State) (i cause : Nat) : State :=
  if s.rd Reg.POUR_SUBBANK.ISOLATED 0 i = 1 then s
  else
    let s1 := ((s.wr Reg.POUR_SUBBANK.ISOLATED 0 i 1).wr Reg.POUR_SUBBANK.CAUSE 0 i cause).wr Reg.POUR_SUBBANK.MEASURING 0 i 0
    (((s1.wrBit Reg.SPR_SPARES.SUBBANK_ISOLATED 0 0 i true).raise 557).updateEnergy)

/-- CAP_MEASUREMENT_DONE (R309 to R311, R294): the recorded value, its ring slot and source 556; a sub-bank below 60 % of its rating is
isolated. -/
def execCapMeasurementDone (drop : Nat) (s : State) : Res :=
  .next (
    match (List.range 8).find? (fun i => s.rd Reg.POUR_SUBBANK.MEASURING 0 i == 1) with
    | none => s
    | some i =>
      let c := capOf drop
      let s1 := ((s.wr Reg.POUR_SUBBANK.MEASURING 0 i 0).wr Reg.POUR_SUBBANK.CAP_UF 0 i c).wr
        Reg.POUR_SUBBANK.MEASURED_MIN 0 i s.minutes
      let s2 := (s1.slotWrite 3 (i + 8 * c + 524288 * s.minutes)).raise 556
      let s3 : State := { s2 with pour := { s2.pour with measured := i :: s2.pour.measured.filter (· != i) } }
      if c < 2100 then s3.isolate i 1 else s3.updateEnergy)

/-- ENERGY_UPDATE (R310): the sub-banks' voltages and the bus voltage in mV. -/
def execEnergyUpdate (volts : List Nat) (bus : Nat) (s : State) : Res :=
  .next (
    if !s.running then s
    else
      let vs := (List.range 8).map (fun i =>
        if s.rd Reg.POUR_SUBBANK.MEASURING 0 i = 1 then s.pour.volts[i]?.getD 0
        else min 35000 (volts[i]?.getD (s.pour.volts[i]?.getD 0)))
      let s1 := ({ s with pour := { s.pour with volts := vs, bus := bus } }).setReg Reg.POUR_ENERGY.BUS_MV bus
      (s1.updateEnergy))

/-- SUBBANK_ISOLATION (R294): causes 1 to 3. -/
def execSubbankIsolation (subbank : Fin 8) (cause : Fin 4) (s : State) : Res :=
  .next (if !s.running || cause.val == 0 then s else s.isolate subbank cause)

end Sys2Proof.Machine
end

