-- ==== Sys2Proof/Machine/Modes.lean ====
section
/-! DEFINITION. Doze and the start of a Quiesce (R426 to R436), and the removal of both inputs (R413). -/

namespace Sys2Proof.Machine

/-! ## Quiesce (R434) -/

/-- The code of a Quiesce's cause (R437). -/
def QWork.code : QWork → Nat
  | .activateLeaf _ _ _ | .activateMailbox _ => 1
  | .sanitize _ | .secureErase _ => 2
  | .readmit _ => 3
  | .removal => 4

/-- A Quiesce starts (R434, R435 step 1): from Doze the module leaves Doze first. -/
def State.quiesceStart (s : State) (w : QWork) : State :=
  let s1 := (((s.showDoze 0).pauseBulk.tally 0 376 1).toMode .m7).setReg Reg.MOD_STATUS.QUIESCE_CAUSE w.code
  { s1 with ctl := { s1.ctl with quiesce := some w } }

/-- An activation waits for a slot sweep to end (R360). -/
def State.mustWait (s : State) (w : QWork) : Bool :=
  w.code == 1 && s.mapping.walks.any (fun x => match x.kind with | .sweep _ _ _ => true | _ => false)

/-- A trigger of a Quiesce (R434): it starts in Serve and Doze, and waits in M2 to M4, in M7 and in M8 during a GPF Pour. -/
def State.askQuiesce (s : State) (w : QWork) : State :=
  match s.ctl.mode with
  | .m5 | .m6 =>
    if s.mustWait w then { s with ctl := { s.ctl with quiesceQueue := s.ctl.quiesceQueue ++ [w] } } else s.quiesceStart w
  | .m2 | .m3 | .m4 | .m7 => { s with ctl := { s.ctl with quiesceQueue := s.ctl.quiesceQueue ++ [w] } }
  | .m8 =>
    if s.reg Reg.POUR_STATUS.CAUSE = 3 then { s with ctl := { s.ctl with quiesceQueue := s.ctl.quiesceQueue ++ [w] } } else s
  | _ => s

/-- In Serve, the first waiting trigger starts its Quiesce. -/
def State.nextQuiesce (s : State) : State :=
  match s.ctl.quiesceQueue with
  | [] => s
  | w :: t => if s.ctl.mode = .m5 && !s.mustWait w then ({ s with ctl := { s.ctl with quiesceQueue := t } }).quiesceStart w else s

/-- READMISSION_TEST (R250, R220): at most 3 attempts between cold starts; a Pour or a test of the other package leaves no result. A
package that passes becomes returning and asks for a Quiesce. -/
def execReadmissionTest (package : Fin 4) (uncorrectable corrected : Nat) (s : State) : Res :=
  .next (
    let n := package.val
    if !s.inService || s.pkgState n != 1 || s.rdP Reg.DMC_PKG.ATTEMPTS n ≥ 3 then s
    else
      let s1 := (s.bump Reg.DMC_PKG.ATTEMPTS (n / 2) (n % 2) 1).raiseP n 7
      if uncorrectable = 0 ∧ corrected ≤ 16 then
        ((((s1.wrP Reg.DMC_PKG.STATE n 3).showPackages (n / 2)).showLimits).settle).askQuiesce (.readmit n)
      else s1)

/-! ## Doze (R427 to R433) -/

/-- P of R430 in µs: the mean of the idle periods kept. -/
def State.meanIdle (s : State) : Nat :=
  if s.ctl.idlePeriods.isEmpty then 0 else s.ctl.idlePeriods.sum / s.ctl.idlePeriods.length

/-- The prediction of R430. -/
def State.prediction (s : State) (idleUs : Nat) : Nat := max s.meanIdle (idleUs / 2)

/-- The prediction a Doze state asks for in µs (R428). -/
def predictAtLeast (d : Nat) : Nat := match d with | 1 => 0 | 2 => 400 | 3 => 20000 | _ => 2000000

/-- Background work is due (R428, R430): a round runs or a map change waits for one, a walk, a scan or an erase goes on, a segment
is due for sizing, a run or a bulk operation goes on, or reads are planned. -/
def State.workDue (s : State) : Bool :=
  s.mapping.ckpt.isSome || s.mapping.mapChanged || !s.mapping.walks.isEmpty || s.ctl.erase.isSome ||
    (match s.mapping.scan with | some x => x.running | none => false) ||
    s.mapping.segs.any (fun p => p.2.due) || s.runningTest.isSome ||
    s.bulk.any (fun b => b.state == .queued || b.state == .running) || !s.path.plans.isEmpty

/-- A bank is programming or steeping. -/
def State.banksBusy (s : State) : Bool := !s.media.inProgram.isEmpty || !s.media.steeps.isEmpty

/-- Every dirty block is evicted into staging (R428, R415). -/
def State.evictAll (s : State) : State := (s.evictDie 0).evictDie 1

/-- Enter Doze state d (R428, R429): its set point and its DRAM state (R243); D3 retrains the channels due (R246), D4 writes the
final root slots. -/
def State.enterDoze (s : State) (d : Nat) : State :=
  let s1 := ((((s.toMode .m6).showDoze d).bump Reg.MOD_DOZE_STAT.ENTRIES 0 (d - 1) 1).tally 0 374 1).tally 1 374 1
  if d = 2 then (s1.setPoint 0 2).setPoint 1 2
  else if d = 3 then (List.range 4).foldl (fun (s : State) n => (s.payDebt n).retrain n) s1
  else if d = 4 then s1.writeBack.rootSlots 1
  else s1

/-- DOZE_ENTRY (R427, R428, R430): descend one state. Below D2 the module first evicts every dirty block and issues its journal pages,
and descends once nothing dirty or unprogrammed is left. `center` are the channels whose read-centering check fails in a set-point
change. -/
def execDozeEntry (idle : IdleSpan) (s : State) : Res :=
  .next (
    let d := if s.ctl.mode == .m6 then s.reg Reg.MOD_STATUS.DOZE else 0
    let n := d + 1
    let off := (List.range n).any (fun k => s.rd Reg.MOD_DOZE_CFG.DISABLE 0 k == 1)
    let s1 := s.setReg Reg.MOD_LATENCY_FORCE.PREDICT_US (min (s.prediction idle.us) 0xFFFFFFFF)
    if !s.inService || n > 4 || off || exitLatency n > s.tolerance || idle.us < s.rd Reg.MOD_DOZE_CFG.ENTER_US 0 (n - 1) ||
        s.prediction idle.us < predictAtLeast n || s.workDue || (n ≥ 2 && s.banksBusy) then
      if s.inService then s1 else s
    else if n ≥ 3 && !s.dirtyQuires.isEmpty then s1.evictAll
    else if n ≥ 3 && !(s.mapping.openPage.zero.isEmpty && s.mapping.openPage.one.isEmpty && s.mapping.issued.isEmpty) then
      s1.issueOpen
    else (s1.enterDoze n).centered s idle.center)

/-- DOZE_EXIT (R431): a wake source ends Doze after `seconds` in its state and `idleUs` of idle. A die whose WAKE fails twice is
declared failed (R280). -/
def execDozeExit (idle : IdleSpan) (seconds : Nat) (wakeBad : List (Fin 320)) (s : State) : Res :=
  .next (
    if s.ctl.mode != .m6 then s
    else
      let d := s.reg Reg.MOD_STATUS.DOZE
      let s1 := s.bump Reg.MOD_DOZE_STAT.TIME_S 0 (d - 1) seconds
      let s2 : State := if idle.us ≥ 20 then
          { s1 with ctl := { s1.ctl with idlePeriods := (idle.us :: s1.ctl.idlePeriods).take 8 } }
        else s1
      ((wakeBad.map Fin.val).foldl (fun s n => s.dieFailed n 5) (s2.leaveDoze.centered s idle.center)))

/-- SERVICE_WAKE (R432): in D2 to D4 the module serves for the work and returns to the state it left; the work's own steps are the
commands that do it. DOZE does not change. -/
def execServiceWake (work : List WakeWork) (s : State) : Res :=
  .next (
    let d := s.reg Reg.MOD_STATUS.DOZE
    if s.ctl.mode != .m6 || d < 2 then s
    else
      let s1 := (List.range 32).foldl (fun s c => s.issue c) ((((s.showDoze 0).tally 0 375 1).tally 1 375 1).probesDue)
      let s2 := if work.contains .checkpoint && s1.mapping.ckpt.isNone && s1.mapping.mapChanged then s1.ckptBegin else s1
      s2.showDoze d)

/-! ## No input (R413) -/

/-- POWER_OFF (R413): both inputs are gone, in a mode that needs no Pour or after it. What is not retained is lost; in a Pour the
module reaches M0 at its end. -/
def execPowerOff (s : State) : Res :=
  .next (
    let gone : State := { s with ctl := { s.ctl with p12 := false, aux := false, auxKept := false, retained := false } }
    match s.ctl.mode with
    | .m0 => gone
    | .m1 | .m9 | .m10 | .m11 => gone.toStandby
    | .m8 => gone
    | _ => s)

end Sys2Proof.Machine
end

