-- ==== Sys2Proof/Machine/Power.lean ====
section
/-! DEFINITION. Rails, the monitor and input power (R440 to R448, R295): confirmed faults and their consequences, snapshots, the
stack cap, phases, auxiliary power, and the always-on rails. -/

namespace Sys2Proof.Machine

/-! ## Snapshots (R447) -/

/-- The 18 readings of the latest scan, which PWR_RAIL(r).MV show. -/
def State.railReadings (s : State) : List Nat := (List.range 18).map (fun r => s.rd Reg.PWR_RAIL.MV 0 r)

/-- The bytes of a snapshot (R447): kind 1 under-voltage, 2 over-voltage, 3 failed to start, 4 phase shed. -/
def State.snapBytes (s : State) (r kind : Nat) : List (BitVec 8) :=
  let b := leBytes 6 s.ms ++ leBytes 1 r ++ leBytes 1 kind ++ leBytes 4 (s.reg Reg.LNK_POWER_CYCLES.COUNT) ++
    leBytes 1 s.ctl.mode.num ++ leBytes 1 (s.reg Reg.PWR_STATUS.STEP) ++ leBytes 2 0 ++
    s.railReadings.flatMap (leBytes 2) ++ leBytes 8 0
  b ++ leBytes 4 (crc32c b)

/-- Split bytes into 64-bit words, as a Ream payload holds them. -/
def words (n : Nat) (b : List (BitVec 8)) : List Nat := (List.range n).map (fun k => leNat ((b.drop (8 * k)).take 8))

/-- Write a snapshot to the ring of 64 and as a Ream record of class 0x409 (R447, R493); past 64 the oldest gives way, with source
581. -/
def State.snapshot (s : State) (r kind : Nat) : State :=
  let first := s.qst.serials.get 0 5016 = 0
  let n := if first then 0 else (s.reg Reg.PWR_SNAP.NEWEST + 1) % 64
  let past := !first && (n = 0 || s.reg Reg.PWR_SNAP.WRAPPED = 1)
  let b := s.snapBytes r kind
  let s1 := (s.pageWrite (5016 + n / 4) (64 * (n % 4)) b).setReg Reg.PWR_SNAP.NEWEST n
  let s2 := if past then (s1.setReg Reg.PWR_SNAP.WRAPPED 1).raise 581 else s1
  s2.supLog 2 0x409 (words 8 b)

/-- A rail's fault or failure is flagged: its bit of PWR_STATUS.FLAGGED, its snapshot and its source (R447, R460). -/
def State.flagRail (s : State) (r kind : Nat) : State :=
  ((s.wrBit Reg.PWR_STATUS.FLAGGED 0 0 r true).snapshot r kind).raise (560 + r)

/-! ## Consequences (R440, R444, R445) -/

/-- Enter Safe with a cause, and its record of class 0x405 (R413, R423, R493). The link is not trained there (R113). -/
def State.toSafe (s : State) (cause : Nat) : State :=
  let s0 := (s.dropTriggers.toMode .m9).linksGone
  let s1 := ({ s0 with
    ctl := { s0.ctl with due := 0, retained := false, resetHold := false } }).setReg
    Reg.MOD_STATUS.SAFE_CAUSE cause
  (s1.log 1 0x405 [cause, s1.reg Reg.MOD_LADDER.LAST_FAIL]).raise 619

/-- A rail whose consequence is Safe (R440). -/
def safeRail (r : Nat) : Bool := decide (3 ≤ r ∧ r ≤ 13)

/-- A rail of the media's program pulses fails (R440, R444): it is switched off and its eight stacks' channels are lost. -/
def State.mediaRailLost (s : State) (r : Nat) : State :=
  let first := if r = 14 then 0 else 16
  (List.range 16).foldl (fun s k => s.loseChannel (first + k) 7) (s.wr Reg.PWR_RAIL.STATE 0 r 6)

/-- The Safe consequence in operation (R413, R444, R445, R459): M2 to M4 fail into Safe, M5 to M7 pour with CAUSE 2, and a
Pour goes on. A die without its core rail pours nothing. -/
def State.railSafe (s : State) (r : Nat) (inputs : PourInputs) : State :=
  let s1 : State := if r = 4 ∨ r = 5 then
      { s with pour := { s.pour with listsReadable := s.pour.listsReadable.modify (r - 4) (fun _ => false) } }
    else s
  match s.ctl.mode with
  | .m2 | .m3 | .m4 => s1.toSafe 3
  | .m5 | .m6 | .m7 => s1.pourBegin .pwrdis inputs
  | _ => s1

/-- Isolate the sub-banks whose own voltage is out of HOLDUP's limits (R294, R440): those below 34.5 V that are not under
measurement, or those above 36.0 V. -/
def State.holdupIsolate (s : State) (under : Bool) : State :=
  (List.range 8).foldl (fun (s : State) i =>
    let v := s.pour.volts[i]?.getD 0
    if (under && v < 34500 && s.rd Reg.POUR_SUBBANK.MEASURING 0 i == 0) || (!under && v > 36000) then s.isolate i 0 else s) s

/-- The consequence of a confirmed fault of rail r (R440). -/
def State.railConsequence (s : State) (r : Nat) (under : Bool) (inputs : PourInputs) : State :=
  if r = 2 then s.holdupIsolate under
  else if safeRail r then s.railSafe r inputs
  else if r = 14 ∨ r = 15 then
    let s1 := s.mediaRailLost r
    if s1.rd Reg.PWR_RAIL.STATE 0 14 = 6 ∧ s1.rd Reg.PWR_RAIL.STATE 0 15 = 6 then s1.railSafe r inputs else s1
  else s

/-- A rail's under- or over-voltage is confirmed (R443, R447). -/
def State.railFault (s : State) (r : Nat) (under : Bool) (inputs : PourInputs) : State :=
  let s1 := if under then (s.wr Reg.PWR_RAIL.STATE 0 r 4).bump Reg.PWR_RAIL_CNT.UV 0 r 1
    else (s.wr Reg.PWR_RAIL.STATE 0 r 5).bump Reg.PWR_RAIL_CNT.OV 0 r 1
  (s1.flagRail r (if under then 1 else 2)).railConsequence r under inputs

/-! ## The monitor (R443) -/

/-- The limits of a rail in mV (R440). -/
def railLimits (r : Nat) : Nat × Nat :=
  match r with
  | 0 | 3 => (10800, 13200)
  | 1 => (3135, 3465)
  | 2 => (34500, 36000)
  | 4 | 5 => (728, 773)
  | 6 => (873, 927)
  | 7 => (1164, 1236)
  | 8 => (1700, 1950)
  | 9 => (1010, 1120)
  | 10 => (870, 970)
  | 11 => (470, 570)
  | 12 | 13 => (1140, 1260)
  | 14 | 15 => (4750, 5250)
  | 16 => (1710, 1890)
  | _ => (760, 840)

/-- A rail that the monitor judges: one that is up. HOLDUP is judged only outside a Pour and once it has reached 34.5 V, which its
STATE then says; the faults of P3V3_AUX and the always-on rails come as their own commands. -/
def State.judged (s : State) (r : Nat) : Bool :=
  let st := s.rd Reg.PWR_RAIL.STATE 0 r
  (st == 2 || st == 4 || st == 5) && r != 1 && r != 16 && r != 17 && !(r == 2 && s.ctl.mode == .m8)

/-- One reading of a scan (R443, R461): the register, and the second reading in a row out of limits confirms a fault. HOLDUP is
good once it first reads 34.5 V. -/
def State.scanRail (s : State) (r mv : Nat) (inputs : PourInputs) : State :=
  let s1 := s.wr Reg.PWR_RAIL.MV 0 r mv
  if r = 2 ∧ s.rd Reg.PWR_RAIL.STATE 0 2 = 1 ∧ mv ≥ 34500 then s1.wr Reg.PWR_RAIL.STATE 0 2 2
  else if !s.judged r then s1
  else
    let lim := railLimits r
    let old := s.ctl.railRuns[r]?.getD (0, 0)
    let new := if mv < lim.1 then (min (old.1 + 1) 2, 0) else if mv > lim.2 then (0, min (old.2 + 1) 2) else (0, 0)
    let s2 : State := { s1 with ctl := { s1.ctl with railRuns := s1.ctl.railRuns.set r new } }
    if new = (0, 0) then s2.wr Reg.PWR_RAIL.STATE 0 r 2
    else if new.1 = 2 ∧ old.1 = 1 then s2.railFault r true inputs
    else if new.2 = 2 ∧ old.2 = 1 then s2.railFault r false inputs
    else s2

/-- MONITOR_SCAN (R443, R448): the 18 readings in mV, and the mean input power over the last 10 ms. -/
def execMonitorScan (readings : List Nat) (inputMw : Nat) (inputs : PourInputs) (s : State) : Res :=
  .next (
    if !s.powered then s
    else
      let s1 := ((s.tally 0 377 1).setReg Reg.PWR_INPUT.MW inputMw).peak Reg.PWR_INPUT.PEAK_MW 0 0 inputMw
      (List.range 18).foldl (fun s r =>
        match readings[r]? with
        | some mv => s.scanRail r mv inputs
        | none => s) s1)

/-! ## Input power (R448, R455) -/

/-- Set the budget cap: LOAD_LIMITED, the limits, and source 580 when it falls below 128. -/
def State.setStackCap (s : State) (cap : Nat) : State :=
  let old := s.reg Reg.PWR_BUDGET.STACK_CAP
  let s1 := ((s.setReg Reg.PWR_BUDGET.STACK_CAP cap).setReg Reg.PWR_STATUS.LOAD_LIMITED (if cap < 128 then 1 else 0)).showStacks
  if old = 128 ∧ cap < 128 then s1.raise 580 else s1

/-- STACK_CAP_ADJUST (R448): each millisecond from a mean above 66 W until it is below 64 W the cap falls; each 10 ms below 60 W
it rises. -/
def execStackCapAdjust (mean : Nat) (raise : Bool) (s : State) : Res :=
  .next (
    let cap := s.reg Reg.PWR_BUDGET.STACK_CAP
    let low := decide (mean > 66000) || (s.ctl.lowering && decide (mean ≥ 64000))
    let s1 : State := { s with ctl := { s.ctl with lowering := low } }
    if !s.running then s
    else if raise then (if mean < 60000 then s1.setStackCap (min 128 (cap + 16)) else s1)
    else if low then s1.setStackCap (max 32 (cap - 16))
    else s1)

/-! ## Phases (R295) -/

/-- The multiphase rails of R295 in the order of PHASE_USED: VCORE0, VCORE1, VDD2H, VMED_CORE, VMED_PP_A, VMED_PP_B. -/
def phaseRail (k : Nat) : Nat := match k with | 0 => 4 | 1 => 5 | 2 => 9 | 3 => 12 | 4 => 14 | _ => 15

/-- PHASE_FAULT (R295, R447): the spare phase takes the place of the first that is shed; a further one limits the rail's load, with
Degraded. -/
def execPhaseFault (rail : Fin 6) (s : State) : Res :=
  .next (
    let k := rail.val
    let r := phaseRail k
    if s.rd Reg.PWR_RAIL.STATE 0 r = 0 ∨ s.rd Reg.PWR_RAIL.STATE 0 r = 6 ∨ s.powered = false then s
    else
      let s0 : State := { s with ctl := { s.ctl with phases := s.ctl.phases.modify k (· + 1) } }
      let s1 := (s0.snapshot r 4).raise 578
      if (s.reg Reg.SPR_SPARES.PHASE_USED).testBit k then
        ((s1.wrBit Reg.SPR_SPARES.PHASE_SHORT 0 0 k true).raise 579).settle
      else s1.wrBit Reg.SPR_SPARES.PHASE_USED 0 0 k true)

/-! ## Auxiliary power and the always-on rails (R40, R413, R445) -/

/-- The level of a strap code in mV (R532). -/
def strapLevel (k : Nat) : Nat :=
  match k with | 0 => 0 | 1 => 255 | 2 => 516 | 3 => 771 | 4 => 1027 | 5 => 1284 | 6 => 1544 | _ => 1800

/-- The code of the level nearest to a reading; none where it lies more than 0.1 V from every level (R532, R533). -/
def strapCode (mv : Nat) : Option Nat :=
  (List.range 8).find? (fun k => mv ≤ strapLevel k + 100 && strapLevel k ≤ mv + 100)

/-- The width of strap k in bits, in the order of R533. -/
def strapWidth (k : Nat) : Nat := match k with | 0 => 3 | 1 | 2 => 1 | _ => 2

/-- The fallback of strap k (R533): the boot slot's is the value sampled before. -/
def State.strapFallback (s : State) (k : Nat) : Nat :=
  match k with | 2 => s.ctl.prevBootStrap | 3 => 2 | 5 => 3 | _ => 0

/-- The field of MOD_STRAPS that shows strap k. -/
def strapField (k : Nat) : Field :=
  match k with
  | 0 => Reg.MOD_STRAPS.OOB_ADDR | 1 => Reg.MOD_STRAPS.PRIMARY_HEAD | 2 => Reg.MOD_STRAPS.BOOT_SLOT
  | 3 => Reg.MOD_STRAPS.POUR_DEFAULT | 4 => Reg.MOD_STRAPS.LAT_DEFAULT | _ => Reg.MOD_STRAPS.THERMAL_PROFILE

/-- Sample strap k (R425, R532, R533): its reading, code and value, with source 632 where it falls back. -/
def State.sampleStrap (s : State) (k mv : Nat) : State :=
  let s1 := s.wr Reg.PIN_STRAP.MV 0 k (min mv 4095)
  match (strapCode mv).filter (fun c => c < 2 ^ strapWidth k) with
  | some c => ((s1.wr Reg.PIN_STRAP.CODE 0 k c).wr Reg.PIN_STRAP.FALLBACK 0 k 0).setReg (strapField k) c
  | none =>
    ((((s1.wr Reg.PIN_STRAP.CODE 0 k ((strapCode mv).getD 0)).wr Reg.PIN_STRAP.FALLBACK 0 k 1).bump
      Reg.PIN_COUNT.STRAP_FALLBACKS 0 0 1).setReg (strapField k) (s.strapFallback k)).raise 632

/-- P3V3_AUX is there: the always-on rails read good. -/
def State.aonUp (s : State) : State :=
  ((s.wr Reg.PWR_RAIL.STATE 0 1 2).wr Reg.PWR_RAIL.STATE 0 16 2).wr Reg.PWR_RAIL.STATE 0 17 2

/-- The operating time resumes from its ring after a loss of auxiliary power (R508). -/
def State.timeFromRing (s : State) : State :=
  if s.rd Reg.QST_RING.SERIAL 0 0 = 0 then s
  else s.setReg Reg.LNK_OPTIME.MS (leNat ((List.range 8).map (fun k =>
    s.qstByte (5070 + s.rd Reg.QST_RING.NEWEST 0 0 / 16) (16 * (s.rd Reg.QST_RING.NEWEST 0 0 % 16) + k))))

/-- AUX_POWER_RISE (R413, R441, R425, R507, R508): M0 to M1 with the power-cycle count one higher. An input that is not good leaves
the module in M0; with its other supply present the module only has auxiliary power again. -/
def execAuxPowerRise (good : Bool) (strapMv : Nat) (s : State) : Res :=
  .next (
    if s.ctl.aux then s
    else if !good then
      if s.ctl.mode = .m0 then ((s.wr Reg.PWR_RAIL.STATE 0 1 3).bump Reg.PWR_RAIL_CNT.START_FAIL 0 1 1).flagRail 1 3 else s
    else
      let s1 : State := { s with ctl := { s.ctl with aux := true } }
      if s.ctl.mode ≠ .m0 then s1.aonUp
      else
        let s2 := (s1.aonUp.timeFromRing).bump Reg.LNK_POWER_CYCLES.COUNT 0 0 1
        let s3 := (s2.slotWrite 1 (s2.reg Reg.LNK_POWER_CYCLES.COUNT)).sampleStrap 0 strapMv
        { s3.toMode .m1 with ctl := { (s3.toMode .m1).ctl with auxKept := false, retained := false, acked := 0, alert := 0 } })

/-- AON_RAIL_FAULT (R445): M5 to M7 pour with CAUSE 2, M2 to M4 the same with nothing to write, a Pour goes on, and the module ends
in M0 until P3V3_AUX is removed and reapplied. -/
def execAonRailFault (core : Bool) (inputs : PourInputs) (s : State) : Res :=
  .next (
    if !s.powered then s
    else
      let r := if core then 17 else 16
      let s1 := ((s.wr Reg.PWR_RAIL.STATE 0 r 4).bump Reg.PWR_RAIL_CNT.UV 0 r 1).flagRail r 1
      let s2 : State := { s1 with ctl := { s1.ctl with afterPourOff := true } }
      match s.ctl.mode with
      | .m2 | .m3 | .m4 | .m5 | .m6 | .m7 => s2.pourBegin .pwrdis inputs
      | .m8 => if s.pour.hold then ({ s2 with pour := { s2.pour with hold := false },
                                              ctl := { s2.ctl with retained := false } }).toStandby else s2
      | _ => ({ s2 with ctl := { s2.ctl with retained := false } }).toStandby)

/-- AUX_FAULT (R445, R507, R313, R413): operating time is saved. With P12V_BUS good the always-on rails run from it; in the other modes the module loses its
last supply. -/
def execAuxFault (s : State) : Res :=
  .next (
    if !s.ctl.aux then s
    else
      let s1 : State := { s with ctl := { s.ctl with aux := false, auxKept := false } }
      let s2 := (((s1.wr Reg.PWR_RAIL.STATE 0 1 4).bump Reg.PWR_RAIL_CNT.UV 0 1 1).flagRail 1 1).slotWrite 0 s.ms
      match s.ctl.mode with
      | .m0 => s1
      | .m1 => ({ s2 with ctl := { s2.ctl with retained := false } }).toStandby
      | .m11 => if s.ctl.p12 then s2 else ({ s2 with ctl := { s2.ctl with retained := false } }).toStandby
      | _ => ((s2.setReg Reg.PWR_STATUS.AON_FROM_BUS 1).raise 582).settle)

end Sys2Proof.Machine
end

