-- ==== Sys2Proof/Machine/Thermal.lean ====
section
/-! DEFINITION. Temperature and operating time (R40, R302, R449 to R458, R507): samples, crossings, broken sensors, levels and their
actions, bands, the fan request, Trip, and the ticks. -/

namespace Sys2Proof.Machine

/-- A shutdown crossing (R457): the latch, its count, source 597, and M11 by way of a Pour in M2 to M7. -/
def State.trip (s : State) (cls : Nat) (inputs : PourInputs) : State :=
  if s.reg Reg.THM_STATUS.TRIP = 1 then s
  else
    let s1 := ((s.setReg Reg.THM_STATUS.TRIP 1).setReg Reg.THM_STATUS.TRIP_CLASS (cls + 1)).bump Reg.THM_COUNT.TRIPS 0 0 1
    let s2 := ((s1.pageCommit 5056).event 3 .memoryModule .trip [cls]).raise 597
    let off := fun (t : State) =>
      let u := { t with ctl := { t.ctl with retained := false } }
      ({ u with pour := { u.pour with hold := false } }).coresOff.railsOff dramRails |>.toMode .m11
    match s.ctl.mode with
    | .m2 | .m3 | .m4 | .m5 | .m6 | .m7 =>
      let s3 := s2.pourBegin .trip inputs
      if s3.ctl.mode = .m10 then off s3 else s3
    | .m8 => if s.pour.hold then off s2 else s2
    | .m1 | .m9 | .m10 => off s2
    | _ => s2

/-- A unit's level changes (R455, R460): registers, source, Ream record at a warning, limits, and Trip at a shutdown. -/
def State.levelChanged (s : State) (x : SensorId) (old n : Nat) (inputs : PourInputs) : State :=
  let s1 := ((((s.writeLevel x n).showClass (sensorClass x)).showThermal).tally 0 379 1).raise (levelSource x)
  let s2 := if old = 0 ∧ (sensorClass x) ≠ 1 then s1.log 4 (levelSource x) [] else s1
  if n = 3 then s2.trip (sensorClass x) inputs else s2

/-- The highest band of a channel's members reaches every segment in use (R140, R171, R458). -/
def State.spreadBand (s : State) (c : Nat) : State :=
  let b := s.memberBand c
  ((s.segsOf c).filter (fun p => p.2.state == .opened || p.2.state == .closed || p.2.state == .victim)).foldl
    (fun (s : State) p => s.onSeg c p.1 (fun g =>
      let g1 := { g with hotBand := max g.hotBand b }
      { g1 with due := g.due || (g.state == .closed && s.segAge c g1 * 5 ≥ sizingLimit g1.hotBand * 4) })) s

/-- The band of a die's sensor (R137): the band edges that stand crossed. -/
def Sensor.band (x : Sensor) : Nat := ((List.range 5).filter (fun k => x.over (6 + k))).length

/-- A media die's band follows its sensor (R137, R460). -/
def State.showBand (s : State) (n : Nat) (x : Sensor) : State :=
  let old := s.rdM Reg.MED_DIE.BAND n
  if x.band = old then s
  else
    let s1 := (s.wrM Reg.MED_DIE.BAND n x.band).raise 594
    if x.band > old ∧ s.rdM Reg.MED_DIE.MEMBER n < 9 then s1.spreadBand (n / 10) else s1

/-- The refresh rate of a package follows its sensor (R238); the code its MR4 returned is open. -/
def State.showRate (s : State) (n : Nat) (x : Sensor) : State :=
  ((s.wrP Reg.DMC_REFRESH.MR4 n (s.open? % 256)).draw).setRate n x.rate

/-! ## Histograms (R302) -/

/-- The histogram class of a sensor, if it has one. -/
def histClass : SensorId → Option Nat
  | .zorsa d _ => some d.val | .package n => some (2 + n.val) | .capacitor _ => some 6 | .inlet => some 7
  | .vyen n => some (8 + n.val / 20) | .board _ => none

/-- The lower edges of bins 1 and up of a class (R302). -/
def histEdges (c : Nat) : List Int :=
  if c < 2 then [50, 70, 85, 95, 100, 105, 110]
  else if c < 6 then [45, 65, 80, 86, 90, 95, 105]
  else if c = 6 then [30, 45, 60, 65, 70, 75, 85]
  else if c = 7 then [15, 25, 30, 35, 40, 45, 50]
  else [25, 45, 65, 80, 90, 100]

/-- Keep the class's highest value of the minute, which each accepted sample feeds (log entry 100), and that a die of a stack ran on a substituted value (key 100 + class). -/
def State.keepMinute (s : State) (x : SensorId) (k : Sensor) : State :=
  match histClass x with
  | none => s
  | some c =>
    let v := match s.minute.find? c with | some m => max m k.value | none => k.value
    let t := s.minute.ins c v
    { s with minute := if k.broken && c ≥ 8 then t.ins (100 + c) 1 else t }

/-- MINUTE_TICK (R302): each class adds one to the bin of its highest value; a stack with a substituted value also to bin 7. -/
def execMinuteTick (s : State) : Res :=
  .next (
    if !s.powered then s
    else
    let s1 := (List.range 24).foldl (fun (t : State) c =>
      match s.minute.find? c with
      | none => t
      | some v =>
        let bin := ((histEdges c).filter (fun e => e ≤ v)).length
        let t1 := t.bump Reg.SPR_HIST.MIN 0 (8 * c + bin) 1
        if (s.minute.find? (100 + c)).isSome then t1.bump Reg.SPR_HIST.MIN 0 (8 * c + 7) 1 else t1) s
    { s1 with minute := [] })

/-! ## Samples (R450 to R454) -/

/-- A sensor takes a value, read or substituted: its thresholds, its unit's level and what follows. -/
def State.feed (s : State) (x : SensorId) (k : Sensor) (v : Int) (inputs : PourInputs) : State :=
  let ts := thresholds (sensorClass x) (s.rd Reg.THM_CFG.PROFILE 0 0)
  let thr := ts.mapIdx (fun i t => ((k.thr[i]?).getD ⟨0, 0, false⟩).sample t v)
  let moved := v != k.value
  let zone := (s.workingBut (zoneKeys x) (sensorKey x)).map (fun j => (j, (s.sensor j).value))
  let k1 : Sensor := { k with
    value := v, thr := thr, missed := 0
    changedMs := if moved then s.ms else k.changedMs, zoneThen := if moved then zone else k.zoneThen }
  let old := s.levelOf (unitKeys x)
  let s1 := (({ s with sensors := s.sensors.ins (sensorKey x) k1 }).showSensor x k1).keepMinute x k1
  let s2 := match x with
    | .vyen n => (s1.showBand n k1).showHot (n.val / 20)
    | .package n => s1.showRate n k1
    | _ => s1
  let new := s2.levelOf (unitKeys x)
  (if new = old then s2 else s2.levelChanged x old new inputs).showFan

/-- A stack whose 20 sensors are all broken is retired: its two channels are lost (R296, R454). -/
def State.retireStack (s : State) (k : Nat) : State :=
  let s1 := (s.wr Reg.THM_STACK.RETIRED (k / 8) (k % 8) 1).raise 598
  (s1.loseChannel (2 * k) 7).loseChannel (2 * k + 1) 7

/-- A sensor is declared broken (R453). -/
def State.sensorBroken (s : State) (x : SensorId) (k : Sensor) : State :=
  let k1 := { k with broken := true, missed := 0 }
  let d := sensorDie x
  let s1 := ({ s with sensors := s.sensors.ins (sensorKey x) k1 }).showSensor x k1
  let s2 := ((s1.bump Reg.THM_COUNT.BROKEN d 0 1).bump Reg.SPR_SPARES.SENSORS_BROKEN d 0 1).raise 595
  let s3 := match x with
    | .vyen n =>
      let k := n.val / 20
      let b := ((zoneKeys x).filter (fun j => (s2.sensor j).broken)).length
      let t := s2.wr Reg.THM_STACK.BROKEN (k / 8) (k % 8) b
      if b = 20 then t.retireStack k else t
    | _ => s2
  s3.settle

/-- A value that has stood for 60 s while a working sensor of its zone moved by more than 3 °C (R453). -/
def State.stuck (s : State) (k : Sensor) (v : Int) : Bool :=
  v == k.value && decide (k.changedMs + 60000 ≤ s.ms) &&
    k.zoneThen.any (fun p => !(s.sensor p.1).broken && ((s.sensor p.1).value - p.2).natAbs > 3)

/-- The sensors that are powered (R412, R449): in M1, M11 and the hold only those that the supervisor reads on die 0. -/
def State.sensorOn (s : State) (cls : Nat) : Bool :=
  match s.ctl.mode with
  | .m0 => false
  | .m1 | .m11 => cls ≥ 3
  | .m8 => cls ≥ 3 || !s.pour.hold
  | _ => true

/-- SENSOR_SAMPLE (R450 to R458). A broken sensor takes its substitute at each of its samples. -/
def execSensorSample (sensor : SensorId) (r : Reading) (inputs : PourInputs) (s : State) : Res :=
  .next (
    let k := s.sensor (sensorKey sensor)
    let cls := sensorClass sensor
    let s0 := s.tally 0 378 1
    let s1 := match sensor with | .package n => s0.tallyP n 31 1 | _ => s0
    if !s.sensorOn cls then s
    else if k.broken then s1.feed sensor k (s.substitute sensor) inputs
    else match r with
      | .value v => if inRange cls v && !s.stuck k v then s1.feed sensor k v inputs else s1.sensorBroken sensor k
      | .undefinedCode => s1.sensorBroken sensor k
      | .missed =>
        if k.missed + 1 ≥ 3 then s1.sensorBroken sensor k
        else { s1 with sensors := s.sensors.ins (sensorKey sensor) { k with missed := k.missed + 1 } })

/-! ## Operating time (R40, R302, R507) -/

/-- OPTIME_TICK (R40): one tick of 32.768 kHz, while the always-on domain runs; the DRAM controllers serve what waits (log entry 91). -/
def execOptimeTick (s : State) : Res :=
  .next (
    if !s.powered then s
    else
      let a := s.ctl.opAcc + 1000
      let s1 : State := { s with ctl := { s.ctl with opAcc := a % 32768 } }
      (if a ≥ 32768 then s1.setReg Reg.LNK_OPTIME.MS (s.ms + 1) else s1).dramSettle)

/-- The bytes of a temperature histogram image (R302, R504), class by class. -/
def State.histBytes (s : State) (page : Nat) : List (BitVec 8) :=
  (List.range 64).flatMap (fun k => leBytes 4 (s.rd Reg.SPR_HIST.MIN 0 (64 * page + k)))

/-- OPTIME_SAVE (R302, R507): the operating-time ring and the older image of the histograms. -/
def execOptimeSave (s : State) : Res :=
  .next (
    if !s.powered then s
    else
      let first := if s.qst.serials.get 0 5064 ≤ s.qst.serials.get 0 5067 then 5064 else 5067
      (List.range 3).foldl (fun (t : State) p => t.pageWrite (first + p) 0 (s.histBytes p)) (s.slotWrite 0 s.ms))

end Sys2Proof.Machine
end

