-- ==== Sys2Proof/Machine/Link.lean ====
section
/-! DEFINITION. The link of each head (R82 to R97, R105 to R111, R120, R293): reference clocks, training, retrains, resets seen at
the link, power states, IDE, HDM decoders, MSI-X and the die-to-die modules. -/

namespace Sys2Proof.Machine

/-! ## What a head shows -/

/-- Modes in which the link trains (R113). -/
def Mode.linkTrains : Mode → Bool
  | .m0 | .m1 | .m9 | .m11 => false
  | _ => true

/-- Mailbox Interface Ready (R98): once M2 completes, in every mode that keeps the link trained. A Pour that began in M2 found it
clear. -/
def State.mailReady (s : State) : Bool :=
  s.ctl.mode.linkTrains && s.ctl.mode != .m2 && !(s.ctl.mode == .m8 && s.reg Reg.MOD_STATUS.PREV_MODE == 2)

/-- CXL.io serves a head: its link is up, it is not in D3hot, and M2 is complete (R85, R98, R113). -/
def State.ioUp (s : State) (h : Nat) : Bool :=
  s.hasHead h && (s.heads.get h).linkUp && !(s.heads.get h).d3hot && s.mailReady

/-- A width and rate at which a head enables CXL.mem (R82, R83): rates 1 below 32 GT/s, 2 at 32 GT/s, 3 at 64 GT/s. -/
def memWidth (width rate : Nat) : Bool := width ≥ 4 && rate ≥ 2

/-- The widths a head trains to (R82). -/
def State.widthOk (s : State) (width : Nat) : Bool :=
  width == 1 || width == 2 || width == 4 || width == 8 || (width == 16 && !s.dual)

/-- The die and lane number of lane l of head h (R35). -/
def State.laneOf (s : State) (h l : Nat) : Nat × Nat := if s.dual then (h, l) else (l / 8, l % 8)

/-- The lane measurements of a training: margins and reversals are open. -/
def State.measureLanes (s : State) (h width : Nat) : State :=
  let n := s.open?
  ((List.range width).foldl (fun (t : State) l =>
    let p := s.laneOf h l
    (t.wr Reg.LNK_LANE_STATUS.MARGIN p.1 p.2 (n / 512 ^ l % 256)).wr Reg.LNK_LANE_STATUS.REVERSED p.1 p.2
      (n / 512 ^ l / 256 % 2)) s).draw

/-- A head takes a width and rate (R83, R95, R109): its status, CDAT where they changed, CXL.mem and Memory_Active with their
sources, and the event record of a link without CXL.mem. -/
def State.setLink (s : State) (h width rate : Nat) : State :=
  let changed := s.rd Reg.LNK_STATUS.WIDTH h 0 != width || s.rd Reg.LNK_STATUS.RATE h 0 != rate
  let mem := memWidth width rate
  let was := s.rd Reg.LNK_STATUS.CXL_MEM h 0 == 1
  let s1 := ((s.wr Reg.LNK_STATUS.WIDTH h 0 width).wr Reg.LNK_STATUS.RATE h 0 rate).wr Reg.LNK_STATUS.CXL_MEM h 0
    (if mem then 1 else 0)
  let s2 := if changed then s1.onHead h (fun hd => { hd with cdatSeq := hd.cdatSeq + 1 }) else s1
  let s3 := if mem = was then s2 else s2.raiseH h 4
  let s4 := s3.memActiveAt h s3.ctl.mode.active
  if mem then s4 else s4.event 1 .memoryModule .linkNarrow [h, width, rate]

/-! ## Clock, training and retrains (R82 to R86) -/

/-- A head reset by an event at its link (R109, R110, R111): what the head loses with its link raises its sources, and the reset
source 11. Safe and Halt reset nothing beyond the link (R413). -/
def State.headEvent (s : State) (h : Nat) : State :=
  if s.ctl.mode = .m9 ∨ s.ctl.mode = .m10 then s.linkGone h
  else if s.ctl.mode.linkTrains then ((s.linkGone h).headReset h).raiseH h 11
  else s

/-- A head's link goes down (R86, R109, R110): a head reset. -/
def State.linkFalls (s : State) (h : Nat) : State := if (s.heads.get h).linkUp then s.headEvent h else s

/-- LINK_DOWN (R110). -/
def execLinkDown (head : Fin 2) (s : State) : Res := .next (if s.hasHead head then s.linkFalls head else s)

/-- REFERENCE_CLOCK_CHANGE (R84): clock 0 serves head 0, and clock 1 head 1 in dual-head mode; a lost clock takes its head's link
down. -/
def execReferenceClockChange (clock : Fin 2) (stable : Bool) (s : State) : Res :=
  .next (
    let s1 := s.onHead clock (fun hd => { hd with clock := stable })
    if !stable && s.hasHead clock then s1.linkFalls clock else s1)

/-- PERST# of a head's own lanes is asserted. -/
def State.headHeld (s : State) (h : Nat) : Bool :=
  if h = 0 then s.reg Reg.PIN_LEVEL.PERST == 1 else s.reg Reg.PIN_LEVEL.PERST1 == 1

/-- The PHYs run: in every mode in which the link trains but the part of a Pour after they went off (R113, R313). -/
def State.physOn (s : State) : Bool :=
  s.ctl.mode.linkTrains && (s.ctl.mode != .m8 || s.reg Reg.POUR_STATUS.CAUSE == 3 || s.reg Reg.POUR_STATUS.CAUSE == 4)

/-- LINK_TRAINED (R82, R83): with the head's clock stable and its PERST# released, in a mode in which the link trains. Source 0,
and vector 7 for the change of width. -/
def execLinkTrained (head : Fin 2) (width : Nat) (rate : Fin 4) (s : State) : Res :=
  .next (
    let h := head.val
    if !s.hasHead h || !(s.heads.get h).clock || (s.heads.get h).linkUp || s.headHeld h || !s.physOn ||
        !s.widthOk width || rate.val == 0 then s
    else
      let s1 := s.onHead h (fun hd => { hd with linkUp := true })
      (((s1.measureLanes h width).raiseH h 0).setLink h width rate).msix h 7)

/-- A retrain of a head through Recovery (R86, R95, R109, R120). -/
def State.retrainHead (s : State) (h width rate : Nat) : State :=
  let changed := s.rd Reg.LNK_STATUS.WIDTH h 0 != width || s.rd Reg.LNK_STATUS.RATE h 0 != rate
  let s1 := ((s.bump Reg.LNK_RETRAIN_CNT.COUNT h 0 1).measureLanes h width).raiseH h 2
  let s2 := if changed then (s1.setLink h width rate).raiseH h 3 else s1
  s2.msix h 7

/-- LINK_RETRAIN (R86): no request is lost or duplicated. -/
def execLinkRetrain (head : Fin 2) (width : Nat) (rate : Fin 4) (s : State) : Res :=
  .next (
    let h := head.val
    if !s.hasHead h || !(s.heads.get h).linkUp || !s.widthOk width || rate.val == 0 then s else s.retrainHead h width rate)

/-- FLIT_REPLAY (R109, R119): source 9; the lane errors that FEC corrected, by lane of the head, count, with source 8 at each
multiple of 1,024 of their sum. -/
def execFlitReplay (head : Fin 2) (corrected : List Nat) (s : State) : Res :=
  .next (
    let h := head.val
    let lanes := if s.dual then 8 else 16
    let total := fun (t : State) =>
      ((List.range lanes).map (fun l => t.rd Reg.LNK_LANE_STATUS.ERRORS (t.laneOf h l).1 (t.laneOf h l).2)).sum
    if !s.hasHead h || !(s.heads.get h).linkUp then s
    else
      let s1 := (List.range lanes).foldl (fun (t : State) l =>
        t.bump Reg.LNK_LANE_STATUS.ERRORS (t.laneOf h l).1 (t.laneOf h l).2 (corrected[l]?.getD 0)) s
      let s2 := ((s1.raiseH h 9).tally h 362 1).tally h 363 corrected.sum
      if total s / 1024 < total s1 / 1024 then s2.raiseH h 8 else s2)

/-! ## Resets seen at the link (R110, R111, R413, R418) -/

/-- PERST_ASSERT (R110): a warm reset in single-head mode. In dual-head mode a head reset of head 0, and a warm reset where PERST1#
is asserted too. Ignored once a removal runs (R540). -/
def execPerstAssert (s : State) : Res :=
  .next (
    if s.reg Reg.PIN_LEVEL.PERST = 1 then s
    else
      let s1 := s.setReg Reg.PIN_LEVEL.PERST 1
      if s.reg Reg.PIN_REMOVAL.STATE ≥ 2 then s1
      else if s.ctl.mode = .m9 ∨ s.ctl.mode = .m10 then s1.linkGone 0
      else if !s.dual || s.reg Reg.PIN_LEVEL.PERST1 == 1 then s1.askWarm true
      else s1.headEvent 0)

/-- PERST1_ASSERT (R110): ignored in single-head mode. -/
def execPerst1Assert (s : State) : Res :=
  .next (
    if s.reg Reg.PIN_LEVEL.PERST1 = 1 then s
    else
      let s1 := s.setReg Reg.PIN_LEVEL.PERST1 1
      if !s.dual || s.reg Reg.PIN_REMOVAL.STATE ≥ 2 then s1
      else if s.ctl.mode = .m9 ∨ s.ctl.mode = .m10 then s1.linkGone 1
      else if s.reg Reg.PIN_LEVEL.PERST = 1 then s1.askWarm true
      else s1.headEvent 1)

/-- PERST_RELEASE (R418): the reset hold ends with the last asserted line. -/
def execPerstRelease (line : Fin 2) (s : State) : Res :=
  .next (
    let s1 := if line.val = 0 then s.setReg Reg.PIN_LEVEL.PERST 0 else s.setReg Reg.PIN_LEVEL.PERST1 0
    if s1.lineAsserted then s1 else { s1 with ctl := { s1.ctl with resetHold := false } })

/-- HOT_RESET (R110). -/
def execHotReset (head : Fin 2) (s : State) : Res :=
  .next (if s.hasHead head && (s.heads.get head).linkUp then s.headEvent head else s)

/-- FLR (R90): CXL.io state only: the function returns to D0 with every MSI-X vector masked, its doorbell interrupts off and its DOE
instances idle; a foreground mailbox command is one step of the model, so none is left to abort. -/
def execFlr (head : Fin 2) (s : State) : Res :=
  .next (
    if s.hasHead head && (s.heads.get head).linkUp then
      s.onHead head (fun hd => { hd with
        d3hot := false, msixMasked := BitVec.allOnes 32, dbInt := ⟨false, false⟩, doeError := ⟨false, false⟩ })
    else s)

/-- D3HOT_ENTRY (R85). -/
def execD3hotEntry (head : Fin 2) (s : State) : Res :=
  .next (
    if s.hasHead head && (s.heads.get head).linkUp then s.onHead head (fun hd => { hd with d3hot := true }) else s)

/-- A vector of a head may be sent (R85, R108): it is not masked, the head's CXL.io runs, and a group's vector has a grant in force. -/
def State.maySend (s : State) (h v : Nat) : Bool :=
  !(s.heads.get h).msixMasked.getLsbD v && !(s.heads.get h).d3hot && (v < 8 || s.granted)

/-- A pending vector is sent (R108). A group's message reports every assertion that it has counted. -/
def State.sendVector (s : State) (h v : Nat) : State :=
  let s1 := s.onHead h (fun hd => { hd with
    msixPending := hd.msixPending &&& ~~~ (1#32 <<< v), aggCount := if v < 8 then hd.aggCount else hd.aggCount.set (v - 8) 0 })
  let s2 := if v < 8 then s1 else s1.wr Reg.LNK_AGG_CTRL.PENDING h (v - 8) 0
  (s2.send (.msix h v)).tally h 373 1

/-- Send every pending vector of a head that may be sent (R108). -/
def State.sendPending (s : State) (h : Nat) : State :=
  (List.range 32).foldl (fun (t : State) v =>
    if (t.heads.get h).msixPending.getLsbD v && t.maySend h v then t.sendVector h v else t) s

/-- D3HOT_EXIT (R85): CXL.io traffic resumes, and what was pending is sent. -/
def execD3hotExit (head : Fin 2) (s : State) : Res :=
  .next (
    if s.hasHead head && (s.heads.get head).linkUp then
      (s.onHead head (fun hd => { hd with d3hot := false })).sendPending head
    else s)

/-! ## MSI-X (R108) -/

/-- MSIX_UNMASK (R108). -/
def execMsixUnmask (head : Fin 2) (vector : Fin 32) (s : State) : Res :=
  .next (
    if !s.ioUp head then s
    else
      (s.onHead head (fun hd => { hd with msixMasked := hd.msixMasked &&& ~~~ (1#32 <<< vector.val) })).sendPending head)

/-- AGG_GROUP_MESSAGE (R108): a group with a pending assertion sends its vector once its HOLDOFF has elapsed, or at COUNT pending
assertions; without a grant it stays silent. -/
def execAggGroupMessage (head : Fin 2) (group : Fin 24) (elapsed : Bool) (s : State) : Res :=
  .next (
    let h := head.val
    let g := group.val
    let n := ((s.heads.get h).aggCount[g]?).getD 0
    let limit := s.rd Reg.LNK_AGG_CTRL.COUNT h g
    if !s.hasHead h || !s.granted || n == 0 || !(elapsed || (limit != 0 && n ≥ limit)) then s
    else
      ((s.onHead h (fun hd => { hd with aggCount := hd.aggCount.set g 0 })).wr Reg.LNK_AGG_CTRL.PENDING h g 0).msix h (8 + g))

/-! ## DOE and IDE (R93, R96, R97) -/

/-- The largest request object that a DOE instance takes, in bytes (R93). -/
def doeLimit : Nat := 65536

/-- Count a DOE object of a head (R476 event 367), answer it and send vector 6 (R107). -/
def State.sendDoe (s : State) (h inst : Nat) (b : Body) : State := ((s.tally h 367 1).send (.doe h inst b)).msix h 6

/-- A request object of so many bytes arrives at a DOE instance (R93): a larger one is discarded, and the instance then answers nothing
before the next Abort. -/
def State.doeObject (s : State) (h inst bytes : Nat) (f : State → State) : State :=
  if !s.ioUp h || (s.heads.get h).doeError.get inst then s
  else if bytes > doeLimit then s.onHead h (fun hd => { hd with doeError := hd.doeError.modify inst (fun _ => true) })
  else f s

/-- IDE_INTEGRITY_FAILURE (R97): a secure stream enters the insecure state, with a Ream record and source 550
(R359); no Halt follows. -/
def execIdeIntegrityFailure (head : Fin 2) (mem : Bool) (s : State) : Res :=
  .next (
    let h := head.val
    let f := if mem then Reg.LNK_STATUS.IDE_MEM else Reg.LNK_STATUS.IDE_IO
    if !s.hasHead h || !(s.heads.get h).linkUp || s.rd f h 0 == 0 then s
    else
      let s1 := (s.setIde h mem false).onHead h (fun hd =>
        if mem then { hd with ideInsecureMem := true } else { hd with ideInsecureIo := true })
      (s1.raise 550).log 4 550 [h, if mem then 1 else 0])

/-- IDE_KM (R96): the keys of one of the head's two link streams are established or refreshed in a secured session on its DOE instance 1,
for CXL.mem with the choice of skid or containment mode; the stream is secure again. -/
def execIdeKm (head : Fin 2) (stream : IdeStream) (session : Nat) (s : State) : Res :=
  .next (
    let h := head.val
    s.doeObject h 1 0 (fun s =>
      if !(s.sec.sessions.any (fun x => x.transport == h && x.id == session)) then s
      else
        let s1 := s.onHead h (fun hd =>
          match stream with
          | .mem contain => { hd with ideKeysMem := hd.ideKeysMem + 1, ideInsecureMem := false, ideContain := contain }
          | .io => { hd with ideKeysIo := hd.ideKeysIo + 1, ideInsecureIo := false })
        (s1.setIde h (stream != .io) true).sendDoe h 1 (.values [1])))

/-! ## HDM decoders (R91, R92) -/

/-- The interleave ways of R91. -/
def hdmWays : List Nat := [1, 2, 3, 4, 6, 8, 12, 16]

/-- The interleave granularities of R91 in bytes. -/
def hdmGrans : List Nat := [256, 512, 1024, 2048, 4096, 8192, 16384]

/-- A decoder as software programs it; base, size and skip have no bits below 256 MiB (R91). -/
def Decoder.ofSet (x : DecoderSet) : Decoder :=
  let unit := 268435456
  ⟨x.base / unit * unit, x.size / unit * unit, x.ways, x.gran, x.skip / unit * unit, x.lock, true, false⟩

/-- Two decoders map a common HPA. -/
def Decoder.overlaps (a b : Decoder) : Bool := a.base < b.base + b.size && b.base < a.base + a.size

/-- A commit that R92 refuses, of decoder k of a head. -/
def Head.commitFails (hd : Head) (k : Nat) (d : Decoder) : Bool :=
  let ds := hd.decoders.set k d
  let base := (dpaBases 0 ds)[k]?.getD 0
  !hdmWays.contains d.ways || !hdmGrans.contains d.gran || decide (base + d.dpaSize > dpaBytes) ||
    (List.range 4).any (fun j => j != k && (match hd.decoders[j]? with
      | some x => (x.committed && x.overlaps d) || (decide (j < k) && !x.committed) || (decide (k < j) && x.committed)
      | none => true))

/-- HDM_DECODER_COMMIT (R91, R92): a commit takes effect or sets Error Not Committed; a locked decoder stays as it is. -/
def execHdmDecoderCommit (head : Fin 2) (index : Fin 4) (set : DecoderSet) (commit : Bool) (s : State) : Res :=
  .next (
    let hd := s.heads.get head
    let k := index.val
    let old := hd.decoders[k]?.getD Decoder.idle
    let d := Decoder.ofSet set
    if !s.ioUp head || (old.committed && (commit || old.lock)) then s
    else
      let new : Decoder :=
        if !commit then { old with committed := false, error := false }
        else if hd.commitFails k d then { old with error := true }
        else d
      s.onHead head (fun hd => { hd with decoders := hd.decoders.set k new }))

/-! ## CDAT and DOE (R93 to R95) -/

/-- The read bandwidth of R82 in MB/s. -/
def readBandwidth (width rate : Nat) : Nat := if memWidth width rate then width * 6250 / (if rate = 2 then 2 else 1) else 0

/-- The body of CDAT entry e (R94), the header first, in the numbers that the spec names; each begins with the handle of the next
entry, 0xFFFF after the last. A DSEMTS names CDAT's memory type for persistent memory, a DSLBIS its data type: 1 read latency, 2 write
latency, 4 read bandwidth, 5 write bandwidth (log entry 10). -/
def State.cdat (s : State) (h e : Nat) : List Nat :=
  match e with
  | 0 => [1, (s.heads.get h).cdatSeq]
  | 1 => [2, 0, 0, dpaBytes, 1, if s.dual then 1 else 0]
  | 2 => [3, 0, Config.persistentType, 0, dpaBytes]
  | 3 => [4, 0, 1, 1000]
  | 4 => [5, 0, 2, 200]
  | 5 => [6, 0, 4, readBandwidth (s.rd Reg.LNK_STATUS.WIDTH h 0) (s.rd Reg.LNK_STATUS.RATE h 0)]
  | 6 => [0xFFFF, 0, 5, if s.dual then 16000 else 32000]
  | _ => [0xFFFF]

/-- CDAT_TABLE_ACCESS (R94), on DOE instance 0. -/
def execCdatTableAccess (head : Fin 2) (request : DoeRequest) (s : State) : Res :=
  .next (s.doeObject head 0 request.bytes (fun s => s.sendDoe head 0 (.values (s.cdat head request.index))))

/-- The protocols of a DOE instance (R93) as vendor and type, by index (log entry 10). -/
def doeProtocols (inst : Nat) : List (Nat × Nat) := if inst = 0 then [(1, 0), (0x1E98, 2)] else [(1, 0), (1, 1), (1, 2)]

/-- DOE_DISCOVERY (R93): the protocol at an index, and the next index, 0 after the last. -/
def execDoeDiscovery (head : Fin 2) (inst : Fin 2) (request : DoeRequest) (s : State) : Res :=
  .next (s.doeObject head inst request.bytes (fun s =>
    let l := doeProtocols inst
    match l[request.index]? with
    | some p => s.sendDoe head inst (.values [p.1, p.2, if request.index + 1 < l.length then request.index + 1 else 0])
    | none => s.sendDoe head inst (.values [0xFFFF, 0xFF, 0])))

/-- DOE_ABORT (R93): what the host has written of an object is dropped, and the instance is idle again, also after it has discarded an
object; its answer says whether it had (log entry 10). -/
def execDoeAbort (head : Fin 2) (inst : Fin 2) (bytes : Nat) (s : State) : Res :=
  .next (
    if s.ioUp head then
      let u := s.doeObject head inst bytes id
      (u.onHead head (fun hd => { hd with doeError := hd.doeError.modify inst (fun _ => false) })).send
        (.doe head inst (.values [if (u.heads.get head).doeError.get inst then 1 else 0]))
    else s)

/-! ## Die-to-die modules (R37, R293) -/

/-- Show the die-to-die modules on both dies. -/
def State.setD2d (s : State) (f : Field) (m : Nat) (on : Bool) : State :=
  (s.wrBit f 0 0 m on).wrBit f 1 0 m on

/-- A die-to-die module goes down (R293): Degraded; the loss of a pair moves all traffic to the other, with an event record, and in
single-head mode without modules 0 and 1 the port retrains to x8; with all four down each die pours. -/
def State.d2dDown (s : State) (m : Nat) (inputs : PourInputs) : State :=
  let s1 := ((s.setD2d Reg.LNK_D2D_STATUS.DOWN m true).setD2d Reg.LNK_D2D_STATUS.DEGRADED m false).settle
  let down := fun (k : Nat) => (s1.rd Reg.LNK_D2D_STATUS.DOWN 0 0).testBit k
  if down 0 && down 1 && down 2 && down 3 then
    match s.ctl.mode with
    | .m2 | .m3 | .m4 | .m5 | .m6 | .m7 => s1.pourBegin .pwrdis inputs
    | _ => s1
  else if down (m ^^^ 1) then
    let s2 := s1.event 2 .memoryModule .unitFailed [m / 2]
    if m < 2 ∧ s.dual = false ∧ (s.heads.get 0).linkUp ∧ s.rd Reg.LNK_STATUS.WIDTH 0 0 = 16 then
      s2.retrainHead 0 8 (s.rd Reg.LNK_STATUS.RATE 0 0)
    else s2
  else s1

/-- The die-to-die link runs in these modes. -/
def State.d2dUp (s : State) (m : Nat) : Bool :=
  s.ctl.mode.linkTrains && !((s.rd Reg.LNK_D2D_STATUS.DOWN 0 0).testBit m)

/-- D2D_LANE_FAIL (R37, R293): the first lane retrains the module at x8; at x8, or where the retrain fails, the module goes down. -/
def execD2dLaneFail (mod : Fin 4) (retrained : Bool) (inputs : PourInputs) (s : State) : Res :=
  .next (
    if !s.d2dUp mod then s
    else if retrained && !((s.rd Reg.LNK_D2D_STATUS.DEGRADED 0 0).testBit mod) then
      (s.setD2d Reg.LNK_D2D_STATUS.DEGRADED mod true).settle
    else s.d2dDown mod inputs)

/-- D2D_MODULE_DOWN (R293). -/
def execD2dModuleDown (mod : Fin 4) (inputs : PourInputs) (s : State) : Res :=
  .next (if s.d2dUp mod then s.d2dDown mod inputs else s)

/-- STRAP_CHANGE_WHILE_POWERED (R120, R493). -/
def execStrapChangeWhilePowered (sampled present : Nat) (s : State) : Res :=
  .next (if s.powered then s.log 3 0x403 [sampled, present] else s)

end Sys2Proof.Machine
end

