-- ==== Sys2Proof/Machine/Leaf.lean ====
section
/-! DEFINITION. The leaf protocol (R384 to R411): what refuses a leaf, the command queues with the leaves that
wait for a Quiesce to end, replies on each transport, and the platform manager's messages. -/

namespace Sys2Proof.Machine

/-- OK (R390). -/
def stOk : Nat := 0
/-- R390. -/
def stSuperseded : Nat := 1
/-- R390. -/
def stAccepted : Nat := 2
/-- R390. -/
def stBadCrc : Nat := 0x10
/-- R390. -/
def stLength : Nat := 0x11
/-- R390. -/
def stUnknown : Nat := 0x12
/-- R390. -/
def stInvalid : Nat := 0x13
/-- R390. -/
def stOwned : Nat := 0x14
/-- R390. -/
def stAccess : Nat := 0x15
/-- R390. -/
def stBusy : Nat := 0x16
/-- R390. -/
def stState : Nat := 0x17
/-- R390. -/
def stHalt : Nat := 0x18
/-- R390. -/
def stNotSecure : Nat := 0x19
/-- R390. -/
def stPassword : Nat := 0x1A
/-- R390. -/
def stNoEntropy : Nat := 0x1B
/-- R390. -/
def stSignature : Nat := 0x1C

/-- A transport whose leaves arrive in an SPDM secured session (R386). -/
def securedTransport (t : Nat) : Bool := t % 8 == 4 || t % 8 == 5 || t % 8 == 7

/-- The words of a leaf in a command queue (R388). -/
def leafWords (length : Nat) : Nat := (16 + length + 7) / 8

/-- A request that has been taken: what its reply repeats, where it runs, and whether a later-taken write of the same setting
replaces its value (R404). -/
structure Req where
  opcode : Nat
  transport : Nat
  tag : BitVec 16
  nocrc : Bool
  wide : Bool
  superseded : Bool
deriving DecidableEq, Repr

/-- The requester of a leaf: 0 and 1 the heads, 2 the platform manager. -/
def Req.who (r : Req) : Nat := requesterOf r.transport

/-- The request that a row and a header make; `wanted` says that its reply is not discarded. -/
def reqOf (row : LeafRow) (h : LeafHdr) (sup wanted : Bool) : Req :=
  ⟨row.opcode, if wanted then h.transport else h.transport + 8, h.tag, h.flags.getLsbD 1, row.wide, sup⟩

/-! ## Replies (R389, R393) -/

/-- The header of a leaf with its CRC field zero (R384, R387). -/
def leafHeader (opcode : Nat) (flags : BitVec 8) (transport : Nat) (tag : BitVec 16) (status length : Nat) : List (BitVec 8) :=
  leBytes 2 opcode ++ [flags, BitVec.ofNat 8 transport] ++ leBytes 2 tag.toNat ++ leBytes 2 status ++ leBytes 4 length ++
    leBytes 4 0

/-- A reply leaf (R385, R387, R389): a payload only with OK, SUPERSEDED and ACCEPTED. -/
def Req.leaf (r : Req) (status : Nat) (payload : List (BitVec 8)) : LeafReply :=
  let body := if status ≤ 2 then payload else []
  let flags : BitVec 8 := 1 ||| (if r.nocrc then 2 else 0) ||| (if securedTransport r.transport then 4 else 0)
  let crc := if r.nocrc then 0 else crc32c (leafHeader r.opcode flags r.transport r.tag status body.length ++ body)
  ⟨r.transport, r.opcode, flags, r.tag, status, body, BitVec.ofNat 32 crc⟩

/-- A mailbox command completes: vector 0 or 1 where the host asked for it at the doorbell (R98, R107). -/
def State.doorbell (s : State) (h : Nat) (secondary : Bool) : State :=
  if (s.heads.get h).dbInt.get (if secondary then 1 else 0) then s.msix h (if secondary then 1 else 0) else s

/-- The MCTP packets of a message of so many bytes (R393): of 64 bytes each, or of up to 252 where the bus owner has negotiated so; which
of the two is open (log entry 84). -/
def State.mctp (s : State) (bytes : Nat) : State :=
  let few := (bytes + 251) / 252
  (s.tally 0 368 (few + s.open? % ((bytes + 63) / 64 - few + 1))).draw

/-- What a status counts on the die that forms the reply (R411), and the source of R410. -/
def State.countStatus (s : State) (d status : Nat) : State :=
  if status = stBadCrc then (s.bump Reg.CQ_STAT_ERR.BAD_CRC d 0 1).raise (610 + d)
  else if status = stLength then (s.bump Reg.CQ_STAT_ERR.LENGTH d 0 1).raise (610 + d)
  else if status = stOwned then s.bump Reg.CQ_STAT_OWN.OWNED d 0 1
  else if status = stSuperseded then s.bump Reg.CQ_STAT_OWN.SUPERSEDED d 0 1
  else s

/-- Put a reply on its transport: in band while the head's link serves CXL.io (R409), with the vector of its mailbox or of DOE (R107); out
of band among the replies that the platform manager has yet to read (R393). -/
def State.sendReply (s : State) (x : LeafReply) : State :=
  let h := requesterOf x.transport
  if x.transport < 4 then if s.ioUp h then (s.send (.leaf x)).doorbell h (x.transport % 2 == 1) else s
  else if x.transport < 6 then
    if s.ioUp h && !(s.heads.get h).doeError.one then ((s.tally h 367 1).send (.leaf x)).msix h 6 else s
  else if x.transport < 8 then { s with pm := { s.pm with unread := s.pm.unread ++ [x] } }
  else s

/-- Reply to a request (R389, R404, R411): CQ_LAST, the counts, source 542 for a refused key or range leaf (R359), and the reply. -/
def State.reply (s : State) (r : Req) (status : Nat) (payload : List (BitVec 8)) : State :=
  let st := if status = stOk ∧ r.superseded then stSuperseded else status
  let d := (runsOn r.wide r.transport).1
  let s1 := (((s.wr Reg.CQ_LAST.OPCODE d 0 r.opcode).wr Reg.CQ_LAST.STATUS d 0 st).wr Reg.CQ_LAST.INPUT d 0
    (runsOn r.wide r.transport).2).wr Reg.CQ_LAST.TAG d 0 r.tag.toNat
  let s2 := s1.countStatus d st
  let s3 := if 0x0500 ≤ r.opcode ∧ r.opcode ≤ 0x0502 ∧ 2 < st then s2.raise 542 else s2
  (s3.tally d 365 1).sendReply (r.leaf st payload)

/-- Refuse a leaf. -/
def State.refuse (s : State) (r : Req) (status : Nat) : State := s.reply r status []

/-- Answer a leaf with OK and a payload. -/
def State.ok (s : State) (r : Req) (payload : List (BitVec 8)) : State := s.reply r stOk payload

/-! ## What refuses a leaf (R399, R405) -/

/-- A requester that owns the setting of a row (R403). -/
def State.owns (s : State) (o : Owner) (who : Nat) : Bool :=
  match o with
  | .any => true
  | .primaryPm => who == 2 || who == s.primary
  | .head => who < 2
  | .manager => who == 2

/-- The leaves of R345. -/
def LeafRow.inHalt (row : LeafRow) : Bool :=
  (!row.write && (row.opcode / 256 == 0 || row.opcode / 256 == 1 || row.opcode / 256 == 8)) || row.opcode == 0x0003 ||
    row.opcode == 0x0004

/-- The leaves that the supervisor answers itself in a Safe entered for a rail and in M11 (R446). -/
def State.supervisorServes (s : State) (op : Nat) : Bool :=
  op == 0x0000 || op == 0x0101 || op == 0x0602 || op == 0x0800 || (s.ctl.mode == .m9 && (op == 0x0302 || op == 0x0303))

/-- A mode in which a leaf runs (R405, R446). -/
def State.leafMode (s : State) (row : LeafRow) : Bool :=
  match s.ctl.mode with
  | .m5 | .m6 => true
  | .m9 =>
    if s.reg Reg.MOD_STATUS.SAFE_CAUSE = 3 then s.supervisorServes row.opcode
    else !row.write || [0x0600, 0x0601, 0x0700, 0x0302, 0x0303].contains row.opcode
  | .m11 => s.supervisorServes row.opcode
  | _ => !row.write || row.modes == .any

/-- A payload length that the table allows a row (R388). -/
def LeafRow.allows (row : LeafRow) (n : Nat) : Bool := row.lo ≤ n && n ≤ row.hi && (n - row.lo) % row.stride == 0

/-- The payload has the length that its own count of words, entries or bytes gives it in the table (R388): REG_WRITE's 8 + 8 × count,
TALLY_CONFIG's 4 + 16 × n and QST_WRITE's 16 + length. -/
def LeafRow.fits (row : LeafRow) (p : List (BitVec 8)) : Bool :=
  let count := fun off => leNat ((p.drop off).take 2)
  match row.opcode with
  | 0x0203 => p.length == 8 + 8 * count 4
  | 0x0802 => p.length == 16 + count 5
  | 0x0A01 => p.length == 4 + 16 * count 2
  | _ => true

/-- The status that the header and the mode give a leaf, 0 where nothing refuses it: first what the header alone settles, in the
order of R399, then the payload's length, its CRC over the header as the requester wrote it, the length its counts give, Sec, and the mode. -/
def State.leafGate (s : State) (row : LeafRow) (h : LeafHdr) (p : List (BitVec 8)) : Nat :=
  if !leafKnown row.opcode then stUnknown
  else if !row.allows h.length.toNat || ((h.transport == 4 || h.transport == 5) && h.length.toNat > 4096) then stLength
  else if h.flags &&& 0xF1 ≠ 0 || (h.transport ≥ 6 && h.flags.getLsbD 1) then stInvalid
  else if s.ctl.mode = .m10 ∧ row.inHalt = false then stHalt
  else if !s.owns row.owner (requesterOf h.transport) then stOwned
  else if h.length.toNat ≠ p.length then stLength
  else if !h.flags.getLsbD 1 && h.crc.toNat ≠ crc32c (leafHeader row.opcode h.flags 0 h.tag 0 h.length.toNat ++ p) then stBadCrc
  else if !row.fits p then stLength
  else if row.sec && !securedTransport h.transport then stNotSecure
  else if !s.leafMode row then stState
  else stOk

/-! ## Command queues (R395 to R402) -/

/-- The words of the leaves that wait in a die's command queue and its adapters for a Quiesce to end. -/
def State.heldWords (s : State) (d : Nat) : List Nat :=
  s.held.filterMap (fun x => match leafOf x.1 with
    | some (row, h, p) => if (runsOn row.wide h.transport).1 = d then some (leafWords p.length) else none
    | none => none)

/-- CQ_CMD.OCC: the words in a queue of 4,096; the rest wait in the adapters (R398). -/
def State.cqOcc (s : State) (d : Nat) : Nat := min 4096 (s.heldWords d).sum

/-- The whole leaves among the first n words. -/
def wholeLeaves : Nat → List Nat → Nat
  | _, [] => 0
  | n, w :: t => if w ≤ n then 1 + wholeLeaves (n - w) t else 0

/-- CQ_CMD.PACKETS (R396). -/
def State.cqPackets (s : State) (d : Nat) : Nat := wholeLeaves 4096 (s.heldWords d)

/-- The high watermark in force (R411). -/
def State.cqHigh (s : State) (d : Nat) : Nat := max 1 (s.rd Reg.CQ_WM.HIGH d 0)

/-- The low watermark in force (R411). -/
def State.cqLow (s : State) (d : Nat) : Nat :=
  let low := s.rd Reg.CQ_WM.LOW d 0
  if low ≥ s.cqHigh d then s.cqHigh d - 1 else low

/-- BUSY of a die's command direction (R400): set at HIGH, clear at or below LOW. -/
def State.cqBusy (s : State) (d : Nat) : Bool := s.rd Reg.CQ_CMD.BUSY d 0 == 1 && s.cqOcc d > s.cqLow d

/-- BUSY after the occupancy has changed (R400, R410). -/
def State.showBusy (s : State) (d : Nat) : State :=
  if s.cqBusy d then s
  else if s.cqOcc d ≥ s.cqHigh d then (s.wr Reg.CQ_CMD.BUSY d 0 1).raise (608 + d)
  else s.wr Reg.CQ_CMD.BUSY d 0 0

/-- The platform manager's requests that the module holds (R393). -/
def State.heldFromPm (s : State) : Nat :=
  (s.held.filter (fun x => match leafOf x.1 with | some (_, h, _) => requesterOf h.transport == 2 | none => false)).length

/-- A die's merge stage takes a leaf (R402, R411). -/
def State.countTaken (s : State) (d i : Nat) : State :=
  (((s.tally d 364 1).bump Reg.CQ_STAT_LEAVES.COUNT d 0 1).bump Reg.CQ_INPUT.LEAVES d i 1).wr Reg.CQ_RR.NEXT d 0
    ((i + 1) % (if d = 0 then 5 else 3))

/-- The statuses that a header alone settles (R399). -/
def headSettles (row : LeafRow) (h : LeafHdr) (st : Nat) : Bool :=
  st == stUnknown || st == stInvalid || st == stHalt || st == stOwned || (st == stLength && !row.allows h.length.toNat)

/-- The words of a leaf that its engine has not read when it settles the reply: those behind the header, or behind LENGTH bytes. -/
def wordsLeft (row : LeafRow) (h : LeafHdr) (st bytes : Nat) : Nat :=
  leafWords bytes - (if headSettles row h st then 2 else leafWords h.length.toNat)

/-- An engine drops the rest of a leaf it refuses (R399, R411): counted where words of it are left, which the queue then discards
(`execCqDrop`). -/
def State.dropRest (s : State) (row : LeafRow) (h : LeafHdr) (st bytes : Nat) : State :=
  let d := (runsOn row.wide h.transport).1
  if wordsLeft row h st bytes = 0 then s.wr Reg.CQ_CMD.DROPPING d 0 0
  else (s.bump Reg.CQ_STAT_ERR.DROPS d 0 1).wr Reg.CQ_CMD.DROPPING d 0 1

/-- Run a leaf that has been taken: refuse it or give it its effect. -/
def State.runLeaf (s : State) (row : LeafRow) (h : LeafHdr) (p : List (BitVec 8)) (sup wanted : Bool)
    (body : Req → State → State) : State :=
  let st := s.leafGate row h p
  if st = stOk then body (reqOf row h sup wanted) s
  else (s.dropRest row h st p.length).refuse (reqOf row h sup wanted) st

/-- Count a mailbox command, and answer 0xCF00 with a return code (R391). -/
def State.mailLeaf (s : State) (t rc : Nat) : State :=
  (s.send (.mailbox (t / 2) (t % 2 == 1) 0xCF00 rc (.bytes []))).doorbell (t / 2) (t % 2 == 1)

/-- Mailbox return code Success (log entry 10). -/
def rcSuccess : Nat := 0
/-- Mailbox return code Background Command Started (log entry 10). -/
def rcBackground : Nat := 1
/-- Mailbox return code Invalid Input (log entry 10). -/
def rcInvalid : Nat := 2
/-- Mailbox return code Unsupported (log entry 10). -/
def rcUnsupported : Nat := 3
/-- Mailbox return code Internal Error (log entry 10). -/
def rcInternal : Nat := 4
/-- Mailbox return code Busy (log entry 10). -/
def rcBusy : Nat := 6

/-- A packet that the module cannot hold is refused with a NACK (R393, R411). -/
def State.nackPacket (s : State) : State := (s.send .nack).bump Reg.CQ_INPUT.BUSY_REFUSED 0 3 1

/-- The session that a secured leaf arrives in (R392, R393). -/
def State.leafSession (s : State) (t : Nat) : Bool :=
  s.sec.sessions.any (fun x => x.transport == (if t = 7 then 2 else t - 4))

/-- MCTP can hold no further message (R393): 8 requests are held with the replies that wait to be read, or FLOW_HI# is asserted and a
leaf fills the assembly buffer behind the queue (log entry 84). -/
def State.mctpFull (s : State) : Bool :=
  s.heldFromPm + s.pm.unread.length ≥ 8 || (s.cqBusy 0 && (s.heldWords 0).sum > 4096)

/-- A leaf arrives at its transport's adapter (R391 to R393): the state after it, and whether the adapter presents it to the merge
stage. On a link that serves no CXL.io, and outside a secured session where it needs one, it does not arrive. -/
def State.adapter (s : State) (row : LeafRow) (h : LeafHdr) (p : List (BitVec 8)) : State × Bool :=
  let t := h.transport.val
  let head := requesterOf t
  if s.ctl.mode = .m0 then (s, false)
  else if t < 4 then
    let s1 := s.tally head 366 1
    if !s.ioUp head then (s, false)
    else if h.length.toNat ≠ p.length then (s1.mailLeaf t rcInvalid, false)
    else if row.write ∧ t % 2 = 1 then (s1.mailLeaf t rcUnsupported, false)
    else if s.cqBusy (cqInput t).1 then
      ((s1.mailLeaf t rcBusy).bump Reg.CQ_INPUT.BUSY_REFUSED (cqInput t).1 (cqInput t).2 1, false)
    else (s1, true)
  else if t < 6 then
    (s.doeObject head 1 (16 + p.length) id, s.ioUp head && !(s.heads.get head).doeError.one && 16 + p.length ≤ doeLimit && s.leafSession t)
  else
    let s1 := s.mctp (19 + p.length)
    if t = 7 ∧ s.leafSession t = false then (s1, false)
    else if s.mctpFull then (s1.nackPacket, false)
    else (s1, true)

/-! ## Writes that replace one another (R404) -/

/-- The settings a leaf writes, as numbers: the grant, the wall clock, locate, register words by BAR2 offset, the password and the pages
of a zone, and the state of a unit. -/
def settingsOf : Instr → List Nat
  | .setWindowGrant _ _ => [1]
  | .setWallClock _ _ => [2]
  | .locate _ _ => [3]
  | .regWrite _ p => (List.range (leNat ((p.drop 4).take 2))).map (fun k => 16 + leNat (p.take 4) / 8 + k)
  | .tallyConfig _ p => (List.range (leNat ((p.drop 2).take 2))).map (fun k =>
      16 + (0x800000 + 0x400000 * leNat (p.take 1) + 0x110000 + leNat ((p.drop (4 + 16 * k)).take 4)) / 8)
  | .tallySample _ p => [16 + (0x800000 + 0x400000 * leNat (p.take 1) + 0x110028) / 8]
  | .qstPassword _ p => [2 ^ 32 + 2 * leNat (p.take 1) + leNat ((p.drop 1).take 1)]
  | .qstWrite _ p => [2 ^ 33 + 65536 * leNat (p.take 1) + leNat ((p.drop 2).take 2)]
  | .unitOut _ p | .unitReturn _ p _ => [2 ^ 34 + 65536 * leNat (p.take 1) + leNat ((p.drop 2).take 2)]
  | _ => []

/-- A later leaf replaces a value that this one writes: another requester's, lawful, and of the same setting (R404). -/
def State.replaces (s : State) (who : Nat) (keys : List Nat) (i : Instr) : Bool :=
  match leafOf i with
  | some (row, h, p) =>
    requesterOf h.transport != who && s.leafGate row h p == stOk && (settingsOf i).any (fun k => keys.contains k)
  | none => false

/-! ## Commands of the protocol itself -/

/-- EVENT_NOTIFY (R394): the sources asserted since the last notification go into the one notification that may stand unread; while
one stands unread they are ORed into it. -/
def execEventNotify (s : State) : Res :=
  .next (
    if !s.powered || s.pm.pending == 0 then s
    else
      let b := match s.pm.notice with | some x => x ||| s.pm.pending | none => s.pm.pending
      { s with pm := { s.pm with notice := some b, pending := 0 } })

/-- MCTP_REPLY_READ (R393, R394, R530): the platform manager has read the notification, or its oldest unread reply. -/
def execMctpReplyRead (notification : Bool) (s : State) : Res :=
  .next (
    if notification then
      match s.pm.notice with
      | some b => (({ s with pm := { s.pm with notice := none } }).mctp 99).send (.notify b)
      | none => s
    else
      match s.pm.unread with
      | [] => s
      | x :: t => (({ s with pm := { s.pm with unread := t } }).mctp (19 + x.payload.length)).send (.leaf x))

/-- MCTP_REPLY_DISCARD (R393): the oldest reply, unread for 1 s, is discarded and counted. -/
def execMctpReplyDiscard (s : State) : Res :=
  .next (
    match s.pm.unread with
    | [] => s
    | _ :: t => ({ s with pm := { s.pm with unread := t } }).bump Reg.CQ_STAT_ERR.REPLY_DISCARDED 0 0 1)

/-- I3C_DYNAMIC_ADDRESS_ASSIGNMENT (R393): the endpoint runs over I3C under a dynamic address, or over SMBus without one. -/
def execI3cDynamicAddressAssignment (address : Option (Fin 128)) (s : State) : Res :=
  .next (if s.powered then { s with pm := { s.pm with address := address.map Fin.val } } else s)

/-- CQ_DROP (R399): the queue has discarded the rest of a leaf that an engine dropped; or an engine drops the rest, of so many words, of
the leaf it reads, counted on its die. The words of a leaf that is refused reach no state (log entry 11). -/
def execCqDrop (die : Fin 2) (words : Nat) (s : State) : Res :=
  .next (
    if !(s.running || s.ctl.mode = .m9 || s.ctl.mode = .m10) then s
    else if s.rd Reg.CQ_CMD.DROPPING die 0 = 1 then s.wr Reg.CQ_CMD.DROPPING die 0 0
    else if words = 0 then s else s.bump Reg.CQ_STAT_ERR.DROPS die 0 1)

end Sys2Proof.Machine
end

