-- ==== Sys2Proof/Machine/Service.lean ====
section
/-! DEFINITION. The leaves of status, units, grants, power and the platform manager's events (R288 to R292, R403, R407, R408,
R415, R416, R426, R473, R495, R521). -/

namespace Sys2Proof.Machine

/-! ## Payload fields -/

/-- The number in n bytes of a payload from an offset, least significant first. -/
def fieldAt (p : List (BitVec 8)) (off n : Nat) : Nat := leNat ((p.drop off).take n)

/-- A span of a payload that must be zero holds another value (R407). -/
def notZero (p : List (BitVec 8)) (off n : Nat) : Bool := fieldAt p off n != 0

/-- Bytes of a reply extended with zeros to a length. -/
def padTo (n : Nat) (b : List (BitVec 8)) : List (BitVec 8) := b ++ List.replicate (n - b.length) 0

/-- A flag as a number. -/
def bnat (b : Bool) : Nat := if b then 1 else 0

/-! ## Status (R408) -/

/-- The ordering code of R408 in ASCII. -/
def orderingCode : List (BitVec 8) :=
  [0x48, 0x44, 0x4C, 0x2D, 0x48, 0x31, 0x32, 0x2D, 0x45, 0x33, 0x4C, 0, 0, 0, 0, 0]

/-- The IDENTIFY reply to a requester. -/
def State.identity (s : State) (who : Nat) : List (BitVec 8) :=
  padTo 64 (leBytes 8 (s.reg Reg.LNK_SERIAL.SERIAL) ++ leBytes 1 (s.reg Reg.LNK_REVISION.BOARD_REV) ++
    leBytes 1 (s.reg Reg.LNK_REVISION.ZORSA_STEP) ++ leBytes 2 (s.reg Reg.LNK_REVISION.FW_VERSION) ++ orderingCode ++
    leBytes 4 49152 ++ leBytes 1 (bnat s.dual + 2 * bnat (who == s.primary) + 4 * who) ++ leBytes 1 1 ++ leBytes 1 64)

/-- IDENTIFY. -/
def leafIdentify (r : Req) (s : State) : State := s.ok r (s.identity r.who)

/-- The GET_STATUS reply. -/
def State.statusReply (s : State) : List (BitVec 8) :=
  padTo 48 (leBytes 1 s.ctl.mode.num ++
    leBytes 1 (bnat s.ctl.degraded + 2 * bnat s.ctl.writeThrough + 4 * bnat s.ctl.readOnly + 8 * bnat (s.ctl.mode == .m10)) ++
    leBytes 1 (s.reg Reg.MOD_STATUS.DOZE) ++ leBytes 1 (s.reg Reg.LNK_DIRTY_BUDGET.GIB) ++ leBytes 6 s.ms ++ leBytes 2 0 ++
    leBytes 4 (s.reg Reg.LNK_POWER_CYCLES.COUNT) ++ leBytes 4 180 ++ leBytes 4 3000 ++ leBytes 4 60000 ++ leBytes 4 200 ++
    leBytes 4 6000 ++ leBytes 4 12000 ++ leBytes 2 150 ++ leBytes 1 16 ++ leBytes 1 (s.reg Reg.THM_STATUS.FAN_LEVEL))

/-- GET_STATUS. -/
def leafGetStatus (r : Req) (s : State) : State := s.ok r s.statusReply

/-- GET_POWER. -/
def leafGetPower (r : Req) (s : State) : State :=
  s.ok r (leBytes 1 s.ctl.mode.num ++ leBytes 1 (s.reg Reg.MOD_STATUS.DOZE) ++ leBytes 2 0 ++
    leBytes 4 (s.rd Reg.MOD_LATENCY.US 0 0) ++ leBytes 4 (s.rd Reg.MOD_LATENCY.US 0 1) ++ leBytes 4 (s.reg Reg.PWR_INPUT.MW))

/-- SET_LATENCY_TOLERANCE. -/
def leafSetLatencyTolerance (p : List Byte) (r : Req) (s : State) : State :=
  let s1 := ((s.wr Reg.MOD_LATENCY.US 0 r.who (fieldAt p 0 4)).wr Reg.MOD_LATENCY.SET 0 r.who 1).showTolerance
  s1.ok r (leBytes 4 s1.tolerance)

/-! ## Wall clock, event mask and window grant -/

/-- Set the wall-clock stamp, with its record of class 0x402 (R493, R495). -/
def State.setWall (s : State) (ms who : Nat) : State :=
  let old := s.wallMs.getD 0
  ({ s with ream := { s.ream with wall := some (ms, s.ms) } }).log 4 0x402 [old, ms, who]

/-- SET_WALL_CLOCK. -/
def leafSetWallClock (p : List Byte) (r : Req) (s : State) : State := (s.setWall (fieldAt p 0 8) r.who).ok r []

/-- SET_EVENT_MASK. -/
def leafSetEventMask (p : List Byte) (r : Req) (s : State) : State :=
  let m := BitVec.ofNat 640 (leNat p)
  ({ s with pm := { s.pm with mask := m, pending := s.pm.pending &&& m } }).ok r []

/-- The bytes of the grant in force. -/
def State.grantBytes (s : State) : List (BitVec 8) :=
  padTo 8 (leBytes 1 (s.rd Reg.LNK_BAR2_GRANT.READ_EN s.primary 0) ++ leBytes 1 (s.rd Reg.LNK_BAR2_GRANT.WRITE_EN s.primary 0))

/-- SET_WINDOW_GRANT. -/
def leafSetWindowGrant (p : List Byte) (r : Req) (s : State) : State :=
  let rd := fieldAt p 0 1
  let wr := fieldAt p 1 1
  if rd ≥ 128 ∨ wr ≥ 128 ∨ wr &&& rd ≠ wr ∨ notZero p 2 6 then s.refuse r stInvalid
  else ((s.wr Reg.LNK_BAR2_GRANT.READ_EN s.primary 0 rd).wr Reg.LNK_BAR2_GRANT.WRITE_EN s.primary 0 wr).ok r []

/-- GET_WINDOW_GRANT. -/
def leafGetWindowGrant (r : Req) (s : State) : State := s.ok r s.grantBytes

/-! ## Power requests and warm reset (R415, R416, R418) -/

/-- Write every dirty block and staging entry to media, and every held journal page (R415 step 2, R419 steps 2 and 3). -/
def State.flush (s : State) : State :=
  let s1 := s.dirtyQuires.foldl (fun s q => s.completeQuire [] q) s
  let qs := s1.dirtyQuires.filter (fun q => (s1.newest q).valid == BitVec.allOnes 16 && !(s1.chanLost (chanOf q)))
  ((s1.writeQuires 0 qs).cleaned qs).programJournal.writeBack

/-- A clean shutdown (R415): the dirty data, the journal, the pages of the Ream (R496), the operating time (R507) and the final root
slots are written, and the module powers down with the LPDDR5X in self-refresh while P12V_IN is present. -/
def State.cleanShutdown (s : State) : State :=
  let s2 := s.stopRun.flush.programLog.slotWrite 0 s.ms
  let s3 := ((s2.rootSlots 1).setReg Reg.MOD_REQUEST.OFF_STANDING 1).setReg Reg.MOD_STATUS.DOZE 0
  ({ s3.selfRefresh true with ctl := { (s3.selfRefresh true).ctl with retained := s3.ctl.p12 } }).toStandby

/-- The ladder's counts clear (R423). -/
def State.clearLadder (s : State) : State := (s.setReg Reg.MOD_LADDER.WARM_FAILS 0).setReg Reg.MOD_LADDER.COLD_FAILS 0

/-- POWER_REQUEST off (R415, R423). -/
def State.requestOff (s : State) (r : Req) : State :=
  match s.ctl.mode with
  | .m2 | .m3 | .m4 | .m5 | .m6 => (s.ok r []).cleanShutdown
  | .m9 => (((s.ok r []).clearLadder).setReg Reg.MOD_REQUEST.OFF_STANDING 1).toStandby
  | .m1 => (s.ok r []).setReg Reg.MOD_REQUEST.OFF_STANDING 1
  | _ => s.refuse r stState

/-- POWER_REQUEST on (R416, R423). In M1 it also clears what a removal left (R540). -/
def State.requestOn (s : State) (r : Req) : State :=
  match s.ctl.mode with
  | .m1 =>
    if s.ctl.p12 ∧ s.reg Reg.PIN_LEVEL.PWRDIS = 0 then ((s.ok r []).setReg Reg.MOD_REQUEST.OFF_STANDING 0).beginStart
    else s.refuse r stState
  | .m8 => if s.reg Reg.POUR_STATUS.CAUSE = 3 then s.ok r [] else (s.ok r []).setReg Reg.MOD_REQUEST.ON_PENDING 1
  | .m9 => ((s.ok r []).clearLadder).beginCold
  | .m10 | .m11 => s.refuse r stState
  | _ => s.ok r []

/-- POWER_REQUEST (R407). -/
def leafPowerRequest (p : List Byte) (r : Req) (s : State) : State :=
  match fieldAt p 0 4 with
  | 0 => s.requestOff r
  | 1 => s.requestOn r
  | _ => s.refuse r stInvalid

/-- The WARM_RESET leaf. -/
def leafWarmReset (r : Req) (s : State) : State :=
  match s.ctl.mode with
  | .m1 | .m10 | .m11 => s.refuse r stState
  | .m9 => ((s.ok r []).clearLadder).beginCold
  | _ => (s.ok r []).askWarm false

/-! ## Units (R288 to R292, R407, R473, R521) -/

/-- A unit of GET_UNIT that exists. -/
def unitExists (type i : Nat) : Bool :=
  match type with | 0 => i < 320 | 1 => i < 48 | 2 => i < 4 | 3 => i < 4 | 4 => i < 8 | _ => false

/-- The state and cause of a unit, as its registers show them (R407). A die's cause is that of its failure; a die-to-die module
shows 0 at full width, 1 degraded and 2 down (log entry 10). -/
def State.unitState (s : State) (type i : Nat) : Nat × Nat :=
  match type with
  | 0 => (s.rdM Reg.MED_DIE.ROLE i, (s.media.health.get DieHealth.good i).cause)
  | 1 => (s.rdE Reg.ENG_STATE.STATE i, s.rdE Reg.ENG_STATE.CAUSE i)
  | 2 => (s.rdP Reg.DMC_PKG.STATE i, s.rdP Reg.DMC_PKG.CAUSE i)
  | 3 => (if (s.rd Reg.LNK_D2D_STATUS.DOWN 0 0).testBit i then 2 else bnat ((s.rd Reg.LNK_D2D_STATUS.DEGRADED 0 0).testBit i), 0)
  | _ => (s.rd Reg.POUR_SUBBANK.ISOLATED 0 i, s.rd Reg.POUR_SUBBANK.CAUSE 0 i)

/-- The reply of GET_UNIT. -/
def State.unitBytes (s : State) (type i : Nat) : List (BitVec 8) :=
  padTo 8 (leBytes 1 (s.unitState type i).1 ++ leBytes 1 (s.unitState type i).2)

/-- GET_UNIT. -/
def leafGetUnit (p : List Byte) (r : Req) (s : State) : State :=
  if notZero p 1 1 || !unitExists (fieldAt p 0 1) (fieldAt p 2 2) then s.refuse r stInvalid
  else s.ok r (s.unitBytes (fieldAt p 0 1) (fieldAt p 2 2))

/-- Take a unit out of service (R288): none where the rule refuses it. A unit that is already out stays as it is. -/
def State.unitOut (s : State) (type i : Nat) (force : Bool) : Option State :=
  match type with
  | 0 =>
    let c := i / 10
    let t := s.dieFailed i 6
    if s.chanState c ≠ 4 ∧ t.chanState c = 4 then none
    else if s.chanState c ≠ 2 ∧ t.chanState c = 2 ∧ force = false then none
    else some t
  | 1 => if s.rdE Reg.ENG_STATE.STATE i = 3 then some s else if s.lastHolder i then none else some (s.engineFailed i 6)
  | _ => if s.pkgState (i ^^^ 1) = 1 then none else some (s.packageLost i 5)

/-- UNIT_OUT. -/
def leafUnitOut (p : List Byte) (r : Req) (s : State) : State :=
  let type := fieldAt p 0 1
  let i := fieldAt p 2 2
  if type > 2 || fieldAt p 1 1 > 1 || !unitExists type i then s.refuse r stInvalid
  else match s.unitOut type i (fieldAt p 1 1 == 1) with
    | none => s.refuse r stState
    | some t => t.ok r (t.unitBytes type i)

/-- Return a unit whose slice, or for a package the test of R250, has passed (R289 to R292, R473, R220). -/
def State.unitReturn (s : State) (type i : Nat) : State :=
  match type with
  | 0 => if s.mayReturn i then s.dieReturns i else s
  | 1 => if s.rdE Reg.ENG_STATE.STATE i = 3 then s.engineReturns i else s
  | _ =>
    if s.pkgState i = 1 then
      ((((s.wrP Reg.DMC_PKG.STATE i 3).showPackages (i / 2)).showLimits).settle).askQuiesce (.readmit i)
    else s

/-- UNIT_RETURN. During a self-test run it waits for the run to end (R524). -/
def leafUnitReturn (h : LeafHdr) (p : List Byte) (pass : Bool) (r : Req) (s : State) : State :=
  let type := fieldAt p 0 1
  let i := fieldAt p 2 2
  if type > 2 || notZero p 1 1 || !unitExists type i then s.refuse r stInvalid
  else if s.runningTest.isSome then { s with held := s.held ++ [(Instr.unitReturn h p pass, decide (r.transport < 8))] }
  else
    let t := if pass then s.unitReturn type i else s
    t.ok r (t.unitBytes type i)

end Sys2Proof.Machine
end

