-- ==== Sys2Proof/Machine/Keys.lean ====
section
/-! DEFINITION. Key slots and ranges (R346 to R350, R360): effective slots, slot sweeps, the destroy of a slot, and the key leaves. -/

namespace Sys2Proof.Machine

/-! ## Slots and ranges -/

/-- The state of a key slot (R346): 0 EMPTY, 1 ACTIVE, 2 ERASING. -/
def State.slotState (s : State) (k : Nat) : Nat := s.rd Reg.SEC_SLOT.STATE 0 k

/-- Write the record of a slot (R346): its page, and one more write. -/
def State.slotRecord (s : State) (k : Nat) : State :=
  ({ s with sec := { s.sec with counts := s.sec.counts.put 0 k (s.sec.counts.get 0 k + 1) } }).pageCommit (3328 + k / 4)

/-- Set the state, owner and flags of a slot. -/
def State.setSlot (s : State) (k st owner : Nat) (shared gen : Bool) : State :=
  ((((s.wr Reg.SEC_SLOT.STATE 0 k st).wr Reg.SEC_SLOT.OWNER 0 k owner).wr Reg.SEC_SLOT.SHARED 0 k (bnat shared)).wr
    Reg.SEC_SLOT.GENERATED 0 k (bnat gen)).slotRecord k

/-- Give a slot its seed. -/
def State.setSeed (s : State) (k seed : Nat) : State := { s with sec := { s.sec with seeds := s.sec.seeds.put 0 k seed } }

/-- Create slot 0 (R346): owned by the module, with a generated seed. -/
def State.newSlot0 (s : State) : State := ((s.setSeed 0 s.open?).draw).setSlot 0 1 3 false true

/-- Range register i (64·head + range) is enabled. -/
def State.rangeOn (s : State) (i : Nat) : Bool := s.rd Reg.SEC_RANGE.ENABLE 0 i == 1

/-- Range register i covers a unit of 256 MiB. -/
def State.rangeCovers (s : State) (i u : Nat) : Bool :=
  s.rangeOn i && s.rd Reg.SEC_RANGE.BASE 0 i ≤ u && u < s.rd Reg.SEC_RANGE.BASE 0 i + s.rd Reg.SEC_RANGE.SIZE 0 i

/-- The slot that the range registers give a unit of 256 MiB (R348). A slot being erased has given its regions up to slot 0, as far
as its sweeps have passed (R350). -/
def State.unitSlot (s : State) (u : Nat) : Nat :=
  match (List.range 128).find? (fun i => s.rangeCovers i u) with
  | none => 0
  | some i => if s.slotState (s.rd Reg.SEC_RANGE.SLOT 0 i) = 2 then 0 else s.rd Reg.SEC_RANGE.SLOT 0 i

/-- The quires of 256 MiB. -/
def unitQuires : Nat := 262144

/-- The effective slot of a quire (R348, R349): the old slot ahead of a sweep, the new one behind it. -/
def State.effSlot (s : State) (q : Nat) : Nat :=
  match s.mapping.walks.find? (fun w => (match w.kind with | .sweep _ _ _ => true | _ => false) && w.waits q) with
  | some w => match w.kind with | .sweep old _ _ => old | _ => 0
  | none => s.unitSlot (q / unitQuires)

/-- Insert a number into a rising list without repeats. -/
def insertNat (n : Nat) : List Nat → List Nat
  | [] => [n]
  | a :: t => if n < a then n :: a :: t else if n = a then a :: t else a :: insertNat n t

/-- The units at which the effective slot may change: the ends of the enabled ranges, and of the space. -/
def State.slotBounds (s : State) : List Nat :=
  (List.range 128).foldl (fun l i =>
    if s.rangeOn i then
      insertNat (min 49152 (s.rd Reg.SEC_RANGE.BASE 0 i))
        (insertNat (min 49152 (s.rd Reg.SEC_RANGE.BASE 0 i + s.rd Reg.SEC_RANGE.SIZE 0 i)) l)
    else l) [0, 49152]

/-- The spans between bounds that differ between two slot maps, with the old and the new slot; neighbours with one pair are one
region. -/
def slotChanges (before after : Nat → Nat) : List Nat → List (Nat × Nat × Nat × Nat)
  | a :: b :: t =>
    let rest := slotChanges before after (b :: t)
    let o := before a
    let n := after a
    if o = n then rest
    else match rest with
      | (lo, hi, o', n') :: r => if lo = b ∧ o' = o ∧ n' = n then (a, hi, o, n) :: r else (a, b, o, n) :: rest
      | [] => [(a, b, o, n)]
  | _ => []

/-! ## ZERO and POISON records (R173) -/

/-- The within-channel indices of the quires lo … hi − 1 of a channel: the first, and how many. -/
def chanSpan (c lo hi : Nat) : Nat × Nat :=
  let first := if quireAt c (lo / 32) ≥ lo then lo / 32 else lo / 32 + 1
  let last := if hi = 0 then 0 else if quireAt c ((hi - 1) / 32) < hi then (hi - 1) / 32 + 1 else (hi - 1) / 32
  (first, last - first)

/-- The channels that a range of quires touches. -/
def chansIn (lo hi : Nat) : List Nat := (List.range 32).filter (fun c => (chanSpan c lo hi).2 != 0)

/-- Journal one record per channel that a range of quires touches; each takes a write sequence (R173). -/
def State.walkRecords (s : State) (lo hi : Nat) (mk : Nat → Nat → Nat → JBody) : State :=
  (chansIn lo hi).foldl (fun s c =>
    (s.journalC c (mk (chanSpan c lo hi).1 (chanSpan c lo hi).2 (s.seqOf c))).takeSeq c) s

/-- Begin a walk over quires: its records, with the write sequences they take, and the walk itself (R102, R163, R173, R349, R367). -/
def State.beginWalk (s : State) (k : WalkKind) (lo hi : Nat) (mk : Nat → Nat → Nat → JBody) : State :=
  let w : Walk := ⟨k, lo, hi, lo, [], (chansIn lo hi).map (fun c => (c, s.seqOf c))⟩
  let s1 := s.walkRecords lo hi mk
  { s1 with mapping := { s1.mapping with walks := s1.mapping.walks ++ [w] } }

/-! ## Slot sweeps (R349) -/

/-- A sweep to or from a slot runs. -/
def State.sweeping (s : State) (k : Nat) : Bool :=
  s.mapping.walks.any (fun w => match w.kind with | .sweep old new _ => old == k || new == k | _ => false)

/-- A sweep runs. -/
def State.anySweep (s : State) : Bool := s.mapping.walks.any (fun w => match w.kind with | .sweep _ _ _ => true | _ => false)

/-- Sweep a region: its record, one ZERO record per channel, and the walk (R349, R367). -/
def State.startSweep (s : State) (reason : Nat) (p : Nat × Nat × Nat × Nat) : State :=
  let lo := p.1 * unitQuires
  let hi := p.2.1 * unitQuires
  (s.pageCommit 5040).beginWalk (.sweep p.2.2.1 p.2.2.2 reason) lo hi .zero

/-! ## Destroying a slot (R350) -/

/-- The request that a destroy answers. -/
def Destroy.req (d : Destroy) : Req := ⟨d.opcode, d.transport, d.tag, d.nocrc, true, false⟩

/-- A bulk operation ends with a result (R365, R376): its slot keeps it until a new operation needs the slot. -/
def State.endBulk (s : State) (k result : Nat) : State :=
  let last := (s.bulk.map BulkOp.order).foldl max 0
  ({ s with bulk := s.bulk.modify k (fun b => { b with state := .ended, result := result, order := last + 1 }) }).raise 614

/-- Disable every range that names a slot (R350 step 3). -/
def State.disableRanges (s : State) (which : Nat → Bool) : State :=
  ((List.range 128).foldl (fun s i =>
    if s.rangeOn i && which (s.rd Reg.SEC_RANGE.SLOT 0 i) then s.wr Reg.SEC_RANGE.ENABLE 0 i 0 else s) s).pageCommit 5040

/-- Steps 3 and 4: ranges disabled, the record EMPTY, source 540 and the reply that a leaf waits for. Slot 0 is created anew. -/
def State.destroyEnd (s : State) (k : Nat) : State :=
  let s1 := (((s.disableRanges (· == k)).setSeed k 0).setSlot k 0 0 false false).raise 540
  let s2 := if k = 0 then s1.newSlot0 else s1
  match s2.sec.destroys.find? (fun d => d.slot == k) with
  | none => s2
  | some d =>
    let s3 : State := { s2 with sec := { s2.sec with destroys := s2.sec.destroys.filter (fun x => x.slot != k) } }
    match d.bulk with
    | none => s3.ok d.req []
    | some b => ((s3.endBulk b 1)).ok d.req (leBytes 2 ((s.bulk[b]?.getD BulkOp.free).handle))

/-- The regions whose effective slot is a slot (R350 step 2). -/
def State.slotRegions (s : State) (k : Nat) : List (Nat × Nat × Nat × Nat) :=
  slotChanges (fun u => if s.unitSlot u = k then k + 1 else 0) (fun _ => 0) s.slotBounds |>.map (fun p => (p.1, p.2.1, k, 0))

/-- Steps 1 and 2 (R350): the record ERASING, and a sweep of each of the slot's regions to slot 0. -/
def State.destroyBegin (s : State) (k : Nat) : State :=
  let rs := s.slotRegions k
  let s1 := (s.wr Reg.SEC_SLOT.STATE 0 k 2).slotRecord k
  if rs.isEmpty then s1.destroyEnd k else rs.foldl (fun s p => s.startSweep (128 + k) p) s1

/-- Destroys that waited for a sweep to or from their slot run once it has ended (R360). -/
def State.destroyWaiting (s : State) : State :=
  s.sec.destroys.foldl (fun s d =>
    let mayBegin := match d.bulk with | none => true | some k => (s.bulk[k]?.getD BulkOp.free).state == .running
    if s.slotState d.slot = 1 ∧ s.sweeping d.slot = false ∧ mayBegin = true then s.destroyBegin d.slot else s) s

/-- Take a destroy: at once, or after the sweep that runs to or from the slot. -/
def State.destroySlot (s : State) (d : Destroy) : State :=
  let s1 : State := { s with sec := { s.sec with destroys := s.sec.destroys ++ [d] } }
  if s.sweeping d.slot then s1 else s1.destroyBegin d.slot

/-- A destroy of a slot is under way or waits. -/
def State.destroying (s : State) (k : Nat) : Bool := s.slotState k == 2 || s.sec.destroys.any (fun d => d.slot == k)

/-- A sweep has ended (R349): its record is cleared and source 541 raised; a destroy goes on, and what waited for it runs. -/
def State.sweepEnd (s : State) (reason : Nat) : State :=
  let more := s.mapping.walks.any (fun w => match w.kind with | .sweep _ _ r => r == reason | _ => false)
  let s1 := (s.pageCommit 5040).raise 541
  let s2 := if reason < 128 then (if more then s1 else s1.wr Reg.SEC_RANGE.SWEEPING 0 reason 0)
    else if more then s1 else s1.destroyEnd (reason - 128)
  s2.destroyWaiting.nextQuiesce

/-- Destroy every slot at once (R350): a new key-store nonce, every range disabled with its base, size and slot kept, and a new
slot 0. The sweeps that ran end; a destroy that waited has its effect, and its reply. -/
def State.destroyAll (s : State) : State :=
  let owed := s.sec.destroys
  let slots := (List.range 4096).filter (fun k => s.slotState k != 0)
  let s1 : State := { s.draw with
    sec := { s.sec with nonce := s.open?, seeds := [], destroys := [] }
    mapping := { s.mapping with walks := s.mapping.walks.filter (fun w => match w.kind with | .sweep _ _ _ => false | _ => true) } }
  let s2 := slots.foldl (fun s k =>
    (((s.wr Reg.SEC_SLOT.STATE 0 k 0).wr Reg.SEC_SLOT.OWNER 0 k 0).wr Reg.SEC_SLOT.SHARED 0 k 0).wr Reg.SEC_SLOT.GENERATED 0 k 0)
    (s1.pageCommit 5048)
  let s3 := (List.range 128).foldl (fun s i => s.wr Reg.SEC_RANGE.SWEEPING 0 i 0) (s2.disableRanges (fun _ => true))
  let s4 := s3.newSlot0.raise 540
  owed.foldl (fun s d =>
    match d.bulk with
    | none => s.ok d.req []
    | some b => (s.endBulk b 1).ok d.req (leBytes 2 ((s.bulk[b]?.getD BulkOp.free).handle))) s4

/-! ## The key leaves (R346 to R348, R407) -/

/-- Refuse a leaf that needs the DRBG while it is blocked (R331). -/
def State.noEntropy (s : State) (r : Req) : State := (s.raise 549).refuse r stNoEntropy

/-- The DRBG generates nothing (R331). -/
def State.drbgBlocked (s : State) : Bool := s.reg Reg.SEC_STATUS.DRBG_FAIL == 1

/-- KEY_PROVISION. -/
def leafKeyProvision (p : List Byte) (r : Req) (s : State) : State :=
  let k := fieldAt p 0 2
  let gen := (fieldAt p 2 1).testBit 0
  if k = 0 ∨ k > 4095 ∨ fieldAt p 2 1 ≥ 4 ∨ notZero p 3 5 ∨ (gen ∧ notZero p 8 32) then s.refuse r stInvalid
  else if s.slotState k = 1 then s.refuse r stState
  else if s.slotState k = 2 then s.refuse r stBusy
  else if gen ∧ s.drbgBlocked then s.noEntropy r
  else
    let s1 := if gen then (s.setSeed k s.open?).draw else s.setSeed k (fieldAt p 8 32)
    ((s1.setSlot k 1 r.who ((fieldAt p 2 1).testBit 1) gen).raise 539).ok r []

/-- A requester may destroy a slot (R347): its owner, the primary head, the platform manager. -/
def State.mayDestroy (s : State) (k who : Nat) : Bool :=
  who == 2 || who == s.primary || s.rd Reg.SEC_SLOT.OWNER 0 k == who

/-- KEY_DESTROY. -/
def leafKeyDestroy (p : List Byte) (r : Req) (s : State) : State :=
  let k := fieldAt p 0 2
  if k = 0 ∨ k > 4095 then s.refuse r stInvalid
  else if s.slotState k = 0 then s.refuse r stState
  else if !s.mayDestroy k r.who then s.refuse r stOwned
  else if s.destroying k then s.refuse r stBusy
  else s.destroySlot ⟨k, r.transport, r.tag, r.nocrc, r.opcode, none⟩

/-- Put a range register (R348) and sweep every region whose effective slot it changes (R349). -/
def State.writeRange (s : State) (i base size slot : Nat) (on : Bool) : State :=
  let s1 := ((((s.wr Reg.SEC_RANGE.BASE 0 i base).wr Reg.SEC_RANGE.SIZE 0 i size).wr Reg.SEC_RANGE.SLOT 0 i slot).wr
    Reg.SEC_RANGE.ENABLE 0 i (bnat on)).pageCommit 5040
  let bounds := s1.slotBounds.foldl (fun l n => insertNat n l) s.slotBounds
  let changes := slotChanges s.unitSlot s1.unitSlot bounds
  if changes.isEmpty then s1 else changes.foldl (fun s p => s.startSweep i p) (s1.wr Reg.SEC_RANGE.SWEEPING 0 i 1)

/-- What refuses a range write that leaves its range enabled (R348), 0 where nothing does. -/
def State.rangeRefused (s : State) (h i base size slot : Nat) : Nat :=
  let meets := fun j => j != i && s.rangeOn j && s.rd Reg.SEC_RANGE.BASE 0 j < base + size &&
    base < s.rd Reg.SEC_RANGE.BASE 0 j + s.rd Reg.SEC_RANGE.SIZE 0 j
  if (List.range 128).any (fun j => meets j && (j / 64 == h || s.rd Reg.SEC_RANGE.SLOT 0 j != slot)) then stInvalid
  else if base + size > 49152 ∨ slot = 0 ∨ slot > 4095 then stInvalid
  else if s.slotState slot = 0 then stState
  else if s.slotState slot = 2 then stBusy
  else if s.rd Reg.SEC_SLOT.OWNER 0 slot ≠ h ∧ s.rd Reg.SEC_SLOT.OWNER 0 slot ≠ 2 ∧ s.rd Reg.SEC_SLOT.SHARED 0 slot = 0 then stAccess
  else stOk

/-- RANGE_WRITE. -/
def leafRangeWrite (p : List Byte) (r : Req) (s : State) : State :=
  let n := fieldAt p 0 1
  let on := (fieldAt p 1 1).testBit 0
  let i := 64 * r.who + n
  if n > 63 ∨ fieldAt p 1 1 > 1 then s.refuse r stInvalid
  else
    let st := if on then s.rangeRefused r.who i (fieldAt p 2 2) (fieldAt p 4 2) (fieldAt p 6 2) else stOk
    if st = stOk then (s.writeRange i (fieldAt p 2 2) (fieldAt p 4 2) (fieldAt p 6 2) on).ok r [] else s.refuse r st

/-- Bytes 0 to 7 of a slot record (R346). -/
def State.slotBytes (s : State) (k : Nat) : List (BitVec 8) :=
  leBytes 1 (s.slotState k) ++ leBytes 1 (s.rd Reg.SEC_SLOT.OWNER 0 k) ++
    leBytes 1 (s.rd Reg.SEC_SLOT.SHARED 0 k + 2 * s.rd Reg.SEC_SLOT.GENERATED 0 k) ++ leBytes 1 0 ++ leBytes 4 (s.sec.counts.get 0 k)

/-- KEY_STATUS. -/
def leafKeyStatus (p : List Byte) (r : Req) (s : State) : State :=
  if fieldAt p 0 2 > 4095 then s.refuse r stInvalid else s.ok r (s.slotBytes (fieldAt p 0 2))

/-- DRBG_HEALTH_FAIL (R331): a health test of a die's entropy source fails. -/
def execDrbgHealthFail (die : Fin 2) (s : State) : Res :=
  .next (if s.running || s.ctl.mode = .m9 || s.ctl.mode = .m10 then
    (s.wr Reg.SEC_STATUS.DRBG_FAIL die 0 1).raise 549 else s)

end Sys2Proof.Machine
end

