-- ==== Sys2Proof/Machine/Strainer.lean ====
section
/-! DEFINITION. The Strainer channels (R378 to R382): what a byte does to a context, START, FINAL with its comparison, and what a
write of the host or of the platform manager does to a channel. -/

namespace Sys2Proof.Machine

/-- The configuration of a channel (R378, R379). -/
structure StrCfg where
  width : Nat
  poly : Nat
  init : Nat
  refin : Bool
  refout : Bool
  invert : Bool
  compare : Bool
deriving DecidableEq, Repr

/-- The configuration in force: channel 0 is fixed (R378); a width outside 3 to 64 acts as the nearer bound (R383). -/
def State.strCfg (s : State) (d n : Nat) : StrCfg :=
  if n = 0 then ⟨32, 0x1EDC6F41, 0xFFFFFFFF, true, true, true, false⟩
  else
    ⟨min 64 (max 3 (s.rd Reg.STR_CFG.WIDTH d n)), s.rd Reg.STR_POLY.POLY d n, s.rd Reg.STR_INIT.INIT d n,
      s.rd Reg.STR_CFG.REFIN d n == 1, s.rd Reg.STR_CFG.REFOUT d n == 1, s.rd Reg.STR_CFG.INVERT d n == 1,
      s.rd Reg.STR_CFG.COMPARE_EN d n == 1⟩

/-- The low w bits of a number in reverse order. -/
def reverseBits (w v : Nat) : Nat := (List.range w).foldl (fun r k => if v.testBit k then r + 2 ^ (w - 1 - k) else r) 0

/-- One bit of a byte (R379). -/
def StrCfg.bit (c : StrCfg) (reg : Nat) (b : Bool) : Nat :=
  let r := reg * 2 % 2 ^ c.width
  if reg.testBit (c.width - 1) != b then r ^^^ (c.poly % 2 ^ c.width) else r

/-- One byte (R379). -/
def StrCfg.feed (c : StrCfg) (reg : Nat) (b : BitVec 8) : Nat :=
  let x := if c.refin then reverseBits 8 b.toNat else b.toNat
  (List.range 8).foldl (fun r k => c.bit r (x.testBit (7 - k))) (reg % 2 ^ c.width)

/-- The result of a context (R379). -/
def StrCfg.final (c : StrCfg) (reg : Nat) : Nat :=
  let r := reg % 2 ^ c.width
  let r := if c.refout then reverseBits c.width r else r
  if c.invert then r ^^^ (2 ^ c.width - 1) else r

/-- Feed bytes into a channel (R380). -/
def State.strFeed (s : State) (d n : Nat) (b : List (BitVec 8)) : State :=
  (s.wr Reg.STR_CTX.CTX d n (b.foldl (s.strCfg d n).feed (s.rd Reg.STR_CTX.CTX d n))).tally d 369 b.length

/-- START (R380). -/
def State.strStart (s : State) (d n : Nat) : State :=
  (s.wr Reg.STR_CTX.CTX d n (s.strCfg d n).init).wr Reg.STR_CFG.DONE d n 0

/-- The comparison of FINAL fails (R381). -/
def State.strMismatch (s : State) (d n : Nat) : Bool :=
  let c := s.strCfg d n
  c.compare && c.final (s.rd Reg.STR_CTX.CTX d n) != s.rd Reg.STR_EXPECT.EXPECT d n % 2 ^ c.width

/-- FINAL (R380, R381): the result, DONE, and on a mismatch its bits and source 612 or 613. -/
def State.strFinal (s : State) (d n : Nat) : State :=
  let s1 := (s.wr Reg.STR_RESULT.RESULT d n ((s.strCfg d n).final (s.rd Reg.STR_CTX.CTX d n))).wr Reg.STR_CFG.DONE d n 1
  if s.strMismatch d n then
    ((s1.wr Reg.STR_CFG.MISMATCH d n 1).wrBit Reg.STR_SUMMARY.MISMATCH d 0 n true).raise (612 + d)
  else s1

/-- What a write to STR_CMD does (R380): START, then TAIL, then FINAL. -/
def State.strCommand (s : State) (d n v : Nat) : State :=
  let s1 := if v.testBit 0 then s.strStart d n else s
  let s2 := if v.testBit 2 then s1.strFeed d n (leBytes (v / 256 % 8) (s1.rd Reg.STR_TAIL.TAIL d n)) else s1
  if v.testBit 1 then s2.strFinal d n else s2

/-- A channel is in use by a CHECK (R382). -/
def State.strBusy (s : State) (d n : Nat) : Bool := s.rd Reg.STR_CFG.BUSY d n == 1

end Sys2Proof.Machine
end

