-- ==== Sys2Proof/Machine/Bulk.lean ====
section
/-! DEFINITION. Bulk operations (R362 to R376): descriptors, the bulk table, the effect on each quire, and the bulk leaves; and the
steps of a slot sweep, on which ERASE_KEY rests. -/

namespace Sys2Proof.Machine

/-! ## Descriptors (R362 to R364) -/

/-- Quires of an operation: its length over 1,024. -/
def descQuires (p : List Byte) : Nat := fieldAt p 24 8 / 1024

/-- The operation of a descriptor. -/
def descOp (p : List Byte) : Nat := fieldAt p 0 2

/-- A range of a descriptor is aligned, not empty and ends within the space. -/
def descRange (p : List Byte) (off : Nat) : Bool :=
  fieldAt p off 8 % 1024 == 0 && fieldAt p off 8 + fieldAt p 24 8 ≤ dpaBytes

/-- What R363 refuses of a descriptor, the check of an ERASE_KEY's sender apart. A field that the operation does not use is not
looked at where R362 does not mark it zero. -/
def descBad (p : List Byte) : Bool :=
  let op := descOp p
  let bits := fieldAt p 32 2
  let len := fieldAt p 24 8
  op > 5 || fieldAt p 2 2 > 3 || (op != 3 && fieldAt p 2 2 != 0) || notZero p 4 4 || notZero p 34 30 ||
    (match op with
     | 5 => bits ≥ 4096
     | 3 => bits ≥ 32 || bits / 2 < 4
     | _ => bits != 0) ||
    (op < 5 && (len == 0 || len % 1024 != 0 || !descRange p 8)) ||
    ((op == 2 || op == 4) && !descRange p 16) ||
    (op == 2 && fieldAt p 8 8 < fieldAt p 16 8 + len && fieldAt p 16 8 < fieldAt p 8 8 + len)

/-- The ranges of quires that an operation reads or writes. -/
def BulkOp.ranges (b : BulkOp) : List (Nat × Nat) :=
  match b.op with
  | 5 => b.regions
  | 2 | 4 => [(b.a, b.a + b.total), (b.b, b.b + b.total)]
  | _ => [(b.a, b.a + b.total)]

/-- The ranges of quires that an operation changes. -/
def BulkOp.dest (b : BulkOp) : List (Nat × Nat) :=
  match b.op with
  | 5 => b.regions
  | 0 | 1 | 2 => [(b.a, b.a + b.total)]
  | _ => []

/-- Two lists of ranges meet. -/
def rangesMeet (x y : List (Nat × Nat)) : Bool := x.any (fun p => y.any (fun q => p.1 < q.2 && q.1 < p.2))

/-- The quires at which the effective slot may change within lo … hi − 1, lo among them. -/
def State.slotPoints (s : State) (lo hi : Nat) : List Nat :=
  let sweeps := s.mapping.walks.filter (fun w => match w.kind with | .sweep _ _ _ => true | _ => false)
  let pts := s.slotBounds.map (· * unitQuires) ++ sweeps.flatMap (fun w => [w.lo, w.next, w.hi] ++ w.early ++ w.early.map (· + 1))
  lo :: pts.filter (fun x => lo < x && x < hi)

/-- A slot is open to a requester (R364). -/
def State.slotOpen (s : State) (k who : Nat) : Bool :=
  k == 0 || s.rd Reg.SEC_SLOT.OWNER 0 k == who || s.rd Reg.SEC_SLOT.SHARED 0 k == 1

/-- Every quire of some ranges has an effective slot open to a requester (R364). -/
def State.rangesOpen (s : State) (l : List (Nat × Nat)) (who : Nat) : Bool :=
  l.all (fun r => (s.slotPoints r.1 r.2).all (fun q => s.slotOpen (s.effSlot q) who))

/-! ## The bulk table (R365) -/

/-- An operation that has not ended. -/
def BulkOp.live (b : BulkOp) : Bool := b.state != .free && b.state != .ended

/-- A ZERO, or a FILL with zeros, which runs as one (R367). -/
def BulkOp.zeroing (b : BulkOp) : Bool := b.op == 0 || (b.op == 1 && b.pattern == 0)

/-- The operation in a slot. -/
def State.bulkAt (s : State) (k : Nat) : BulkOp := s.bulk[k]?.getD BulkOp.free

/-- Change the operation in a slot. -/
def State.onBulk (s : State) (k : Nat) (f : BulkOp → BulkOp) : State := { s with bulk := s.bulk.modify k f }

/-- The Strainer channel of a CHECK: die and channel. -/
def BulkOp.channel (b : BulkOp) : Nat × Nat := (b.unit % 2, b.unit / 2 % 16)

/-- A queued operation may run (R365, R382): fewer than four run, no earlier operation that has not ended overlaps it as R365 says,
and the channel of a CHECK is free. -/
def State.mayRun (s : State) (k : Nat) : Bool :=
  let b := s.bulkAt k
  b.state == .queued && (s.bulk.filter (fun x => x.state == .running || x.state == .paused)).length < 4 &&
    !(s.bulk.any (fun x => x.live && x.order < b.order &&
      (rangesMeet b.ranges x.dest || rangesMeet b.dest x.ranges))) &&
    !(b.op == 3 && s.strBusy b.channel.1 b.channel.2)

/-- An operation begins: a ZERO journals its records and starts its walk (R367); a CHECK takes its channel (R370, R382); an ERASE_KEY
runs its destroy, whose request waits among the destroys (R372). Doze ends (R374). -/
def State.runBulk (s : State) (k : Nat) : State :=
  let b := s.bulkAt k
  let s0 := if s.ctl.mode = .m6 then s.leaveDoze else s
  let s1 := s0.onBulk k (fun b => { b with state := .running })
  if b.zeroing then s1.beginWalk (.zero b.handle) b.a (b.a + b.total) .zero
  else if b.op = 3 then
    let s2 := if b.flags.testBit 0 then s1.strStart b.channel.1 b.channel.2 else s1
    s2.wr Reg.STR_CFG.BUSY b.channel.1 b.channel.2 1
  else if b.op = 5 then (if s1.sweeping b.unit then s1 else s1.destroyBegin b.unit)
  else s1

/-- Queued operations that may run begin, in the order of their acceptance. -/
def State.bulkStart (s : State) : Nat → State
  | 0 => s
  | n + 1 =>
    if !s.inService then s
    else
      let ready := (List.range 16).filter (fun k => s.mayRun k)
      match ready with
      | [] => s
      | k0 :: t =>
        let k := t.foldl (fun m k => if (s.bulkAt k).order < (s.bulkAt m).order then k else m) k0
        (s.runBulk k).bulkStart n

/-- Begin what may begin. -/
def State.bulkGo (s : State) : State := s.bulkStart 16

/-- The next handle that no slot holds. -/
def State.nextHandle (s : State) (h : Nat) : Nat → Nat
  | 0 => h
  | n + 1 => if s.bulk.any (fun b => b.state != .free && b.handle == h) then s.nextHandle ((h + 1) % 65536) n else h

/-- The slot a new operation takes: a free one, else the one that ended earliest (R365). -/
def State.bulkSlot (s : State) : Option Nat :=
  match (List.range 16).find? (fun k => (s.bulkAt k).state == .free) with
  | some k => some k
  | none => leastBy (fun k => (s.bulkAt k).order) ((List.range 16).filter (fun k => (s.bulkAt k).state == .ended))

/-- Accept a descriptor into a slot of the table: its handle, and the operation queued. -/
def State.acceptBulk (s : State) (p : List Byte) (who k : Nat) (regions : List (Nat × Nat)) : State :=
  let h := s.nextHandle (s.reg Reg.BLK_QUEUE.NEXT_HANDLE) 16
  let op := descOp p
  let total := if op = 5 then (regions.map (fun r => r.2 - r.1)).sum else descQuires p
  let b : BulkOp := {
    handle := h, op := op, state := .queued, result := 0, origin := who, done := 0, total := total, whereAt := 0,
    flags := fieldAt p 2 2, a := fieldAt p 8 8 / 1024, b := fieldAt p 16 8 / 1024, unit := fieldAt p 32 2,
    pattern := lineOfBytes ((p.drop 64).take 64), order := (s.bulk.map BulkOp.order).foldl max 0 + 1, regions := regions,
    sent := false }
  let s1 := s.setReg Reg.BLK_QUEUE.NEXT_HANDLE ((h + 1) % 65536)
  { s1 with bulk := s1.bulk.set k b }

/-- The regions of a slot in quires. -/
def State.slotQuires (s : State) (k : Nat) : List (Nat × Nat) :=
  (s.slotRegions k).map (fun p => (p.1 * unitQuires, p.2.1 * unitQuires))

/-- BULK_START. -/
def leafBulkStart (p : List Byte) (r : Req) (s : State) : State :=
  let op := descOp p
  let slot := fieldAt p 32 2
  let n := descQuires p
  let rs := match op with
    | 2 | 4 => [(fieldAt p 8 8 / 1024, fieldAt p 8 8 / 1024 + n), (fieldAt p 16 8 / 1024, fieldAt p 16 8 / 1024 + n)]
    | 5 => []
    | _ => [(fieldAt p 8 8 / 1024, fieldAt p 8 8 / 1024 + n)]
  if op = 5 ∧ securedTransport r.transport = false then s.refuse r stNotSecure
  else if descBad p then s.refuse r stInvalid
  else if op = 5 ∧ s.mayDestroy slot r.who = false then s.refuse r stOwned
  else if op = 5 ∧ s.slotState slot = 0 then s.refuse r stState
  else if op = 5 ∧ s.destroying slot then s.refuse r stBusy
  else if !s.rangesOpen rs r.who then s.refuse r stAccess
  else match s.bulkSlot with
    | none => s.refuse r stBusy
    | some k =>
      let h := s.nextHandle (s.reg Reg.BLK_QUEUE.NEXT_HANDLE) 16
      if op = 5 then
        let s1 := s.acceptBulk p r.who k (s.slotQuires slot)
        let d : Destroy := ⟨slot, r.transport, r.tag, r.nocrc, r.opcode, some k⟩
        ({ s1 with sec := { s1.sec with destroys := s1.sec.destroys ++ [d] } }).bulkGo
      else (((s.acceptBulk p r.who k []).reply r stAccepted (leBytes 2 h)).bulkGo)

/-! ## Effect on a quire (R366 to R371) -/

/-- A whole-quire Caddy write (R366, R368): dirty, or staged at once in Write-through (R216); poisoned in Read-only (R76, R374);
nothing on a lost channel (R287). -/
def State.writeQuire (s : State) (q : Nat) (b : Block16) : State :=
  if s.chanLost (chanOf q) then s
  else
    let s0 := if s.sweepAhead q then s.reachEarly q else s
    let blk := if s.ctl.readOnly then Block16.allPoison else b
    let p := s0.wayForWrite q 0
    let wt := s.ctl.writeThrough
    let d := ownerOf q
    let s1 := (p.1.putWay q p.2.1 { p.2.2 with dirty := p.2.2.dirty || !wt, age := 0, blk := blk }).tally d 324
      (if p.2.2.dirty || wt then 0 else 1)
    let host : BitVec 16 := (List.range 16).foldl (fun m k =>
      if blk.isPoison k && (blk.lines.get 0 k).getLsbD 0 then bit16 m k true else m) 0
    let s2 := ((s1.poisonDel (q * 16) 16).poisonMask q (blk.poison &&& ~~~ host) false).poisonMask q host true
    (if wt then s2.stageBlock q blk true [] else s2).evicting (chanOf q)

/-- Unmap one quire as a ZERO does, with its own record (R369). -/
def State.unmapOne (s : State) (q : Nat) : State :=
  if s.chanLost (chanOf q) then s
  else
    let s1 := s.reachEarly q
    (s1.walkRecords q (q + 1) .zero).unmapQuire q (s1.seqOf (chanOf q))

/-- A quire is unmapped: no map entry, and nothing of it in the Caddy. -/
def State.isUnmapped (s : State) (q : Nat) : Bool :=
  entryState (s.entry q) == 0 && (s.wayOf q).isNone && (s.stagedOf q).isEmpty

/-- A background read of a sheet that no line source holds fails its tag. -/
def State.tagFails (s : State) (q : Nat) (o : Nat → SheetOutcome) : Option Nat :=
  (List.range 4).find? (fun n => o n == .tagBad && onMedia (s.entry q) &&
    !((List.range 4).all (fun j => (s.newest q).isValid (4 * n + j))))

/-- A quire brought wholly valid by background reads (R369 steps 1 and 2): what the Caddy holds newer lies over its sheets, and
the sheets read fill its way. A lost channel reads as poison. -/
def State.snapshotOf (s : State) (q : Nat) (o : Nat → SheetOutcome) : State × Block16 :=
  if s.chanLost (chanOf q) then (s, Block16.allPoison)
  else
    let p := (List.range 4).foldl (fun (p : State × Block16) n => p.1.mergeSheet q n p.2 (o n)) (s, s.newest q)
    let s1 := p.1
    if !onMedia (s.entry q) || !(s.stagedOf q).isEmpty then p
    else match s1.wayOf q with
      | some w => (s1.putWay q w.1 { w.2 with blk := p.2 }, p.2)
      | none => match s1.freeWay q with
        | some w => (s1.putWay q w (s1.newWay q (s1.rd Reg.CDY_CFG.FILL_AGE 0 0) p.2), p.2)
        | none => p

/-- The first poisoned line of a block. -/
def firstPoison (b : Block16) : Option Nat := (List.range 16).find? (fun k => b.isPoison k)

/-- The operation has handled its next quire; at its last one it ends (R365). A CHECK gives its channel back. -/
def State.bulkNext (s : State) (k q event done : Nat) : State :=
  let s1 := ((s.onBulk k (fun b => { b with done := done })).bump Reg.BLK_STAT.QUIRES (ownerOf q) 0 1).tally (ownerOf q) event 1
  if done < (s.bulkAt k).total then s1 else s1.endBulk k 1

/-- A quire's Write-through stripe is not complete (R216). -/
def State.wtWaits (s : State) (q : Nat) : Bool := s.path.staged.any (fun e => e.wt && e.quire == q)

/-- The operation has written its next quire, which counts as handled at once, or in Write-through once its stripe is complete
(R374; log entry 106). -/
def State.bulkWrote (s : State) (k q event : Nat) : State :=
  if s.wtWaits q then s.onBulk k (fun b => { b with sent := true })
  else (s.onBulk k (fun b => { b with sent := false })).bulkNext k q event ((s.bulkAt k).done + 1)

/-- A CHECK ends and gives its channel back (R382). -/
def State.checkEnds (s : State) (k result : Nat) : State :=
  let c := (s.bulkAt k).channel
  (s.wr Reg.STR_CFG.BUSY c.1 c.2 0).endBulk k result

/-- CHECK handles a quire (R370): its lines feed the channel up to a poisoned one. -/
def State.checkQuire (s : State) (k q : Nat) (o : Nat → SheetOutcome) : State :=
  let b := s.bulkAt k
  let c := b.channel
  let p := s.snapshotOf q o
  let bad := firstPoison p.2
  let n := bad.getD 16
  let bytes := (List.range n).flatMap (fun j => lineBytes (p.2.lines.get 0 j))
  let s1 := p.1.strFeed c.1 c.2 bytes
  match bad with
  | some j => (s1.onBulk k (fun b => { b with whereAt := b.done * 1024 + j * 64 })).checkEnds k 3
  | none =>
    let s2 := ((s1.onBulk k (fun b => { b with done := b.done + 1 })).bump Reg.BLK_STAT.QUIRES (ownerOf q) 0 1).tally (ownerOf q) 349 1
    if b.done + 1 < b.total then s2
    else if b.flags.testBit 1 then
      let s3 := s2.strFinal c.1 c.2
      s3.checkEnds k (if s2.strMismatch c.1 c.2 then 2 else 1)
    else s2.checkEnds k 1

/-- COMPARE handles a pair of quires (R371): the first line that is poisoned in either, or that differs, ends it. -/
def State.compareQuire (s : State) (k qa qb : Nat) (oa ob : Nat → SheetOutcome) : State :=
  let p := s.snapshotOf qa oa
  let r := p.1.snapshotOf qb ob
  let poisoned := fun j => p.2.isPoison j || r.2.isPoison j
  match (List.range 16).find? (fun j => poisoned j || p.2.lines.get 0 j != r.2.lines.get 0 j) with
  | some j => (r.1.onBulk k (fun b => { b with whereAt := b.done * 1024 + j * 64 })).endBulk k (if poisoned j then 3 else 2)
  | none => r.1.bulkNext k qa 350 ((s.bulkAt k).done + 1)

/-- COPY handles a pair of quires (R369). -/
def State.copyQuire (s : State) (dst src : Nat) (o : Nat → SheetOutcome) : State :=
  if s.isUnmapped src && !s.chanLost (chanOf src) then s.unmapOne dst
  else
    let p := s.snapshotOf src o
    p.1.writeQuire dst p.2

/-- A ZERO's walk handles its next quire (R367). -/
def State.zeroQuire (s : State) (k : Nat) : State :=
  let b := s.bulkAt k
  match s.mapping.walks.find? (fun w => w.kind == .zero b.handle) with
  | none => s.endBulk k 1
  | some w =>
    let p := s.walkOne w
    let q := w.skip (w.early.length + 64) w.next
    let done := if p.2 then b.total else q + 1 - b.a
    (p.1.tally (ownerOf q) 215 1).bulkNext k (min q (w.hi - 1)) 346 done

/-- The tag that fails under a bulk read leads to Halt (R343). -/
def State.bulkTamper (s : State) (q n : Nat) : State :=
  let e := s.entry q
  s.halt 1 ⟨chanOf q, memberOfSheet (entryStripe e) (entryHalf e) n, frameAddr (entrySegment e) (entryStripe e), 0, 0⟩

/-- BULK_QUIRE_HANDLED (R366 to R371): a running operation handles its next quire. `sheets` are the outcomes of the sheets that it reads
in the background, those of a COMPARE's second quire after those of its first. An ERASE_KEY moves by its sweeps. -/
def execBulkQuireHandled (slot : Fin 16) (sheets : List SheetOutcome) (s : State) : Res :=
  .next (
    let k := slot.val
    let b := s.bulkAt k
    let oa := fun n => sheets[n]?.getD .good
    let ob := fun n => sheets[4 + n]?.getD .good
    let qa := b.a + b.done
    let qb := b.b + b.done
    if !s.inService || b.state != .running || b.op = 5 then s
    else if b.zeroing then (s.zeroQuire k).bulkGo
    else if b.sent then (s.bulkWrote k qa (346 + b.op)).bulkGo
    else
      let src := if b.op = 2 then qb else qa
      match (if b.op = 1 || s.chanLost (chanOf src) then none else s.tagFails src oa) with
      | some n => s.bulkTamper src n
      | none =>
        match b.op with
        | 1 => (((s.writeQuire qa (Block16.ofPattern b.pattern)).tally (ownerOf qa) 215 1).bulkWrote k qa 347).bulkGo
        | 2 => (((s.copyQuire qa qb oa).tally (ownerOf qa) 215 1).bulkWrote k qa 348).bulkGo
        | 3 => (s.checkQuire k qa oa).bulkGo
        | _ =>
          match (if s.chanLost (chanOf qb) then none else s.tagFails qb ob) with
          | some n => s.bulkTamper qb n
          | none => (s.compareQuire k qa qb oa ob).bulkGo)

/-- The counts of an ERASE_KEY rise with its sweeps (R372). -/
def State.sweepCount (s : State) (reason : Nat) : State :=
  match s.sec.destroys.find? (fun d => d.slot + 128 == reason) with
  | some d => match d.bulk with
    | some k => s.onBulk k (fun b => { b with done := min b.total (b.done + 1) })
    | none => s
  | none => s

/-- A sweep of a reason unmaps its next quire; at its end its record is cleared and source 541 raised, and what waited for it goes
on (R349). -/
def State.sweepStep (s : State) (w : Walk) (reason : Nat) : State :=
  let q := min (w.skip (w.early.length + 64) w.next) (w.hi - 1)
  let p := s.walkOne w
  let s1 := (p.1.tally (ownerOf q) 351 1).sweepCount reason
  if p.2 then (s1.sweepEnd reason).bulkGo else s1

/-- SLOT_SWEEP_STEP (R349): the first sweep goes on. -/
def execSlotSweepStep (s : State) : Res :=
  .next (
    match s.mapping.walks.find? (fun w => match w.kind with | .sweep _ _ _ => true | _ => false) with
    | none => s
    | some w =>
      if !s.running || s.scanning then s
      else s.sweepStep w (match w.kind with | .sweep _ _ r => r | _ => 0))

/-! ## Status and abort (R374, R407) -/

/-- The slot that holds a handle. -/
def State.bulkOf (s : State) (h : Nat) : Option Nat :=
  (List.range 16).find? (fun k => (s.bulkAt k).state != .free && (s.bulkAt k).handle == h)

/-- The code of a bulk state (R377). -/
def BulkState.code : BulkState → Nat
  | .free => 0 | .queued => 1 | .running => 2 | .paused => 3 | .ended => 4

/-- The four words of a slot (R377). -/
def BulkOp.words (b : BulkOp) : List Nat :=
  [b.handle + b.op * 65536 + b.state.code * 524288 + b.result * 4194304 + b.origin * 67108864, b.done, b.total, b.whereAt]

/-- BULK_STATUS. -/
def leafBulkStatus (p : List Byte) (r : Req) (s : State) : State :=
  match s.bulkOf (fieldAt p 0 2) with
  | none => s.refuse r stInvalid
  | some k => s.ok r ((s.bulkAt k).words.flatMap (leBytes 8))

/-- An aborted ZERO ends its walk where it stands: its records keep only the quires that it reached, the early ones with records
of their own (R374). -/
def State.stopZero (s : State) (handle : Nat) : State :=
  match s.mapping.walks.find? (fun w => w.kind == .zero handle) with
  | none => s
  | some w =>
    let trim := fun (r : JRec) => match r.body with
      | .zero f n q =>
        if (f, n) = chanSpan r.channel w.lo w.hi then { r with body := .zero f (chanSpan r.channel w.lo w.next).2 q } else r
      | _ => r
    let m := s.mapping
    let s1 : State := { s with mapping := { m with
      walks := m.walks.filter (fun v => v.kind != .zero handle)
      ring := m.ring.map trim
      issued := m.issued.map (fun l => l.map trim)
      openPage := ⟨m.openPage.zero.map trim, m.openPage.one.map trim⟩ } }
    (w.early.filter (fun q => q ≥ w.next)).foldl (fun s q => s.walkRecords q (q + 1) .zero) s1

/-- BULK_ABORT. -/
def leafBulkAbort (p : List Byte) (r : Req) (s : State) : State :=
  match s.bulkOf (fieldAt p 0 2) with
  | none => s.refuse r stInvalid
  | some k =>
    let b := s.bulkAt k
    if r.who ≠ b.origin ∧ r.who ≠ 2 ∧ r.who ≠ s.primary then s.refuse r stOwned
    else if b.state = .ended then s.ok r []
    else if b.op = 5 then s.refuse r stState
    else
      let s1 := if b.zeroing then s.stopZero b.handle else s
      let s2 := if b.op = 3 ∧ b.state ≠ .queued then s1.checkEnds k 4 else s1.endBulk k 4
      (s2.ok r []).bulkGo

end Sys2Proof.Machine
end

