-- ==== Sys2Proof/Machine/Crypto.lean ====
section
/-! DEFINITION. The standards that protect data and keys, on bytes: AES-256 (FIPS 197), XTS (IEEE 1619), GCM and GMAC (NIST SP 800-38D), CMAC
(NIST SP 800-38B), SHAKE256 and SHA3-512 (FIPS 202), and the keys that R330 and R332 derive with them. -/

namespace Sys2Proof.Machine

/-- The bytes of a number from the most significant of n on. -/
def beBytes (n v : Nat) : List Byte := (List.range n).map (fun k => BitVec.ofNat 8 (v >>> (8 * (n - 1 - k))))

/-- The number whose bytes these are, most significant first. -/
def beNat (b : List Byte) : Nat := b.foldl (fun v x => 256 * v + x.toNat) 0

/-- The number whose bytes these are, least significant first. -/
def leValue (b : List Byte) : Nat := beNat b.reverse

/-- The exclusive or of two byte strings, as far as both go. -/
def xorBytes (a b : List Byte) : List Byte := List.zipWith (fun x y => x ^^^ y) a b

/-- Bytes from an offset. -/
def byteAt (b : List Byte) (k : Nat) : Byte := b[k]?.getD 0

/-- Cut bytes into pieces of n, the last one as it comes. -/
def blocksOf (n : Nat) (b : List Byte) : List (List Byte) :=
  (List.range ((b.length + n - 1) / n)).map (fun k => (b.drop (n * k)).take n)

/-- Bytes filled up with zeros to n. -/
def zeroPad (n : Nat) (b : List Byte) : List Byte := b ++ List.replicate (n - b.length) 0

/-! ## AES-256 -/

/-- Multiply by x in the field of AES. -/
def aesDouble (a : Byte) : Byte := (a <<< 1) ^^^ (if a.getLsbD 7 then 0x1B else 0)

/-- The product of two bytes in the field of AES. -/
def aesMul (a b : Byte) : Byte :=
  (List.range 8).foldr (fun k acc => aesDouble acc ^^^ (if b.getLsbD k then a else 0)) 0

/-- The inverse in the field, the 254th power; 0 for 0. -/
def aesInv (a : Byte) : Byte :=
  let a2 := aesMul a a
  let a3 := aesMul a2 a
  let a12 := aesMul (aesMul a3 a3) (aesMul a3 a3)
  let a15 := aesMul a12 a3
  let a30 := aesMul a15 a15
  let a60 := aesMul a30 a30
  let a120 := aesMul a60 a60
  aesMul (aesMul (aesMul a120 a120) a12) a2

/-- The substitution box. -/
def aesSub (a : Byte) : Byte :=
  let b := aesInv a
  b ^^^ b.rotateLeft 1 ^^^ b.rotateLeft 2 ^^^ b.rotateLeft 3 ^^^ b.rotateLeft 4 ^^^ 0x63

/-- The next word of the key schedule of a 256-bit key, after those given. -/
def aesNextWord (w : List (List Byte)) : List Byte :=
  let i := w.length
  let last := w[i - 1]?.getD []
  let round : Byte := (List.range (i / 8 - 1)).foldl (fun c _ => aesDouble c) 1
  let t := if i % 8 = 0 then xorBytes ((last.rotateLeft 1).map aesSub) [round, 0, 0, 0]
    else if i % 8 = 4 then last.map aesSub else last
  xorBytes (w[i - 8]?.getD []) t

/-- The fifteen round keys of a 256-bit key. -/
def aesKeys (key : List Byte) : List (List Byte) :=
  let w := (List.range 52).foldl (fun w _ => w ++ [aesNextWord w]) (blocksOf 4 key)
  blocksOf 16 w.flatten

/-- One column of MixColumns. -/
def aesColumn (c : List Byte) : List Byte :=
  (List.range 4).map (fun r =>
    aesDouble (byteAt c r) ^^^ aesDouble (byteAt c ((r + 1) % 4)) ^^^ byteAt c ((r + 1) % 4) ^^^ byteAt c ((r + 2) % 4) ^^^
      byteAt c ((r + 3) % 4))

/-- SubBytes and ShiftRows. -/
def aesShift (b : List Byte) : List Byte :=
  (List.range 16).map (fun k => aesSub (byteAt b (k % 4 + 4 * ((k / 4 + k % 4) % 4))))

/-- Encrypt one block of 16 bytes under round keys. -/
def aesRounds (ks : List (List Byte)) (b : List Byte) : List Byte :=
  let key := fun (k : Nat) => ks[k]?.getD []
  let s := (List.range 13).foldl (fun s r =>
    xorBytes ((blocksOf 4 (aesShift s)).flatMap aesColumn) (key (r + 1))) (xorBytes b (key 0))
  xorBytes (aesShift s) (key 14)

/-- AES-256 of one block. -/
def aes256 (key b : List Byte) : List Byte := aesRounds (aesKeys key) b

/-! ## XTS (R333) -/

/-- The tweak of the next block: times α in GF(2^128), on the little-endian value. -/
def xtsNext (t : Nat) : Nat := (2 * t % 2 ^ 128) ^^^ (if t ≥ 2 ^ 127 then 0x87 else 0)

/-- The tweaks of the first n blocks of a data unit. -/
def xtsTweaks (tweakKey : List Byte) (unit n : Nat) : List (List Byte) :=
  let first := leValue (aes256 tweakKey (beBytes 16 unit).reverse)
  (List.range n).map (fun k => (beBytes 16 ((List.range k).foldl (fun t _ => xtsNext t) first)).reverse)

/-- XTS-AES-256 encryption of a data unit of whole blocks. -/
def xtsEncrypt (dataKey tweakKey : List Byte) (unit : Nat) (p : List Byte) : List Byte :=
  let ks := aesKeys dataKey
  (List.zipWith (fun b t => xorBytes (aesRounds ks (xorBytes b t)) t) (blocksOf 16 p)
    (xtsTweaks tweakKey unit ((p.length + 15) / 16))).flatten

/-! ## GCM, GMAC and CMAC -/

/-- The product in the field of GCM, on big-endian values: bit 0 is the most significant. -/
def gcmMul (x y : Nat) : Nat :=
  ((List.range 128).foldl (fun (p : Nat × Nat) k =>
    (if x.testBit (127 - k) then p.1 ^^^ p.2 else p.1,
      if p.2 % 2 = 1 then (p.2 / 2) ^^^ (0xE1 * 2 ^ 120) else p.2 / 2)) (0, y)).1

/-- GHASH of bytes in whole blocks. -/
def ghash (h : Nat) (b : List Byte) : Nat := (blocksOf 16 b).foldl (fun y x => gcmMul (y ^^^ beNat x) h) 0

/-- Bytes filled up with zeros to whole blocks. -/
def wholeBlocks (b : List Byte) : List Byte := zeroPad ((b.length + 15) / 16 * 16) b

/-- The GCM tag over authenticated data and ciphertext, for an IV of 96 bits. -/
def gcmTag (key iv aad c : List Byte) : List Byte :=
  let ks := aesKeys key
  let h := beNat (aesRounds ks (List.replicate 16 0))
  let s := ghash h (wholeBlocks aad ++ wholeBlocks c ++ beBytes 8 (8 * aad.length) ++ beBytes 8 (8 * c.length))
  xorBytes (beBytes 16 s) (aesRounds ks (iv ++ [0, 0, 0, 1]))

/-- GMAC (R335). -/
def gmac (key iv aad : List Byte) : List Byte := gcmTag key iv aad []

/-- The GCM encryption of bytes for an IV of 96 bits. -/
def gcmEncrypt (key iv p : List Byte) : List Byte :=
  let ks := aesKeys key
  ((blocksOf 16 p).zipIdx 2).flatMap (fun x => xorBytes x.1 (aesRounds ks (iv ++ beBytes 4 x.2)))

/-- The next subkey of CMAC. -/
def cmacDouble (v : Nat) : Nat := (2 * v % 2 ^ 128) ^^^ (if v ≥ 2 ^ 127 then 0x87 else 0)

/-- AES-256-CMAC of bytes. -/
def cmac (key m : List Byte) : List Byte :=
  let ks := aesKeys key
  let k1 := cmacDouble (beNat (aesRounds ks (List.replicate 16 0)))
  let n := (m.length - 1) / 16
  let tail := m.drop (16 * n)
  let last := if tail.length = 16 then xorBytes tail (beBytes 16 k1)
    else xorBytes (zeroPad 16 (tail ++ [0x80])) (beBytes 16 (cmacDouble k1))
  aesRounds ks (xorBytes ((blocksOf 16 (m.take (16 * n))).foldl (fun c b => aesRounds ks (xorBytes c b)) (List.replicate 16 0)) last)

/-! ## SHAKE256 and SHA3-512 -/

/-- The rotations of the lanes, lane x of plane y at x + 5·y. -/
def keccakRotations : List Nat := [0, 1, 62, 28, 27, 36, 44, 6, 55, 20, 3, 10, 43, 25, 39, 41, 45, 15, 21, 8, 18, 2, 61, 56, 14]

/-- The constants of the 24 rounds. -/
def keccakConstants : List (BitVec 64) :=
  [0x1, 0x8082, 0x800000000000808A, 0x8000000080008000, 0x808B, 0x80000001, 0x8000000080008081, 0x8000000000008009] ++
  [0x8A, 0x88, 0x80008009, 0x8000000A, 0x8000808B, 0x800000000000008B, 0x8000000000008089, 0x8000000000008003] ++
  [0x8000000000008002, 0x8000000000000080, 0x800A, 0x800000008000000A, 0x8000000080008081, 0x8000000000008080, 0x80000001,
    0x8000000080008008]

/-- A lane. -/
def laneAt (a : List (BitVec 64)) (x y : Nat) : BitVec 64 := (a[x % 5 + 5 * (y % 5)]?).getD 0

/-- One round of Keccak-f[1600]. -/
def keccakRound (a : List (BitVec 64)) (rc : BitVec 64) : List (BitVec 64) :=
  let par := (List.range 5).map (fun x => laneAt a x 0 ^^^ laneAt a x 1 ^^^ laneAt a x 2 ^^^ laneAt a x 3 ^^^ laneAt a x 4)
  let turned := (List.range 5).map (fun x => ((par[(x + 1) % 5]?).getD 0).rotateLeft 1)
  let mix := (List.range 5).map (fun x => ((par[(x + 4) % 5]?).getD 0) ^^^ ((turned[x]?).getD 0))
  let r := (List.range 25).map (fun k => (laneAt a k (k / 5) ^^^ (mix[k % 5]?).getD 0).rotateLeft ((keccakRotations[k]?).getD 0))
  let b := (List.range 25).map (fun k => laneAt r (k % 5 + 3 * (k / 5)) (k % 5))
  let e := (List.range 25).map (fun k =>
    laneAt b (k % 5) (k / 5) ^^^ (~~~(laneAt b (k % 5 + 1) (k / 5)) &&& laneAt b (k % 5 + 2) (k / 5)))
  match e with
  | x :: t => (x ^^^ rc) :: t
  | [] => []

/-- Keccak-f[1600]. -/
def keccakF (a : List (BitVec 64)) : List (BitVec 64) := keccakConstants.foldl keccakRound a

/-- A sponge of a rate in bytes with a domain suffix, to n bytes of output. -/
def sponge (rate : Nat) (suffix : Byte) (m : List Byte) (n : Nat) : List Byte :=
  let fill := rate - m.length % rate
  let pad := if fill = 1 then [suffix ^^^ 0x80] else suffix :: (List.replicate (fill - 2) 0 ++ [0x80])
  let lanes := fun (b : List Byte) => (List.range 25).map (fun k => BitVec.ofNat 64 (leValue ((b.drop (8 * k)).take 8)))
  let s := (blocksOf rate (m ++ pad)).foldl (fun s b => keccakF (List.zipWith (· ^^^ ·) s (lanes b))) (List.replicate 25 0)
  let out := fun (s : List (BitVec 64)) => (s.flatMap (fun l => (beBytes 8 l.toNat).reverse)).take rate
  (((List.range ((n + rate - 1) / rate)).foldl (fun (p : List Byte × List (BitVec 64)) _ =>
    (p.1 ++ out p.2, keccakF p.2)) ([], s)).1).take n

/-- SHAKE256 to n bytes. -/
def shake256 (m : List Byte) (n : Nat) : List Byte := sponge 136 0x1F m n

/-- SHA3-512. -/
def sha3of512 (m : List Byte) : List Byte := sponge 72 0x06 m 64

/-! ## Derived keys (R330, R332) -/

/-- The labels that set the derived keys apart; the spec does not give them (log entry 97). -/
inductive KeyUse where
  | identity | storage | metadata | data | tweak | tag
deriving DecidableEq, Repr

/-- The number of a label. -/
def KeyUse.code : KeyUse → Nat
  | .identity => 0 | .storage => 1 | .metadata => 2 | .data => 3 | .tweak => 4 | .tag => 5

/-- A key that a die derives from its unique device secret, a label and further inputs (R330). -/
def deviceKey (die : Nat) (u : KeyUse) (inputs : List Byte) : List Byte :=
  shake256 ((List.range 32).map (Config.uds die) ++ Config.keyLabel u.code ++ inputs) 32

/-- The key of a use that a slot's seed gives (R332). -/
def seedKey (seed : Nat) (u : KeyUse) : List Byte :=
  shake256 ((beBytes 32 seed).reverse ++ Config.keyLabel u.code) 32

end Sys2Proof.Machine
end

