-- ==== Sys2Proof/Machine/Attest.lean ====
section
/-! DEFINITION. Attestation, firmware and scan entry (R351 to R358, R423, R424): measurements, the certificate chain, SPDM, the
firmware leaves, and the unlock token. -/

namespace Sys2Proof.Machine

/-! ## Measurements and certificates (R351, R352) -/

/-- The SHAKE256 digest, of 64 bytes, of content whose bytes the spec does not lay out (R351, R352; log entry 97). -/
def digest64 (content : List Nat) : List (BitVec 8) := shake256 (Config.content content) 64

/-- A firmware slot by number. -/
def State.fwSlot (s : State) (n : Nat) : FwSlot := if n = 0 then s.sec.slotA else s.sec.slotB

/-- Replace a firmware slot. -/
def State.setFwSlot (s : State) (n : Nat) (x : FwSlot) : State :=
  if n = 0 then { s with sec := { s.sec with slotA := x } } else { s with sec := { s.sec with slotB := x } }

/-- The slot that runs. -/
def State.fwRuns (s : State) : Nat := s.reg Reg.SEC_FW.SLOT

/-- The content of measurement 7 (R352). -/
def State.slotContent (s : State) : List Nat :=
  (List.range 128).flatMap (fun i => [s.rd Reg.SEC_RANGE.BASE 0 i, s.rd Reg.SEC_RANGE.SIZE 0 i, s.rd Reg.SEC_RANGE.SLOT 0 i,
    s.rd Reg.SEC_RANGE.ENABLE 0 i]) ++
  (List.range 4096).flatMap (fun k => [s.slotState k, s.rd Reg.SEC_SLOT.OWNER 0 k, s.rd Reg.SEC_SLOT.SHARED 0 k])

/-- The content of a measurement block: whether it is a digest, and its bytes. Raw blocks give one byte to each item that R352 lists,
and two to the version (log entry 10). -/
def State.measurement (s : State) (i : Nat) : Bool × List (BitVec 8) :=
  let f := s.fwSlot s.fwRuns
  let m := fun (x : Field) => leBytes 1 (s.reg x)
  match i with
  | 1 => (true, digest64 [1])
  | 2 => (true, digest64 [2, s.fwRuns, f.version])
  | 3 => (true, digest64 [3, s.fwRuns, f.version])
  | 4 => (false, leBytes 1 s.fwRuns ++ leBytes 2 (s.reg Reg.LNK_REVISION.FW_VERSION) ++ m Reg.SEC_FW.SVN_RUNNING ++ m Reg.SEC_FW.SVN_FUSED)
  | 5 => (false, m Reg.MOD_STRAPS.DUALPORTEN ++ m Reg.MOD_STRAPS.PRIMARY_HEAD ++ m Reg.MOD_STRAPS.OOB_ADDR ++ m Reg.MOD_STRAPS.BOOT_SLOT ++
      m Reg.MOD_STRAPS.POUR_DEFAULT ++ m Reg.MOD_STRAPS.LAT_DEFAULT ++ m Reg.MOD_STRAPS.THERMAL_PROFILE)
  | 6 => (false, m Reg.SEC_STATUS.SCAN_COUNT ++ m Reg.SEC_STATUS.SCAN)
  | 7 => (true, digest64 (7 :: s.slotContent))
  | _ => (false, leBytes 1 s.ctl.mode.num ++
      leBytes 1 (bnat s.ctl.degraded + 2 * bnat s.ctl.writeThrough + 4 * bnat s.ctl.readOnly) ++ m Reg.SEC_STATUS.HALT_CAUSE)

/-- A measurement block in SPDM form (log entry 10): index, specification 1, size, value type, value size, value. -/
def State.measurementBlock (s : State) (i : Nat) : List (BitVec 8) :=
  let v := s.measurement i
  leBytes 1 i ++ leBytes 1 1 ++ leBytes 2 (v.2.length + 3) ++ leBytes 1 (if v.1 then 0 else 0x80) ++ leBytes 2 v.2.length ++ v.2

/-- The blocks of an index: one, or all eight for 0. -/
def State.measurementBlocks (s : State) (i : Nat) : List (BitVec 8) :=
  if i = 0 then (List.range 8).flatMap (fun k => s.measurementBlock (k + 1)) else s.measurementBlock i

/-- GET_MEASUREMENTS. -/
def leafGetMeasurements (p : List Byte) (r : Req) (s : State) : State :=
  if fieldAt p 0 1 > 8 ∨ notZero p 1 3 then s.refuse r stInvalid else s.ok r (s.measurementBlocks (fieldAt p 0 1))

/-- Bytes of the slot 0 chain from an offset, at most n. -/
def chainBytes (off n : Nat) : List (BitVec 8) := (List.range (min n (Config.chainLength - off))).map (fun k => Config.chainByte (off + k))

/-- GET_CERTIFICATE. -/
def leafGetCertificate (p : List Byte) (r : Req) (s : State) : State :=
  let n := fieldAt p 4 2
  if n = 0 ∨ n > 4096 ∨ notZero p 6 2 then s.refuse r stInvalid else s.ok r (chainBytes (fieldAt p 0 4) n)

/-! ## SPDM (R351, R352); message and algorithm codes are SPDM's (log entry 10) -/

/-- The transport carries SPDM: DOE instance 1 of a head whose CXL.io serves, but after it has discarded an object (R93), or MCTP while the cores run. -/
def State.spdmUp (s : State) (t : Nat) : Bool :=
  if t < 2 then s.hasHead t && s.ioUp t && !(s.heads.get t).doeError.one
  else s.running || s.ctl.mode == .m10 || (s.ctl.mode == .m9 && s.reg Reg.MOD_STATUS.SAFE_CAUSE != 3)

/-- An SPDM object over a head's DOE is counted (R476). -/
def State.countDoe (s : State) (t : Nat) : State := if t < 2 then s.tally t 367 1 else s

/-- An SPDM request arrives, and is answered on its transport. -/
def State.spdm (s : State) (t : Nat) (f : State → State) : State := if s.spdmUp t then f (s.countDoe t) else s

/-- Answer an SPDM request; over DOE with vector 6 (R107). -/
def State.spdmPut (s : State) (t : Nat) (b : Body) : State :=
  if t < 2 then (s.send (.spdm t b)).msix t 6 else s.send (.spdm t b)

/-- Answer an SPDM request with numbers. -/
def State.spdmSay (s : State) (t : Nat) (v : List Nat) : State := s.spdmPut t (.values v)

/-- Answer an SPDM request with bytes after its code. -/
def State.spdmBytes (s : State) (t code : Nat) (b : List (BitVec 8)) : State := s.spdmPut t (.bytes (leBytes 1 code ++ b))

/-- Refuse an SPDM request with ERROR. -/
def State.spdmError (s : State) (t : Nat) : State := s.spdmSay t [0x7F]

/-- SPDM_GET_VERSION (R351). -/
def execSpdmGetVersion (transport : Fin 3) (s : State) : Res :=
  .next (s.spdm transport (fun s => s.spdmSay transport [0x04, 0x12]))

/-- SPDM_GET_CAPABILITIES (R351). -/
def execSpdmGetCapabilities (transport : Fin 3) (s : State) : Res :=
  .next (s.spdm transport (fun s => s.spdmSay transport [0x61, 0x62F6]))

/-- SPDM_NEGOTIATE_ALGORITHMS (R351): Ed448, SHA3-512, a raw measurement stream, secp384r1, AES-256-GCM; a request that offers none of a
kind is refused. -/
def execSpdmNegotiateAlgorithms (transport : Fin 3) (supported : Bool) (s : State) : Res :=
  .next (s.spdm transport (fun s =>
    if supported then s.spdmSay transport [0x63, 0x800, 0x20, 0x1, 0x10, 0x2] else s.spdmError transport))

/-- The digest of the slot 0 chain, by the base hash (R351). -/
def chainDigest : List (BitVec 8) := sha3of512 (chainBytes 0 Config.chainLength)

/-- SPDM_GET_DIGESTS (R351): the digest of the slot 0 chain. -/
def execSpdmGetDigests (transport : Fin 3) (s : State) : Res :=
  .next (s.spdm transport (fun s => s.spdmBytes transport 0x01 chainDigest))

/-- SPDM_GET_CERTIFICATE (R351): slot 0 only. -/
def execSpdmGetCertificate (transport : Fin 3) (slot offset length : Nat) (s : State) : Res :=
  .next (s.spdm transport (fun s =>
    if slot = 0 ∧ offset < Config.chainLength then s.spdmBytes transport 0x02 (chainBytes offset length) else s.spdmError transport))

/-- A response that carries a fresh nonce and a signature, which a blocked DRBG refuses (R331). -/
def State.spdmSigned (s : State) (t code : Nat) (b : List (BitVec 8)) : State :=
  if s.drbgBlocked then (s.raise 549).spdmError t else (s.spdmBytes t code (b ++ s.openBytes 146)).draw

/-- SPDM_CHALLENGE (R351): the digest of the chain, a nonce and an Ed448 signature over the request's nonce and these. -/
def execSpdmChallenge (transport : Fin 3) (slot nonce : Nat) (s : State) : Res :=
  .next (s.spdm transport (fun s =>
    if slot = 0 then s.spdmSigned transport 0x03 (chainDigest ++ leBytes 32 nonce) else s.spdmError transport))

/-- SPDM_GET_MEASUREMENTS (R352): the number of blocks for index 0, one block, or all for 0xFF, signed. -/
def execSpdmGetMeasurements (transport : Fin 3) (index nonce : Nat) (s : State) : Res :=
  .next (s.spdm transport (fun s =>
    if index = 0 then s.spdmSigned transport 0x60 (leBytes 1 8 ++ leBytes 32 nonce)
    else if index ≤ 8 then s.spdmSigned transport 0x60 (s.measurementBlock index ++ leBytes 32 nonce)
    else if index = 255 then s.spdmSigned transport 0x60 (s.measurementBlocks 0 ++ leBytes 32 nonce)
    else s.spdmError transport))

/-- The sessions of a transport. -/
def State.sessionsOn (s : State) (t : Nat) : List Session := s.sec.sessions.filter (fun x => x.transport == t)

/-- SPDM_KEY_EXCHANGE (R351): KEY_EXCHANGE and FINISH establish a session, at most 2 on a transport and none in Halt (R345). A FINISH that
does not verify ends it (R359). -/
def execSpdmKeyExchange (transport : Fin 3) (finishGood : Bool) (s : State) : Res :=
  .next (s.spdm transport (fun s =>
    if s.ctl.mode = .m10 ∨ 2 ≤ (s.sessionsOn transport).length then s.spdmError transport
    else if s.drbgBlocked then (s.raise 549).spdmError transport
    else if !finishGood then ((s.spdmError transport).raise 538)
    else
      let x : Session := ⟨transport, s.sec.nextSession⟩
      let s1 : State := { s with sec := { s.sec with sessions := s.sec.sessions ++ [x], nextSession := s.sec.nextSession + 1 } }
      (s1.spdmSay transport [0x64, 0x65, x.id]).raise 537))

/-- A session of a transport stands, and the module is not in Halt (R345). -/
def State.hasSession (s : State) (t id : Nat) : Bool := s.ctl.mode != .m10 && (s.sessionsOn t).any (fun x => x.id == id)

/-- End a session (R351, R359). -/
def State.endSession (s : State) (t id : Nat) : State :=
  ({ s with sec := { s.sec with sessions := s.sec.sessions.filter (fun x => !(x.transport == t && x.id == id)) } }).raise 538

/-- SPDM_KEY_UPDATE (R351). -/
def execSpdmKeyUpdate (transport : Fin 3) (session : Nat) (s : State) : Res :=
  .next (s.spdm transport (fun s => if s.hasSession transport session then s.spdmSay transport [0x69] else s.spdmError transport))

/-- SPDM_HEARTBEAT (R351). -/
def execSpdmHeartbeat (transport : Fin 3) (session : Nat) (s : State) : Res :=
  .next (s.spdm transport (fun s => if s.hasSession transport session then s.spdmSay transport [0x68] else s.spdmError transport))

/-- SPDM_END_SESSION (R351). -/
def execSpdmEndSession (transport : Fin 3) (session : Nat) (s : State) : Res :=
  .next (s.spdm transport (fun s =>
    if s.hasSession transport session then (s.spdmSay transport [0x6C]).endSession transport session else s.spdmError transport))

/-- SPDM_HEARTBEAT_TIMEOUT (R351): the session has missed three periods. -/
def execSpdmHeartbeatTimeout (transport : Fin 3) (session : Nat) (s : State) : Res :=
  .next (if (s.sessionsOn transport).any (fun x => x.id == session) then s.endSession transport session else s)

/-! ## Firmware (R353 to R355, R407, R423) -/

/-- A piece of an image goes on where its transfer stands, or begins one (log entry 45). -/
def State.imageFollows (s : State) (offset length : Nat) : Bool :=
  offset == 0 || s.sec.transfer == some (1 - s.fwRuns, offset, length)

/-- Take a piece of an image for the slot that does not run (R353, R354): a whole image that passes replaces the slot's contents, one
that fails leaves them, with source 543. An image with a piece missing does not match its digest. Answers whether the image was
refused. -/
def State.takeImage (s : State) (offset n length : Nat) (v : ImageVerdict) : State × Bool :=
  let slot := 1 - s.fwRuns
  let follows := s.imageFollows offset length
  let at' := fun (x : Option (Nat × Nat × Nat)) => ({ s with sec := { s.sec with transfer := x } } : State)
  if offset + n < length then (at' (if follows then some (slot, offset + n, length) else none), false)
  else match v with
    | .good version svn =>
      if follows && decide (s.reg Reg.SEC_FW.SVN_FUSED ≤ svn % 256) then
        ((at' none).setFwSlot slot ⟨true, version % 65536, svn % 256⟩, false)
      else ((at' none).raise 543, true)
    | _ => ((at' none).raise 543, true)

/-- An image piece that lies within its image. -/
def imagePiece (offset n length : Nat) : Bool := offset % 8 == 0 && 0 < n && offset + n ≤ length

/-- FW_TRANSFER. -/
def leafFwTransfer (p : List Byte) (v : ImageVerdict) (r : Req) (s : State) : State :=
  let off := fieldAt p 0 4
  let len := fieldAt p 4 4
  let n := p.length - 8
  if !imagePiece off n len then s.refuse r stInvalid
  else
    let x := s.takeImage off n len v
    if x.2 then x.1.refuse r stSignature else x.1.ok r []

/-- The image to activate verifies (R354). -/
def State.mayActivate (s : State) (verified : Bool) : Bool := (s.fwSlot (1 - s.fwRuns)).valid && verified

/-- FW_ACTIVATE: a Quiesce that ends with the reply (R435), or in Safe a cold start on the slot it activates (R423). -/
def leafFwActivate (verified : Bool) (r : Req) (s : State) : State :=
  if !s.mayActivate verified then (s.raise 543).refuse r stSignature
  else if s.ctl.mode = .m9 then
    ((((s.ok r []).setReg Reg.MOD_LADDER.BOOT_SLOT (1 - s.fwRuns)).clearLadder).beginCold)
  else s.askQuiesce (.activateLeaf r.transport r.tag r.nocrc)

/-- The FW_INFO reply (R407). -/
def State.fwInfoBytes (s : State) : List (BitVec 8) :=
  padTo 16 (leBytes 1 s.fwRuns ++ leBytes 1 (s.reg Reg.MOD_LADDER.BOOT_SLOT) ++ leBytes 2 s.sec.slotA.version ++
    leBytes 2 s.sec.slotB.version ++ leBytes 1 s.sec.slotA.svn ++ leBytes 1 s.sec.slotB.svn ++ leBytes 1 (s.reg Reg.SEC_FW.SVN_FUSED) ++
    leBytes 1 (bnat s.sec.slotA.valid + 2 * bnat s.sec.slotB.valid))

/-- SVN_COMMIT. -/
def leafSvnCommit (r : Req) (s : State) : State :=
  let svn := s.reg Reg.SEC_FW.SVN_RUNNING
  let other := s.fwSlot (1 - s.fwRuns)
  if other.valid = false ∨ other.svn < svn then s.refuse r stState
  else
    let s1 := (s.setReg Reg.SEC_FW.SVN_FUSED (min 32 (max (s.reg Reg.SEC_FW.SVN_FUSED) svn))).raise 545
    s1.ok r (leBytes 1 (s1.reg Reg.SEC_FW.SVN_FUSED))

/-! ## Scan (R357, R358) -/

/-- SCAN_CHALLENGE: 16 bytes of the DRBG, in place of a challenge that stood. -/
def leafScanChallenge (r : Req) (s : State) : State :=
  if s.drbgBlocked then s.noEntropy r
  else
    let c := s.open? % 2 ^ 128
    (({ s.draw with sec := { s.sec with challenge := some c } }).raise 548).ok r (leBytes 16 c)

/-- SCAN_CHALLENGE_EXPIRY (R357): 10 minutes have passed. -/
def execScanChallengeExpiry (s : State) : Res := .next { s with sec := { s.sec with challenge := none } }

/-- The checks of an unlock token (R357); `signed` is whether its signature verifies under the key it names. -/
def State.tokenGood (s : State) (p : List Byte) (signed : Bool) : Bool :=
  signed && fieldAt p 0 2 == 1 && fieldAt p 4 8 == s.reg Reg.LNK_SERIAL.SERIAL && s.sec.challenge == some (fieldAt p 12 16)

/-- Enter scan mode (R358): credits stop, dirty data goes, every slot is destroyed and the marker written with a critical record, of a
class that the spec does not name; keys and sessions are cleared and the UDS port closed; scan is enabled. -/
def State.scanEnter (s : State) : State :=
  let s1 := (s.answerAll.abortSteeps.stopBulk).memActive false
  let s2 := s1.destroyAll
  let s3 : State := { s2 with
    path := { Path.reset with nextStaged := s2.path.nextStaged, nextPlan := s2.path.nextPlan }
    sec := { s2.sec with scanMarker := true, keysLoaded := false, sessions := [], challenge := none, scanEnabled := true, scanHeld := false }
    mapping := { s2.mapping with walks := [], ckpt := none, scan := none, cache := ⟨[], []⟩, tree := ⟨[], []⟩ } }
  let s4 := (s3.log 1 (s3.open? % 640) []).draw
  ((s4.setReg Reg.SEC_STATUS.SCAN 1).setReg Reg.SEC_STATUS.UDS_CLOSED 1).bump Reg.SEC_STATUS.SCAN_COUNT 0 0 1

/-- SCAN_UNLOCK: a token that fails is refused with source 547, and so is one that comes while no nonce is to be had (R331); an accepted one enters scan mode, after the Pour if one runs (R360). -/
def leafScanUnlock (p : List Byte) (signed : Bool) (r : Req) (s : State) : State :=
  if !s.tokenGood p signed then (s.raise 547).refuse r stSignature
  else if s.drbgBlocked then s.noEntropy r
  else if s.pour.running then ({ s with sec := { s.sec with scanHeld := true } }).ok r []
  else (s.ok r []).scanEnter

end Sys2Proof.Machine
end

