-- ==== Sys2Proof/Machine/HostRegs.lean ====
section
/-! DEFINITION. What a head's function shows a host beside its commands: its identity and capabilities in configuration space (R88,
R105), the blocks of BAR0 (R112) and the memory device status (R98, R113). No row of the table reads them; the fields stand where
software finds them by the standards that R88 and R112 name (log entry 83). -/

namespace Sys2Proof.Machine

/-! ## Function 0 (R88) -/

/-- The class code of a CXL memory device. -/
def classCode : Nat := 0x050210
/-- Weazoir, as vendor and as subsystem vendor. -/
def vendorId : Nat := 0x1E37
/-- The device. -/
def deviceId : Nat := 0x4812
/-- The subsystem. -/
def subsystemId : Nat := 0x0012

/-- The Revision ID: the stepping of the die. -/
def State.revisionId (s : State) : Nat := s.reg Reg.LNK_REVISION.ZORSA_STEP

/-- A head has one function, function 0; that of the primary head is the privileged function. -/
def State.privileged (s : State) (h function : Nat) : Bool := function == 0 && h == s.primary

/-- Dword `off` of a head's configuration header. Configuration requests get RRS, none here, until M2 completes (R113). -/
def State.configHeader (s : State) (h function off : Nat) : Option Nat :=
  if !s.hasHead h || function != 0 || !(s.heads.get h).linkUp || !s.mailReady then none
  else match off with
    | 0x00 => some (vendorId + deviceId * 65536)
    | 0x08 => some (s.revisionId + classCode * 256)
    | 0x2C => some (vendorId + subsystemId * 65536)
    | _ => none

/-! ## BAR0 (R112) -/

/-- The blocks of BAR0. -/
inductive Bar0 where
  | component | device | mailbox (secondary : Bool) | msixTable | msixPending
deriving DecidableEq, Repr

/-- Offset and size of each block. -/
def bar0Layout : List (Bar0 × Nat × Nat) :=
  [(.component, 0x00000, 0x10000), (.device, 0x10000, 0x1000), (.mailbox false, 0x40000, 0x40000),
   (.mailbox true, 0x80000, 0x40000), (.msixTable, 0xC0000, 0x1000), (.msixPending, 0xC1000, 0x1000)]

/-- BAR0 is 1 MiB. -/
def bar0Bytes : Nat := 0x100000

/-- The block of an offset, with the offset within it; none where BAR0 is reserved. -/
def bar0At (off : Nat) : Option (Bar0 × Nat) :=
  (bar0Layout.find? (fun b => b.2.1 ≤ off && off < b.2.1 + b.2.2)).map (fun b => (b.1, off - b.2.1))

/-- The payload size code of a mailbox (R98), and where its payload area lies within the mailbox's block (R112). -/
def payloadCode : Nat := 17
/-- R98. -/
def payloadBytes : Nat := 2 ^ payloadCode
/-- R112. -/
def payloadAt : Nat := 0x20

/-! ## The memory device status (R98, R113) -/

/-- Media Status: 0 not ready, 1 ready, 2 error. -/
def Mode.mediaStatus : Mode → Nat
  | .m5 | .m6 | .m7 => 1
  | .m10 => 2
  | _ => 0

/-- What the memory device status registers report. -/
structure MemStatus where
  fatal : Bool
  media : Nat
  ready : Bool
  resetNeeded : Nat
deriving DecidableEq, Repr

/-- The memory device status in the module's mode: Fatal in Halt alone; Reset Needed 1 is Cold. -/
def State.memStatus (s : State) : MemStatus :=
  { fatal := s.ctl.mode == .m10, media := s.ctl.mode.mediaStatus, ready := s.mailReady,
    resetNeeded := if s.ctl.mode = .m10 then 1 else 0 }

/-- The status as one word, in the standard's order: Fatal, Media Status, Mailbox Interfaces Ready, Reset Needed. -/
def MemStatus.word (m : MemStatus) : Nat :=
  (if m.fatal then 1 else 0) + 4 * m.media + (if m.ready then 16 else 0) + 32 * m.resetNeeded

/-- A dword of BAR0: reserved space reads zero, the MSI-X table shows each vector's mask and the pending-bit array its pending bits, and
each mailbox its capability; the standard registers that the spec does not lay out read as open. -/
def State.bar0Read (s : State) (h off : Nat) : Nat :=
  match bar0At off with
  | none => 0
  | some (.msixTable, o) =>
    if o ≥ 512 then 0
    else if o % 16 = 12 then (if (s.heads.get h).msixMasked.getLsbD (o / 16) then 1 else 0)
    else s.open? % 4294967296
  | some (.msixPending, o) => if o = 0 then (s.heads.get h).msixPending.toNat else 0
  | some (.mailbox _, 0) => payloadCode + 32 + 64
  | some _ => s.open? % 4294967296

/-! ## Capabilities (R88, R98, R105) -/

/-- The capabilities of function 0: the CXL DVSECs of a type 3 device and the Device Serial Number. -/
inductive Capability where
  /-- The PCIe DVSEC for CXL devices. -/
  | cxlDevice
  /-- The Register Locator: the blocks of BAR0 with their offsets. -/
  | registerLocator (blocks : List (Bar0 × Nat))
  /-- GPF for devices: the phase 2 duration in ms and power in mW (R105). -/
  | gpf (durationMs powerMw : Nat)
  /-- The flex bus port. -/
  | flexBusPort
  /-- The Device Serial Number. -/
  | serialNumber (serial : Nat)
deriving DecidableEq, Repr

/-- What either head's function carries; SR-IOV is not among it. -/
def State.capabilities (s : State) : List Capability :=
  [.cxlDevice, .registerLocator (bar0Layout.map (fun b => (b.1, b.2.1))), .gpf 130 68000, .flexBusPort,
   .serialNumber (s.reg Reg.LNK_SERIAL.SERIAL)]

end Sys2Proof.Machine
end

