-- ==== Sys2Proof/Machine/Mailbox.lean ====
section
/-! DEFINITION. The health report (R301, R303) and the mailbox commands (R98 to R106, R114). Return codes, and the order of the numbers
in a standard reply, are CXL's (log entry 10). -/

namespace Sys2Proof.Machine

/-! ## The health report (R297 to R303) -/

/-- Life used (R300). -/
def State.lifeUsed (s : State) : Nat :=
  min 100 (max (s.ms / 3600000 * 100 / 87660) (max (s.reg Reg.SPR_POOL.POOL_PCT) (s.reg Reg.SPR_WEAR.MILLI_PCT * 10 / 1000)))

/-- The sum of a field over its indices on both dies, saturating at n bytes. -/
def State.sumOf (s : State) (f : Field) (bytes : Nat) : Nat :=
  min (256 ^ bytes - 1) ((List.range 2).map (fun d => ((List.range f.count).map (fun i => s.rd f d i)).sum)).sum

/-- Channels in a state. -/
def State.chansIn (s : State) (l : List Nat) : Nat := ((List.range 32).filter (fun c => l.contains (s.chanState c))).length

/-- The health report (R301). -/
def State.healthBytes (s : State) : List (BitVec 8) :=
  leBytes 2 1 ++
  leBytes 1 (bnat s.ctl.degraded + 2 * bnat s.ctl.writeThrough + 4 * bnat s.ctl.readOnly + 8 * s.reg Reg.SPR_POOL.LEVEL) ++
  leBytes 1 (s.reg Reg.SPR_POOL.POOL_PCT) ++ leBytes 1 (s.reg Reg.SPR_POOL.TILE_PCT) ++ leBytes 1 (s.reg Reg.SPR_POOL.OP_PCT) ++
  leBytes 1 (s.reg Reg.SPR_POOL.DIE_PCT) ++ leBytes 1 s.lifeUsed ++ leBytes 4 (s.reg Reg.SPR_WEAR.MILLI_PCT) ++
  leBytes 1 (s.sumOf Reg.SPR_CHAN.SPARE_FREE 1) ++ leBytes 1 (s.chansIn [1, 3]) ++ leBytes 1 (s.chansIn [2]) ++ leBytes 1 (s.chansIn [4]) ++
  leBytes 1 (s.sumOf Reg.SPR_SPARES.ENGINE_FREE 1) ++
  leBytes 1 ((List.range 4).filter (fun n => s.rdP Reg.DMC_PKG.STATE n == 1 || s.rdP Reg.DMC_PKG.STATE n == 2)).length ++
  leBytes 1 (popCount (BitVec.ofNat 8 (s.reg Reg.SPR_SPARES.SUBBANK_ISOLATED))) ++
  leBytes 1 (popCount (BitVec.ofNat 6 (s.reg Reg.SPR_SPARES.PHASE_USED))) ++ leBytes 2 (s.sumOf Reg.DMC_PPR.REMAP_USED 2) ++
  leBytes 2 (s.sumOf Reg.SPR_SPARES.SENSORS_BROKEN 2) ++ leBytes 8 (s.sumOf Reg.PRT_ERR.CORRECTED 8) ++
  leBytes 4 (s.sumOf Reg.PRT_ERR.FAILED 4) ++ leBytes 4 (s.sumOf Reg.PRT_ERR.LOST 4) ++ leBytes 4 (s.sumOf Reg.DMC_ECC.CORRECTED 4) ++
  leBytes 4 (s.sumOf Reg.DMC_ECC.UNCORRECTABLE 4) ++ leBytes 4 (s.sumOf Reg.LOT_KETTLE.DEEP 4) ++ leBytes 4 s.ctl.dirtyShutdowns ++
  leBytes 4 (s.reg Reg.POUR_ENERGY.EST_MJ) ++ leBytes 4 (s.ms / 3600000) ++
  (List.range 192).flatMap (fun i => leBytes 4 (s.rd Reg.SPR_HIST.MIN 0 i))

/-- HEALTH_REPORT (R301). -/
def leafHealthReport (r : Req) (s : State) : State := s.ok r s.healthBytes

/-! ## The mailboxes (R98, R99, R114) -/

/-- Mailbox return code Media Disabled (log entry 10). -/
def rcMediaDisabled : Nat := 7
/-- Mailbox return code FW Authentication Failed (log entry 10). -/
def rcFwAuth : Nat := 0xA
/-- Mailbox return code Invalid Handle (log entry 10). -/
def rcHandle : Nat := 0xE
/-- Mailbox return code Invalid Physical Address (log entry 10). -/
def rcAddress : Nat := 0xF

/-- Mailbox return code Invalid Payload Length (log entry 10). -/
def rcLength : Nat := 0x16

/-- Answer a mailbox command (R98): its doorbell completes. -/
def State.mailSay (s : State) (m : Mbox) (op rc : Nat) (b : Body) : State :=
  (s.send (.mailbox m.head m.secondary op rc b)).doorbell m.head m.secondary

/-- Answer a mailbox command with a return code alone. -/
def State.mailRc (s : State) (m : Mbox) (op rc : Nat) : State := s.mailSay m op rc (.values [])

/-- Answer a mailbox command with success and numbers. -/
def State.mailOk (s : State) (m : Mbox) (op : Nat) (v : List Nat) : State := s.mailSay m op rcSuccess (.values v)

/-- The commands that Halt serves (R114). -/
def haltCommands : List Nat := [0x0002, 0x0100, 0x0101, 0x0200, 0x0300, 0x0400, 0x0401, 0x4000, 0x4200]

/-- The commands that change state, which the secondary mailbox does not serve (R98). -/
def writeCommands : List Nat :=
  [0x0101, 0x0103, 0x0201, 0x0202, 0x0301, 0x4103, 0x4202, 0x4204, 0x4302, 0x4304, 0x4400, 0x4401]

/-- The commands that only the primary head may issue (R99). -/
def primaryCommands : List Nat := [0x0201, 0x0202, 0x4400, 0x4401]

/-- A mailbox command arrives with the control register's interrupt enables (R98, R99, R114): refused in Halt, on the secondary mailbox, or from the wrong head; else it has its
effect. -/
def State.mail (s : State) (m : Mbox) (op : Nat) (f : State → State) : State :=
  if !s.ioUp m.head then s
  else
    let s1 := (s.tally m.head 366 1).onHead m.head (fun hd => { hd with
      dbInt := hd.dbInt.modify (bnat m.secondary) (fun _ => m.dbInt), bgInt := hd.bgInt.modify (bnat m.secondary) (fun _ => m.bgInt) })
    if s.ctl.mode = .m10 ∧ ¬ haltCommands.contains op then s1.mailRc m op rcMediaDisabled
    else if m.secondary && writeCommands.contains op then s1.mailRc m op rcUnsupported
    else if primaryCommands.contains op && m.head.val != s.primary then s1.mailRc m op rcUnsupported
    else f s1

/-- A background command runs on a mailbox of a head. -/
def State.bgRunning (s : State) (m : Mbox) : Bool := ((s.heads.get m.head).background.get (bnat m.secondary)).running

/-- Start a background command (R98): one at a time on each mailbox. -/
def State.bgStart (s : State) (m : Mbox) (op : Nat) (f : State → State) : State :=
  if s.bgRunning m then s.mailRc m op rcBusy
  else
    let s1 := s.onHead m.head (fun hd => { hd with
      background := hd.background.modify (bnat m.secondary) (fun _ => ⟨op, true, 0, 0⟩) })
    f (s1.mailRc m op rcBackground)

/-- The progress of a span in per cent. -/
def percentOf (lo next hi : Nat) : Nat := if hi ≤ lo then 0 else (next - lo) * 100 / (hi - lo)

/-- The percentage of a background command: 100 once it has ended; else how far its scan, its walk or its steeps have come. -/
def State.bgPercent (s : State) (b : Background) : Nat :=
  if !b.running then b.percent
  else if b.opcode = 0x4304 then
    match s.mapping.scan with | some x => percentOf x.lo x.next x.hi | none => 0
  else match s.mapping.walks.find? (fun w => w.kind == .unmap) with
    | some w => percentOf w.lo w.next w.hi
    | none => 0

/-- BACKGROUND_OPERATION_STATUS (R99). -/
def execBackgroundOperationStatus (m : Mbox) (s : State) : Res :=
  .next (s.mail m 0x0002 (fun s =>
    let b := (s.heads.get m.head).background.get (bnat m.secondary)
    s.mailOk m 0x0002 [b.opcode, bnat b.running, s.bgPercent b, b.rc]))

/-! ## Events (R106) -/

/-- GET_EVENT_RECORDS (R106). -/
def execGetEventRecords (m : Mbox) (log : Fin 4) (s : State) : Res :=
  .next (s.mail m 0x0100 (fun s => s.mailSay m 0x0100 rcSuccess (.events ((s.heads.get m.head).log log))))

/-- Clear records of a log: all of them or those named. Records freed end the overflow (log entry 10). -/
def EvLog.clear (l : EvLog) (all : Bool) (handles : List Nat) : EvLog :=
  { l with recs := if all then [] else l.recs.filter (fun r => !handles.contains r.handle),
           overflow := false, lost := 0, firstMs := 0, lastMs := 0 }

/-- CLEAR_EVENT_RECORDS (R106): a handle that the log does not hold is refused. -/
def execClearEventRecords (m : Mbox) (log : Fin 4) (all : Bool) (handles : List Nat) (s : State) : Res :=
  .next (s.mail m 0x0101 (fun s =>
    let l := (s.heads.get m.head).log log
    if !all && handles.any (fun h => !l.recs.any (fun r => r.handle == h)) then s.mailRc m 0x0101 rcHandle
    else (s.onHead m.head (fun hd => hd.setLog log (l.clear all handles))).mailRc m 0x0101 rcSuccess))

/-- GET_EVENT_INTERRUPT_POLICY (R99). -/
def execGetEventInterruptPolicy (m : Mbox) (s : State) : Res :=
  .next (s.mail m 0x0102 (fun s => s.mailOk m 0x0102 (s.heads.get m.head).policy))

/-- SET_EVENT_INTERRUPT_POLICY (R99): 0 none, 1 MSI-X, 2 firmware, for each of the four logs. -/
def execSetEventInterruptPolicy (m : Mbox) (modes : List (Fin 3)) (s : State) : Res :=
  .next (s.mail m 0x0103 (fun s =>
    if modes.length ≠ 4 then s.mailRc m 0x0103 rcInvalid
    else (s.onHead m.head (fun hd => { hd with policy := modes.map Fin.val })).mailRc m 0x0103 rcSuccess))

/-! ## Firmware, time and logs -/

/-- GET_FW_INFO (R99): two slots, the running one, the one of the next cold start, online activation, and the versions. -/
def execGetFwInfo (m : Mbox) (s : State) : Res :=
  .next (s.mail m 0x0200 (fun s => s.mailOk m 0x0200
    [2, s.fwRuns + 1, s.reg Reg.MOD_LADDER.BOOT_SLOT + 1, 1, s.sec.slotA.version, s.sec.slotB.version]))

/-- TRANSFER_FW (R99, R354): `data` bytes at an offset of an image of `length` bytes. -/
def execTransferFw (m : Mbox) (offset length : Nat) (data : Nat) (verdict : ImageVerdict) (s : State) : Res :=
  .next (s.mail m 0x0201 (fun s =>
    if 128 + data > payloadBytes then s.mailRc m 0x0201 rcLength
    else if !imagePiece offset data length then s.mailRc m 0x0201 rcInvalid
    else
      let x := s.takeImage offset data length verdict
      x.1.mailRc m 0x0201 (if x.2 then rcFwAuth else rcSuccess)))

/-- ACTIVATE_FW (R99, R354): in the background, by a Quiesce. -/
def execActivateFw (m : Mbox) (verified : Bool) (s : State) : Res :=
  .next (s.mail m 0x0202 (fun s =>
    if !s.mayActivate verified then (s.raise 543).mailRc m 0x0202 rcFwAuth
    else s.bgStart m 0x0202 (fun s => s.askQuiesce (.activateMailbox m.head))))

/-- GET_TIMESTAMP (R99): 0 while the clock has not been set. -/
def execGetTimestamp (m : Mbox) (s : State) : Res := .next (s.mail m 0x0300 (fun s => s.mailOk m 0x0300 [s.wallMs.getD 0]))

/-- SET_TIMESTAMP (R99, R495). -/
def execSetTimestamp (m : Mbox) (ms : BitVec 64) (s : State) : Res :=
  .next (s.mail m 0x0301 (fun s => (s.setWall ms.toNat m.head).mailRc m 0x0301 rcSuccess))

/-- The Command Effects Log (R99): each opcode with its effects (log entry 10). -/
def effectsLog : List (Nat × Nat) :=
  [(0x0002, 0x80), (0x0100, 0x80), (0x0101, 0x10), (0x0102, 0x80), (0x0103, 0x08), (0x0200, 0x80), (0x0201, 0x02), (0x0202, 0x42),
   (0x0300, 0x80), (0x0301, 0x08), (0x0400, 0x80), (0x0401, 0x80), (0x4000, 0x80), (0x4100, 0x80), (0x4102, 0x80), (0x4103, 0x06),
   (0x4200, 0x80), (0x4201, 0x80), (0x4202, 0x08), (0x4203, 0x80), (0x4204, 0x08), (0x4300, 0x80), (0x4302, 0x04), (0x4303, 0x80),
   (0x4304, 0x40), (0x4305, 0x80), (0x4400, 0x64), (0x4401, 0x64), (0xCF00, 0x02)]

/-- The bytes of the Command Effects Log. -/
def effectsBytes : List (BitVec 8) := effectsLog.flatMap (fun p => leBytes 2 p.1 ++ leBytes 2 p.2)

/-- GET_SUPPORTED_LOGS (R99): one log, and its size. -/
def execGetSupportedLogs (m : Mbox) (s : State) : Res :=
  .next (s.mail m 0x0400 (fun s => s.mailOk m 0x0400 [1, effectsBytes.length]))

/-- GET_LOG (R99): the Command Effects Log only. -/
def execGetLog (m : Mbox) (effects : Bool) (offset length : Nat) (s : State) : Res :=
  .next (s.mail m 0x0401 (fun s =>
    if !effects || offset + length > effectsBytes.length then s.mailRc m 0x0401 rcInvalid
    else s.mailSay m 0x0401 rcSuccess (.bytes ((effectsBytes.drop offset).take length))))

/-! ## The device (R100, R103, R104, R303) -/

/-- IDENTIFY_MEMORY_DEVICE (R100). -/
def execIdentifyMemoryDevice (m : Mbox) (s : State) : Res :=
  .next (s.mail m 0x4000 (fun s => s.mailOk m 0x4000 [49152, 0, 49152, 0, 256, 256, 256, 256, 131072, 262144, 0]))

/-- GET_PARTITION_INFO (R99): all capacity is persistent, and no other partition is pending. -/
def execGetPartitionInfo (m : Mbox) (s : State) : Res := .next (s.mail m 0x4100 (fun s => s.mailOk m 0x4100 [0, 49152, 0, 49152]))

/-- The bytes of the label storage area. -/
def lsaBytes : Nat := 131072

/-- GET_LSA (R103). -/
def execGetLsa (m : Mbox) (offset length : Nat) (s : State) : Res :=
  .next (s.mail m 0x4102 (fun s =>
    if offset + length > lsaBytes then s.mailRc m 0x4102 rcInvalid
    else s.mailSay m 0x4102 rcSuccess (.bytes ((List.range length).map (fun k => s.lsa.get 0 (offset + k))))))

/-- SET_LSA (R103): durable when it completes. -/
def execSetLsa (m : Mbox) (offset : Nat) (data : List Byte) (s : State) : Res :=
  .next (s.mail m 0x4103 (fun s =>
    if 8 + data.length > payloadBytes then s.mailRc m 0x4103 rcLength
    else if offset + data.length > lsaBytes then s.mailRc m 0x4103 rcInvalid
    else ({ s with lsa := (data.zipIdx offset).foldl (fun (t : Tab (BitVec 8)) (p : BitVec 8 × Nat) => t.put 0 p.2 p.1) s.lsa }).mailRc m 0x4103 rcSuccess))

/-- The values of Get Health Info (R303): health status, media status, life used, temperature, dirty shutdown count, corrected volatile
and persistent error counts. -/
def State.healthInfo (s : State) : List Nat :=
  let level := s.reg Reg.SPR_POOL.LEVEL
  let notReady := s.ctl.mode == .m2 || s.ctl.mode == .m3 || s.ctl.mode == .m4 || s.ctl.mode == .m8
  [bnat (level ≥ 2) + 2 * bnat s.ctl.degraded + 4 * bnat (level == 3 || s.chansIn [4] > 0 || s.ctl.readOnly),
   bnat notReady, s.lifeUsed, signedBits 16 ((s.hottest (List.range 16)).getD 0), s.ctl.dirtyShutdowns,
   s.sumOf Reg.DMC_ECC.CORRECTED 4, s.sumOf Reg.PRT_ERR.CORRECTED 4]

/-- GET_HEALTH_INFO (R303). -/
def execGetHealthInfo (m : Mbox) (s : State) : Res := .next (s.mail m 0x4200 (fun s => s.mailOk m 0x4200 s.healthInfo))

/-- GET_ALERT_CONFIGURATION (R99): the head's own thresholds. -/
def execGetAlertConfiguration (m : Mbox) (s : State) : Res :=
  .next (s.mail m 0x4201 (fun s => s.mailOk m 0x4201 (s.heads.get m.head).alerts))

/-- SET_ALERT_CONFIGURATION (R99). -/
def execSetAlertConfiguration (m : Mbox) (values : List Nat) (s : State) : Res :=
  .next (s.mail m 0x4202 (fun s => (s.onHead m.head (fun hd => { hd with alerts := values })).mailRc m 0x4202 rcSuccess))

/-- GET_SHUTDOWN_STATE (R104). -/
def execGetShutdownState (m : Mbox) (s : State) : Res :=
  .next (s.mail m 0x4203 (fun s => s.mailOk m 0x4203 [(s.heads.get m.head).shutdownState, s.ctl.dirtyShutdowns]))

/-- SET_SHUTDOWN_STATE (R104): recorded, with no other effect. -/
def execSetShutdownState (m : Mbox) (state : BitVec 8) (s : State) : Res :=
  .next (s.mail m 0x4204 (fun s => (s.onHead m.head (fun hd => { hd with shutdownState := state.toNat })).mailRc m 0x4204 rcSuccess))

/-! ## Poison and media (R61, R101, R102, R266) -/

/-- A DPA range in lines. -/
def linesOf (dpa length : Nat) : Nat × Nat := (dpa / 64, (dpa + length + 63) / 64)

/-- A DPA range lies in the space. -/
def inDpa (dpa length : Nat) : Bool := decide (dpa + length ≤ dpaBytes)

/-- The records of runs: DPA, lines, source (1 External, 2 Internal; log entry 10). -/
def runValues (l : List Run) : List Nat := l.flatMap (fun r => [r.first * 64, r.len, if r.host then 1 else 2])

/-- GET_POISON_LIST (R101): at most 2,048 records, each clipped to the range, with More, the overflow flag and its time. -/
def execGetPoisonList (m : Mbox) (dpa length : Nat) (s : State) : Res :=
  .next (s.mail m 0x4300 (fun s =>
    if !inDpa dpa length then s.mailRc m 0x4300 rcAddress
    else
      let l := s.mapping.poison.clip (linesOf dpa length).1 (linesOf dpa length).2
      s.mailOk m 0x4300 ([bnat (l.length > 2048), bnat s.mapping.poison.overflow, s.mapping.poison.overflowMs] ++ runValues (l.take 2048))))

/-- CLEAR_POISON (R61, R99): acts as a write of the given data. -/
def execClearPoison (m : Mbox) (dpa : Nat) (data : Line) (env : PathEnv) (s : State) : Res :=
  .next (s.mail m 0x4302 (fun s =>
    let line := dpa / 64
    if dpa % 64 ≠ 0 then s.mailRc m 0x4302 rcInvalid
    else if !inDpa dpa 64 then s.mailRc m 0x4302 rcAddress
    else if !s.inService && s.ctl.mode != .m7 then s.mailRc m 0x4302 rcMediaDisabled
    else if s.chanLost (chanOf (line / 16)) then s.mailRc m 0x4302 rcSuccess
    else
      let s1 := s.meets line env false
      let s2 := if s.ctl.readOnly then s1.writeLine line 0 (BitVec.allOnes 64) true true false 0 none
        else s1.writeLine line data (BitVec.allOnes 64) true false false 0 none
      s2.mailRc m 0x4302 rcSuccess))

/-- GET_SCAN_MEDIA_CAPABILITIES (R99): the time a scan of the range would take, which the spec leaves open. -/
def execGetScanMediaCapabilities (m : Mbox) (dpa length : Nat) (s : State) : Res :=
  .next (s.mail m 0x4303 (fun s =>
    if !inDpa dpa length then s.mailRc m 0x4303 rcAddress else (s.mailOk m 0x4303 [s.open?]).draw))

/-- SCAN_MEDIA (R101, R266): in the background over the range's quires; one scan runs at a time. -/
def execScanMedia (m : Mbox) (dpa length : Nat) (s : State) : Res :=
  .next (s.mail m 0x4304 (fun s =>
    if !inDpa dpa length then s.mailRc m 0x4304 rcAddress
    else if (match s.mapping.scan with | some x => x.running | none => false) then s.mailRc m 0x4304 rcBusy
    else s.bgStart m 0x4304 (fun s =>
      let lo := dpa / 1024
      { s with mapping := { s.mapping with scan := some ⟨m.head, lo, (dpa + length + 1023) / 1024, lo, true, []⟩ } })))

/-- GET_SCAN_MEDIA_RESULTS (R101): the runs that the head's last scan found. -/
def execGetScanMediaResults (m : Mbox) (s : State) : Res :=
  .next (s.mail m 0x4305 (fun s =>
    match s.mapping.scan with
    | some x => if x.head = m.head.val ∧ x.running = false then s.mailOk m 0x4305 (runValues x.found) else s.mailRc m 0x4305 rcUnsupported
    | none => s.mailRc m 0x4305 rcUnsupported))

/-- Start a Sanitize or Secure Erase (R102), unless one runs. Both need a new key-store nonce, which a blocked DRBG does not give (R331). -/
def State.eraseStart (s : State) (m : Mbox) (op : Nat) (w : QWork) : State :=
  if s.ctl.erase.isSome then s.mailRc m op rcBusy
  else if s.drbgBlocked then (s.raise 549).mailRc m op rcInternal
  else s.bgStart m op (fun s => s.askQuiesce w)

/-- SANITIZE (R102). -/
def execSanitize (m : Mbox) (s : State) : Res := .next (s.mail m 0x4400 (fun s => s.eraseStart m 0x4400 (.sanitize m.head)))

/-- SECURE_ERASE (R102). -/
def execSecureErase (m : Mbox) (s : State) : Res := .next (s.mail m 0x4401 (fun s => s.eraseStart m 0x4401 (.secureErase m.head)))

/-! ## Commands of the platform manager, and the others -/

/-- The platform manager's fabric-management commands are served while the cores run (R99). -/
def State.fabric (s : State) (f : State → State) : State := if s.spdmUp 2 then f s else s

/-- GET_MULTI_HEADED_INFO (R99): the heads that exist, and one logical device each. -/
def execGetMultiHeadedInfo (s : State) : Res :=
  .next (s.fabric (fun s => s.send (.fabric 0x5500 rcSuccess (.values [if s.dual then 2 else 1, 1]))))

/-- GET_HEAD_INFO (R99): of each head asked for, its number, its width and rate, and whether its link is up. -/
def execGetHeadInfo (start count : Nat) (s : State) : Res :=
  .next (s.fabric (fun s =>
    let n := if s.dual then 2 else 1
    if count = 0 ∨ start + count > n then s.send (.fabric 0x5501 rcInvalid (.values []))
    else s.send (.fabric 0x5501 rcSuccess (.values ((List.range count).flatMap (fun k =>
      [start + k, s.rd Reg.LNK_STATUS.WIDTH (start + k) 0, s.rd Reg.LNK_STATUS.RATE (start + k) 0,
       bnat (s.heads.get (start + k)).linkUp]))))))

/-- The opcodes of R99 that a mailbox supports. -/
def mailOpcodes : List Nat := effectsLog.map (fun p => p.1)

/-- A mailbox command that R99 does not support here: not in its table, on the secondary mailbox, or from the wrong head. -/
def State.mailRefused (s : State) (m : Mbox) (op : Nat) : Bool :=
  !mailOpcodes.contains op || (m.secondary && writeCommands.contains op) || (primaryCommands.contains op && m.head.val != s.primary)

/-- MAILBOX_UNSUPPORTED (R99): answers Unsupported; in Halt, as every other command, Media Disabled (R114). An opcode that is supported
here is that command with an empty payload, which is all that some of them take; the others answer Invalid Payload Length, and a leaf
that is too short Invalid Input (R391; log entry 6). -/
def execMailboxUnsupported (m : Mbox) (opcode : BitVec 16) (s : State) : Res :=
  if s.mailRefused m opcode.toNat then .next (s.mail m opcode.toNat (fun s => s.mailRc m opcode.toNat rcUnsupported))
  else match opcode.toNat with
    | 0x0002 => execBackgroundOperationStatus m s
    | 0x0102 => execGetEventInterruptPolicy m s
    | 0x0200 => execGetFwInfo m s
    | 0x0300 => execGetTimestamp m s
    | 0x0400 => execGetSupportedLogs m s
    | 0x4000 => execIdentifyMemoryDevice m s
    | 0x4100 => execGetPartitionInfo m s
    | 0x4200 => execGetHealthInfo m s
    | 0x4201 => execGetAlertConfiguration m s
    | 0x4203 => execGetShutdownState m s
    | 0x4305 => execGetScanMediaResults m s
    | 0x4400 => execSanitize m s
    | 0x4401 => execSecureErase m s
    | 0xCF00 => .next (s.mail m 0xCF00 (fun s => s.mailRc m 0xCF00 rcInvalid))
    | op => .next (s.mail m op (fun s => s.mailRc m op rcLength))

end Sys2Proof.Machine
end

