-- ==== Sys2Proof/Machine/Tally.lean ====
section
/-! DEFINITION. The tally (R475 to R490): the three counter banks of a die with their snapshots, wraps, and the sampler with its
buffer. Counters of events that no row stands for count when a command brings their events (log entry 28). -/

namespace Sys2Proof.Machine

/-! ## The banks (R475, R479) -/

/-- The live counters of a bank: 0 fixed, 1 engine, 2 signal. -/
def tlyLive : Nat → Field
  | 0 => Reg.TLY_FIXED.COUNT
  | 1 => Reg.TLY_ENG.COUNT
  | _ => Reg.TLY_SIG.COUNT

/-- The snapshot of a bank. -/
def tlySnap : Nat → Field
  | 0 => Reg.TLY_FIXED_SNAP.COUNT
  | 1 => Reg.TLY_ENG_SNAP.COUNT
  | _ => Reg.TLY_SIG_SNAP.COUNT

/-- The counters of a bank (R475). -/
def bankSize : Nat → Nat
  | 0 => 384
  | 1 => 96
  | _ => 32

/-- Fixed counters that read zero (R476): events 368 and 376 to 381 on die 1, and 360 to 362 there in single-head mode. -/
def State.tlyZero (s : State) (d i : Nat) : Bool :=
  d == 1 && (i == 368 || (376 ≤ i && i ≤ 381) || (360 ≤ i && i ≤ 362 && !s.dual))

/-- A live counter as a read shows it. -/
def State.tlyValue (s : State) (d bank i : Nat) : Nat :=
  if bank == 0 && s.tlyZero d i then 0 else s.rd (tlyLive bank) d i

/-- The overflow bit of a counter. -/
def State.tlyOvf (s : State) (d bank i : Nat) : Bool :=
  match bank with
  | 0 => (s.rd Reg.TLY_OVF_FIXED.BITS d (i / 64)).testBit (i % 64)
  | 1 => (s.rd Reg.TLY_OVF_ENG.BITS d (i / 64)).testBit (i % 64)
  | _ => (s.rd Reg.TLY_OVF_SIG.BITS d 0).testBit i

/-- Set the overflow bit of a counter. -/
def State.setTlyOvf (s : State) (d bank i : Nat) : State :=
  match bank with
  | 0 => s.wrBit Reg.TLY_OVF_FIXED.BITS d (i / 64) (i % 64) true
  | 1 => s.wrBit Reg.TLY_OVF_ENG.BITS d (i / 64) (i % 64) true
  | _ => s.wrBit Reg.TLY_OVF_SIG.BITS d 0 i true

/-- Copy a bank into its snapshot, and count the latch (R479). -/
def State.latch (s : State) (d bank : Nat) : State :=
  let s1 := s.wr Reg.TLY_LATCH.SEQ d bank (s.rd Reg.TLY_LATCH.SEQ d bank + 1)
  (List.range (bankSize bank)).foldl (fun (s' : State) i => s'.wr (tlySnap bank) d i (s.tlyValue d bank i)) s1

/-- The bank has the counter, its selection counts, and its source clock runs (R476 to R478, R488). -/
def State.tlyCounts (s : State) (d bank i : Nat) : Bool :=
  s.ctl.mode.counts && i < bankSize bank &&
    (match bank with
     | 0 => !s.tlyZero d i
     | 1 => s.rd Reg.TLY_ENG_SEL.ENABLE d i == 1 && s.rd Reg.TLY_ENG_SEL.EVENT d i < 24 && s.engineRuns (2 * (i / 4) + d)
     | _ => 1 ≤ s.rd Reg.TLY_SIG_SEL.MODE d i && s.rd Reg.TLY_SIG_SEL.MODE d i ≤ 5 && s.rd Reg.TLY_SIG_SEL.SIGNAL d i < 704)

/-- n events count in a counter; a wrap sets its overflow bit and raises source 615 or 616 (R481). -/
def State.tlyAdd (s : State) (d bank i n : Nat) : State :=
  if !s.tlyCounts d bank i || n == 0 then s
  else
    let v := s.rd (tlyLive bank) d i + n
    let s1 := s.wr (tlyLive bank) d i v
    if v < 281474976710656 then s1 else (s1.setTlyOvf d bank i).assertSource (615 + d)

/-- TLY_COUNTER_WRAP (R481): a counter's events carry it past 2^48 − 1. -/
def execTlyCounterWrap (die : Fin 2) (bank : Fin 3) (index events : Nat) (s : State) : Res :=
  .next (s.tlyAdd die.val bank.val index events)

/-! ## The sampler (R484 to R487) -/

/-- An event that a sampler can select (R484, R476, R477). -/
def sampleEventOk (e : Nat) : Bool := if e / 32768 = 0 then e % 512 < 384 else e % 256 < 24 && e / 256 % 32 ≤ 23

/-- A selection was written: the period count restarts, and the buffer stays (R484). -/
def State.restartSampler (s : State) (d : Nat) : State := { s with tlyCount := s.tlyCount.modify d (fun _ => 0) }

/-- The mode of a sampler: 3 acts as 0. -/
def State.sampleMode (s : State) (d : Nat) : Nat := s.rd Reg.TLY_SAMPLE_CFG.MODE d 0 % 3

/-- The period in force: 0 acts as 1. -/
def State.samplePeriod (s : State) (d : Nat) : Nat := max 1 (s.rd Reg.TLY_SAMPLE_PERIOD.EVENTS d 0)

/-- The sampler takes its event: it is on, its event can be selected, its engine runs, and the clocks run (R484, R488, R489). -/
def State.sampling (s : State) (d : Nat) : Bool :=
  let e := s.rd Reg.TLY_SAMPLE_CFG.EVENT d 0
  s.ctl.mode.counts && s.sampleMode d != 0 && sampleEventOk e &&
    (e / 32768 == 0 || s.engineRuns (2 * (e / 256 % 32) + d))

/-- The key of a record in the sample buffers. -/
def tlyBufKey (d i : Nat) : Nat := d * 8192 + i

/-- A precise record (R485). Records of kind 3 are zero after byte 11. -/
def sampleRecord (time event : Nat) (f : SampleFields) : BitVec 256 :=
  let head := leBytes 8 time ++ leBytes 2 event ++ [BitVec.ofNat 8 f.kind.val, f.byte11]
  let tail := if f.kind = 3 then leBytes 20 0 else leBytes 4 f.info.toNat ++ leBytes 8 f.mid.toNat ++ leBytes 8 f.addr.toNat
  BitVec.ofNat 256 (leNat (head ++ tail))

/-- A record is lost (R485, R486). -/
def State.loseSample (s : State) (d : Nat) : State := (s.bump Reg.TLY_SAMPLE_STAT.LOST d 0 1).tally d 383 1

/-- Place a record in a die's buffer (R486), with source 617 or 618 when the unread count reaches the threshold. -/
def State.placeSample (s : State) (d : Nat) (r : BitVec 256) : State :=
  let wr := s.rd Reg.TLY_SAMPLE_WR.INDEX d 0
  let unread := s.rd Reg.TLY_SAMPLE_STAT.UNREAD d 0
  let put : State := ({ s with tlyBuf := s.tlyBuf.put 0 (tlyBufKey d wr) r }).wr Reg.TLY_SAMPLE_WR.INDEX d 0 (wr + 1)
  if s.rd Reg.TLY_SAMPLE_CFG.WRAP d 0 = 0 ∧ unread ≥ 8191 then s.loseSample d
  else if unread ≥ 8192 then ((put.wr Reg.TLY_SAMPLE_RD.INDEX d 0 (wr + 1)).tally d 382 1).loseSample d
  else
    let s1 := (put.wr Reg.TLY_SAMPLE_STAT.UNREAD d 0 (unread + 1)).tally d 382 1
    if s.rd Reg.TLY_SAMPLE_THRESH.RECORDS d 0 = unread + 1 then s1.raise (617 + d) else s1

/-- Latch a skid sample (R487). -/
def State.skidSample (s : State) (d : Nat) (addr : Nat) : State :=
  if s.rd Reg.TLY_SKID.VALID d 0 = 1 then s.bump Reg.TLY_SKID.MISSED d 0 1
  else
    (((s.wr Reg.TLY_SKID.VALID d 0 1).wr Reg.TLY_SKID.EVENT d 0 (s.rd Reg.TLY_SAMPLE_CFG.EVENT d 0)).wr Reg.TLY_SKID.ADDR d 0
      addr).raise (617 + d)

/-- TLY_SAMPLE (R484 to R487): `events` further occurrences of the sampler's event; the PERIOD-th is sampled. The value of TLY_TIME is
open (log entry 28). -/
def execTlySample (die : Fin 2) (events : Nat) (f : SampleFields) (s : State) : Res :=
  .next (
    let d := die.val
    if !s.sampling d then s
    else
      let n := s.tlyCount.get d + events
      let count := fun (s : State) (k : Nat) => ({ s with tlyCount := s.tlyCount.modify d (fun _ => k) } : State)
      if n < s.samplePeriod d then count s n
      else
        let s1 := count s (n - s.samplePeriod d)
        if s.sampleMode d = 2 then s1.skidSample d f.addr.toNat
        else if f.busy then s1.loseSample d
        else s1.draw.placeSample d (sampleRecord s.open? (s.rd Reg.TLY_SAMPLE_CFG.EVENT d 0) f))

/-! ## TALLY_READ and TALLY_SAMPLE (R482 to R484) -/

/-- TALLY_READ is open to the platform manager, and to the primary head while READ_EN bit 1 is set (R482). -/
def State.tallyOpen (s : State) (who : Nat) : Bool :=
  who == 2 || (who == s.primary && (s.rd Reg.LNK_BAR2_GRANT.READ_EN s.primary 0).testBit 1)

/-- WRITE_EN bit 1 is set (R482). -/
def State.tallyWritable (s : State) : Bool := (s.rd Reg.LNK_BAR2_GRANT.WRITE_EN s.primary 0).testBit 1

/-- A word of TALLY_READ (R483). -/
def State.tallyWord (s : State) (d bank i : Nat) : Nat :=
  s.rd (tlySnap bank) d i + (if s.tlyOvf d bank i then 281474976710656 else 0)

/-- TALLY_READ (R483). -/
def leafTallyRead (p : List Byte) (r : Req) (s : State) : State :=
  let bank := leNat (p.take 1)
  let die := leNat ((p.drop 1).take 1)
  let first := leNat ((p.drop 2).take 2)
  let count := leNat ((p.drop 4).take 2)
  if bank > 2 ∨ die > 1 ∨ count = 0 ∨ count > 768 ∨ first + count > bankSize bank then s.refuse r stInvalid
  else if !s.tallyOpen r.who then s.refuse r stAccess
  else
    let s1 := s.latch die bank
    s1.ok r ((List.range count).flatMap (fun k => leBytes 8 (s1.tallyWord die bank (first + k))))

/-- TALLY_SAMPLE (R484): the mode, the event and the period. -/
def leafTallySample (p : List Byte) (r : Req) (s : State) : State :=
  let d := leNat (p.take 1)
  let mode := leNat ((p.drop 1).take 1)
  let e := leNat ((p.drop 2).take 2)
  if d > 1 ∨ mode > 2 ∨ !sampleEventOk e then s.refuse r stInvalid
  else if !s.tallyWritable then s.refuse r stAccess
  else
    let s1 := ((s.wr Reg.TLY_SAMPLE_CFG.MODE d 0 mode).wr Reg.TLY_SAMPLE_CFG.EVENT d 0 e).wr Reg.TLY_SAMPLE_PERIOD.EVENTS d 0
      (leNat ((p.drop 4).take 4))
    (s1.restartSampler d).ok r []

end Sys2Proof.Machine
end

