-- ==== Sys2Proof/Machine/Store.lean ====
section
/-! DEFINITION. Reading the Ream (R496, R500 to R503), its suppression summaries (R494), and the leaves of the quire store (R504 to
R511). -/

namespace Sys2Proof.Machine

/-! ## Readers (R500, R502) -/

/-- The oldest SEQ of some records, or the next to be written. -/
def State.oldestSeq (s : State) (l : List ReamRec) : Nat := match l with | r :: _ => r.seq | [] => s.ream.nextSeq

/-- A cursor or mark that nothing has moved since the reset names the oldest record (REAM_CURSOR's reset value). -/
def State.cursorSeq (s : State) (l : List ReamRec) (q : Nat) : Nat := if q = 0 then s.oldestSeq l else q

/-- The reader of a requester (R500): 0 the host, 1 the platform manager. -/
def readerOf (who : Nat) : Nat := if who = 2 then 1 else 0

/-- REAM_READ reads the critical mirror (R502). -/
def State.mirrored (s : State) : Bool := s.ctl.mode == .m9 || s.ctl.mode == .m11

/-- The records a reader reads. -/
def State.readerLog (s : State) : List ReamRec := if s.mirrored then s.ream.mirror else s.ream.log

/-- The cursor of a reader. -/
def State.cursor (s : State) (u : Nat) : Nat :=
  s.cursorSeq s.readerLog (if s.mirrored then s.ream.mirrorCursor.get u else s.rd Reg.REAM_CURSOR.SEQ 0 u)

/-- The mark of a reader. -/
def State.mark (s : State) (u : Nat) : Nat :=
  s.cursorSeq s.readerLog (if s.mirrored then s.ream.mirrorMark.get u else s.rd Reg.REAM_MARK.SEQ 0 u)

/-- Move a reader's cursor. -/
def State.setCursor (s : State) (u q : Nat) : State :=
  if s.mirrored then { s with ream := { s.ream with mirrorCursor := s.ream.mirrorCursor.modify u (fun _ => q) } }
  else s.wr Reg.REAM_CURSOR.SEQ 0 u q

/-- Move a reader's mark. -/
def State.setMark (s : State) (u q : Nat) : State :=
  if s.mirrored then { s with ream := { s.ream with mirrorMark := s.ream.mirrorMark.modify u (fun _ => q) } }
  else s.wr Reg.REAM_MARK.SEQ 0 u q

/-- The first records of a list that fit whole in n bytes. -/
def fitRecords : Nat → List ReamRec → List ReamRec
  | _, [] => []
  | n, r :: t => if r.length ≤ n then r :: fitRecords (n - r.length) t else []

/-- The records a reader takes from its cursor in n bytes. -/
def State.taken (s : State) (u n : Nat) : List ReamRec :=
  fitRecords n (s.readerLog.filter (fun r => s.cursor u ≤ r.seq))

/-- The SEQ that follows some records a reader has taken: the next record it can read, or the next to be written. -/
def State.seqAfter (s : State) (u : Nat) (l : List ReamRec) : Nat :=
  match l.getLast? with
  | none => s.cursor u
  | some r => ((s.readerLog.find? (fun x => r.seq < x.seq)).map ReamRec.seq).getD s.ream.nextSeq

/-- A report of GAP (R500): GAP and LOST clear, and a record of class 0x400 is written. -/
def State.reportGap (s : State) (u : Nat) : State :=
  if s.rd Reg.REAM_GAP.GAP 0 u = 0 then s
  else
    ((s.wr Reg.REAM_GAP.GAP 0 u 0).wr Reg.REAM_GAP.LOST 0 u 0).log 3 0x400 [u, s.rd Reg.REAM_GAP.LOST 0 u]

/-- The prefix of a REAM_READ reply (R502). -/
def State.reamPrefix (s : State) (u first : Nat) : List (BitVec 8) :=
  leBytes 8 first ++ leBytes 4 (s.rd Reg.REAM_GAP.GAP 0 u + 2 * bnat s.mirrored) ++ leBytes 4 (s.rd Reg.REAM_GAP.LOST 0 u)

/-- REAM_READ with op 0 (R502). A reply holds at most 65,536 bytes (R384). -/
def State.readRecords (s : State) (most : Nat) (r : Req) : State :=
  let u := readerOf r.who
  if most = 0 ∨ most > 65536 then s.refuse r stInvalid
  else
    let l := s.taken u (min most 65520)
    let first := match l with | x :: _ => x.seq | [] => s.ream.nextSeq
    ((s.setCursor u (s.seqAfter u l)).reportGap u).ok r (s.reamPrefix u first ++ l.flatMap ReamRec.bytes)

/-- REAM_READ (R502): op 0 reads at the cursor, 1 rewinds it to the mark, 2 sets the mark at it. -/
def leafReamRead (p : List Byte) (r : Req) (s : State) : State :=
  let u := readerOf r.who
  if notZero p 1 3 then s.refuse r stInvalid
  else match fieldAt p 0 1 with
    | 0 => s.readRecords (fieldAt p 4 4) r
    | 1 => ((s.setCursor u (s.mark u)).reportGap u).ok r (s.reamPrefix u s.ream.nextSeq)
    | 2 => ((s.setMark u (s.cursor u)).reportGap u).ok r (s.reamPrefix u s.ream.nextSeq)
    | _ => s.refuse r stInvalid

/-! ## What REAM_CMD does (R501) -/

/-- The records of reader 0 in the log, whatever the mode. -/
def State.windowRecords (s : State) : List ReamRec :=
  fitRecords 4096 (s.ream.log.filter (fun r => s.cursorSeq s.ream.log (s.rd Reg.REAM_CURSOR.SEQ 0 0) ≤ r.seq))

/-- REAM_CMD.LOAD (R501). -/
def State.loadWindow (s : State) : State :=
  let l := s.windowRecords
  let next := match l.getLast? with
    | none => s.rd Reg.REAM_CURSOR.SEQ 0 0
    | some r => ((s.ream.log.find? (fun x => r.seq < x.seq)).map ReamRec.seq).getD s.ream.nextSeq
  let b := l.flatMap ReamRec.bytes
  ((({ s with ream := { s.ream with window := b } }).setReg Reg.REAM_WIN.BYTES b.length).setReg Reg.REAM_WIN.RECORDS l.length).wr
    Reg.REAM_CURSOR.SEQ 0 0 next

/-- A write to REAM_CMD (R501): LOAD, then REWIND, then MARK. -/
def State.reamCommand (s : State) (v : Nat) : State :=
  let s1 := if v.testBit 0 then s.loadWindow else s
  let s2 := if v.testBit 1 then s1.wr Reg.REAM_CURSOR.SEQ 0 0 (s1.rd Reg.REAM_MARK.SEQ 0 0) else s1
  if v.testBit 2 then s2.wr Reg.REAM_MARK.SEQ 0 0 (s2.rd Reg.REAM_CURSOR.SEQ 0 0) else s2

/-! ## Pages and seconds (R494, R496) -/

/-- The engine that keeps the Ream runs, and media can be programmed. -/
def State.reamPrograms (s : State) : Bool := s.running && !s.supervised

/-- REAM_PAGE_FLUSH (R496): the records in log pages that are full or 1 s old are programmed. In Halt no page is (R73). -/
def execReamPageFlush (s : State) : Res :=
  .next (if s.reamPrograms then s.programLog else s)

/-- The suppression summary of a class (R494), with source 621. -/
def State.summarise (s : State) (cls sev n : Nat) : State :=
  if sev = 5 ∧ s.reg Reg.REAM_CFG.DEBUG_EN = 0 then s
  else
    (s.reamPlace { seq := s.ream.nextSeq, severity := sev, cls := 0x401, ms := s.ms, wall := s.wallMs, rate := true,
                   truncated := false, origin := 44, cycles := s.reg Reg.LNK_POWER_CYCLES.COUNT, payload := [cls, n] }).raise 621

/-- REAM_SUPPRESSION_SUMMARY (R494): a second of operating time ends. -/
def execReamSuppressionSummary (s : State) : Res :=
  .next (
    let s1 : State := { s with ream := { s.ream with accepted := [], suppressed := [] } }
    s.ream.suppressed.foldl (fun (s : State) e => s.summarise e.1 e.2.1 e.2.2) s1)

/-! ## The quire store (R504 to R511) -/

/-- First page and pages of a zone (R504). -/
def zoneOf : Nat → Nat × Nat
  | 0 => (0, 256)
  | 1 => (256, 1024)
  | _ => (1280, 6912)

/-- A sealed page of the firmware zone (R504). -/
def sealedPage (a : Nat) : Bool :=
  (1280 ≤ a && a < 4480) || (4816 ≤ a && a < 5016) || (5040 ≤ a && a < 5056)

/-- A page that the module writes and whose bytes the spec does not lay out: the slot ring of R175, the remap tables and the totals
(log entry 29). -/
def State.openPageBytes (s : State) (a : Nat) : Bool :=
  (4480 ≤ a && a < 4544) || (((5032 ≤ a && a < 5040) || (5056 ≤ a && a < 5064)) && s.qst.serials.get 0 a != 0)

/-- n bytes of an absolute page from offset o (R506). -/
def State.pageBytes (s : State) (a o n : Nat) : List (BitVec 8) :=
  (List.range n).map (fun k => if s.openPageBytes a then Config.freeByte s.free ((o + k) % 256) else s.qstByte a (o + k))

/-- A password admits a requester (R509): one of all zero bytes admits every requester; none stands for the one Weazoir holds. -/
def admits (pw : Option Nat) (given : Nat) : Bool :=
  match pw with | some n => n == 0 || n == given | none => given == Config.vendorPassword

/-- The read password (false) or the write password (true) of a zone. -/
def State.password (s : State) (z : Nat) (write : Bool) : Option Nat :=
  ((if write then s.qst.writePw else s.qst.readPw)[z]?).getD (some 0)

/-- A zone is locked out (R509). -/
def State.lockedOut (s : State) (z : Nat) : Bool := (s.reg Reg.QST_STATUS.LOCKOUT).testBit z

/-- A password fails: the eighth in a row locks the zone out, with record 0x408 and source 623 (R509). -/
def State.passwordFails (s : State) (z : Nat) : State :=
  let s1 := s.bump Reg.QST_PW.FAILS 0 z 1
  if s1.rd Reg.QST_PW.FAILS 0 z = 8 then ((s1.wrBit Reg.QST_STATUS.LOCKOUT 0 0 z true).log 3 0x408 [z]).raise 623 else s1

/-- Run a leaf under a zone's password: a failure counts, a match ends the count (R509). -/
def State.underPassword (s : State) (r : Req) (z : Nat) (write : Bool) (given : Nat) (run : State → State) : State :=
  if s.lockedOut z then s.refuse r stPassword
  else if admits (s.password z write) given then run (s.wr Reg.QST_PW.FAILS 0 z 0)
  else (s.passwordFails z).refuse r stPassword

/-- The fields of QST_READ and QST_WRITE hold values that the layout allows (R407, R506). -/
def qstFieldsOk (p : List Byte) : Bool :=
  fieldAt p 0 1 ≤ 2 && !notZero p 1 1 && !notZero p 7 1 && fieldAt p 2 2 < (zoneOf (fieldAt p 0 1)).2 && 1 ≤ fieldAt p 5 2 &&
    fieldAt p 5 2 ≤ 256

/-- The absolute page that a leaf names. -/
def qstPage (p : List Byte) : Nat := (zoneOf (fieldAt p 0 1)).1 + fieldAt p 2 2

/-- QST_READ (R506, R509): public pages of the firmware zone need no password. -/
def leafQstRead (p : List Byte) (r : Req) (s : State) : State :=
  let z := fieldAt p 0 1
  let a := qstPage p
  let reply := fun (s : State) => s.draw.ok r (s.pageBytes a (fieldAt p 4 1) (fieldAt p 5 2))
  if !qstFieldsOk p then s.refuse r stInvalid
  else if z = 2 then if sealedPage a then s.refuse r stAccess else reply s
  else s.underPassword r z false (fieldAt p 8 8) reply

/-- QST_WRITE (R505, R509): the page write is issued to its plane, and the reply waits for it. -/
def leafQstWrite (p : List Byte) (r : Req) (s : State) : State :=
  let z := fieldAt p 0 1
  let w : QstWrite := ⟨qstPage p, fieldAt p 4 1, p.drop 16, r.transport, r.tag, r.nocrc⟩
  if !qstFieldsOk p then s.refuse r stInvalid
  else if z = 2 then s.refuse r stAccess
  else
    s.underPassword r z true (fieldAt p 8 8) (fun s => { s with qst := { s.qst with queue := s.qst.queue ++ [w] } })

/-- Change a password of a zone. -/
def State.setPassword (s : State) (z : Nat) (write : Bool) (new : Nat) : State :=
  if write then { s with qst := { s.qst with writePw := s.qst.writePw.set z (some new) } }
  else { s with qst := { s.qst with readPw := s.qst.readPw.set z (some new) } }

/-- QST_PASSWORD (R509). -/
def leafQstPassword (p : List Byte) (r : Req) (s : State) : State :=
  let z := fieldAt p 0 1
  if z > 2 ∨ fieldAt p 1 1 > 1 ∨ notZero p 2 6 then s.refuse r stInvalid
  else if z = 2 then s.refuse r stAccess
  else
    s.underPassword r z true (fieldAt p 8 8) (fun s =>
      ((s.setPassword z (fieldAt p 1 1 == 1) (fieldAt p 16 8)).pageCommit 5052).ok r [])

/-- The write that runs on a plane: the oldest of its pages (R505). -/
def State.planeWrite (s : State) (plane : Nat) : Option QstWrite := s.qst.queue.find? (fun w => w.page % 4 == plane)

/-- Remove the first element that satisfies `p`. -/
def dropFirst {α : Type} (p : α → Bool) : List α → List α
  | [] => []
  | a :: t => if p a then t else a :: dropFirst p t

/-- The request that a queued write answers; `sup` says that a write of the same page from another requester has been taken since
(R404). -/
def QstWrite.req (w : QstWrite) (sup : Bool) : Req := ⟨0x0802, w.transport, w.tag, w.nocrc, true, sup⟩

/-- A later write of the page waits, from another requester. -/
def QstWrite.replaced (w : QstWrite) (later : List QstWrite) : Bool :=
  later.any (fun x => x.page == w.page && requesterOf x.transport != requesterOf w.transport)

/-- QST_PAGE_WRITE_DONE (R505, R510): the write on a plane commits, or fails to verify twice, which leaves the page as it was. A leaf
that came before the cores went off has no reply. -/
def execQstPageWriteDone (plane : Fin 4) (ok : Bool) (s : State) : Res :=
  .next (
    match s.planeWrite plane.val with
    | none => s
    | some w =>
      let s1 : State := { s with qst := { s.qst with queue := dropFirst (fun x => x.page % 4 == plane.val) s.qst.queue } }
      let r := w.req (w.replaced s1.qst.queue)
      let s2 := if ok then s1.pageWrite w.page w.offset w.data else (s1.bump Reg.QST_TORN.VERIFY_FAIL 0 0 1).raise 622
      if w.transport ≥ 16 then s2 else if ok then s2.ok r [] else s2.refuse r stState)

end Sys2Proof.Machine
end

