-- ==== Sys2Proof/Machine/SelfTest.lean ====
section
/-! DEFINITION. Self-test slices (R515 to R523): what a slice's faulty units lead to, its verdict and record, the leaves that start a
run and read its results. -/

namespace Sys2Proof.Machine

/-! ## What a slice's faulty units lead to (R516, R517) -/

/-- The sensor with a key of `sensorKey`, as slices 26 and 27 name it. -/
def sensorOf (k : Nat) : Option SensorId :=
  if h : k < 16 then some (.zorsa ⟨k / 8, by omega⟩ ⟨k % 8, by omega⟩)
  else if h : k < 336 then some (.vyen ⟨k - 16, by omega⟩)
  else if h : 400 ≤ k ∧ k < 404 then some (.package ⟨k - 400, by omega⟩)
  else if h : 410 ≤ k ∧ k < 412 then some (.capacitor ⟨k - 410, by omega⟩)
  else if h : 420 ≤ k ∧ k < 424 then some (.board ⟨k - 420, by omega⟩)
  else if k = 430 then some .inlet
  else none

/-- An engine that works carries role r, as its own or absorbed. -/
def State.roleHeld (s : State) (r : Nat) : Bool :=
  (List.range 48).any (fun e => s.rdE Reg.ENG_STATE.STATE e != 3 &&
    (s.rdE Reg.ENG_STATE.ROLE e == r || s.rdE Reg.ENG_STATE.ABSORBED e == r))

/-- A faulty unit is handled by its own chapter (R517); answers whether the slice is to end FAIL for it. A rail whose consequence is
Safe is recorded as faulted: a verdict on request leaves the mode unchanged (R519; log entry 30). -/
def State.sliceUnit (s : State) (k : Nat) (u : Nat × Nat) (twice : Bool) : State × Bool :=
  let i := u.2
  if k < 16 then
    if i ≥ 48 ∨ s.rdE Reg.ENG_STATE.STATE i = 3 then (s, false)
    else
      let roles := [s.rdE Reg.ENG_STATE.ROLE i, s.rdE Reg.ENG_STATE.ABSORBED i].filter (fun r => r != noRole)
      let t := s.engineFailed i 5
      (t, roles.any (fun r => !t.roleHeld r))
  else if k = 20 ∨ k = 21 then (s, if s.dual then i % 8 < 4 else i < 4)
  else if k = 22 ∨ k = 23 then (if twice then s.packageLost (i / 8 % 4) 2 else s, false)
  else if k = 26 ∨ k = 27 then
    match sensorOf i with
    | some x => (if (s.sensor i).broken then s else s.sensorBroken x (s.sensor i), false)
    | none => (s, false)
  else if k = 28 ∨ k = 29 then (if i < 320 then s.dieFailed i 5 else s, false)
  else if k = 30 then
    let m := i % 4
    let down := (s.rd Reg.LNK_D2D_STATUS.DOWN 0 0).testBit m
    let t := if down then s
      else if twice || (s.rd Reg.LNK_D2D_STATUS.DEGRADED 0 0).testBit m then s.d2dDown m ⟨[], false⟩
      else (s.setD2d Reg.LNK_D2D_STATUS.DEGRADED m true).settle
    (t, t.rd Reg.LNK_D2D_STATUS.DOWN 0 0 % 16 == 15)
  else if k = 32 then
    let under := s.rd Reg.PWR_RAIL.MV 0 i < s.rd Reg.PWR_RAIL.NOMINAL_MV 0 i
    let s1 := (if under then (s.wr Reg.PWR_RAIL.STATE 0 i 4).bump Reg.PWR_RAIL_CNT.UV 0 i 1
      else (s.wr Reg.PWR_RAIL.STATE 0 i 5).bump Reg.PWR_RAIL_CNT.OV 0 i 1).flagRail i (if under then 1 else 2)
    if safeRail i then (s1, true)
    else if i = 14 ∨ i = 15 then (s1.mediaRailLost i, s1.rd Reg.PWR_RAIL.STATE 0 (29 - i) == 6)
    else (s1.railConsequence i under ⟨[], false⟩, false)
  else (s, true)

/-- Handle the faulty units of a slice; a unit named twice has failed twice. -/
def State.sliceUnits (s : State) (k : Nat) (units : List (Nat × Nat)) : State × Bool :=
  units.dedup.foldl (fun (p : State × Bool) u =>
    let q := p.1.sliceUnit k u (units.count u ≥ 2)
    (q.1, p.2 || q.2)) (s, false)

/-- Faulty units that fail a slice together: five of a die's Zorsa sensors, the ten dies of a channel (R517). -/
def unitsTogether (k : Nat) (units : List (Nat × Nat)) : Bool :=
  let l := (units.map Prod.snd).dedup
  if k = 26 ∨ k = 27 then (l.filter (fun i => i / 8 == k % 2)).length ≥ 5
  else if k = 28 ∨ k = 29 then (List.range 32).any (fun c => (l.filter (fun i => i / 10 == c)).length == 10)
  else false

/-- The verdict of a slice, after its units are handled (R517, R522): 1 PASS, 2 SPARED, 3 FAIL. -/
def State.sliceVerdict (s : State) (r : SliceResult) : State × Nat :=
  let k := r.slice.val
  let p := s.sliceUnits k r.units
  let whole := [16, 17, 18, 19, 24, 25, 31].contains k
  if p.2 || unitsTogether k r.units || (whole && r.broken) then (p.1, 3)
  else if r.units.isEmpty then (p.1, 1)
  else (p.1, 2)

/-- The record of a slice (R522). On request in Serve or Doze slices 18 and 19 skip the key SRAM (R520). -/
def State.sliceRecord (s : State) (run : TestRun) (k verdict faulty us coverage first : Nat) : SliceRec :=
  let served := run.trigger == 2 && s.reg Reg.MOD_STATUS.SAFE_CAUSE == 0
  ⟨k, verdict, faulty, us, if served && (k == 18 || k == 19) then 9000 else coverage, s.runBudget run k, first, s.ms,
    s.reg Reg.LNK_POWER_CYCLES.COUNT⟩

/-- The first faulty unit as bytes 12 to 15 hold it. -/
def firstUnit : List (Nat × Nat) → Nat
  | [] => 0
  | u :: _ => u.1 % 256 + 256 * u.2

/-- A slice of a run ends with its units handled. -/
def State.endSlice (s : State) (run : TestRun) (r : SliceResult) : State × Nat :=
  let p := s.sliceVerdict r
  let n := r.units.dedup.length
  (p.1.keepSlice (s.sliceRecord run r.slice.val p.2 n r.us r.coverage (firstUnit r.units)), p.2)

/-- A pair of slices has ended: the run ends, or its next slices start; in a Quiesce they wait (R518, R524). -/
def State.nextSlices (s : State) : State :=
  match s.runningTest with
  | none => s
  | some r =>
    if !s.slicesNow.isEmpty then s
    else if r.left.isEmpty then s.endRun 2
    else if s.ctl.mode = .m7 then s
    else s.startSlices

/-! ## Leaves (R520, R522, R523) -/

/-- Slices that run on request only in Safe (R515). -/
def safeSlices : List Nat := [16, 17, 22, 23]

/-- SELFTEST_RUN (R515, R520): in Doze the module leaves Doze. -/
def leafSelftestRun (p : List Byte) (r : Req) (s : State) : State :=
  let mask := BitVec.ofNat 64 (fieldAt p 0 8)
  let slices := (List.range 33).filter (fun k => mask.getLsbD k)
  if slices.isEmpty ∨ mask.toNat ≥ 2 ^ 33 then s.refuse r stInvalid
  else if !(s.ctl.mode == .m5 || s.ctl.mode == .m6 || s.ctl.mode == .m9) then s.refuse r stState
  else if s.ctl.mode != .m9 && slices.any (fun k => safeSlices.contains k) then s.refuse r stState
  else if s.runningTest.isSome then s.refuse r stBusy
  else
    let s0 := if s.ctl.mode = .m6 then s.leaveDoze else s
    let s1 := (s0.beginRun 2 mask slices).startSlices
    let handle := match s1.test with | x :: _ => x.handle | [] => 0
    s1.reply r stAccepted (leBytes 2 handle)

/-- The bytes of a slice's record (R522). -/
def SliceRec.bytes (r : SliceRec) : List (BitVec 8) :=
  let b := leBytes 1 r.slice ++ leBytes 1 r.verdict ++ leBytes 2 r.faulty ++ leBytes 4 r.us ++ leBytes 2 r.coverage ++
    leBytes 2 r.budget ++ leBytes 4 r.first ++ leBytes 6 r.ms ++ leBytes 2 0 ++ leBytes 4 r.cycles
  b ++ leBytes 4 (crc32c b)

/-- SELFTEST_RESULT (R523). -/
def leafSelftestResult (p : List Byte) (r : Req) (s : State) : State :=
  match s.test.find? (fun x => x.handle == fieldAt p 0 2) with
  | none => s.refuse r stInvalid
  | some x =>
    s.ok r (leBytes 2 x.handle ++ leBytes 2 x.state ++ leBytes 8 x.mask.toNat ++ leBytes 4 x.recs.length ++
      x.recs.flatMap SliceRec.bytes)

/-! ## The run of a start (R518, R519) -/

/-- The analog slices are due at a warm start (R518). -/
def State.analogDue (s : State) : Bool :=
  s.rd Reg.BST_ANALOG.VALID 0 0 == 0 || s.rd Reg.BST_ANALOG.LAST_MIN 0 0 + 1440 ≤ s.minutes

/-- The slices that a start runs. -/
def State.startSlicesOf (s : State) (cold : Bool) : List Nat :=
  if cold || s.analogDue then List.range 33 else List.range 20

/-- One slice of a start: as its result says, and a PASS with open figures where none is given; one past its budget is stopped with
FAIL. -/
def State.startSlice (s : State) (run : TestRun) (rs : List SliceResult) (k : Nat) : State × Nat :=
  match rs.find? (fun r => r.slice.val == k) with
  | some r =>
    if r.us > 1000 * sliceBudget k then
      (s.keepSlice (s.sliceRecord run k 3 0 (1000 * sliceBudget k) r.coverage 0), 3)
    else s.endSlice run r
  | none =>
    (s.draw.keepSlice (s.sliceRecord run k 1 0 (s.open? % (1000 * sliceBudget k)) (s.open? / 4294967296 % 10001) 0), 1)

/-- The slices of a start in ascending order, to the first that ends FAIL. -/
def State.runSlices (s : State) (run : TestRun) (rs : List SliceResult) : List Nat → State × Bool
  | [] => (s, true)
  | k :: t =>
    let p := s.startSlice run rs k
    if p.2 = 3 then (p.1, false) else p.1.runSlices run rs t

/-- The run of a start: slices that it does not run are recorded as SKIPPED; answers whether every slice passed. -/
def State.startTests (s : State) (cold : Bool) (rs : List SliceResult) : State × Bool :=
  let slices := s.startSlicesOf cold
  let mask : BitVec 64 := slices.foldl (fun m k => m ||| (1#64 <<< k)) 0
  let s1 := s.beginRun (if cold then 0 else 1) mask slices
  match s1.runningTest with
  | none => (s1, true)
  | some run =>
    let skipped := (List.range 33).filter (fun k => !slices.contains k)
    let p := s1.runSlices run rs slices
    let s2 := if p.2 then skipped.foldl (fun (s : State) k => s.keepSlice (s.sliceRecord run k 5 0 0 0 0)) p.1 else p.1
    (s2.endRun 2, p.2)

end Sys2Proof.Machine
end

