-- ==== Sys2Proof/Machine/Faceplate.lean ====
section
/-! DEFINITION. The service pad, locate, alerts and removal (R536 to R541), and the test access port (R356, R525, R526, R534). -/

namespace Sys2Proof.Machine

/-! ## Locate and alerts (R536, R537) -/

/-- Turn locate on or off, with source 629 on a change. -/
def State.setLocate (s : State) (on : Bool) : State :=
  if (s.reg Reg.PIN_LED.LOCATE == 1) = on then s else (s.setReg Reg.PIN_LED.LOCATE (bnat on)).raise 629

/-- Acknowledge the alerts that stand, with source 630. -/
def State.ackAlert (s : State) : State := ({ s with ctl := { s.ctl with acked := s.alerts, alert := 0 } }).raise 630

/-- LOCATE (R407, R536). -/
def leafLocate (p : List Byte) (r : Req) (s : State) : State :=
  if fieldAt p 0 4 > 1 then s.refuse r stInvalid else (s.setLocate (fieldAt p 0 1 == 1)).ok r []

/-! ## Removal (R538 to R541) -/

/-- The removal sequence starts (R540 step 1). -/
def State.startRemoval (s : State) (origin : Nat) : State :=
  (((s.setReg Reg.PIN_REMOVAL.STATE 2).setReg Reg.PIN_REMOVAL.ORIGIN origin).setReg Reg.MOD_REQUEST.OFF_STANDING 1).askQuiesce
    .removal

/-- A pad hold makes a removal pending (R539). -/
def State.pendRemoval (s : State) : State :=
  let s1 := ((s.setReg Reg.PIN_REMOVAL.STATE 1).setReg Reg.PIN_REMOVAL.ORIGIN 0).event 1 .memoryModule .removalPending []
  ({ s1 with ctl := { s1.ctl with removalMs := s.ms } }).raise 627

/-- REMOVAL_REQUEST (R538, R539, R543). -/
def leafRemovalRequest (r : Req) (s : State) : State :=
  match s.ctl.mode with
  | .m5 | .m6 | .m7 =>
    if s.reg Reg.PIN_REMOVAL.STATE ≥ 2 then s.ok r [] else (s.startRemoval (if r.who = 2 then 2 else 1)).ok r []
  | .m2 | .m3 | .m4 => (s.ok r []).cleanShutdown
  | .m1 | .m9 => s.ok r []
  | _ => s.refuse r stState

/-- REMOVAL_WAIT_EXPIRY (R539): the wait ends without a confirmation. -/
def execRemovalWaitExpiry (s : State) : Res := .next s.cancelRemoval

/-! ## The pad (R537) -/

/-- A pad action: its code and source 626. -/
def State.padAction (s : State) (code : Nat) : State := (s.setReg Reg.PIN_PAD.LAST_ACTION code).raise 626

/-- Touches are ignored (R537). -/
def State.padIgnored (s : State) : Bool :=
  s.ctl.mode == .m8 || s.ctl.mode == .m10 || s.ctl.mode == .m11 || s.reg Reg.PIN_CFG.PAD_EN == 0

/-- PAD_TOUCH_END (R537): a touch of `ms` ends. -/
def execPadTouchEnd (ms : Nat) (s : State) : Res :=
  .next (
    if !s.powered then s
    else
      let s1 := s.setReg Reg.PIN_PAD.LAST_MS (min ms 4095)
      let s2 := if ms ≥ 100 then s1.bump Reg.PIN_PAD.TOUCHES 0 0 1 else s1
      if ms < 100 then s2
      else if s.padIgnored then s2.setReg Reg.PIN_PAD.LAST_ACTION 5
      else if ms ≥ 2000 then s2
      else if s.reg Reg.PIN_REMOVAL.STATE = 1 then s2.cancelRemoval.padAction 4
      else if s.alertStands then s2.ackAlert.padAction 2
      else (s2.setLocate (s.reg Reg.PIN_LED.LOCATE == 0)).padAction 1)

/-- PAD_HOLD_3S (R537, R538, R539): the pad is held for 3 s. -/
def execPadHold3s (s : State) : Res :=
  .next (
    if s.padIgnored then (if s.powered then s.setReg Reg.PIN_PAD.LAST_ACTION 5 else s)
    else if s.reg Reg.PIN_REMOVAL.STATE != 0 then s
    else match s.ctl.mode with
      | .m5 | .m6 | .m7 =>
        if s.reg Reg.PIN_CFG.REMOVAL_WAIT_S = 0 then (s.padAction 3).startRemoval 0 else (s.padAction 3).pendRemoval
      | .m2 | .m3 | .m4 => (s.padAction 3).cleanShutdown
      | .m9 => s.padAction 3
      | _ => s)

/-! ## The test access port (R525, R534) -/

/-- Die d answers on the chain: its port is out of reset, and die 1 while its core is on. -/
def State.tapUp (s : State) (d : Nat) : Bool :=
  s.powered && !s.trst && (d == 0 || (s.enginesOn && s.rd Reg.PWR_RAIL.STATE 0 5 != 6))

/-- Select a register of a die's port. -/
def State.tapSelect (s : State) (d : Nat) (x : TapSel) : State := { s with tap := s.tap.modify d (fun _ => x) }

/-- The identification code of a die (R525). -/
def State.idcodeOf (s : State) (d : Nat) : Nat :=
  s.reg Reg.LNK_REVISION.ZORSA_STEP % 16 * 2 ^ 28 + (0x5A12 + d) * 4096 + 0x2D3 * 2 + 1

/-- IDCODE (R525). -/
def execIdcode (die : Fin 2) (s : State) : Res :=
  .next (if s.tapUp die.val then (s.tapSelect die.val .idcode).send (.tap die.val (s.idcodeOf die.val)) else s)

/-- SAMPLE/PRELOAD (R525): the boundary register, whose cells the spec does not name, shifts out. -/
def execSamplePreload (die : Fin 2) (s : State) : Res :=
  .next (if s.tapUp die.val then ((s.tapSelect die.val .boundary).send (.tap die.val s.open?)).draw else s)

/-- EXTEST (R525): the boundary cells are driven in Safe alone. -/
def execExtest (die : Fin 2) (s : State) : Res :=
  .next (if s.tapUp die.val then s.tapSelect die.val (if s.ctl.mode = .m9 then .extest else .bypass) else s)

/-- The slices that ended FAIL in the newest run. -/
def State.failedMask (s : State) : Nat := s.rd Reg.BST_FAILED.MASK 0 0 ||| s.rd Reg.BST_FAILED.MASK 1 0

/-- BST_STATUS (R525). -/
def execBstStatus (die : Fin 2) (s : State) : Res :=
  .next (if s.tapUp die.val then (s.tapSelect die.val .bstStatus).send (.tap die.val s.failedMask) else s)

/-- SCAN_0 to SCAN_15 (R358, R525, R526). -/
def execScanN (die : Fin 2) (n : Fin 16) (s : State) : Res :=
  .next (if s.tapUp die.val then s.tapSelect die.val (if s.sec.scanEnabled then .scan n.val else .bypass) else s)

/-- BYPASS (R525): 0xFF, and every code that is no instruction's, selects the bypass register; a code that is one's selects what that
instruction does. -/
def execBypass (die : Fin 2) (code : BitVec 8) (s : State) : Res :=
  match code.toNat with
  | 0x01 => execIdcode die s
  | 0x02 => execSamplePreload die s
  | 0x03 => execExtest die s
  | 0x10 => execBstStatus die s
  | 0x30 => .next (if s.tapUp die.val then s.tapSelect die.val .memacc else s)
  | n =>
    if 0x20 ≤ n ∧ n ≤ 0x2F then execScanN die (Fin.ofNat 16 (n - 0x20)) s
    else .next (if s.tapUp die.val then s.tapSelect die.val .bypass else s)

/-- TRST (R534): while it is asserted the ports are in reset, which selects their identification codes (log entry 31). -/
def execTrst (asserted : Bool) (s : State) : Res :=
  .next (if asserted then { s with trst := true, tap := ⟨.idcode, .idcode⟩ } else { s with trst := false })

/-! ## MEMACC (R356) -/

/-- A refusal of the filter (R356): its count, source 546, and at most one record in a millisecond, with the refusals since the
previous one. -/
def State.debugRefused (s : State) (d : Nat) : State :=
  let s1 := (s.bump Reg.SEC_DEBUG_REFUSED.COUNT d 0 1).raise 546
  let n := s.sec.debugSince + 1
  if s.sec.debugMs = s.ms + 1 then { s1 with sec := { s1.sec with debugSince := n } }
  else
    let s2 : State := { s1 with sec := { s1.sec with debugSince := 0, debugMs := s.ms + 1 } }
    s2.reamPlace { seq := s2.ream.nextSeq, severity := sevNotice, cls := 546, ms := s.ms, wall := s.wallMs, rate := false,
                   truncated := false, origin := 0xFF, cycles := s.reg Reg.LNK_POWER_CYCLES.COUNT, payload := [n] }

/-- Modes in which the port reaches user data: those that serve it or have stopped its credits for a Quiesce. -/
def State.dataUp (s : State) : Bool := s.inService || s.ctl.mode == .m7

/-- Read a line for the port: the newest copy of its bytes. Of a poisoned line, and where no data path runs, the bits are open. -/
def State.debugRead (s : State) (d line : Nat) : State :=
  if !s.dataUp then (s.send (.tap d s.open?)).draw
  else
    let p := s.snapshotOf (line / 16) (fun _ => .good)
    if p.2.isPoison (line % 16) then (p.1.send (.tap d p.1.open?)).draw
    else p.1.send (.tap d (p.2.lines.get 0 (line % 16)).toNat)

/-- MEMACC (R356, R525): a line of slot 0 is read or written; every other target reads zeros and keeps what it holds. -/
def execMemacc (die : Fin 2) (target : MemTarget) (write : Option Line) (s : State) : Res :=
  .next (
    let d := die.val
    if !s.tapUp d then s
    else
      let s1 := s.tapSelect d .memacc
      let refuse := (if write.isNone then s1.send (.tap d 0) else s1).debugRefused d
      match target with
      | .secret => refuse
      | .dpa line =>
        if line * 64 ≥ dpaBytes ∨ s.effSlot (line / 16) ≠ 0 then refuse
        else match write with
          | none => s1.debugRead d line
          | some v =>
            if s.dataUp && !s.chanLost (chanOf (line / 16)) then
              s1.writeLine line (if s.ctl.readOnly then 0 else v) (BitVec.allOnes 64) true s.ctl.readOnly false 0 none
            else s1)

end Sys2Proof.Machine
end

