-- ==== Sys2Proof/Machine/Views.lean ====
section
/-! DEFINITION. What a read of a register field shows where the field mirrors state held under a name of its own (R118, R119, R151,
R183, R200, R222, R253, R278, R361, R377, R411, R437, R461, R490, R513, R514, R535, R548). Every other field shows the register
table's value. -/

namespace Sys2Proof.Machine

/-- Two fields are one. -/
def Field.is (f g : Field) : Bool := f.num == g.num

/-- The first view in a list that names a field. -/
def pick (f : Field) (other : Nat) : List (Field × Nat) → Nat
  | [] => other
  | (g, v) :: t => if f.is g then v else pick f other t

/-! ## Status and pins (R530, R535, R536) -/

/-- ALERT# is asserted (R530). -/
def State.alertPin (s : State) : Bool :=
  s.powered && (s.ctl.mode == .m9 || s.ctl.mode == .m10 || s.ctl.mode == .m11 || s.pm.notice.isSome || !s.pm.unread.isEmpty)

/-- REPLY_RDY# is asserted (R401). -/
def State.replyReady (s : State) : Bool := s.powered && (s.pm.notice.isSome || !s.pm.unread.isEmpty)

/-- A CXL.mem request arrived in the last 250 ms. -/
def State.active (s : State) : Bool := match s.ctl.lastMem with | some t => s.ms < t + 250 | none => false

/-- PIN_LED.GREEN (R535). -/
def State.greenLed (s : State) : Nat :=
  match s.ctl.mode with
  | .m2 | .m3 | .m4 => 2
  | .m5 | .m6 | .m7 => if s.reg Reg.PIN_CFG.ACTIVITY_EN = 1 ∧ s.active then 3 else 1
  | _ => 0

/-- PIN_LED.AMBER (R535). -/
def State.amberLed (s : State) : Nat :=
  if !s.powered then 0
  else if s.ctl.mode == .m9 || s.ctl.mode == .m10 || s.ctl.mode == .m11 || s.ctl.readOnly || (List.range 32).any s.chanLost then 1
  else if s.alertStands then 2
  else if s.reg Reg.PIN_LED.LOCATE = 1 then 3
  else 0

/-- PIN_LED.BLUE (R535). -/
def State.blueLed (s : State) : Nat :=
  match s.ctl.mode with
  | .m0 => 0
  | .m1 | .m9 | .m10 | .m11 => 2
  | _ => if 1 ≤ s.reg Reg.PIN_REMOVAL.STATE ∧ s.reg Reg.PIN_REMOVAL.STATE ≤ 3 then 1 else 0

/-- Seconds left of a pending removal (R539). -/
def State.waitLeft (s : State) : Nat :=
  if s.reg Reg.PIN_REMOVAL.STATE = 1 then s.reg Reg.PIN_CFG.REMOVAL_WAIT_S - (s.ms - s.ctl.removalMs) / 1000 else 0

/-- The pins (R548). -/
def State.viewPin (s : State) (f : Field) (v : Nat) : Nat :=
  pick f v
    [(Reg.PIN_LEVEL.ALERT, bnat s.alertPin), (Reg.PIN_LEVEL.FLOW_HI, bnat (s.cqBusy 0)),
     (Reg.PIN_LEVEL.REPLY_RDY, bnat s.replyReady), (Reg.PIN_LEVEL.P12V_VALID, bnat s.ctl.p12),
     (Reg.PIN_LED.GREEN, s.greenLed), (Reg.PIN_LED.AMBER, s.amberLed), (Reg.PIN_LED.BLUE, s.blueLed),
     (Reg.PIN_LED.ALERT, bnat s.alertStands), (Reg.PIN_REMOVAL.WAIT_LEFT_S, s.waitLeft)]

/-! ## Data path and map (R183, R200, R222) -/

/-- The local channel c of die d. -/
def chanAt (d l : Nat) : Nat := 16 * d + l % 16

/-- The entries of a die's LOT in a state (R185). -/
def State.lotIn (s : State) (d state : Nat) : Nat := ((s.lotEntries d).filter (fun r => r.state == state)).length

/-- The LOT (R188, R200). -/
def State.viewLot (s : State) (f : Field) (d i v : Nat) : Nat :=
  if f.is Reg.LOT_OCC.ENTRIES then s.lotUsed d
  else if f.is Reg.LOT_OCC.WAITING then s.lotIn d 0
  else if f.is Reg.LOT_OCC.DEEP then s.lotIn d 4
  else if f.is Reg.LOT_CREDIT.HELD then s.unused.1
  else if f.is Reg.LOT_CREDIT.HELD_READ then s.unused.2
  else if f.is Reg.LOT_KETTLE.SLOTS then s.slots (chanAt d i)
  else if f.is Reg.LOT_KETTLE.AROUND_ONLY then bnat (s.slotCost (chanAt d i) == 8)
  else v

/-- The Caddy (R222). -/
def State.viewCdy (s : State) (f : Field) (d i v : Nat) : Nat :=
  if f.is Reg.CDY_DIRTY.BLOCKS then s.dirtyOfDie d
  else if f.is Reg.CDY_DIRTY.STAGED then s.stagedCount d
  else if f.is Reg.CDY_PARTIAL.USED then s.partialUsed d
  else if f.is Reg.CDY_CHAN_DIRTY.BLOCKS then s.dirtyOfChan (chanAt d i)
  else if f.is Reg.CDY_STATUS.WRITE_THROUGH then bnat s.ctl.writeThrough
  else v

/-- Per cent of a die's journal ring that holds pages of R174: those since the CKPT_BEGIN of the older of the two newest rounds. -/
def State.ringUsed (s : State) (d : Nat) : Nat :=
  let first := match (s.mapping.rounds.take 2).getLast? with | some r => r.ringAt.get d | none => 0
  min 100 ((s.mapping.ringPos.get d - first) * 100 / ringBytes)

/-- The map (R183). How many pages a round that runs has written is open. -/
def State.viewMap (s : State) (f : Field) (d i v : Nat) : Nat :=
  if f.is Reg.MAP_CHAN.FREE then s.freeCount (chanAt d i)
  else if f.is Reg.MAP_CHAN.OPEN then s.openCount (chanAt d i)
  else if f.is Reg.MAP_CHAN.THROTTLE then s.throttle (chanAt d i)
  else if f.is Reg.MAP_CHAN.OP then s.overProvision (chanAt d i)
  else if f.is Reg.MAP_GEN_MAX.GEN then s.genMax (chanAt d i)
  else if f.is Reg.MAP_GEN_MEAN.GEN then s.genMean (chanAt d i)
  else if f.is Reg.MAP_JOURNAL.RING_USED then s.ringUsed d
  else if f.is Reg.MAP_CKPT.PAGES_DONE then (if s.mapping.ckpt.isSome then s.open? % 6291457 else v)
  else if f.is Reg.MAP_SIZING.DUE then
    (((List.range 16).map (fun l => (s.segsOf (chanAt d l)).filter (fun p => p.2.due))).map List.length).sum
  else if f.is Reg.MAP_OP_MIN.SEGMENTS then
    ((List.range 16).map (fun l => s.overProvision (chanAt d l))).foldl min 65535
  else v

/-- Media (R151): stacks in use, dies in standby (R429). -/
def State.viewMed (s : State) (f : Field) (d i v : Nat) : Nat :=
  if f.is Reg.MED_STACK_PROG.IN_USE then s.stackInUse (8 * d + i)
  else if f.is Reg.MED_STACK_PROG.LIMIT then s.stackLimit (8 * d + i)
  else if f.is Reg.MED_DIE.STANDBY then bnat (s.ctl.mode == .m6 && s.reg Reg.MOD_STATUS.DOZE ≥ 2)
  else v

/-! ## Security, bulk, queues and the tally (R361, R377, R411, R490) -/

/-- The first slot sweep that runs. -/
def State.firstSweep (s : State) : Option Walk :=
  s.mapping.walks.find? (fun w => match w.kind with | .sweep _ _ _ => true | _ => false)

/-- The old and the new slot of a sweep. -/
def Walk.slots (w : Walk) : Nat × Nat := match w.kind with | .sweep old new _ => (old, new) | _ => (0, 0)

/-- Quires that a walk has left. -/
def Walk.remaining (w : Walk) : Nat := w.hi - w.next - (w.early.filter (fun q => w.next ≤ q && q < w.hi)).length

/-- Security (R361). -/
def State.viewSec (s : State) (f : Field) (v : Nat) : Nat :=
  if f.is Reg.SEC_SLOTS.ACTIVE then ((List.range 4096).filter (fun k => s.slotState k == 1)).length
  else if f.is Reg.SEC_SLOTS.ERASING then ((List.range 4096).filter (fun k => s.slotState k == 2)).length
  else
    match s.firstSweep with
    | none => v
    | some w => pick f v
        [(Reg.SEC_SWEEP.RUNNING, 1), (Reg.SEC_SWEEP.OLD_SLOT, w.slots.1), (Reg.SEC_SWEEP.NEW_SLOT, w.slots.2),
         (Reg.SEC_SWEEP.LEFT, w.remaining)]

/-- Bulk operations (R377). -/
def State.viewBlk (s : State) (f : Field) (i v : Nat) : Nat :=
  let b := s.bulkAt i
  pick f v
    [(Reg.BLK_QUEUE.QUEUED, (s.bulk.filter (fun b => b.state == .queued)).length),
     (Reg.BLK_QUEUE.RUNNING, (s.bulk.filter (fun b => b.state == .running)).length),
     (Reg.BLK_OP.HANDLE, b.handle), (Reg.BLK_OP.OP, b.op), (Reg.BLK_OP.STATE, b.state.code), (Reg.BLK_OP.RESULT, b.result),
     (Reg.BLK_OP.ORIGIN, b.origin), (Reg.BLK_OP.DONE, b.done), (Reg.BLK_OP.TOTAL, b.total), (Reg.BLK_OP.WHERE, b.whereAt)]

/-- The command queues (R411). A reply leaves its direction as it is formed; those for the platform manager wait in its adapter. -/
def State.viewCq (s : State) (f : Field) (d v : Nat) : Nat :=
  pick f v
    [(Reg.CQ_CMD.OCC, s.cqOcc d), (Reg.CQ_CMD.PACKETS, s.cqPackets d), (Reg.CQ_CMD.FULL, bnat (s.cqOcc d == 4096)),
     (Reg.CQ_CMD.EMPTY, bnat (s.cqOcc d == 0)), (Reg.CQ_CMD.BUSY, bnat (s.cqBusy d)),
     (Reg.CQ_RPL.READY, bnat (d == 0 && s.replyReady))]

/-- The tally (R490): counters that read zero, and TLY_TIME, which is open. -/
def State.viewTly (s : State) (f : Field) (d i v : Nat) : Nat :=
  if f.is Reg.TLY_FIXED.COUNT then s.tlyValue d 0 i
  else if f.is Reg.TLY_TIME.CYCLES then s.open?
  else v

/-! ## Module-wide mirrors -/

/-- A word of the snapshot that PWR_SNAP.SEL selects (R447). -/
def State.snapWord (s : State) (w : Nat) : Nat :=
  let n := s.reg Reg.PWR_SNAP.SEL
  leNat ((List.range 8).map (fun k => s.qstByte (5016 + n / 4) (64 * (n % 4) + 8 * w + k)))

/-- The Ream (R513). -/
def State.viewReam (s : State) (f : Field) (v : Nat) : Nat :=
  if f.is Reg.REAM_CURSOR.SEQ || f.is Reg.REAM_MARK.SEQ then s.cursorSeq s.ream.log v
  else pick f v
    [(Reg.REAM_SEQ_NEWEST.SEQ, s.ream.nextSeq - 1), (Reg.REAM_SEQ_OLDEST.SEQ, s.oldestSeq s.ream.log),
     (Reg.REAM_MIRROR.RECORDS, s.ream.mirror.length), (Reg.REAM_WALL.MS, s.wallMs.getD 0)]

/-- What a read of index i of a field shows: a field of die 0 alone reads zero on die 1, and in single-head mode so does die 1's LNK
block but for its lanes (R42, R119). -/
def State.view (s : State) (f : Field) (d i : Nat) : Nat :=
  let v := s.rd f d i
  if d = 1 ∧ f.scope = .die0 then 0
  else
    (match f.block with
    | .ID => if f.is Reg.LNK_MODE.MODE then s.ctl.mode.num else v
    | .MOD => if f.is Reg.MOD_STATUS.MODE then s.ctl.mode.num else v
    | .LNK =>
      if d = 1 ∧ s.dual = false ∧ f.off ≠ Reg.LNK_LANE_STATUS.MARGIN.off then 0
      else if f.is Reg.LNK_HEAD_CFG.HEAD then d
      else v
    | .LOT => s.viewLot f d i v
    | .CDY => s.viewCdy f d i v
    | .MAP => s.viewMap f d i v
    | .MED => s.viewMed f d i v
    | .PRT => pick f v [(Reg.PRT_POISON_INDEX.RUNS, s.mapping.poison.runs.length),
        (Reg.PRT_POISON_INDEX.OVERFLOW, bnat s.mapping.poison.overflow)]
    | .SPR => if f.is Reg.SPR_POOL.LIFE_USED then s.lifeUsed else v
    | .SEC => s.viewSec f v
    | .BLK => s.viewBlk f i v
    | .CQ => s.viewCq f d v
    | .PWR => if f.is Reg.PWR_SNAP_DATA.DATA then s.snapWord i else v
    | .TLY => s.viewTly f d i v
    | .REAM => s.viewReam f v
    | .QST => if f.is Reg.QST_STATUS.PLANES_BUSY then
        ((List.range 4).map (fun k => if (s.planeWrite k).isSome then 2 ^ k else 0)).sum else v
    | .PIN => s.viewPin f v
    | .DMC | .POUR | .STR | .THM | .ENG | .BST => v) % 2 ^ f.width

end Sys2Proof.Machine
end

