-- ==== Sys2Proof/Machine/Window.lean ====
section
/-! DEFINITION. The Weazoir window (R11 to R13, R41, R42, R112 to R118, R408): where an offset lies, reading and writing words of
register blocks, host accesses of BAR2, the register leaves, and the commands that name one register's special access. -/

namespace Sys2Proof.Machine

/-! ## Where an offset lies (R41, R115, R482, R501, R383, R411) -/

/-- What an offset of the window holds: a register word (its block, die and byte offset, and whether the place is a read-only copy),
a sample buffer, the Ream's window, or nothing. -/
inductive Place where
  | word (b : Block) (die off : Nat) (copy : Bool)
  | samples (die off : Nat)
  | ream (off : Nat)
  | empty
deriving DecidableEq, Repr

/-- The grant bit of an offset's region; none in a reserved span (R115). -/
def regionOf (off : Nat) : Option Nat :=
  if off < 0x500000 then some (off / 0x100000)
  else if off < 0x800000 then none
  else if off < 0xC00000 then some 5
  else if off < 0x1000000 then some 6
  else none

/-- The blocks with a slot (R41). -/
def slotBlocks : List Block :=
  [.MOD, .LNK, .LOT, .CDY, .DMC, .MAP, .MED, .PRT, .SPR, .SEC, .POUR, .BLK, .STR, .CQ, .PWR, .THM, .ENG, .TLY, .REAM, .QST, .BST, .PIN]

/-- A block that exists on die 0 alone (R41). -/
def dieZeroBlock (b : Block) : Bool := [Block.MOD, .POUR, .PWR, .REAM, .QST, .PIN].contains b

/-- The place of an offset within a die window (R41, R42). -/
def placeInDie (die o : Nat) : Place :=
  match slotBlocks[o / 0x10000]? with
  | some b => if die = 1 ∧ dieZeroBlock b then .empty else .word b die (o % 0x10000) false
  | none => .empty

/-- The place of an offset in the Tally region (R482). -/
def placeInTally (o : Nat) : Place :=
  if o % 0x80000 < 0x10000 then .word .TLY (o / 0x80000) (o % 0x80000) false
  else if o % 0x80000 < 0x40000 then .empty
  else .samples (o / 0x80000) (o % 0x40000)

/-- The place of an offset of the window. -/
def placeOf (off : Nat) : Place :=
  match regionOf off with
  | some 0 => .word .ID 0 off false
  | some 1 => placeInTally (off % 0x100000)
  | some 2 =>
    let o := off % 0x100000
    if o < 0x1000 then .ream o else if o < 0x11000 then .word .REAM 0 (o - 0x1000) false else .empty
  | some 3 => if off % 0x100000 < 0x20000 then .word .STR (off / 0x10000 % 2) (off % 0x10000) false else .empty
  | some 4 =>
    if off % 0x100000 < 0x20000 ∧ off % 0x10000 < 0x200 then .word .CQ (off / 0x10000 % 2) (off % 0x10000) true else .empty
  | some 5 => placeInDie 0 (off - 0x800000)
  | some 6 => placeInDie 1 (off - 0xC00000)
  | _ => .empty

/-! ## Fields of a word -/

/-- The first bit of index i of a field, counted from its block's base. -/
def Field.bit (f : Field) (i : Nat) : Nat := 8 * (f.off + f.stride * i) + f.lo

/-- The indices of a field that lie in the 64-bit word at byte offset 8w of its block. -/
def Field.indices (f : Field) (w : Nat) : List Nat :=
  let i := if f.stride = 0 then 0 else (8 * w - f.off) / f.stride
  [i, i + 1].filter (fun k => k < f.count && f.bit k / 64 == w)

/-- The fields of a block's word with their indices. -/
def fieldsAt (b : Block) (w : Nat) : List (Field × Nat) := (fieldsOf b).flatMap (fun f => (f.indices w).map (fun i => (f, i)))

/-! ## Reading a word -/

/-- The live tally counter that a word of the TLY block holds: its bank and index (R490). -/
def liveCounter (w : Nat) : Option (Nat × Nat) :=
  if 0x200 ≤ w ∧ w < 0x380 then some (0, w - 0x200)
  else if 0x600 ≤ w ∧ w < 0x6C0 ∧ w % 2 = 0 then some (1, (w - 0x600) / 2)
  else if 0x800 ≤ w ∧ w < 0x840 ∧ w % 2 = 0 then some (2, (w - 0x800) / 2)
  else none

/-- The 64 bits of a register word as its fields show them. -/
def State.wordOf (s : State) (b : Block) (d w : Nat) : Nat :=
  (fieldsAt b w).foldl (fun n p => n + s.view p.1 d p.2 * 2 ^ (p.1.bit p.2 % 64)) 0

/-- Read bytes `lo` to `lo + size − 1` of a word; a read of the low half or the whole of a live counter latches its bank, and its high
half comes from the snapshot (R479). -/
def State.readWord (s : State) (b : Block) (d w lo size : Nat) : State × Nat :=
  match (if b = .TLY then liveCounter w else none) with
  | some (bank, i) =>
    if lo = 0 then
      let s1 := s.latch d bank
      (s1, s1.rd (tlySnap bank) d i % 2 ^ (8 * size))
    else (s, s.rd (tlySnap bank) d i / 2 ^ (8 * lo) % 2 ^ (8 * size))
  | none => (s, s.wordOf b d w / 2 ^ (8 * lo) % 2 ^ (8 * size))

/-- Read `size` bytes at an offset of the window. The bytes past REAM_WIN.BYTES are open. -/
def State.readPlace (s : State) (off size : Nat) : State × Nat :=
  match placeOf off with
  | .word b d o _ => s.readWord b d (o / 8) (o % 8) size
  | .samples d o => (s, (s.tlyBuf.get 0 (tlyBufKey d (o / 32))).toNat / 2 ^ (8 * (o % 32)) % 2 ^ (8 * size))
  | .ream o => (s, leNat ((List.range size).map (fun k => (s.ream.window[o + k]?).getD (Config.freeByte s.free (o + k)))))
  | .empty => (s, 0)

/-! ## Writing a word (R11, R13) -/

/-- The bits of v at the places where m is 1, and those of old elsewhere. -/
def mergeBits (w old m v : Nat) : Nat := (old &&& (2 ^ w - 1 - m)) ||| (v &&& m)

/-- Write one field by its access code: m are the bits written. -/
def State.writeField (s : State) (f : Field) (d i m v : Nat) : State :=
  if m = 0 ∨ (d = 1 ∧ f.scope = .die0) then s
  else match f.acc with
    | .rw => s.wr f d i (mergeBits f.width (s.rd f d i) m v)
    | .rw1c => s.wr f d i (mergeBits f.width (s.rd f d i) (m &&& v) 0)
    | _ => s

/-- Write the fields of a word by their access codes. -/
def State.writeFields (s : State) (b : Block) (d w m v : Nat) : State :=
  (fieldsAt b w).foldl (fun (s : State) p =>
    let at0 := p.1.bit p.2 % 64
    s.writeField p.1 d p.2 (m / 2 ^ at0 % 2 ^ p.1.width) (v / 2 ^ at0 % 2 ^ p.1.width)) s

/-- A write to a Strainer channel (R378, R380, R382): channels 4 to 15, ignored with COLLISION while a CHECK uses the channel. -/
def State.writeChannel (s : State) (d n w lo size m v : Nat) : State :=
  if n < 4 then s
  else if s.strBusy d n then s.wr Reg.STR_CFG.COLLISION d n 1
  else if w % 8 = 5 then s.strFeed d n (leBytes size (v / 2 ^ (8 * lo)))
  else if w % 8 = 7 then s.strCommand d n (v &&& m)
  else s.writeFields .STR d w m v

/-- A write to a word of the TLY block (R480, R484, R486). -/
def State.writeTly (s : State) (d w size m v : Nat) : State :=
  match liveCounter w with
  | some (bank, i) => if size = 8 then s.wr (tlyLive bank) d i v else s
  | none =>
    let s1 := s.writeFields .TLY d w m v
    if (w = 5 ∨ w = 6) ∧ m % 4294967296 ≠ 0 then s1.restartSampler d
    else if w = 9 ∧ m % 8192 ≠ 0 ∧ s1.rd Reg.TLY_SAMPLE_RD.INDEX d 0 ≠ s.rd Reg.TLY_SAMPLE_RD.INDEX d 0 then
      s1.wr Reg.TLY_SAMPLE_STAT.UNREAD d 0
        ((8192 + s.rd Reg.TLY_SAMPLE_WR.INDEX d 0 - s1.rd Reg.TLY_SAMPLE_RD.INDEX d 0) % 8192)
    else s1

/-- A write to a word of the REAM block (R500, R501). -/
def State.writeReam (s : State) (w m v : Nat) : State :=
  if w = 15 then s.reamCommand (v &&& m)
  else if w = 12 ∨ w = 13 then if (v &&& m).testBit 0 then s.reportGap (w - 12) else s
  else s.writeFields .REAM 0 w m v

/-- Write bytes `lo` to `lo + size − 1` of a register word. -/
def State.writeWord (s : State) (b : Block) (d w lo size value : Nat) : State :=
  let m := (2 ^ (8 * size) - 1) * 2 ^ (8 * lo)
  let v := value % 2 ^ (8 * size) * 2 ^ (8 * lo)
  match b with
  | .STR => if w < 128 then s.writeChannel d (w / 8) w lo size m v else s.writeFields .STR d w m v
  | .TLY => s.writeTly d w size m v
  | .REAM => s.writeReam w m v
  | .CQ => (s.writeFields .CQ d w m v).showBusy d
  | .LNK => if d = 1 ∧ s.dual = false then s else s.writeFields .LNK d w m v
  | _ => s.writeFields b d w m v

/-- Write `size` bytes at an offset of the window. -/
def State.writePlace (s : State) (off size value : Nat) : State :=
  match placeOf off with
  | .word b d o false => s.writeWord b d (o / 8) (o % 8) size value
  | _ => s

/-! ## BAR2 (R115 to R117) -/

/-- A region's grant bit is set, for reads or for writes; a grant is held by the primary head's registers. -/
def State.grantBit (s : State) (write : Bool) (bit : Nat) : Bool :=
  (if write then s.rd Reg.LNK_BAR2_GRANT.WRITE_EN s.primary 0 else s.rd Reg.LNK_BAR2_GRANT.READ_EN s.primary 0).testBit bit

/-- BAR2 opens an access (R115 to R117): the primary head's, granted, aligned, of 4 or 8 bytes; in Halt only reads of the identity and
Ream regions. -/
def State.barOpens (s : State) (h off size : Nat) (write : Bool) : Bool :=
  h == s.primary && (size == 4 || size == 8) && off % size == 0 &&
    (match regionOf off with
     | none => false
     | some b => s.grantBit write b && (s.ctl.mode != .m10 || (!write && (b == 0 || b == 2))))

/-- An access is refused at a head: LNK_BAR2_VIOL and its source (R109, R115). -/
def State.violation (s : State) (h : Nat) : State := (s.bump Reg.LNK_BAR2_VIOL.COUNT h 0 1).raiseH h 10

/-- A host read of BAR2. -/
def State.barRead (s : State) (h off size : Nat) : State :=
  if !s.ioUp h then s
  else if s.barOpens h off size false then
    let p := s.readPlace off size
    p.1.draw.send (.bar2 h off size p.2)
  else (s.violation h).send (.bar2 h off size 0)

/-- A host write of BAR2. -/
def State.barWrite (s : State) (h off size value : Nat) : State :=
  if !s.ioUp h then s
  else if s.barOpens h off size true then s.writePlace off size value
  else s.violation h

/-- BAR2_READ (R115). -/
def execBar2Read (head : Fin 2) (offset size : Nat) (s : State) : Res := .next (s.barRead head.val offset size)

/-- The hardware sets write-1-to-clear bits of the word at an offset in the cycle of the write that clears them: they read 1 afterwards
(R13). -/
def State.hwSet (s : State) (off bits : Nat) : State :=
  match placeOf off with
  | .word b d o _ =>
    (fieldsAt b (o / 8)).foldl (fun (s : State) p =>
      let v := bits / 2 ^ (p.1.bit p.2 % 64) % 2 ^ p.1.width
      if p.1.acc = .rw1c && v != 0 && !(d == 1 && p.1.scope == .die0) then s.wr p.1 d p.2 (s.rd p.1 d p.2 ||| v) else s) s
  | _ => s

/-- REGISTER_WRITE (R11, R13): `hw` are the bits of the word at the offset that the hardware sets in the write's own cycle. -/
def execRegisterWrite (head : Fin 2) (offset size : Nat) (value : WordWrite) (s : State) : Res :=
  .next ((s.barWrite head.val offset size value.value.toNat).hwSet offset value.hw.toNat)

/-! ## Commands that name a register's own access (R380, R479 to R484, R500, R501) -/

/-- The window offset of a byte of a die's STR block. -/
def strOffset (who : BarWho) (die o : Nat) : Nat :=
  if who.ownRegion then 0x300000 + 0x10000 * die + o else 0x800000 + 0x400000 * die + 0xC0000 + o

/-- The window offset of a byte of a die's TLY block. -/
def tlyOffset (who : BarWho) (die o : Nat) : Nat :=
  if who.ownRegion then 0x100000 + 0x80000 * die + o else 0x800000 + 0x400000 * die + 0x110000 + o

/-- The window offset of a byte of the REAM block. -/
def reamOffset (who : BarWho) (o : Nat) : Nat := if who.ownRegion then 0x201000 + o else 0x800000 + 0x120000 + o

/-- STR_DATA_WRITE (R380). -/
def execStrDataWrite (who : BarWho) (die : Fin 2) (channel : Fin 16) (wide : Bool) (value : BitVec 64) (s : State) : Res :=
  .next (s.barWrite who.head.val (strOffset who die.val (64 * channel.val + 0x28)) (if wide then 8 else 4) value.toNat)

/-- STR_CMD with START (R380). -/
def execStrCmdStart (who : BarWho) (die : Fin 2) (channel : Fin 16) (s : State) : Res :=
  .next (s.barWrite who.head.val (strOffset who die.val (64 * channel.val + 0x38)) 8 1)

/-- STR_CMD with TAIL (R380). -/
def execStrCmdTail (who : BarWho) (die : Fin 2) (channel : Fin 16) (bytes : Fin 8) (s : State) : Res :=
  .next (s.barWrite who.head.val (strOffset who die.val (64 * channel.val + 0x38)) 8 (4 + 256 * bytes.val))

/-- STR_CMD with FINAL (R381). -/
def execStrCmdFinal (who : BarWho) (die : Fin 2) (channel : Fin 16) (s : State) : Res :=
  .next (s.barWrite who.head.val (strOffset who die.val (64 * channel.val + 0x38)) 8 2)

/-- The byte offset of a live counter in its block (R490). -/
def liveOffset (bank i : Nat) : Nat :=
  match bank with | 0 => 0x1000 + 8 * i | 1 => 0x3000 + 16 * i | _ => 0x4000 + 16 * i

/-- TLY_LIVE_READ (R479): a read of a live counter, of its low half or whole. A number that the bank has no counter for is no place. -/
def execTlyLiveRead (who : BarWho) (die : Fin 2) (bank : Fin 3) (index : Nat) (wide : Bool) (s : State) : Res :=
  .next (if index ≥ bankSize bank.val then s else s.barRead who.head.val (tlyOffset who die.val (liveOffset bank.val index)) (if wide then 8 else 4))

/-- TLY_COUNTER_WRITE (R480): events of the cycle of the write are added after it. -/
def execTlyCounterWrite (who : BarWho) (die : Fin 2) (bank : Fin 3) (index : Nat) (wide : Bool) (value : BitVec 64) (events : Nat)
    (s : State) : Res :=
  .next (if index ≥ bankSize bank.val then s
    else (s.barWrite who.head.val (tlyOffset who die.val (liveOffset bank.val index)) (if wide then 8 else 4)
      value.toNat).tlyAdd die.val bank.val index events)

/-- TLY_SAMPLE_CFG_WRITE (R484). -/
def execTlySampleCfgWrite (who : BarWho) (die : Fin 2) (value : BitVec 32) (s : State) : Res :=
  .next (s.barWrite who.head.val (tlyOffset who die.val 0x28) 4 value.toNat)

/-- REAM_CMD with LOAD (R501). -/
def execReamCmdLoad (who : BarWho) (s : State) : Res := .next (s.barWrite who.head.val (reamOffset who 0x78) 8 1)

/-- REAM_CMD with REWIND (R501). -/
def execReamCmdRewind (who : BarWho) (s : State) : Res := .next (s.barWrite who.head.val (reamOffset who 0x78) 8 2)

/-- REAM_CMD with MARK (R501). -/
def execReamCmdMark (who : BarWho) (s : State) : Res := .next (s.barWrite who.head.val (reamOffset who 0x78) 8 4)

/-- REAM_GAP_CLEAR (R500). -/
def execReamGapClear (who : BarWho) (reader : Fin 2) (s : State) : Res :=
  .next (s.barWrite who.head.val (reamOffset who (0x60 + 8 * reader.val)) 8 1)

/-! ## The register leaves (R408) -/

/-- A register leaf is refused with a status: none where its words lie in one granted region. -/
def State.regGate (s : State) (p : List Byte) (write : Bool) : Option (State × Nat) :=
  let off := fieldAt p 0 4
  let count := fieldAt p 4 2
  let viol := s.violation s.primary
  if off ≥ 0x4000000 ∨ off % 8 ≠ 0 ∨ count = 0 ∨ count > 8192 ∨ notZero p 6 2 then
    some (s, stInvalid)
  else if (List.range count).any (fun k => (regionOf (off + 8 * k)).isNone) then some (viol, stInvalid)
  else match regionOf off with
    | none => some (viol, stInvalid)
    | some b =>
      if regionOf (off + 8 * (count - 1)) ≠ some b then some (s, stInvalid)
      else if s.grantBit write b then none
      else some (viol, stAccess)

/-- Read words in ascending address order. -/
def State.readWords (s : State) (off : Nat) : Nat → State × List Byte
  | 0 => (s, [])
  | n + 1 =>
    let p := s.readPlace off 8
    let q := p.1.readWords (off + 8) n
    (q.1, leBytes 8 p.2 ++ q.2)

/-- REG_READ. -/
def leafRegRead (p : List Byte) (r : Req) (s : State) : State :=
  match s.regGate p false with
  | some x => x.1.refuse r x.2
  | none =>
    let q := s.readWords (fieldAt p 0 4) (fieldAt p 4 2)
    q.1.draw.ok r q.2

/-- REG_WRITE: the words, in ascending address order. -/
def leafRegWrite (p : List Byte) (r : Req) (s : State) : State :=
  match s.regGate p true with
  | some x => x.1.refuse r x.2
  | none =>
    ((List.range (fieldAt p 4 2)).foldl (fun (s : State) k =>
      s.writePlace (fieldAt p 0 4 + 8 * k) 8 (fieldAt p (8 + 8 * k) 8)) s).ok r []

/-- The entries of TALLY_CONFIG: TLY offset and value. -/
def tallyEntries (p : List Byte) : List (Nat × Nat) :=
  (List.range (fieldAt p 2 2)).map (fun k => (fieldAt p (4 + 16 * k) 4, fieldAt p (12 + 16 * k) 8))

/-- TALLY_CONFIG (R407, R482): words of a die's TLY block, written in order. -/
def leafTallyConfig (p : List Byte) (r : Req) (s : State) : State :=
  let d := fieldAt p 0 1
  let n := fieldAt p 2 2
  if d > 1 ∨ notZero p 1 1 ∨
      (List.range n).any (fun k => notZero p (8 + 16 * k) 4) = true ∨
      (tallyEntries p).any (fun e => e.1 % 8 != 0 || e.1 ≥ 0x10000) = true then s.refuse r stInvalid
  else if !s.tallyWritable then s.refuse r stAccess
  else ((tallyEntries p).foldl (fun (s : State) e => s.writeWord .TLY d (e.1 / 8) 0 8 e.2) s).ok r []

end Sys2Proof.Machine
end

