-- ==== Sys2Proof/Machine/Leaves.lean ====
section
/-! DEFINITION. The leaves of R407 as commands: what each does once it runs, how the merge stages serialise the leaves of one cycle and
run them (R402, R404, R409), and the leaves that wait for a Quiesce or a self-test run to end (R405, R524). -/

namespace Sys2Proof.Machine

/-! ## What a leaf is and does -/

/-- An open verdict on an image. -/
def openVerdict (n : Nat) : ImageVerdict :=
  match n % 3 with | 0 => .partly | 1 => .good (n / 3 % 65536) (n / 196608 % 256) | _ => .refused

/-- The command of the row that an opcode names; what its row takes from the physical world is open. -/
def leafNamed (n op : Nat) (h : LeafHdr) (p : List Byte) : Option Instr :=
  match op with
  | 0x0000 => some (.identify h p)
  | 0x0001 => some (.getMeasurements h p)
  | 0x0002 => some (.getCertificate h p)
  | 0x0003 => some (.scanChallenge h p)
  | 0x0004 => some (.scanUnlock h p (n % 2 == 1))
  | 0x0100 => some (.healthReport h p)
  | 0x0101 => some (.getStatus h p)
  | 0x0102 => some (.getUnit h p)
  | 0x0103 => some (.setWallClock h p)
  | 0x0104 => some (.setEventMask h p)
  | 0x0200 => some (.setWindowGrant h p)
  | 0x0201 => some (.getWindowGrant h p)
  | 0x0202 => some (.regRead h p)
  | 0x0203 => some (.regWrite h p)
  | 0x0300 => some (.setLatencyTolerance h p)
  | 0x0301 => some (.getPower h p)
  | 0x0302 => some (.warmReset h p)
  | 0x0303 => some (.powerRequestOff h p)
  | 0x0400 => some (.zero h p)
  | 0x0401 => some (.bulkStatus h p)
  | 0x0402 => some (.bulkAbort h p)
  | 0x0500 => some (.keyProvision h p)
  | 0x0501 => some (.keyDestroy h p)
  | 0x0502 => some (.rangeWrite h p)
  | 0x0503 => some (.keyStatus h p)
  | 0x0600 => some (.fwTransfer h p (openVerdict n))
  | 0x0601 => some (.fwActivate h p (n % 2 == 1))
  | 0x0602 => some (.fwInfo h p)
  | 0x0603 => some (.svnCommit h p)
  | 0x0700 => some (.selftestRun h p)
  | 0x0701 => some (.selftestResult h p)
  | 0x0800 => some (.reamRead h p)
  | 0x0801 => some (.qstRead h p)
  | 0x0802 => some (.qstWrite h p)
  | 0x0803 => some (.qstPassword h p)
  | 0x0900 => some (.unitOut h p)
  | 0x0901 => some (.unitReturn h p (n % 2 == 1))
  | 0x0902 => some (.locate h p)
  | 0x0903 => some (.removalRequest h p)
  | 0x0A00 => some (.tallyRead h p)
  | 0x0A01 => some (.tallyConfig h p)
  | 0x0A02 => some (.tallySample h p)
  | _ => none

/-- The leaf that a command's bytes spell: one that comes as unknown but carries an opcode of the table is that row's (log entry 6). -/
def State.spelled (s : State) (i : Instr) : Instr :=
  match i with
  | .leafUnknownOpcode op h p => (leafNamed s.open? op.toNat h p).getD i
  | i => i

/-- What a leaf does once it runs. -/
def leafBody : Instr → Option (Req → State → State)
  | .leafUnknownOpcode _ _ _ => some (fun r s => s.refuse r stUnknown)
  | .identify _ _ => some leafIdentify
  | .getMeasurements _ p => some (leafGetMeasurements p)
  | .getCertificate _ p => some (leafGetCertificate p)
  | .scanChallenge _ _ => some leafScanChallenge
  | .scanUnlock _ p signed => some (leafScanUnlock p signed)
  | .healthReport _ _ => some leafHealthReport
  | .getStatus _ _ => some leafGetStatus
  | .getUnit _ p => some (leafGetUnit p)
  | .setWallClock _ p => some (leafSetWallClock p)
  | .setEventMask _ p => some (leafSetEventMask p)
  | .setWindowGrant _ p => some (leafSetWindowGrant p)
  | .getWindowGrant _ _ => some leafGetWindowGrant
  | .regRead _ p => some (leafRegRead p)
  | .regWrite _ p => some (leafRegWrite p)
  | .setLatencyTolerance _ p => some (leafSetLatencyTolerance p)
  | .getPower _ _ => some leafGetPower
  | .warmReset _ _ => some leafWarmReset
  | .powerRequestOff _ p | .powerRequestOn _ p => some (leafPowerRequest p)
  | .zero _ p | .fill _ p | .copy _ p | .check _ p | .compare _ p | .eraseKey _ p => some (leafBulkStart p)
  | .bulkStatus _ p => some (leafBulkStatus p)
  | .bulkAbort _ p => some (leafBulkAbort p)
  | .keyProvision _ p => some (leafKeyProvision p)
  | .keyDestroy _ p => some (leafKeyDestroy p)
  | .rangeWrite _ p => some (leafRangeWrite p)
  | .keyStatus _ p => some (leafKeyStatus p)
  | .fwTransfer _ p verdict => some (leafFwTransfer p verdict)
  | .fwActivate _ _ verified => some (leafFwActivate verified)
  | .fwInfo _ _ => some (fun r s => s.ok r s.fwInfoBytes)
  | .svnCommit _ _ => some leafSvnCommit
  | .selftestRun _ p => some (leafSelftestRun p)
  | .selftestResult _ p => some (leafSelftestResult p)
  | .reamRead _ p | .reamRewindToMark _ p | .reamSetMark _ p => some (leafReamRead p)
  | .qstRead _ p => some (leafQstRead p)
  | .qstWrite _ p => some (leafQstWrite p)
  | .qstPassword _ p => some (leafQstPassword p)
  | .unitOut _ p => some (leafUnitOut p)
  | .unitReturn h p pass => some (leafUnitReturn h p pass)
  | .locate _ p => some (leafLocate p)
  | .removalRequest _ _ => some leafRemovalRequest
  | .tallyRead _ p => some (leafTallyRead p)
  | .tallyConfig _ p => some (leafTallyConfig p)
  | .tallySample _ p => some (leafTallySample p)
  | _ => none

/-! ## The merge stages (R402, R404, R409) -/

/-- The leaf at input i of a die: the die and the input of its transport. -/
def cqAt (i : Instr) : Nat × Nat := match leafOf i with | some (_, h, _) => cqInput h.transport | none => (2, 0)

/-- The row of a leaf forwards it from die 1 to die 0. -/
def forwarded (i : Instr) : Bool :=
  match leafOf i with | some (row, h, _) => runsOn row.wide h.transport != cqInput h.transport | none => false

/-- Of the leaves that a die's inputs present, the first at or after the pointer (R402). -/
def firstAt (inputs next : Nat) (l : List Instr) : Option Instr :=
  (List.range inputs).findSome? (fun k => l.find? (fun i => (cqAt i).2 == (next + k) % inputs))

/-- Remove the first element equal to a value. -/
def removeLeaf (i : Instr) : List Instr → List Instr
  | [] => []
  | a :: t => if a = i then t else a :: removeLeaf i t

/-- A die's merge stage takes the leaves that its inputs present, one in a cycle (R402): what it counts, and their order. -/
def State.takeAll (s : State) (d : Nat) (l : List Instr) : Nat → State × List Instr
  | 0 => (s, [])
  | n + 1 =>
    match firstAt (if d = 0 then 5 else 3) (s.rd Reg.CQ_RR.NEXT d 0) l with
    | none => (s, [])
    | some i =>
      let q := (s.countTaken d (cqAt i).2).takeAll d (removeLeaf i l) n
      (q.1, i :: q.2)

/-- The merge stages take what is presented: die 0's, die 1's, and then on die 0's input 4 what die 1 forwards, in the order in which it
was taken (R402; log entry 84). -/
def State.serialise (s : State) (l : List Instr) : State × List Instr :=
  let a := s.takeAll 0 (l.filter (fun i => (cqAt i).1 == 0)) l.length
  let b := a.1.takeAll 1 (l.filter (fun i => (cqAt i).1 == 1)) l.length
  ((b.2.filter forwarded).foldl (fun (s : State) _ => s.countTaken 0 4) b.1, a.2 ++ b.2)

/-- Run one leaf that has been taken; `rest` are those taken after it, which may replace what it writes (R404). -/
def State.runTaken (s : State) (x : Instr × Bool) (rest : List (Instr × Bool)) : State :=
  match leafOf x.1, leafBody x.1 with
  | some (row, h, p), some body =>
    s.runLeaf row h p (rest.any (fun j => s.replaces (requesterOf h.transport) (settingsOf x.1) j.1)) x.2 body
  | _, _ => s

/-- Modes in which the queues stand and no leaf behind the one that led there runs. -/
def Mode.queuesGone : Mode → Bool
  | .m0 | .m1 | .m2 | .m11 => true
  | _ => false

/-- The die whose command queue a leaf runs from (R402). -/
def leafDie (i : Instr) : Nat := match leafOf i with | some (row, h, _) => (runsOn row.wide h.transport).1 | none => 0

/-- Run leaves in their serialised order. During a Quiesce they wait (R405), and while the die's leaf interpreter resets (R471); those behind a leaf that powers the module down or resets
it are lost with the queues. -/
def State.runInOrder (s : State) : List (Instr × Bool) → State
  | [] => s
  | x :: t =>
    if s.ctl.mode = .m7 then { s with held := s.held ++ (x :: t) }
    else if !s.roleWorks (44 + leafDie x.1) then ({ s with held := s.held ++ [x] }).runInOrder t
    else
      let s1 := s.runTaken x t
      if s1.ctl.mode != s.ctl.mode && s1.ctl.mode.queuesGone then s1 else s1.runInOrder t

/-- The leaves presented in this cycle are taken and run. -/
def State.mergeCycle (s : State) : State :=
  let q := ({ s with presented := [] }).serialise s.presented
  ((q.1.runInOrder (q.2.map (fun i => (i, true)))).showBusy 0).showBusy 1

/-- The next command is a leaf that another input presents in the same cycle (R402). -/
def State.tiedLeaf (s : State) (i : Instr) : Bool :=
  match leafOf i, s.pending with
  | some (_, h, _), j :: _ => h.tie && (leafOf j).isSome && cqAt j != cqAt i
  | _, _ => false

/-- A leaf arrives (R391 to R393, R402). -/
def State.leafArrives (s : State) (i : Instr) : State :=
  let j := s.spelled i
  let s0 := if j = i then s else s.draw
  match leafOf j with
  | none => s0
  | some (row, h, p) =>
    let q := s0.adapter row h p
    let s1 : State := if q.2 then { q.1 with presented := q.1.presented ++ [j] } else q.1
    if s.tiedLeaf i then s1 else s1.mergeCycle

/-- Run the leaves that waited. -/
def State.runHeld (s : State) : State :=
  ((({ s with held := [] }).runInOrder s.held).showBusy 0).showBusy 1

/-- Idling on an empty queue of commands: leaves that waited for a Quiesce that has ended, or for a self-test run that has, run, and the
DRAM controllers have a cycle (log entries 2 and 91). -/
def State.idle (s : State) : State :=
  (if s.held.isEmpty || s.ctl.mode == .m7 || s.runningTest.isSome then s else s.runHeld).dramTick

/-! ## The commands -/

/-- LEAF_UNKNOWN_OPCODE (R390). -/
def execLeafUnknownOpcode (opcode : BitVec 16) (h : LeafHdr) (p : List Byte) (s : State) : Res :=
  .next (s.leafArrives (.leafUnknownOpcode opcode h p))

/-- IDENTIFY (R408). -/
def execIdentify (h : LeafHdr) (p : List Byte) (s : State) : Res := .next (s.leafArrives (.identify h p))

/-- GET_MEASUREMENTS (R352). -/
def execGetMeasurements (h : LeafHdr) (p : List Byte) (s : State) : Res := .next (s.leafArrives (.getMeasurements h p))

/-- GET_CERTIFICATE (R351). -/
def execGetCertificate (h : LeafHdr) (p : List Byte) (s : State) : Res := .next (s.leafArrives (.getCertificate h p))

/-- SCAN_CHALLENGE (R357). -/
def execScanChallenge (h : LeafHdr) (p : List Byte) (s : State) : Res := .next (s.leafArrives (.scanChallenge h p))

/-- SCAN_UNLOCK (R357, R358). -/
def execScanUnlock (h : LeafHdr) (p : List Byte) (signed : Bool) (s : State) : Res := .next (s.leafArrives (.scanUnlock h p signed))

/-- HEALTH_REPORT (R301). -/
def execHealthReport (h : LeafHdr) (p : List Byte) (s : State) : Res := .next (s.leafArrives (.healthReport h p))

/-- GET_STATUS (R408). -/
def execGetStatus (h : LeafHdr) (p : List Byte) (s : State) : Res := .next (s.leafArrives (.getStatus h p))

/-- GET_UNIT (R407). -/
def execGetUnit (h : LeafHdr) (p : List Byte) (s : State) : Res := .next (s.leafArrives (.getUnit h p))

/-- SET_WALL_CLOCK (R495). -/
def execSetWallClock (h : LeafHdr) (p : List Byte) (s : State) : Res := .next (s.leafArrives (.setWallClock h p))

/-- SET_EVENT_MASK (R394). -/
def execSetEventMask (h : LeafHdr) (p : List Byte) (s : State) : Res := .next (s.leafArrives (.setEventMask h p))

/-- SET_WINDOW_GRANT (R115, R408). -/
def execSetWindowGrant (h : LeafHdr) (p : List Byte) (s : State) : Res := .next (s.leafArrives (.setWindowGrant h p))

/-- GET_WINDOW_GRANT (R407). -/
def execGetWindowGrant (h : LeafHdr) (p : List Byte) (s : State) : Res := .next (s.leafArrives (.getWindowGrant h p))

/-- REG_READ (R408). -/
def execRegRead (h : LeafHdr) (p : List Byte) (s : State) : Res := .next (s.leafArrives (.regRead h p))

/-- REG_WRITE (R408). -/
def execRegWrite (h : LeafHdr) (p : List Byte) (s : State) : Res := .next (s.leafArrives (.regWrite h p))

/-- SET_LATENCY_TOLERANCE (R426, R433). -/
def execSetLatencyTolerance (h : LeafHdr) (p : List Byte) (s : State) : Res := .next (s.leafArrives (.setLatencyTolerance h p))

/-- GET_POWER (R407). -/
def execGetPower (h : LeafHdr) (p : List Byte) (s : State) : Res := .next (s.leafArrives (.getPower h p))

/-- WARM_RESET (R413, R418). -/
def execWarmReset (h : LeafHdr) (p : List Byte) (s : State) : Res := .next (s.leafArrives (.warmReset h p))

/-- POWER_REQUEST_OFF (R415, R416, R423). -/
def execPowerRequestOff (h : LeafHdr) (p : List Byte) (s : State) : Res := .next (s.leafArrives (.powerRequestOff h p))

/-- POWER_REQUEST_ON (R416, R423). -/
def execPowerRequestOn (h : LeafHdr) (p : List Byte) (s : State) : Res := .next (s.leafArrives (.powerRequestOn h p))

/-- ZERO (R362, R367). -/
def execZero (h : LeafHdr) (p : List Byte) (s : State) : Res := .next (s.leafArrives (.zero h p))

/-- FILL (R362, R368). -/
def execFill (h : LeafHdr) (p : List Byte) (s : State) : Res := .next (s.leafArrives (.fill h p))

/-- COPY (R362, R369). -/
def execCopy (h : LeafHdr) (p : List Byte) (s : State) : Res := .next (s.leafArrives (.copy h p))

/-- CHECK (R362, R370). -/
def execCheck (h : LeafHdr) (p : List Byte) (s : State) : Res := .next (s.leafArrives (.check h p))

/-- COMPARE (R362, R371). -/
def execCompare (h : LeafHdr) (p : List Byte) (s : State) : Res := .next (s.leafArrives (.compare h p))

/-- ERASE_KEY (R350, R362, R372). -/
def execEraseKey (h : LeafHdr) (p : List Byte) (s : State) : Res := .next (s.leafArrives (.eraseKey h p))

/-- BULK_STATUS (R407). -/
def execBulkStatus (h : LeafHdr) (p : List Byte) (s : State) : Res := .next (s.leafArrives (.bulkStatus h p))

/-- BULK_ABORT (R374). -/
def execBulkAbort (h : LeafHdr) (p : List Byte) (s : State) : Res := .next (s.leafArrives (.bulkAbort h p))

/-- KEY_PROVISION (R347). -/
def execKeyProvision (h : LeafHdr) (p : List Byte) (s : State) : Res := .next (s.leafArrives (.keyProvision h p))

/-- KEY_DESTROY (R347, R350). -/
def execKeyDestroy (h : LeafHdr) (p : List Byte) (s : State) : Res := .next (s.leafArrives (.keyDestroy h p))

/-- RANGE_WRITE (R348, R349). -/
def execRangeWrite (h : LeafHdr) (p : List Byte) (s : State) : Res := .next (s.leafArrives (.rangeWrite h p))

/-- KEY_STATUS (R346). -/
def execKeyStatus (h : LeafHdr) (p : List Byte) (s : State) : Res := .next (s.leafArrives (.keyStatus h p))

/-- FW_TRANSFER (R353, R354). -/
def execFwTransfer (h : LeafHdr) (p : List Byte) (verdict : ImageVerdict) (s : State) : Res := .next (s.leafArrives (.fwTransfer h p verdict))

/-- FW_ACTIVATE (R354, R423, R434). -/
def execFwActivate (h : LeafHdr) (p : List Byte) (verified : Bool) (s : State) : Res := .next (s.leafArrives (.fwActivate h p verified))

/-- FW_INFO (R407). -/
def execFwInfo (h : LeafHdr) (p : List Byte) (s : State) : Res := .next (s.leafArrives (.fwInfo h p))

/-- SVN_COMMIT (R355). -/
def execSvnCommit (h : LeafHdr) (p : List Byte) (s : State) : Res := .next (s.leafArrives (.svnCommit h p))

/-- SELFTEST_RUN (R520). -/
def execSelftestRun (h : LeafHdr) (p : List Byte) (s : State) : Res := .next (s.leafArrives (.selftestRun h p))

/-- SELFTEST_RESULT (R523). -/
def execSelftestResult (h : LeafHdr) (p : List Byte) (s : State) : Res := .next (s.leafArrives (.selftestResult h p))

/-- REAM_READ (R502). -/
def execReamRead (h : LeafHdr) (p : List Byte) (s : State) : Res := .next (s.leafArrives (.reamRead h p))

/-- REAM_REWIND_TO_MARK (R502). -/
def execReamRewindToMark (h : LeafHdr) (p : List Byte) (s : State) : Res := .next (s.leafArrives (.reamRewindToMark h p))

/-- REAM_SET_MARK (R502). -/
def execReamSetMark (h : LeafHdr) (p : List Byte) (s : State) : Res := .next (s.leafArrives (.reamSetMark h p))

/-- QST_READ (R506). -/
def execQstRead (h : LeafHdr) (p : List Byte) (s : State) : Res := .next (s.leafArrives (.qstRead h p))

/-- QST_WRITE (R505). -/
def execQstWrite (h : LeafHdr) (p : List Byte) (s : State) : Res := .next (s.leafArrives (.qstWrite h p))

/-- QST_PASSWORD (R509). -/
def execQstPassword (h : LeafHdr) (p : List Byte) (s : State) : Res := .next (s.leafArrives (.qstPassword h p))

/-- UNIT_OUT (R288, R472). -/
def execUnitOut (h : LeafHdr) (p : List Byte) (s : State) : Res := .next (s.leafArrives (.unitOut h p))

/-- UNIT_RETURN (R289 to R292, R473, R521). -/
def execUnitReturn (h : LeafHdr) (p : List Byte) (pass : Bool) (s : State) : Res := .next (s.leafArrives (.unitReturn h p pass))

/-- LOCATE (R536). -/
def execLocate (h : LeafHdr) (p : List Byte) (s : State) : Res := .next (s.leafArrives (.locate h p))

/-- REMOVAL_REQUEST (R539). -/
def execRemovalRequest (h : LeafHdr) (p : List Byte) (s : State) : Res := .next (s.leafArrives (.removalRequest h p))

/-- TALLY_READ (R483). -/
def execTallyRead (h : LeafHdr) (p : List Byte) (s : State) : Res := .next (s.leafArrives (.tallyRead h p))

/-- TALLY_CONFIG (R407). -/
def execTallyConfig (h : LeafHdr) (p : List Byte) (s : State) : Res := .next (s.leafArrives (.tallyConfig h p))

/-- TALLY_SAMPLE (R484). -/
def execTallySample (h : LeafHdr) (p : List Byte) (s : State) : Res := .next (s.leafArrives (.tallySample h p))

end Sys2Proof.Machine
end

