-- ==== Sys2Proof/Machine/Start.lean ====
section
/-! DEFINITION. Starts (R413 to R425, R441): the ladder, what a cold start clears, the steps of a cold start up to the self-test,
the off-time probe (R144, R145), and what Rebuild replays (R176, R177). `Serve.lean` joins them into the commands. -/

namespace Sys2Proof.Machine

/-! ## The ladder (R421, R422, R423) -/

/-- The slot a start runs (R422): the boot-slot record, or the other slot where a cold start follows two failed ones. -/
def State.bootSlot (s : State) (cold : Bool) : Nat :=
  let b := s.reg Reg.MOD_LADDER.BOOT_SLOT
  if cold && s.reg Reg.MOD_LADDER.COLD_FAILS == 2 then 1 - b else b

/-- Write the ladder to the boot-attempts ring (R422, R507): W, C and the boot-slot record. -/
def State.ladderSlot (s : State) : State :=
  s.slotWrite 2 (s.reg Reg.MOD_LADDER.WARM_FAILS + 4 * s.reg Reg.MOD_LADDER.COLD_FAILS + 16 * s.reg Reg.MOD_LADDER.BOOT_SLOT)

/-- A start fails with a cause of MOD_LADDER.LAST_FAIL (R421, R422): its count rises, and the module goes to Safe or starts again. -/
def State.startFails (s : State) (cold : Bool) (cause : Nat) : State :=
  let s1 := s.setReg Reg.MOD_LADDER.LAST_FAIL cause
  let s2 := (if cold then s1.bump Reg.MOD_LADDER.COLD_FAILS 0 0 1 else s1.bump Reg.MOD_LADDER.WARM_FAILS 0 0 1).ladderSlot
  if s2.reg Reg.MOD_LADDER.COLD_FAILS ≥ 3 then s2.toSafe 2
  else
    let s3 := s2.toMode .m2
    { s3 with ctl := { s3.ctl with due := if cold || s2.reg Reg.MOD_LADDER.WARM_FAILS ≥ 3 then 1 else 2 } }

/-- A start has reached M5 (R422): the counts clear, and the slot that ran is the boot-slot record, with a record of class 0x404 where
it was the other one. -/
def State.startHolds (s : State) (slot : Nat) : State :=
  let s1 := if slot = s.reg Reg.MOD_LADDER.BOOT_SLOT then s
    else s.log 3 0x404 [slot, s.reg Reg.MOD_LADDER.WARM_FAILS, s.reg Reg.MOD_LADDER.COLD_FAILS]
  (((s1.setReg Reg.MOD_LADDER.WARM_FAILS 0).setReg Reg.MOD_LADDER.COLD_FAILS 0).setReg Reg.MOD_LADDER.BOOT_SLOT slot).ladderSlot

/-- A cold start may begin (R413, R414, R417): in M1 without a standing off request and with PWRDIS deasserted, where the next start is
cold; or in M2 with a cold start due and no reset hold. -/
def State.mayStartCold (s : State) : Bool :=
  match s.ctl.mode with
  | .m1 => s.reg Reg.PIN_LEVEL.PWRDIS == 0 && s.reg Reg.MOD_REQUEST.OFF_STANDING == 0 && s.kind == 1
  | .m2 => s.ctl.due == 1 && !s.ctl.resetHold
  | _ => false

/-- A warm start may begin (R413, R414, R418, R419). -/
def State.mayStartWarm (s : State) : Bool :=
  match s.ctl.mode with
  | .m1 => s.reg Reg.PIN_LEVEL.PWRDIS == 0 && s.reg Reg.MOD_REQUEST.OFF_STANDING == 0 && s.kind == 2
  | .m2 => s.ctl.due == 2 && !s.ctl.resetHold
  | _ => false

/-! ## What a cold start clears (R438) -/

/-- The Ream at a cold start (R495, R496, R498): the programmed records come back, the record of the Halt marker enters the mirror, and
the next SEQ follows the highest found. -/
def State.reamReload (s : State) : State :=
  let kept := s.ream.log.filter (fun r => r.seq ≤ s.ream.programmed)
  let all := kept ++ s.ream.mirror ++ s.ream.buffer ++ s.ream.haltRec.toList
  let s1 : State := { s with ream := { s.ream with
    log := kept, nextSeq := 1 + maxOf (all.map ReamRec.seq), wall := none, accepted := [], suppressed := [], window := []
    haltRec := none } }
  match s.ream.haltRec with
  | none => s1
  | some r => s1.reamMirror r

/-- MG0 starts and moves the supervisor's buffer into the log (R499). -/
def State.reamJoin (s : State) : State :=
  s.ream.buffer.foldl (fun s r => s.reamLog r) { s with ream := { s.ream with buffer := [] } }

/-- A head at a cold start: as at reset, with its reference clock and the shutdown state the host recorded. -/
def Head.cold (hd : Head) : Head := { Head.reset with clock := hd.clock, shutdownState := hd.shutdownState }

/-- Dirty data that a start finds in an LPDDR5X that no longer holds it, and that no Pour has recorded, is lost as an exhausted Pour's
is: its quires stand in lists of the Pour record, so that they read poison and never older data (R53, R56; log entry 85). -/
def State.keepLosses (s : State) : State :=
  let ls := s.dirtyLists
  let known := match s.pour.record with | some r => r.state == 1 || r.state == 3 | none => false
  if ls.isEmpty || known then s
  else
    let r : PourRec := ⟨3, 2, s.reg Reg.POUR_STATUS.COUNT, s.ms, s.reg Reg.LNK_POWER_CYCLES.COUNT, s.dirtyQuires.length, 0, 0, 0, 0, ⟨0, 0⟩⟩
    { s with pour := { s.pour with record := some r, lists := ls } }

/-- What volatile state a cold start leaves (R438): an empty Caddy, no request, no stripe or steep under way, packages untrained but
for their slots, no session and no challenge, and every field of reset kind C restored; what those fields show of kept state is derived
again. The broken sensors work again (R453; log entry 86). -/
def State.coldClear (s : State) : State :=
  let s1 := ((s.keepLosses.dropPrograms).resetRegs .cold (fun _ => true))
  let s2 : State := { s1 with
    held := [], presented := []
    heads := ⟨s.heads.zero.cold, s.heads.one.cold⟩
    path := Path.reset
    mapping := { s1.mapping with
      held := [], cache := ⟨[], []⟩, tree := ⟨[], []⟩, openPage := ⟨[], []⟩, issued := [], jseq := s1.journalNext, ckpt := none, scan := none, poison := s1.mapping.savedPoison }
    media := { s1.media with
      waiting := [], queue := [], inProgram := [], steeps := [], ready := [], suspended := [], suspends := []
      pulpFreed := List.replicate 32 false, coldTurn := 0, probeDue := 0, stackTurn := List.replicate 16 0, status := [], crcBit := [] }
    dram := s1.dram.map (fun p => { Package.shipped with slot := p.slot, lostMs := p.lostMs })
    sensors := [], minute := [], engFaults := [], pourFaults := [], tlyCount := ⟨0, 0⟩, tlyBuf := []
    pm := { s1.pm with unread := [], notice := none, pending := 0, mask := 0 } }
  let s3 : State := { s2 with
    sec := { s2.sec with sessions := [], challenge := none, transfer := none, destroys := [], scanEnabled := false, scanHeld := false }
    qst := { s2.qst with queue := s2.qst.queue.map (fun w => { w with transport := w.transport % 8 + 16 }) }
    ctl := { s2.ctl with
      degraded := false, writeThrough := false, idlePeriods := [], lastMem := none, quiesce := none, erase := none, resetHold := false
      retained := false, removalMs := 0, railRuns := List.replicate 18 (0, 0), lowering := false } }
  let s4 := (List.range 320).foldl (fun (s : State) n => s.wrM Reg.MED_DIE.SENSOR_BROKEN n 0) s3
  let s5 := (s4.showRings).setReg Reg.PWR_STATUS.AON_FROM_BUS (bnat (!s.ctl.aux))
  (s5.setReg Reg.SEC_STATUS.HALT_CAUSE (if s.sec.haltMarker then s.sec.haltCause else 0)).reamReload

/-! ## Step 1 of a cold start (R417, R425, R441) -/

/-- The rails of groups 3 to 7 in the order of R441. -/
def startRails : List Nat := [3, 4, 5, 6, 7, 8, 9, 10, 11, 12, 13, 14, 15]

/-- Bring up the rails: a rail that fails to start is flagged, with source 583 at the end; the others read good (R440, R441). HOLDUP
charges without being waited for. -/
def State.railsUp (s : State) (bad : List Nat) : State :=
  let s1 := (startRails ++ [2]).foldl (fun (s : State) r =>
    if bad.contains r then ((s.wr Reg.PWR_RAIL.STATE 0 r 3).bump Reg.PWR_RAIL_CNT.START_FAIL 0 r 1).flagRail r 3
    else s.wr Reg.PWR_RAIL.STATE 0 r 2) (s.wr Reg.PWR_RAIL.STATE 0 0 2)
  let s2 := s1.aonUp
  if (startRails ++ [2]).any bad.contains then s2.raise 583 else s2

/-- A start whose failed rails lead to Safe (R440). -/
def railsUnsafe (bad : List Nat) : Bool := bad.any safeRail || (bad.contains 14 && bad.contains 15)

/-- The bank at a cold start (R294, R307, R311): isolations end, every sub-bank is to be measured again from sub-bank 0 on (log entry 87),
and each is charged by the first credit; a HOLDUP rail that failed to start leaves none that is (R440). -/
def State.bankUp (s : State) (bad : Bool) : State :=
  let s1 := (List.range 8).foldl (fun (s : State) i =>
    (s.wr Reg.POUR_SUBBANK.ISOLATED 0 i 0).wr Reg.POUR_SUBBANK.CAUSE 0 i 0) s
  let s2 : State := { s1.setReg Reg.SPR_SPARES.SUBBANK_ISOLATED 0 with
    pour := { s1.pour with
      volts := List.replicate 8 (if bad then 0 else 35000), bus := if bad then 0 else 35000, measured := [], next := 0, hold := false } }
  let s3 := (s2.setReg Reg.POUR_ENERGY.BUS_MV (if bad then 0 else 35000)).setReg Reg.POUR_ENERGY.STRAP_CAP 1
  if bad then (List.range 8).foldl (fun s i => s.isolate i 0) s3 else s3

/-- Sample the straps and DUALPORTEN#, and put their values in force (R35, R89, R311, R424 to R426, R450). -/
def State.strapsUp (s : State) (mv : List Nat) (dual : Bool) : State :=
  let s1 := (List.range 6).foldl (fun (s : State) k => s.sampleStrap k (mv[k]?.getD 0)) s
  let d := if dual then 1 else 0
  let p := s1.reg Reg.MOD_STRAPS.PRIMARY_HEAD
  let s2 := (s1.setReg Reg.MOD_STRAPS.DUALPORTEN d).setReg Reg.PIN_LEVEL.DUALPORTEN d
  let s3 := (List.range 2).foldl (fun (s : State) h =>
    ((s.wr Reg.LNK_HEAD_CFG.DUAL h 0 d).wr Reg.LNK_HEAD_CFG.PRIMARY h 0 (if (if dual then p else 0) == h then 1 else 0)).wr
      Reg.LNK_HEAD_CFG.HEAD h 0 h) s2
  let b := s3.reg Reg.MOD_STRAPS.BOOT_SLOT
  let s4 := if b = s3.ctl.prevBootStrap then s3 else s3.setReg Reg.MOD_LADDER.BOOT_SLOT b
  let s5 := (({ s4 with ctl := { s4.ctl with prevBootStrap := b } }).setReg Reg.POUR_CFG.STRAP_DEFAULT
    (s4.reg Reg.MOD_STRAPS.POUR_DEFAULT)).wr Reg.THM_CFG.PROFILE 0 0 (s4.reg Reg.MOD_STRAPS.THERMAL_PROFILE)
  let s6 := (s5.wr Reg.THM_CFG.PROFILE 1 0 (s4.reg Reg.MOD_STRAPS.THERMAL_PROFILE)).strapHead 0
  (s6.strapHead 1).showTolerance

/-- Step 1: the module is in M2 with its rails up, its straps sampled and the attempt recorded. -/
def State.coldBegin (s : State) (env : StartEnv) : State :=
  let s0 : State := { s with ctl := { s.ctl with p12 := true, due := 0 } }
  let s1 := ((s0.toMode .m2).coldClear).toMode .m2
  let s2 := (s1.setReg Reg.MOD_STATUS.PREV_MODE s.ctl.mode.num).railsUp env.railsBad
  ((s2.strapsUp env.strapMv env.dualLow).bankUp (env.railsBad.contains 2)).ladderSlot

/-! ## Steps 3 and 4 (R244, R245, R248, R280, R470) -/

/-- Train a package at all three set points and save its values (R244, R245). The duration is open. -/
def State.train (s : State) (n : Nat) : State :=
  let a := ((s.wrP Reg.DMC_TRAIN.SAVED_USED n 0).wrP Reg.DMC_TRAIN.RETRAIN_DUE n 0).wrP Reg.DMC_TRAIN.DRIFT_MAX n 0
  let b := ((a.wrP Reg.DMC_TRAIN.TEMP n (signedBits 8 (s.packageTemp n))).wrP Reg.DMC_TRAIN.DURATION_MS n (s.open? % 1501)).draw
  (b.onPkg n (fun p => { p with drift := List.replicate 8 0 })).trainingSlot n

/-- Packages that fail training are lost (R244). -/
def State.trainBad (s : State) (bad : List Nat) : State :=
  bad.dedup.foldl (fun s n => if n < 4 then s.packageLost n 1 else s) s

/-- Step 3 of a cold start (R244, R248): every package trains, and its rows are repaired while resources, whose number is open, last. -/
def State.coldTrain (s : State) (env : StartEnv) : State :=
  (List.range 4).foldl (fun (s : State) n =>
    if s.pkgState n ≠ 0 then s
    else (((s.wrP Reg.DMC_PPR.AVAILABLE n (s.open? % 65)).draw).repairRows n).train n) ((s.dropPorts).trainBad env.packagesBad)

/-- A die has lost both of its packages (R421). -/
def packagesGone (bad : List Nat) : Bool := (bad.contains 0 && bad.contains 1) || (bad.contains 2 && bad.contains 3)

/-- Step 4, the media dies (R280, R444): a rail of the program pulses that failed takes its channels, dies whose IDENT differs are failed. -/
def State.coldDies (s : State) (env : StartEnv) : State :=
  let s1 := ([14, 15].filter env.railsBad.contains).foldl (fun s r => s.mediaRailLost r) s
  env.diesBad.dedup.foldl (fun s n => if n < 320 then s.dieFailed n 5 else s) s1

/-- Engines that a start does not bring up fail (R421, R470). -/
def State.startEngines (s : State) (bad : List Nat) : State :=
  bad.dedup.foldl (fun (s : State) e => if e < 48 ∧ s.rdE Reg.ENG_STATE.STATE e ≠ 3 then s.engineFailed e 4 else s) s

/-- A failed engine's slices found nothing wrong with it (R473). -/
def enginePasses (rs : List SliceResult) (e : Nat) : Bool :=
  rs.all (fun r => r.slice.val ≥ 16 || !(r.units.map Prod.snd).contains e)

/-- After the self-test: failed dies that pass their examination and failed engines that pass their slices return (R289, R473). -/
def State.unitsReturn (s : State) (env : StartEnv) : State :=
  let s1 := env.diesPass.dedup.foldl (fun (s : State) n =>
    if n < 320 && s.mayReturn n && !env.diesBad.contains n then s.dieReturns n else s) s
  (List.range 48).foldl (fun (s : State) e =>
    if s.rdE Reg.ENG_STATE.STATE e == 3 && !env.enginesBad.contains e && enginePasses env.slices e then s.engineReturns e else s) s1

/-! ## The off-time probe (R144, R145) -/

/-- The off-time estimate of a die from the median of its SWEEP, or of a die without a frame that decodes. -/
def State.offAge (s : State) (n : Nat) (median : Option Int) : Nat :=
  match median with
  | none => 43200
  | some m => bucketEdge (probeBucket m (s.rdM Reg.MED_DIE.BAND n))

/-- Probe each member die (R144). -/
def State.probeDies (s : State) (medians : List (Nat × Option Int)) : State :=
  (List.range 320).foldl (fun (s : State) n =>
    if s.rdM Reg.MED_DIE.MEMBER n < 9 then
      s.wrM Reg.MED_DIE.OFF_AGE n (s.offAge n ((medians.find? (fun p => p.1 == n)).bind (fun p => p.2)))
    else s) s

/-- A member die of the channel has been off for so long that every segment is due (R145). -/
def State.longOff (s : State) (c : Nat) : Bool :=
  (List.range 10).any (fun p => s.rdM Reg.MED_DIE.MEMBER (10 * c + p) < 9 && s.rdM Reg.MED_DIE.OFF_AGE (10 * c + p) ≥ 43200)

/-- Every segment in use of a channel with a die at A4 or higher is due for a sizing pass at once (R145, R171). -/
def State.sizeLongOff (s : State) : State :=
  (List.range 32).foldl (fun (s : State) c =>
    if s.longOff c then
      ((s.segsOf c).filter (fun p => p.2.state == .closed)).foldl (fun s p => s.onSeg c p.1 (fun g => { g with due := true })) s
    else s) s

/-! ## Rebuild (R176, R177) -/

/-- What Rebuild starts from where no round is to be had: the empty map of a module as shipped, and the whole journal. -/
def Round.empty : Round := ⟨0, 0, List.replicate 32 0, [], ⟨0, 0⟩, [], [], [], ⟨[], []⟩, true⟩

/-- A round's CKPT_END is programmed on both dies. -/
def State.roundEnded (s : State) (r : Round) : Bool :=
  [0, 1].all (fun d => s.mapping.ring.any (fun x => x.die == d && (match x.body with | .ckptEnd n _ => n == r.num | _ => false)))

/-- Round K, and whether it is not the newest that ended (R176): `bad` says that the newest one's pages do not all verify. -/
def State.roundK (s : State) (bad : Bool) : Round × Bool :=
  match s.mapping.rounds.filter s.roundEnded with
  | [] => (Round.empty, false)
  | r :: rest => if bad then ((rest.head?).getD Round.empty, true) else (r, false)

/-- The journal after K's CKPT_BEGIN. -/
def State.journalSince (s : State) (k : Round) : List JRec := sinceRound k.num s.mapping.ring

/-- The newest valid root slot of a die (R342): those whose CRC-32C fails, `torn` of the newest, are passed over. -/
def State.validRoot (s : State) (d : Nat) (torn : List Nat) : Option RootSlot := ((s.sec.roots.get d).drop (torn[d]?.getD 0)).head?

/-- Numbers that follow one another. -/
def unbroken : List Nat → Bool
  | a :: b :: t => b == a + 1 && unbroken (b :: t)
  | _ => true

/-- The journal of each die is an unbroken run of sequences up to at least the head that its newest root slot names (R336). -/
def State.journalWhole (s : State) (torn : List Nat) : Bool :=
  [0, 1].all (fun d =>
    unbroken ((s.mapping.ring.filter (fun r => r.die == d)).map (fun r => r.jseq)) &&
      decide (((s.validRoot d torn).map (fun r => r.head)).getD 0 ≤ s.journalNext.get d))

/-- What Rebuild finds on media that decodes clean and is not what it should be, as a HALT_CAUSE (R336, R343). -/
def State.rebuildTamper (s : State) (env : StartEnv) : Option (Fin 9) := if s.journalWhole env.rootsTorn then env.tamper else some 7

/-- The segment of a channel that a record names. -/
def JBody.segment? : JBody → Option Nat
  | .segOpen t _ _ | .segClose t _ _ | .pendingSteep t _ | .steeped t _ | .retired t | .reserve t _ => some t
  | _ => none

/-- A segment-table entry raised by a later journal record (R176): never to a lower generation, nor back to an earlier state of the same
one. The epoch and the hottest band of a segment opened since the table was written stand in no record: they are open (log entry 81). -/
def Seg.raised (g : Seg) (b : JBody) (epoch band : Nat) : Seg :=
  match b with
  | .segOpen _ stream n =>
    if n < g.gen ∨ (n = g.gen ∧ g.state ≠ .free) then g
    else { Seg.shipped with gen := n, state := .opened, stream := stream, epoch := epoch, hotBand := band }
  | .segClose _ filled _ =>
    match g.state with
    | .opened => { g with state := .closed, filled := filled }
    | .reserve => { g with filled := filled }
    | _ => g
  | .pendingSteep _ n => if n ≤ g.gen then g else { g with gen := n, state := .pending }
  | .steeped _ n =>
    if n < g.gen ∨ (n = g.gen ∧ g.state ≠ .pending ∧ g.state ≠ .steeping) then g else { Seg.shipped with gen := n }
  | .retired _ => { g with state := .retired }
  | .reserve _ _ => if g.state = .free then { g with state := .reserve } else g
  | _ => g

/-- The segment tables that Rebuild starts from (R156, R176): the copy in the reserve, raised by the journal. No segment has been steeped
since the power came back (R144). -/
def State.tablesFrom (s : State) (k : Round) (l : List JRec) : Tab Seg :=
  let epoch := s.open? % (s.minutes + 1)
  let band := s.open? / 4294967296 % 6
  l.foldl (fun t r =>
    match r.body.segment? with
    | some u => t.put Seg.shipped (segKey r.channel u) ((t.get Seg.shipped (segKey r.channel u)).raised r.body epoch band)
    | none => t) (k.segs.foldl (fun t p => t.put Seg.shipped p.1 { p.2 with fresh := false }) [])

/-- The segments of a channel whose stripes Rebuild replays: OPEN at K, or opened after it. -/
def replaySegs (k : Round) (l : List JRec) (c : Nat) : List Nat :=
  ((k.opened.filter (fun p => p.1 == c)).map (fun p => p.2) ++
    l.filterMap (fun r => match r.body with | .segOpen t _ _ => if r.channel = c then some t else none | _ => none)).dedup

/-- The journal closes a segment. -/
def closedIn (l : List JRec) (c t : Nat) : Bool :=
  l.any (fun r => match r.body with | .segClose u _ _ => r.channel == c && u == t | _ => false)

/-- The ring address of the summary block that the newest SEG_CLOSE of a segment names (R161). -/
def closedAt (l : List JRec) (c t : Nat) : Option Nat :=
  (l.filterMap (fun r => match r.body with | .segClose u _ a => if r.channel == c && u == t then some a else none | _ => none)).getLast?

/-- An item that Rebuild applies: the entry of one quire, or the quires of a ZERO or POISON record. -/
inductive ReplayItem where
  | quire (q : Nat) (e : BitVec 32)
  | span (x : Span)
deriving DecidableEq, Repr

/-- What an entry of a summary block replays. -/
def summaryItems (t f : Nat) (e : Nat × Option (Nat × Bool) × Option (Nat × Bool)) : List (Nat × ReplayItem) :=
  let half := fun (n : Nat) (h : Option (Nat × Bool)) => h.toList.map (fun h => (e.1, ReplayItem.quire h.1 (mkEntry (if h.2 then 2 else 1) t f n)))
  half 0 e.2.1 ++ half 1 e.2.2

/-- What the stripes of a segment replay (R176): a closed one's from the summary block that its SEG_CLOSE names (R336), those of one without a SEG_CLOSE from the stripes
that are usable. -/
def State.segItems (s : State) (l : List JRec) (unusable : List (Nat × Nat × Nat)) (c t : Nat) : List (Nat × ReplayItem) :=
  match (closedAt l c t).bind (fun a => (s.mapping.summaries.find? (segKey c t)).filter (fun x => x.address == a)) with
  | some x => x.entries.zipIdx.flatMap (fun p => summaryItems t p.2 p.1)
  | none =>
    ((s.media.images.map (fun p => p.2)).filter (fun x =>
      x.channel == c && x.segment == t && !unusable.contains (c, t, x.index))).flatMap (fun x =>
        x.halves.map (fun p => (x.seq, ReplayItem.quire p.2.quire (mkEntry (if p.2.poisoned then 2 else 1) t x.index p.1))))

/-- The quires of a ZERO or POISON record of a channel. -/
def recordSpan (c first n : Nat) (e : BitVec 32) : Span := ⟨1#32 <<< c, quireAt c first, quireAt c (first + n - 1) + 1, e⟩

/-- What a ZERO or POISON record replays. -/
def recordItem (c : Nat) (r : JRec) : Option (Nat × ReplayItem) :=
  if r.channel ≠ c then none
  else match r.body with
    | .zero f n q => some (q, .span (recordSpan c f n 0))
    | .poison f n q => some (q, .span (recordSpan c f n (mkEntry 3 0 0 0)))
    | _ => none

/-- Place an item behind those of lower or equal write sequence. -/
def insertItem (x : Nat × ReplayItem) : List (Nat × ReplayItem) → List (Nat × ReplayItem)
  | [] => [x]
  | y :: t => if x.1 < y.1 then x :: y :: t else y :: insertItem x t

/-- What Rebuild applies to a channel, in write-sequence order: the items at or above the fence (R176). -/
def State.replayItems (s : State) (k : Round) (l : List JRec) (unusable : List (Nat × Nat × Nat)) (c : Nat) : List (Nat × ReplayItem) :=
  let items := (replaySegs k l c).flatMap (fun t => s.segItems l unusable c t) ++ l.filterMap (recordItem c)
  (items.filter (fun x => k.fences[c]?.getD 0 ≤ x.1 && x.1 != 0)).foldl (fun a x => insertItem x a) []

/-- The quires of a span leave the poison index (R268). -/
def State.unlist (s : State) (x : Span) : State :=
  s.mapping.poison.runs.foldl (fun (s : State) r =>
    (List.range (r.len / 16 + 2)).foldl (fun (s : State) i =>
      if x.has (r.first / 16 + i) then s.poisonDel ((r.first / 16 + i) * 16) 16 else s) s) s

/-- Apply an item of the replay (R176), with the runs of a poisoned half in the index (R268). -/
def State.replay (s : State) : ReplayItem → State
  | .quire q e =>
    let m := s.mapping
    let s1 : State := { s with mapping := { m with
      map := m.map.put (unlistedEntry m.unlisted q) q e
      changed := m.changed.put false (pageOf q) true
      mapChanged := true } }
    let s1 := s1.mapTouch q true
    let h := s.halfAt q e
    let s2 := s1.poisonDel (q * 16) 16
    if entryState e = 2 then (s2.poisonMask q (h.poison16 &&& ~~~ h.host16) false).poisonMask q (h.poison16 &&& h.host16) true else s2
  | .span x => if x.entry = 0 then (s.setSpan x []).unlist x else s.setSpan x []

/-- Recompute LIVE of every listed segment from the map. -/
def State.recount (s : State) : State :=
  let live := fun (k : Nat) => (s.mapping.map.filter (fun p => onMedia p.2 && segKey (chanOf p.1) (entrySegment p.2) == k)).length
  { s with mapping := { s.mapping with
    segs := s.mapping.segs.foldl (fun t p => t.put Seg.shipped p.1 { p.2 with live := live p.1 }) s.mapping.segs } }

/-- A segment that a start finds OPEN takes no more stripes (log entry 81): what its stripes on media fill is its FILLED, and it closes. -/
def State.settleOpen (s : State) (c t : Nat) : State :=
  let last := maxOf ((s.media.images.filter (fun p => p.2.channel == c && p.2.segment == t)).map (fun p => p.2.index + 1))
  (s.onSeg c t (fun g => { g with filled := max g.filled last })).closeSeg c t

/-- Segments after a start that keeps the tables (R157, R165): a victim is CLOSED again, as its pass has ended, and one found DIRTY, PENDING
or STEEPING is steeped again. -/
def State.settleSegs (s : State) : State :=
  (s.mapping.segs.foldl (fun (s : State) p =>
    if p.2.state = .victim then s.onSeg (p.1 / 65536) (p.1 % 65536) (fun g => { g with state := .closed }) else s) s).askSteeps.askAllShort

/-- Segments after Rebuild (R176, R177): one found OPEN is closed too. -/
def State.settleFound (s : State) : State :=
  (s.mapping.segs.foldl (fun (s : State) p =>
    if p.2.state = .opened then s.settleOpen (p.1 / 65536) (p.1 % 65536) else s) s).settleSegs

/-- What Rebuild works from: the round's map and tables, no stream's ring, the RESERVE segments that the tables name, and on media only
the stripes that are usable. -/
def State.rebuildFrom (s : State) (k : Round) (l : List JRec) (unusable : List (Nat × Nat × Nat)) : State :=
  let segs := s.tablesFrom k l
  { s.draw with
    mapping := { s.mapping with map := k.map, unlisted := k.unlisted, segs := segs, held := [] }
    media := { s.media with
      images := s.media.images.filter (fun p =>
        let c := p.2.channel
        let u := p.2.segment
        !(unusable.contains (c, u, p.2.index) && (replaySegs k l c).contains u && !closedIn l c u))
      ringHot := List.replicate 32 [], ringCold := List.replicate 32 [], ringPour := List.replicate 32 []
      reserve := s.media.reserve.filter (fun r => (segs.get Seg.shipped (segKey r.channel r.segment)).state == .reserve) } }

/-- Rebuild (R176, R177): every channel's map, the segments and a fresh CKPT_BEGIN. Its duration is open. -/
def State.rebuild (s : State) (env : StartEnv) : State :=
  let k := s.roundK env.roundBad
  let l := s.journalSince k.1
  let s0 := s.rebuildFrom k.1 l env.unusable
  let s1 := (List.range 32).foldl (fun (s : State) c =>
    (s0.replayItems k.1 l env.unusable c).foldl (fun (s : State) x => s.replay x.2) s) s0
  let s2 := ((s1.recount.settleFound).sizeLongOff).ckptBegin
  let d := s2.open? % (env.ms + 1)
  (List.range 2).foldl (fun (s : State) e =>
    ((s.wr Reg.MAP_REBUILD.SKIPPED e 0 0).wr Reg.MAP_REBUILD.OLDER_ROUND e 0 (bnat k.2)).wr Reg.MAP_REBUILD.DURATION_MS e 0 d) s2.draw

/-- A walk's record on a channel is among those that Rebuild has replayed (R349). -/
def Walk.replayed (w : Walk) (k : Round) (l : List JRec) (c : Nat) : Bool :=
  w.seqs.any (fun p => p.1 == c && k.fences[c]?.getD 0 ≤ p.2 && l.any (fun r => r.channel == c &&
    (match r.body with | .zero _ _ q | .poison _ _ q => q == p.2 | _ => false)))

end Sys2Proof.Machine
end

