-- ==== Sys2Proof/Machine/Serve.lean ====
section
/-! DEFINITION. The last steps of a start (R417, R419) and its commands: Halt, scan and Pour-record actions (R74, R321, R322, R358),
what resumes (R349, R350, R375), and the first credit. -/

namespace Sys2Proof.Machine

/-! ## The Halt marker (R74) -/

/-- The runs of every line of the DPA space (R268). -/
def allRuns : List Run := (List.range 49152).map (fun k => ⟨k * runMax, runMax, false⟩)

/-- The cold start after a Halt poisons every line (R74): a poison walk over the whole DPA space, complete before the first credit, and
the index full of its runs (R268). Then the marker is cleared, with its event record, and the dirty shutdown count rises. -/
def State.haltPoison (s : State) : State :=
  let s1 := (s.walkRecords 0 quireCount .poison).setSpan ⟨BitVec.allOnes 32, 0, quireCount, mkEntry 3 0 0 0⟩ []
  let s2 : State := { s1 with
    mapping := { s1.mapping with poison := ⟨allRuns, false, 0, none, []⟩ }
    sec := { s1.sec with haltMarker := false }
    ctl := { s1.ctl with dirtyShutdowns := s1.ctl.dirtyShutdowns + 1 } }
  ((s2.pageCommit 5048).pageCommit 5056).event 2 .memoryModule .coldAfterHalt []

/-! ## The scan marker (R358) -/

/-- The cold start after scan mode: every quire is unmapped, by ZERO records as in R102 so that no later replay brings one back (log entry
88); slot 0 is new, and the marker is cleared. -/
def State.scanErase (s : State) : State :=
  let s1 := (s.walkRecords 0 quireCount .zero).setSpan ⟨BitVec.allOnes 32, 0, quireCount, 0⟩ []
  let s2 : State := { s1 with
    mapping := { s1.mapping with walks := [], poison := PoisonIndex.empty }
    sec := { s1.sec with scanMarker := false } }
  ((s2.recount).newSlot0).pageCommit 5048

/-! ## The Pour record (R321, R322) -/

/-- The copy of a quire whose dirty lines were lost: the lines of the mask poisoned, the others as media hold them. -/
def State.lostCopy (s : State) (q : Nat) (m : BitVec 16) : Block16 :=
  let e := s.entry q
  let b := if onMedia e then (s.halfAt q e).block else Block16.empty.completeFrom (entryState e)
  (List.range 16).foldl (fun (b : Block16) k => if m.getLsbD k then b.setLine k (poisonLine false) true else b) b

/-- One entry that was not poured: its copy goes through the hot stream, and the index gains its lines. -/
def State.lostEntry (s : State) (q : Nat) (m : BitVec 16) : State :=
  ((s.stage q (s.lostCopy q m) false false []).poisonMask q m false).pumpQuire q

/-- The first of the sixteen neighbouring quires of a group of 32 that a die owns. -/
def diePart (d i : Nat) : Nat := i * 32 + 16 * ((d + fold5 i / 16) % 2)

/-- The dirty lists of a die are unreadable: every quire it owns is poisoned by a walk (R163, R322), complete before the first credit. The
index takes runs in ascending order until it is full; the rest are omitted (R101, R268). -/
def State.poisonDie (s : State) (d : Nat) : State :=
  let s1 := (List.range 16).foldl (fun (s : State) k =>
    (s.journalC (16 * d + k) (.poison 0 quiresPerChannel (s.seqOf (16 * d + k)))).takeSeq (16 * d + k)) s
  let s2 := s1.setSpan ⟨0xFFFF#32 <<< (16 * d), 0, quireCount, mkEntry 3 0 0 0⟩ []
  let p := (List.range 524288).foldl (fun (p : PoisonIndex) i => p.add (diePart d i * 16) 256 false s.ms) s2.mapping.poison
  { s2 with mapping := { s2.mapping with poison := p.omit (524288 * 32 * 16) (quireCount * 16) s.ms } }

/-- Act on a Pour record with STATE 1 or 3 (R321, R322). -/
def State.pourLosses (s : State) (r : PourRec) (bad : List Nat) : State :=
  let unread := (List.range 2).filter (fun d => bad.contains d || !(s.pour.listsReadable.get d))
  let entries := (s.pour.lists.filter (fun l => !unread.contains (dieOf l.channel))).flatMap (fun l =>
    l.entries.map (fun e => (quireAt l.channel e.1, e.2)))
  let s1 := entries.foldl (fun s e => s.lostEntry e.1 e.2) s
  let s2 := unread.foldl (fun s d => s.poisonDie d) s1
  let n := entries.length + unread.length * 16 * quiresPerChannel
  let s3 := ((s2.raise 554).log 2 0x22A [r.num, r.quires, n]).event 2 .dram .pourRecord [r.num]
  let s4 := (s3.event 2 .memoryModule .pourRecord [r.num]).latchAlert 3
  { s4 with
    ctl := { s4.ctl with dirtyShutdowns := s4.ctl.dirtyShutdowns + 1 }
    pour := { s4.pour with record := none, lists := [], listsReadable := ⟨true, true⟩ } }

/-- What a cold start finds (R321, R358). -/
def State.foundAtStart (s : State) (bad : List Nat) : State :=
  let s1 := if s.sec.scanMarker then s.scanErase else s
  if s1.sec.haltMarker then
    let s2 := s1.haltPoison
    { s2 with pour := { s2.pour with record := none, lists := [], listsReadable := ⟨true, true⟩ } }
  else match s1.pour.record with
    | some r => if r.state = 1 ∨ r.state = 3 then s1.pourLosses r bad else s1
    | none => s1

/-! ## What resumes (R102, R349, R350, R367, R375) -/

/-- Every quire of a span that the Caddy or the frontier holds, but for some, is dropped (R221, R367). -/
def State.dropSpan (s : State) (x : Span) (but : List Nat) : State :=
  ((s.path.ways.map (fun p => p.2.quire) ++ s.path.staged.map (fun e => e.quire)).dedup.filter (fun q => x.has q && !but.contains q)).foldl
    (fun s q => (s.dropQuire q).dropWaiting q) s

/-- The rest of a walk at a start, on some channels from quire `lo` on: its quires take its entry, but for those in `but` (R102, R163, R349,
R367). On a lost channel a sweep or a ZERO changes nothing (R287). -/
def State.walkRest (s : State) (w : Walk) (chans : List Nat) (lo : Nat) (but : List Nat) : State :=
  let on := if w.kind.keeps then chans.filter (fun c => !s.chanLost c) else chans
  let x : Span := ⟨on.foldl (fun m c => m ||| (1#32 <<< c)) 0, lo, w.hi, w.kind.entry⟩
  if w.kind.keeps then ((s.dropSpan x but).setSpan x but).unlist x else s.setSpan x but

/-- A walk has ended at a start. -/
def State.walkGone (s : State) (w : Walk) : State :=
  let s1 : State := { s with mapping := { s.mapping with walks := removeFirst w s.mapping.walks } }
  match w.kind with
  | .sweep _ _ reason => s1.sweepEnd reason
  | .unmap => s1.recount.unmapped
  | _ => s1

/-- Finish a walk at a start that keeps the map: the quires that it has yet to reach. -/
def State.finishWalk (s : State) (w : Walk) : State := (s.walkRest w (w.seqs.map (fun p => p.1)) w.next w.early).walkGone w

/-- Finish a walk at a start that has rebuilt the map (R349): a channel whose record has been replayed is done, and another is walked whole
under a new record. -/
def State.resumeWalk (k : Round) (l : List JRec) (s : State) (w : Walk) : State :=
  let chans := (w.seqs.map (fun p => p.1)).filter (fun c => !w.replayed k l c)
  let mk := match w.kind with | .poison _ => JBody.poison | _ => JBody.zero
  let s1 := chans.foldl (fun (s : State) c =>
    (s.journalC c (mk (chanSpan c w.lo w.hi).1 (chanSpan c w.lo w.hi).2 (s.seqOf c))).takeSeq c) s
  (s1.walkRest w chans w.lo []).walkGone w

/-- Victims that a finished walk has emptied become PENDING (R168). -/
def State.emptied (s : State) : State :=
  (s.recount.mapping.segs).foldl (fun (s : State) p =>
    if p.2.state = .victim ∧ p.2.live = 0 then s.toPending (p.1 / 65536) (p.1 % 65536) else s) s.recount

/-- Finish every walk before the first credit, and then every destroy that a start finds (R102, R163, R349, R350). -/
def State.finishWalks (s : State) (finish : State → Walk → State) : State :=
  let s1 := (s.mapping.walks.foldl finish s).emptied
  ((List.range 4096).filter (fun k => s1.slotState k == 2)).foldl (fun s k => s.destroyEnd k) s1

/-- A bulk operation that a start completes (R375): a ZERO, a FILL with zeros or an ERASE_KEY that had begun. -/
def BulkOp.completes (b : BulkOp) : Bool := b.state != .queued && (b.zeroing || b.op == 5)

/-- The bulk table starts empty (R375): an operation that had not ended and is not completed is named by a record. -/
def State.bulkEmpty (s : State) : State :=
  let s1 := (s.bulk.filter (fun b => b.live && !b.completes)).foldl (fun s b => s.log 3 0x406 [b.handle, b.op, b.done]) s
  { s1 with bulk := List.replicate 16 BulkOp.free }

/-! ## The first credit (R417 step 7, R419 step 7) -/

/-- Derive again what shows stored state: thermal limits, packages, limits, energy, set points and flags. -/
def State.deriveAll (s : State) : State :=
  let s1 := ((s.showThermal).showPackages 0).showPackages 1
  let s2 := (List.range 2).foldl (fun (s : State) d =>
    (s.wr Reg.CDY_CAPS.SETS d 0 (if s.pkgState (2 * d) = 0 ∧ s.pkgState (2 * d + 1) = 0 then setsBoth else setsOne)).wr
      Reg.DMC_FSP.CURRENT d 0 (s.serveSetPoint d)) s1
  let s3 := (s2.showLimits).updateEnergy
  (s3.checkReserve).settle

/-- What the registers say of a start. -/
def State.showStart (s : State) (cold : Bool) (slot skipped ms : Nat) : State :=
  let f := if slot = 0 then s.sec.slotA else s.sec.slotB
  let s1 := (((s.setReg Reg.MOD_START.DURATION_MS (min ms 0xFFFFFFFF)).setReg Reg.MOD_START.SKIPPED skipped).setReg
    Reg.MOD_START.SLOT slot).setReg Reg.MOD_STATUS.START_KIND (if cold then 0 else 1)
  ((s1.setReg Reg.SEC_FW.SLOT slot).setReg Reg.SEC_FW.SVN_RUNNING f.svn).setReg Reg.LNK_REVISION.FW_VERSION f.version

/-- Grant the first credit and enter M5: the serving root slots, the ladder, and what waited for Serve; a GPF that waited pours then
(R434, R324). -/
def State.serveFrom (s : State) (slot : Nat) : State :=
  let s1 := ((s.rootSlots 3).startHolds slot).toMode .m5
  let s2 : State := { s1 with ctl := { s1.ctl with retained := false, due := 0 } }
  let s3 := (List.range 32).foldl (fun s c => (s.keepOpen c).issue c) s2.nextQuiesce
  if s3.ctl.mode = .m5 ∧ s3.pour.gpf ≠ [] then s3.pourBegin .gpf ⟨[], false⟩ else s3

/-- The image of a slot verifies (R354, R421). -/
def State.imageRuns (s : State) (slot : Nat) (ok : Bool) : Bool :=
  (if slot = 0 then s.sec.slotA else s.sec.slotB).valid && ok

/-! ## Cold start -/

/-- Steps 6 and 7 of a cold start. -/
def State.coldServe (s : State) (env : StartEnv) (slot : Nat) : State :=
  let k := (s.roundK env.roundBad).1
  let l := s.journalSince k
  let s1 := ((s.toMode .m4).probeDies env.medians).rebuild env
  match s.rebuildTamper env with
  | some ⟨c + 1, _⟩ => s1.halt (c + 1) HaltLoc.none
  | _ =>
    if env.ms > 120000 then s1.startFails true 4
    else
      let s2 := (((s1.foundAtStart env.listsBad).finishWalks (State.resumeWalk k l)).bulkEmpty).restoreReserve
      let s3 : State := { s2 with sec := { s2.sec with keysLoaded := true } }
      (((s3.deriveAll).showStart true slot 0 env.ms).serveFrom slot)

/-- Step 5 of a cold start and what follows: every slice of the self-test. -/
def State.coldTest (s : State) (env : StartEnv) (slot : Nat) : State :=
  let p := ((s.toMode .m3).reamJoin).startTests true env.slices
  if p.2 then (p.1.unitsReturn env).coldServe env slot else p.1.toSafe 1

/-- Steps 2 to 4 of a cold start, in that order, and what fails each (R417, R421). -/
def State.coldBoot (s : State) (env : StartEnv) : State :=
  let slot := s.bootSlot true
  let s1 := s.coldTrain env
  if packagesGone env.packagesBad then s1.startFails true 3
  else
    let s2 := s1.coldDies env
    if !s2.imageRuns slot env.imageOk then s2.startFails true 1
    else
      let s3 := s2.layRoles.startEngines env.enginesBad
      if s3.roleUnheld then s3.startFails true 2 else s3.coldTest env slot

/-- COLD_START (R417, R421 to R424, R441): from M1 or M2, where a cold start is due, to the first credit, Safe, Halt or the next start.
Where no start may begin nothing changes. -/
def execColdStart (env : StartEnv) (s : State) : Res :=
  .next (
    if !s.mayStartCold then s
    else
      let s1 := s.coldBegin env
      if s1.reg Reg.MOD_LADDER.COLD_FAILS ≥ 3 then s1.toSafe 2
      else if railsUnsafe env.railsBad then s1.toSafe 3
      else s1.coldBoot env)

/-! ## Warm start -/

/-- The cores are on: the start follows a reset hold (R418). -/
def State.coresUp (s : State) : Bool := s.rd Reg.PWR_RAIL.STATE 0 4 != 0

/-- The saved training of a package may be used (R245). -/
def State.savedTraining (s : State) (n : Nat) (ok : Bool) : Bool :=
  match (s.pkg n).slot with
  | none => false
  | some (t, m) => ok && decide ((s.packageTemp n - t).natAbs ≤ 20) && decide (s.minutes < m + 43200)

/-- Step 1 of a warm start that does not follow a reset hold: saved training values, or training (R245, R419). -/
def State.warmTrain (s : State) (ok : Bool) : State :=
  (List.range 4).foldl (fun (s : State) n =>
    if s.pkgState n ≠ 0 then s
    else if s.savedTraining n ok then s.wrP Reg.DMC_TRAIN.SAVED_USED n 1
    else s.train n) s

/-- Some package is trained anew. -/
def State.trainsAnew (s : State) (ok : Bool) : Bool :=
  (List.range 4).any (fun n => s.pkgState n == 0 && !s.savedTraining n ok)

/-- Step 1 of a warm start: the module is in M2, with its rails up and the LPDDR5X out of self-refresh. -/
def State.warmBegin (s : State) (env : StartEnv) : State :=
  let hold := s.coresUp
  let s0 : State := { s with ctl := { s.ctl with p12 := true, due := 0, idlePeriods := [], lastMem := none } }
  let s1 := if hold then s0 else (s0.restoreWarm.toMode .m2).railsUp env.railsBad
  let s2 := ((s1.ladderSlot.selfRefresh false).showThermal).dropPorts
  let s3 := if hold then (List.range 4).foldl (fun s n => s.retrain n) s2 else s2.warmTrain env.trainingSaved
  env.centering.foldl State.centerBad s3

/-- Steps 2 and 3 after a reset hold: dirty data, journal and final root slots are written (R419). -/
def State.warmFlush (s : State) : State :=
  let d := !s.dirtyQuires.isEmpty
  ((s.flush).rootSlots 1).setReg Reg.MOD_START.RETAINED_DIRTY (bnat d)

/-- The bound of a warm start in ms, with the 30 s of R421. -/
def warmBound (trained analog : Bool) : Nat := 32000 + (if trained then 1500 else 0) + (if analog then 3180 else 0)

/-- The map at step 6 of a warm start (R342, R176): kept under final roots and else rebuilt, with the walks that were under way. After a
reset hold the steeps go on where the map is kept, and are asked for again where it is not. -/
def State.warmMap (s : State) (env : StartEnv) (hold kept : Bool) : State :=
  if kept then
    let s1 := (List.range 2).foldl (fun (s : State) d => (s.wr Reg.MAP_REBUILD.SKIPPED d 0 1).wr Reg.MAP_REBUILD.OLDER_ROUND d 0 0)
      (if hold then s else s.settleSegs)
    s1.finishWalks State.finishWalk
  else
    let k := (s.roundK env.roundBad).1
    let l := s.journalSince k
    ((if hold then s.abortSteeps else s).rebuild env).finishWalks (State.resumeWalk k l)

/-- Steps 6 and 7 of a warm start. -/
def State.warmServe (s : State) (env : StartEnv) (hold : Bool) (slot skipped bound : Nat) : State :=
  let kept := [0, 1].all (fun d => ((s.validRoot d env.rootsTorn).map (fun r => r.kind)) == some 1)
  let s1 := s.toMode .m4
  if env.tamperRoot then s1.halt 8 HaltLoc.none
  else
    let s2 := s1.warmMap env hold kept
    match (if kept then env.tamper else s1.rebuildTamper env) with
    | some ⟨c + 1, _⟩ => s2.halt (c + 1) HaltLoc.none
    | _ =>
      if env.ms > bound then s2.startFails false 4
      else
        let s3 := if hold then s2.bulkEmpty else s2.bulkEmpty.restoreReserve
        let s4 : State := { s3 with sec := { s3.sec with keysLoaded := true } }
        ((s4.deriveAll).showStart false slot (skipped + (if kept then 8 else 0)) env.ms).serveFrom slot

/-- Steps 1 to 5 of a warm start, once its rails are up: `hold` where it follows a reset hold, `trained` where packages were trained. -/
def State.warmBoot (s : State) (env : StartEnv) (hold trained : Bool) : State :=
  let s2 := s.trainBad env.packagesBad
  let s3 := if hold then s2.warmFlush else s2.setReg Reg.MOD_START.RETAINED_DIRTY 0
  let slot := s3.bootSlot false
  if packagesGone env.packagesBad then s3.startFails false 3
  else if !s3.imageRuns slot env.imageOk then s3.startFails false 1
  else
    let s4 := s3.layRoles.startEngines env.enginesBad
    if s4.roleUnheld then s4.startFails false 2
    else
      let analog := s4.analogDue
      let p := ((s4.toMode .m3).reamJoin).startTests false env.slices
      if !p.2 then p.1.toSafe 1
      else p.1.warmServe env hold slot (4 + (if analog then 0 else 1) + (if trained then 0 else 2)) (warmBound trained analog)

/-- WARM_START (R413, R414, R418 to R422): from M1 or M2, where a warm start is due, to the first credit, Safe, Halt or the next
start. -/
def execWarmStart (env : StartEnv) (s : State) : Res :=
  .next (
    if !s.mayStartWarm then s
    else
      let hold := s.coresUp
      let trained := !hold && s.trainsAnew env.trainingSaved
      let s1 := s.warmBegin env
      if s1.reg Reg.MOD_LADDER.COLD_FAILS ≥ 3 then s1.toSafe 2
      else if !hold && railsUnsafe env.railsBad then s1.toSafe 3
      else s1.warmBoot env hold trained)

/-! ## A failed start -/

/-- The code of a failure (MOD_LADDER.LAST_FAIL). -/
def failureCode : StartFailure → Nat
  | .noImage => 1 | .engine => 2 | .packages => 3 | .bound => 4

/-- A warm start that fails: one that follows a reset hold has written its dirty data, its journal and its final root slots first (R419
steps 1 to 3), so that none is at risk. -/
def State.warmFails (s : State) (cause : Nat) : State :=
  (if s.coresUp then (((s.ladderSlot).selfRefresh false).showThermal).warmFlush else s.ladderSlot).startFails false cause

/-- START_FAILED (R421, R422): the start that is due, or that may begin in M1, fails in M2. -/
def execStartFailed (cause : StartFailure) (s : State) : Res :=
  .next (
    let s1 : State := { s.toMode .m2 with ctl := { (s.toMode .m2).ctl with p12 := true } }
    if s.mayStartCold then s1.startFails true (failureCode cause)
    else if s.mayStartWarm then s1.warmFails (failureCode cause)
    else s)

end Sys2Proof.Machine
end

