-- ==== Sys2Proof/Machine/Control.lean ====
section
/-! DEFINITION. The end of a Quiesce (R434 to R436), the end of a Pour, self-test slices of a run
(R518 to R524), and idling. -/

namespace Sys2Proof.Machine

/-! ## The work of a Quiesce (R102, R220, R354, R435, R540) -/

/-- Every engine that is not failed restarts with an engine reset (R435 steps 3 and 4). -/
def State.restartEngines (s : State) : State :=
  (List.range 48).foldl (fun (s : State) e =>
    let st := s.rdE Reg.ENG_STATE.STATE e
    if st = 3 then s else ((s.engineReset e).bump Reg.ENG_COUNT.RESETS (e % 2) (e / 2) 1).wrE Reg.ENG_STATE.STATE e st) s

/-- An activation (R354, R435): the slot runs and is the boot-slot record; engines that were not failed restart. -/
def State.activate (s : State) : State :=
  let slot := 1 - s.fwRuns
  let s1 := s.restartEngines
  let f := s1.fwSlot slot
  let s2 := ((s1.setReg Reg.SEC_FW.SLOT slot).setReg Reg.SEC_FW.SVN_RUNNING f.svn).setReg Reg.LNK_REVISION.FW_VERSION f.version
  ((s2.setReg Reg.MOD_LADDER.BOOT_SLOT slot).ladderSlot).raiseLog 544 4 [slot, f.version]

/-- Discard the Caddy's data (R102). -/
def State.discardCaddy (s : State) : State :=
  { s with path := { Path.reset with nextStaged := s.path.nextStaged, nextPlan := s.path.nextPlan, sweep := s.path.sweep } }

/-- Sanitize or Secure Erase in its Quiesce (R102): the Caddy's data goes, every slot is destroyed, the OPEN segments close, so that new
writes go to segments already steeped, ZERO records cover the DPA space, the poison list is empty, and the unmapping walk begins. What
had been omitted from the list stays so until a scan (R101). -/
def State.eraseAll (s : State) (head : Nat) (sanitize : Bool) : State :=
  let used := (List.range 32).flatMap (fun c => s.usedSegs c)
  let s1 := (List.range 32).foldl (fun s c => s.closeAll c) s.discardCaddy.destroyAll
  let s2 : State := { s1 with
    mapping := { s1.mapping with
      walks := s1.mapping.walks.filter (fun w => match w.kind with | .zero _ => true | _ => false)
      poison := { s1.mapping.poison with runs := [] } }
    ctl := { s1.ctl with erase := some ⟨head, sanitize, if sanitize then used else []⟩ } }
  s2.beginWalk .unmap 0 quireCount .zero

/-- The work of a Quiesce. An activation whose engines do not report ready restarts them on the former image and fails (R435 step 4). -/
def State.quiesceWork (s : State) (w : QWork) (ready : Bool) : State :=
  match w with
  | .activateLeaf t tag nocrc =>
    let r : Req := ⟨0x0601, t, tag, nocrc, true, false⟩
    if ready then s.activate.ok r [] else s.restartEngines.restartEngines.refuse r stState
  | .activateMailbox h => if ready then s.activate.bgDone h rcSuccess else s.restartEngines.restartEngines.bgDone h rcInternal
  | .sanitize h => s.eraseAll h true
  | .secureErase h => s.eraseAll h false
  | .readmit n => s.readmit n
  | .removal => s.setReg Reg.PIN_REMOVAL.STATE 3

/-- Everything that had arrived is complete (R435 step 2): no planned read has a reader and no Write-through write waits. -/
def State.quiet (s : State) : Bool :=
  s.path.plans.all (fun p => p.readers.isEmpty) && s.path.staged.all (fun e => e.waiters.isEmpty)

/-- Credits and leaves resume (R241, R246, R374, R434, R435, R524). -/
def State.quiesceOver (s : State) (center : List Centering) : State :=
  let s1 := s.servePoint.centered s center
  let s2 := (((List.range 4).foldl (fun s n => s.retrain n) s1).toMode .m5).resumeBulk
  let s3 := if s2.slicesNow.isEmpty then s2.startSlices else s2
  ((List.range 32).foldl (fun s c => s.issue c) s3).runHeld

/-- What waited for the end of a Quiesce that leads to Serve (R434, R436): a GPF, a warm reset, or the next trigger. A warm reset that
waits beside a GPF follows its Pour. -/
def State.afterQuiesce (s : State) (inputs : PourInputs) : State :=
  if s.ctl.mode != .m5 && s.ctl.mode != .m6 then s
  else if !s.pour.gpf.isEmpty then s.pourBegin .gpf inputs
  else if s.pour.warmAfter then s.warmReset true
  else s.nextQuiesce.bulkGo

/-- What the registers say of a Quiesce that ends (R437). -/
def State.quiesceShown (s : State) (w : QWork) (ms : Nat) : State :=
  let s1 := ((s.bump Reg.MOD_QUIESCE.COUNT 0 0 1).setReg Reg.MOD_QUIESCE.LAST_MS (min ms 255)).setReg
    Reg.MOD_QUIESCE.LAST_CAUSE w.code
  ({ s1 with ctl := { s1.ctl with quiesce := none } }).setReg Reg.MOD_STATUS.QUIESCE_CAUSE 0

/-- A Quiesce ends: its work is done; credits resume, or a removal pours. -/
def State.quiesceDone (s : State) (w : QWork) (ready : Bool) (ms : Nat) (inputs : PourInputs) (center : List Centering) : State :=
  let s1 := (s.quiesceShown w ms).quiesceWork w ready
  if w = .removal then s1.pourBegin .removal inputs else (s1.quiesceOver center).afterQuiesce inputs

/-- QUIESCE_END (R434 to R436, R540): the work is done, within `ms`; credits resume, or a removal pours. Before the requests that had
arrived are complete nothing ends. -/
def execQuiesceEnd (work : WorkEnd) (ms : Nat) (inputs : PourInputs) (s : State) : Res :=
  .next (
    match s.ctl.quiesce with
    | none => s
    | some w =>
      if s.ctl.mode != .m7 || !s.quiet then s else s.quiesceDone w work.ready ms inputs work.center)

/-! ## The end of a Pour (R314, R319, R324, R358, R375) -/

/-- What waited for the end of a Pour: an accepted unlock token (R358, R360), and, where a GPF has led back to Serve, the bulk
operations and Quiesce triggers that waited. -/
def State.afterPour (s : State) : State :=
  let s1 := if s.sec.scanHeld && !s.pour.running then s.scanEnter else s
  if s1.ctl.mode = .m5 then (s1.resumeBulk.nextQuiesce).bulkGo else s1

/-- POUR_COMPLETE (R314). -/
def execPourComplete (energyEnd us : Nat) (s : State) : Res :=
  .next (if s.ctl.mode == .m8 && s.pour.running then (s.pourFinish energyEnd us).afterPour else s)

/-- The bank's energy ends with the first `poured` quires of the lists written: the record has STATE 3 and what was not poured (R319,
R322). -/
def State.pourCut (s : State) (energyEnd us poured : Nat) : State :=
  let s1 := (s.pourWrite poured).endRecord 3 energyEnd us
  let left := s1.pour.lists.map (fun l => { l with entries := l.entries.filter (fun e =>
    !s1.pour.poured.contains (quireAt l.channel e.1)) })
  let s2 := ((s1.cleaned s1.pour.poured).programsOver).pourOver
  { s2 with pour := { s2.pour with lists := left, gpf := [] }, ctl := { s2.ctl with retained := false } }

/-- POUR_EXHAUSTED (R319): no step follows but the record, and there is no hold. -/
def execPourExhausted (energyEnd us : Nat) (poured : Nat) (s : State) : Res :=
  .next (
    if !(s.ctl.mode == .m8 && s.pour.running) then s
    else
      let t := s.pourCut energyEnd us poured
      (if s.reg Reg.THM_STATUS.TRIP == 1 then t.coresOff.toMode .m11 else t.toStandby).afterPour)

/-! ## Slices of a run (R518 to R524) -/

/-- SELFTEST_SLICE_DONE (R518, R519, R522): a slice that runs ends with what it found; the next pair starts, or the run ends. At a
start a FAIL leads to Safe. -/
def execSelftestSliceDone (r : SliceResult) (s : State) : Res :=
  .next (
    match s.runningTest with
    | none => s
    | some run =>
      if !s.enginesOn || !s.slicesNow.contains r.slice.val then s
      else
        let p := s.endSlice run r
        if s.ctl.mode = .m3 ∧ p.2 = 3 then (p.1.endRun 2).toSafe 1
        else
          let s1 := p.1.nextSlices
          if s1.runningTest.isNone && s1.ctl.mode != .m7 then s1.runHeld else s1)

/-- SELFTEST_BUDGET_EXPIRY (R518, R519): at a start, a slice still running at its budget is stopped with FAIL, which leads to Safe. A run
on request goes on. -/
def execSelftestBudgetExpiry (slice : Fin 33) (s : State) : Res :=
  .next (
    match s.runningTest with
    | none => s
    | some run =>
      if s.ctl.mode != .m3 || !s.slicesNow.contains slice.val then s
      else
        let x := s.sliceRecord run slice.val 3 0 (1000 * sliceBudget slice.val) (s.open? % 10001) 0
        ((s.draw.keepSlice x).endRun 2).toSafe 1)

end Sys2Proof.Machine
end

