-- ==== Sys2Proof/Machine/Dispatch.lean ====
section
/-! DEFINITION. The command dispatch: one arm for each row of the opcode table, in the table's order. -/

namespace Sys2Proof.Machine

/-- The effect of a command on everything but the queue. -/
def exec (i : Instr) (s : State) : Host.Outcome State Fault Refusal :=
  match i with
  | .memrd head tag hpa env => Sys2Proof.Machine.execMemrd head tag hpa env s
  | .memspecrd head hpa env => Sys2Proof.Machine.execMemspecrd head hpa env s
  | .memwr head tag hpa data poison env => Sys2Proof.Machine.execMemwr head tag hpa data poison env s
  | .memwrptl head tag hpa data be poison env => Sys2Proof.Machine.execMemwrptl head tag hpa data be poison env s
  | .mediaReadReady plan o => Sys2Proof.Machine.execMediaReadReady plan o s
  | .mediaReadTimeout plan member deep ns => Sys2Proof.Machine.execMediaReadTimeout plan member deep ns s
  | .dieSelfResume die bank => Sys2Proof.Machine.execDieSelfResume die bank s
  | .evictionSweep die => Sys2Proof.Machine.execEvictionSweep die s
  | .idleEviction die => Sys2Proof.Machine.execIdleEviction die s
  | .partialMerge die o => Sys2Proof.Machine.execPartialMerge die o s
  | .deferredMerge staged sheets => Sys2Proof.Machine.execDeferredMerge staged sheets s
  | .stripeWaitExpiry channel stream => Sys2Proof.Machine.execStripeWaitExpiry channel stream s
  | .stripeComplete channel segment ends => Sys2Proof.Machine.execStripeComplete channel segment ends s
  | .steepDone channel segment ends => Sys2Proof.Machine.execSteepDone channel segment ends s
  | .segmentOpenTimeout channel segment => Sys2Proof.Machine.execSegmentOpenTimeout channel segment s
  | .pulpPassStart channel lost => Sys2Proof.Machine.execPulpPassStart channel lost s
  | .sizingDue channel segment => Sys2Proof.Machine.execSizingDue channel segment s
  | .probeStripes channel => Sys2Proof.Machine.execProbeStripes channel s
  | .journalPageFlush die => Sys2Proof.Machine.execJournalPageFlush die s
  | .journalPageProgrammed => Sys2Proof.Machine.execJournalPageProgrammed s
  | .ckptBegin => Sys2Proof.Machine.execCkptBegin s
  | .ckptEnd => Sys2Proof.Machine.execCkptEnd s
  | .mapPageVerify die page o => Sys2Proof.Machine.execMapPageVerify die page o s
  | .patrolScrubStripe channel segment stripe frames => Sys2Proof.Machine.execPatrolScrubStripe channel segment stripe frames s
  | .poisonWalkStep => Sys2Proof.Machine.execPoisonWalkStep s
  | .unmappingWalkStep => Sys2Proof.Machine.execUnmappingWalkStep s
  | .slotSweepStep => Sys2Proof.Machine.execSlotSweepStep s
  | .verificationScrubStripe channel segment stripe same => Sys2Proof.Machine.execVerificationScrubStripe channel segment stripe same s
  | .spareDieCheck channel ok => Sys2Proof.Machine.execSpareDieCheck channel ok s
  | .d2dLaneFail mod retrained inputs => Sys2Proof.Machine.execD2dLaneFail mod retrained inputs s
  | .d2dModuleDown mod inputs => Sys2Proof.Machine.execD2dModuleDown mod inputs s
  | .refreshDue package channel rank => Sys2Proof.Machine.execRefreshDue package channel rank s
  | .dramPatrol package data check => Sys2Proof.Machine.execDramPatrol package data check s
  | .driftCheck package channel drift => Sys2Proof.Machine.execDriftCheck package channel drift s
  | .rowRemap package channel rank bank row uncorrectable units => Sys2Proof.Machine.execRowRemap package channel rank bank row uncorrectable units s
  | .readmissionTest package uncorrectable corrected => Sys2Proof.Machine.execReadmissionTest package uncorrectable corrected s
  | .quiesceEnd work ms inputs => Sys2Proof.Machine.execQuiesceEnd work ms inputs s
  | .engineFault engine cause pc addr => Sys2Proof.Machine.execEngineFault engine cause pc addr s
  | .watchdogExpiry engine pc => Sys2Proof.Machine.execWatchdogExpiry engine pc s
  | .engineResetReady engine ready => Sys2Proof.Machine.execEngineResetReady engine ready s
  | .dmaHalt engine channel addr => Sys2Proof.Machine.execDmaHalt engine channel addr s
  | .sramSweep die corrected uncorrectable => Sys2Proof.Machine.execSramSweep die corrected uncorrectable s
  | .p12vLoss inputs => Sys2Proof.Machine.execP12vLoss inputs s
  | .pourComplete energyEnd us => Sys2Proof.Machine.execPourComplete energyEnd us s
  | .pourExhausted energyEnd us poured => Sys2Proof.Machine.execPourExhausted energyEnd us poured s
  | .holdEnd => Sys2Proof.Machine.execHoldEnd s
  | .p12vReturn => Sys2Proof.Machine.execP12vReturn s
  | .pwrdisAssert inputs => Sys2Proof.Machine.execPwrdisAssert inputs s
  | .pwrdisRelease => Sys2Proof.Machine.execPwrdisRelease s
  | .gpfPhase2 head inputs => Sys2Proof.Machine.execGpfPhase2 head inputs s
  | .capMeasurementStart => Sys2Proof.Machine.execCapMeasurementStart s
  | .capMeasurementDone drop => Sys2Proof.Machine.execCapMeasurementDone drop s
  | .energyUpdate volts bus => Sys2Proof.Machine.execEnergyUpdate volts bus s
  | .subbankIsolation subbank cause => Sys2Proof.Machine.execSubbankIsolation subbank cause s
  | .monitorScan readings inputMw inputs => Sys2Proof.Machine.execMonitorScan readings inputMw inputs s
  | .stackCapAdjust mean raise => Sys2Proof.Machine.execStackCapAdjust mean raise s
  | .phaseFault rail => Sys2Proof.Machine.execPhaseFault rail s
  | .auxPowerRise good strapMv => Sys2Proof.Machine.execAuxPowerRise good strapMv s
  | .auxFault => Sys2Proof.Machine.execAuxFault s
  | .aonRailFault core inputs => Sys2Proof.Machine.execAonRailFault core inputs s
  | .powerOff => Sys2Proof.Machine.execPowerOff s
  | .coldStart env => Sys2Proof.Machine.execColdStart env s
  | .warmStart env => Sys2Proof.Machine.execWarmStart env s
  | .startFailed cause => Sys2Proof.Machine.execStartFailed cause s
  | .perstAssert => Sys2Proof.Machine.execPerstAssert s
  | .perst1Assert => Sys2Proof.Machine.execPerst1Assert s
  | .perstRelease line => Sys2Proof.Machine.execPerstRelease line s
  | .hotReset head => Sys2Proof.Machine.execHotReset head s
  | .linkDown head => Sys2Proof.Machine.execLinkDown head s
  | .linkTrained head width rate => Sys2Proof.Machine.execLinkTrained head width rate s
  | .linkRetrain head width rate => Sys2Proof.Machine.execLinkRetrain head width rate s
  | .flr head => Sys2Proof.Machine.execFlr head s
  | .d3hotEntry head => Sys2Proof.Machine.execD3hotEntry head s
  | .ideIntegrityFailure head mem => Sys2Proof.Machine.execIdeIntegrityFailure head mem s
  | .ideKm head stream session => Sys2Proof.Machine.execIdeKm head stream session s
  | .hdmDecoderCommit head index set commit => Sys2Proof.Machine.execHdmDecoderCommit head index set commit s
  | .msixUnmask head vector => Sys2Proof.Machine.execMsixUnmask head vector s
  | .aggGroupMessage head group elapsed => Sys2Proof.Machine.execAggGroupMessage head group elapsed s
  | .dozeEntry idle => Sys2Proof.Machine.execDozeEntry idle s
  | .dozeExit idle seconds wakeBad => Sys2Proof.Machine.execDozeExit idle seconds wakeBad s
  | .serviceWake work => Sys2Proof.Machine.execServiceWake work s
  | .optimeTick => Sys2Proof.Machine.execOptimeTick s
  | .optimeSave => Sys2Proof.Machine.execOptimeSave s
  | .minuteTick => Sys2Proof.Machine.execMinuteTick s
  | .sensorSample sensor r inputs => Sys2Proof.Machine.execSensorSample sensor r inputs s
  | .spdmGetVersion transport => Sys2Proof.Machine.execSpdmGetVersion transport s
  | .spdmGetCapabilities transport => Sys2Proof.Machine.execSpdmGetCapabilities transport s
  | .spdmNegotiateAlgorithms transport supported => Sys2Proof.Machine.execSpdmNegotiateAlgorithms transport supported s
  | .spdmGetDigests transport => Sys2Proof.Machine.execSpdmGetDigests transport s
  | .spdmGetCertificate transport slot offset length => Sys2Proof.Machine.execSpdmGetCertificate transport slot offset length s
  | .spdmChallenge transport slot nonce => Sys2Proof.Machine.execSpdmChallenge transport slot nonce s
  | .spdmGetMeasurements transport index nonce => Sys2Proof.Machine.execSpdmGetMeasurements transport index nonce s
  | .spdmKeyExchange transport finishGood => Sys2Proof.Machine.execSpdmKeyExchange transport finishGood s
  | .spdmKeyUpdate transport session => Sys2Proof.Machine.execSpdmKeyUpdate transport session s
  | .spdmHeartbeat transport session => Sys2Proof.Machine.execSpdmHeartbeat transport session s
  | .spdmEndSession transport session => Sys2Proof.Machine.execSpdmEndSession transport session s
  | .spdmHeartbeatTimeout transport session => Sys2Proof.Machine.execSpdmHeartbeatTimeout transport session s
  | .cdatTableAccess head request => Sys2Proof.Machine.execCdatTableAccess head request s
  | .doeDiscovery head inst request => Sys2Proof.Machine.execDoeDiscovery head inst request s
  | .doeAbort head inst bytes => Sys2Proof.Machine.execDoeAbort head inst bytes s
  | .backgroundOperationStatus m => Sys2Proof.Machine.execBackgroundOperationStatus m s
  | .getEventRecords m log => Sys2Proof.Machine.execGetEventRecords m log s
  | .clearEventRecords m log all handles => Sys2Proof.Machine.execClearEventRecords m log all handles s
  | .getEventInterruptPolicy m => Sys2Proof.Machine.execGetEventInterruptPolicy m s
  | .setEventInterruptPolicy m modes => Sys2Proof.Machine.execSetEventInterruptPolicy m modes s
  | .getFwInfo m => Sys2Proof.Machine.execGetFwInfo m s
  | .transferFw m offset length data verdict => Sys2Proof.Machine.execTransferFw m offset length data verdict s
  | .activateFw m verified => Sys2Proof.Machine.execActivateFw m verified s
  | .getTimestamp m => Sys2Proof.Machine.execGetTimestamp m s
  | .setTimestamp m ms => Sys2Proof.Machine.execSetTimestamp m ms s
  | .getSupportedLogs m => Sys2Proof.Machine.execGetSupportedLogs m s
  | .getLog m effects offset length => Sys2Proof.Machine.execGetLog m effects offset length s
  | .identifyMemoryDevice m => Sys2Proof.Machine.execIdentifyMemoryDevice m s
  | .getPartitionInfo m => Sys2Proof.Machine.execGetPartitionInfo m s
  | .getLsa m offset length => Sys2Proof.Machine.execGetLsa m offset length s
  | .setLsa m offset data => Sys2Proof.Machine.execSetLsa m offset data s
  | .getHealthInfo m => Sys2Proof.Machine.execGetHealthInfo m s
  | .getAlertConfiguration m => Sys2Proof.Machine.execGetAlertConfiguration m s
  | .setAlertConfiguration m values => Sys2Proof.Machine.execSetAlertConfiguration m values s
  | .getShutdownState m => Sys2Proof.Machine.execGetShutdownState m s
  | .setShutdownState m state => Sys2Proof.Machine.execSetShutdownState m state s
  | .getPoisonList m dpa length => Sys2Proof.Machine.execGetPoisonList m dpa length s
  | .clearPoison m dpa data env => Sys2Proof.Machine.execClearPoison m dpa data env s
  | .getScanMediaCapabilities m dpa length => Sys2Proof.Machine.execGetScanMediaCapabilities m dpa length s
  | .scanMedia m dpa length => Sys2Proof.Machine.execScanMedia m dpa length s
  | .getScanMediaResults m => Sys2Proof.Machine.execGetScanMediaResults m s
  | .sanitize m => Sys2Proof.Machine.execSanitize m s
  | .secureErase m => Sys2Proof.Machine.execSecureErase m s
  | .getMultiHeadedInfo => Sys2Proof.Machine.execGetMultiHeadedInfo s
  | .getHeadInfo start count => Sys2Proof.Machine.execGetHeadInfo start count s
  | .mailboxUnsupported m opcode => Sys2Proof.Machine.execMailboxUnsupported m opcode s
  | .leafUnknownOpcode opcode h p => Sys2Proof.Machine.execLeafUnknownOpcode opcode h p s
  | .identify h p => Sys2Proof.Machine.execIdentify h p s
  | .getMeasurements h p => Sys2Proof.Machine.execGetMeasurements h p s
  | .getCertificate h p => Sys2Proof.Machine.execGetCertificate h p s
  | .scanChallenge h p => Sys2Proof.Machine.execScanChallenge h p s
  | .scanUnlock h p signed => Sys2Proof.Machine.execScanUnlock h p signed s
  | .healthReport h p => Sys2Proof.Machine.execHealthReport h p s
  | .getStatus h p => Sys2Proof.Machine.execGetStatus h p s
  | .getUnit h p => Sys2Proof.Machine.execGetUnit h p s
  | .setWallClock h p => Sys2Proof.Machine.execSetWallClock h p s
  | .setEventMask h p => Sys2Proof.Machine.execSetEventMask h p s
  | .eventNotify => Sys2Proof.Machine.execEventNotify s
  | .setWindowGrant h p => Sys2Proof.Machine.execSetWindowGrant h p s
  | .getWindowGrant h p => Sys2Proof.Machine.execGetWindowGrant h p s
  | .regRead h p => Sys2Proof.Machine.execRegRead h p s
  | .regWrite h p => Sys2Proof.Machine.execRegWrite h p s
  | .setLatencyTolerance h p => Sys2Proof.Machine.execSetLatencyTolerance h p s
  | .getPower h p => Sys2Proof.Machine.execGetPower h p s
  | .warmReset h p => Sys2Proof.Machine.execWarmReset h p s
  | .powerRequestOff h p => Sys2Proof.Machine.execPowerRequestOff h p s
  | .powerRequestOn h p => Sys2Proof.Machine.execPowerRequestOn h p s
  | .zero h p => Sys2Proof.Machine.execZero h p s
  | .fill h p => Sys2Proof.Machine.execFill h p s
  | .copy h p => Sys2Proof.Machine.execCopy h p s
  | .check h p => Sys2Proof.Machine.execCheck h p s
  | .compare h p => Sys2Proof.Machine.execCompare h p s
  | .eraseKey h p => Sys2Proof.Machine.execEraseKey h p s
  | .bulkQuireHandled slot sheets => Sys2Proof.Machine.execBulkQuireHandled slot sheets s
  | .bulkStatus h p => Sys2Proof.Machine.execBulkStatus h p s
  | .bulkAbort h p => Sys2Proof.Machine.execBulkAbort h p s
  | .keyProvision h p => Sys2Proof.Machine.execKeyProvision h p s
  | .keyDestroy h p => Sys2Proof.Machine.execKeyDestroy h p s
  | .rangeWrite h p => Sys2Proof.Machine.execRangeWrite h p s
  | .keyStatus h p => Sys2Proof.Machine.execKeyStatus h p s
  | .fwTransfer h p verdict => Sys2Proof.Machine.execFwTransfer h p verdict s
  | .fwActivate h p verified => Sys2Proof.Machine.execFwActivate h p verified s
  | .fwInfo h p => Sys2Proof.Machine.execFwInfo h p s
  | .svnCommit h p => Sys2Proof.Machine.execSvnCommit h p s
  | .selftestRun h p => Sys2Proof.Machine.execSelftestRun h p s
  | .selftestResult h p => Sys2Proof.Machine.execSelftestResult h p s
  | .selftestSliceDone r => Sys2Proof.Machine.execSelftestSliceDone r s
  | .selftestBudgetExpiry slice => Sys2Proof.Machine.execSelftestBudgetExpiry slice s
  | .reamRead h p => Sys2Proof.Machine.execReamRead h p s
  | .reamRewindToMark h p => Sys2Proof.Machine.execReamRewindToMark h p s
  | .reamSetMark h p => Sys2Proof.Machine.execReamSetMark h p s
  | .qstRead h p => Sys2Proof.Machine.execQstRead h p s
  | .qstWrite h p => Sys2Proof.Machine.execQstWrite h p s
  | .qstPassword h p => Sys2Proof.Machine.execQstPassword h p s
  | .qstPageWriteDone plane ok => Sys2Proof.Machine.execQstPageWriteDone plane ok s
  | .unitOut h p => Sys2Proof.Machine.execUnitOut h p s
  | .unitReturn h p pass => Sys2Proof.Machine.execUnitReturn h p pass s
  | .locate h p => Sys2Proof.Machine.execLocate h p s
  | .removalRequest h p => Sys2Proof.Machine.execRemovalRequest h p s
  | .tallyRead h p => Sys2Proof.Machine.execTallyRead h p s
  | .tallyConfig h p => Sys2Proof.Machine.execTallyConfig h p s
  | .tallySample h p => Sys2Proof.Machine.execTallySample h p s
  | .mctpReplyDiscard => Sys2Proof.Machine.execMctpReplyDiscard s
  | .cqDrop die words => Sys2Proof.Machine.execCqDrop die words s
  | .strDataWrite who die channel wide value => Sys2Proof.Machine.execStrDataWrite who die channel wide value s
  | .strCmdStart who die channel => Sys2Proof.Machine.execStrCmdStart who die channel s
  | .strCmdTail who die channel bytes => Sys2Proof.Machine.execStrCmdTail who die channel bytes s
  | .strCmdFinal who die channel => Sys2Proof.Machine.execStrCmdFinal who die channel s
  | .tlyLiveRead who die bank index wide => Sys2Proof.Machine.execTlyLiveRead who die bank index wide s
  | .tlyCounterWrite who die bank index wide value events => Sys2Proof.Machine.execTlyCounterWrite who die bank index wide value events s
  | .tlySampleCfgWrite who die value => Sys2Proof.Machine.execTlySampleCfgWrite who die value s
  | .tlyCounterWrap die bank index events => Sys2Proof.Machine.execTlyCounterWrap die bank index events s
  | .tlySample die events smp => Sys2Proof.Machine.execTlySample die events smp s
  | .reamCmdLoad who => Sys2Proof.Machine.execReamCmdLoad who s
  | .reamCmdRewind who => Sys2Proof.Machine.execReamCmdRewind who s
  | .reamCmdMark who => Sys2Proof.Machine.execReamCmdMark who s
  | .reamGapClear who reader => Sys2Proof.Machine.execReamGapClear who reader s
  | .reamPageFlush => Sys2Proof.Machine.execReamPageFlush s
  | .reamSuppressionSummary => Sys2Proof.Machine.execReamSuppressionSummary s
  | .registerWrite head offset size value => Sys2Proof.Machine.execRegisterWrite head offset size value s
  | .bypass die code => Sys2Proof.Machine.execBypass die code s
  | .idcode die => Sys2Proof.Machine.execIdcode die s
  | .samplePreload die => Sys2Proof.Machine.execSamplePreload die s
  | .extest die => Sys2Proof.Machine.execExtest die s
  | .bstStatus die => Sys2Proof.Machine.execBstStatus die s
  | .memacc die target write => Sys2Proof.Machine.execMemacc die target write s
  | .scanN die n => Sys2Proof.Machine.execScanN die n s
  | .trst asserted => Sys2Proof.Machine.execTrst asserted s
  | .padTouchEnd ms => Sys2Proof.Machine.execPadTouchEnd ms s
  | .padHold3s => Sys2Proof.Machine.execPadHold3s s
  | .removalWaitExpiry => Sys2Proof.Machine.execRemovalWaitExpiry s
  | .drbgHealthFail die => Sys2Proof.Machine.execDrbgHealthFail die s
  | .mctpReplyRead notification => Sys2Proof.Machine.execMctpReplyRead notification s
  | .i3cDynamicAddressAssignment address => Sys2Proof.Machine.execI3cDynamicAddressAssignment address s
  | .strapChangeWhilePowered sampled present => Sys2Proof.Machine.execStrapChangeWhilePowered sampled present s
  | .referenceClockChange clock stable => Sys2Proof.Machine.execReferenceClockChange clock stable s
  | .d3hotExit head => Sys2Proof.Machine.execD3hotExit head s
  | .flitReplay head corrected => Sys2Proof.Machine.execFlitReplay head corrected s
  | .scanMediaQuire frames => Sys2Proof.Machine.execScanMediaQuire frames s
  | .scanChallengeExpiry => Sys2Proof.Machine.execScanChallengeExpiry s
  | .bar2Read head offset size => Sys2Proof.Machine.execBar2Read head offset size s

end Sys2Proof.Machine
end

