-- ==== Sys2Proof/Machine/Frames.lean ====
section
/-! DEFINITION. What the media, the Caddy and the quire store hold as bytes (R28, R29, R254 to R259, R332 to R341, R346): the frames of a
stripe with their ciphertext, tag and code, the parity frame and the frame rebuilt from the other eight, reserve frames, the ciphertext
of the Caddy's lines, the MACs of protected pages and counter lines, root slots, and the wrapped records of the key slots. The state
keeps the values; these functions give the bytes that they stand as (log entry 7). -/

namespace Sys2Proof.Machine

/-- Bytes cut or filled up with zeros to n. -/
def sized (n : Nat) (b : List Byte) : List Byte := (List.range n).map (byteAt b)

/-! ## The cipher of sheets and lines (R332, R333) -/

/-- The seed of the key slot that is in effect for a quire (R332, R348). -/
def State.seedOf (s : State) (q : Nat) : Nat := s.sec.seeds.get 0 (s.effSlot q)

/-- The tweak of a sheet as a number (R333). -/
def sheetUnit (q sheet : Nat) : Nat := q % 2 ^ 34 + sheet % 4 * 2 ^ 34

/-- The 256 bytes of a sheet in plain. -/
def Sheet.plain (x : Sheet) : List Byte := lineBytes x.l0 ++ lineBytes x.l1 ++ lineBytes x.l2 ++ lineBytes x.l3

/-- The ciphertext of a sheet of a quire under a seed (R333). -/
def sheetCipher (seed q sheet : Nat) (x : Sheet) : List Byte :=
  xtsEncrypt (seedKey seed .data) (seedKey seed .tweak) (sheetUnit q sheet) x.plain

/-- The ciphertext of line k of a quire, blocks 4·(k mod 4) to 4·(k mod 4) + 3 of its sheet: what the Caddy holds (R201, R333). -/
def lineCipher (seed q k : Nat) (x : BitVec 512) : List Byte :=
  let ks := aesKeys (seedKey seed .data)
  let tweaks := (xtsTweaks (seedKey seed .tweak) (sheetUnit q (k / 4)) 16).drop (k % 4 * 4)
  (List.zipWith (fun b t => xorBytes (aesRounds ks (xorBytes b t)) t) (blocksOf 16 (lineBytes x)) tweaks).flatten

/-- The 64 bytes that way w of a quire's set holds at line k (R201, R333). -/
def State.caddyBytes (s : State) (q k : Nat) : Option (List Byte) :=
  (s.wayOf q).map (fun p => lineCipher (s.seedOf q) q k (p.2.blk.lines.get 0 k))

/-! ## Frames (R28, R254, R256, R335) -/

/-- The place of a frame: channel, segment, stripe, member and the segment's generation. -/
structure FramePlace where
  channel : Nat
  segment : Nat
  stripe : Nat
  member : Nat
  gen : Nat
deriving DecidableEq, Repr

/-- Bytes 272 to 279 (R254). -/
def reverseMap (quire sheet : Nat) (valid : Bool) : List Byte :=
  leBytes 8 (if valid then quire % 2 ^ 34 + sheet % 4 * 2 ^ 34 + 2 ^ 36 else 0)

/-- Bytes 280 to 287 (R254). -/
def seqAndMasks (seq : Nat) (poison host : BitVec 4) : List Byte :=
  leBytes 8 (seq % 2 ^ 56 + poison.toNat * 2 ^ 56 + (host &&& poison).toNat * 2 ^ 60)

/-- The IV of a frame's tag (R335): write sequence, channel and data slot. -/
def tagIv (seq channel slot : Nat) : List Byte := leBytes 12 (seq % 2 ^ 56 + channel % 32 * 2 ^ 56 + slot % 8 * 2 ^ 61)

/-- The first 32 bytes of what a tag authenticates (R335). -/
def tagBlock (words : List Byte) (p : FramePlace) : List Byte :=
  words ++ leBytes 6 p.gen ++ [0, 0] ++ leBytes 4 (frameAddr p.segment p.stripe % 2 ^ 28) ++
    [BitVec.ofNat 8 p.channel, BitVec.ofNat 8 p.member, 0, 0]

/-- Bytes 0 to 319 of a frame from its ciphertext, tag and words, with the die-local code (R28, R256). -/
def frameOf (cipher tag words : List Byte) : List Byte :=
  let b := sized 288 (cipher ++ tag ++ words)
  sized 320 (b ++ frameCode b)

/-- A data frame: the sheet of a quire in a data slot, under a seed (R28, R335). -/
def dataFrame (seed q sheet slot seq : Nat) (p : FramePlace) (x : Sheet) : List Byte :=
  let cipher := sheetCipher seed q sheet x
  let words := reverseMap q sheet true ++ seqAndMasks seq x.poison x.host
  frameOf cipher (gmac (seedKey seed .tag) (tagIv seq p.channel slot) (tagBlock words p ++ cipher)) words

/-- A pad frame (R159, R254, R335): zero payload and tag, VALID clear. -/
def padFrame (seq : Nat) : List Byte :=
  frameOf (List.replicate 256 0) (List.replicate 16 0) (reverseMap 0 0 false ++ seqAndMasks seq 0 0)

/-- Where the frame of member m of a stripe lies. -/
def State.placeOf (s : State) (x : Stripe) (m : Nat) : FramePlace := ⟨x.channel, x.segment, x.index, m, (s.seg x.channel x.segment).gen⟩

/-- The frame in data slot j of a stripe (R29). -/
def State.slotFrame (s : State) (x : Stripe) (j : Nat) : List Byte :=
  match (if j < 4 then x.h0 else x.h1) with
  | none => padFrame x.seq
  | some h => dataFrame (s.seedOf h.quire) h.quire (j % 4) j x.seq (s.placeOf x (memberOfSlot x.index j)) (h.sheet (j % 4))

/-- The exclusive or of frames (R29, R258, R259). -/
def xorFrames (l : List (List Byte)) : List Byte := l.foldl (fun a b => (List.range 320).map (fun k => byteAt a k ^^^ byteAt b k)) (List.replicate 320 0)

/-- The frame of member m of a stripe (R29): the parity frame is the exclusive or of the eight data frames. -/
def State.frameOn (s : State) (x : Stripe) (m : Nat) : List Byte :=
  if m = x.index % 9 then xorFrames ((List.range 8).map (s.slotFrame x))
  else s.slotFrame x (if m < x.index % 9 then m else m - 1)

/-- The frame of a member rebuilt from the other eight (R259). -/
def State.rebuilt (s : State) (x : Stripe) (m : Nat) : List Byte :=
  xorFrames (((List.range 9).filter (fun n => n != m)).map (s.frameOn x))

/-- A decoded data frame matches the slot that it was read from (R259): QUIRE, SHEET and VALID. -/
def frameMatches (b : List Byte) (q sheet : Nat) : Bool := (b.drop 272).take 8 == reverseMap q sheet true

/-- The bytes on media at a member's frame of a stripe: those of the stripe there, but where its frame is absent or nothing has been
programmed, 320 bytes of 0xFF (R125). -/
def State.mediaFrame (s : State) (c t f m : Nat) : List Byte :=
  match s.media.images.find? (stripeKey c t f) with
  | some x => if x.absent = some m then List.replicate 320 0xFF else s.frameOn x m
  | none => List.replicate 320 0xFF

/-! ## Reserve frames (R336) -/

/-- The QUIRE field of a reserve frame: the use code and the index of its block. -/
def reserveQuire (use block : Nat) : Nat := 3 * 2 ^ 32 + use % 16 * 2 ^ 28 + block % 2 ^ 28

/-- A reserve frame: not encrypted, and tagged under the die's metadata key (R336). -/
def reserveFrame (use block sheet slot seq : Nat) (p : FramePlace) (content : List Byte) : List Byte :=
  let words := reverseMap (reserveQuire use block) sheet true ++ seqAndMasks seq 0 0
  let plain := sized 256 content
  frameOf plain (gmac (deviceKey (p.channel / 16) .metadata []) (tagIv seq p.channel slot) (tagBlock words p ++ plain)) words

/-! ## Protected pages and counter lines (R337, R338) -/

/-- The first 64 bits of the CMAC under a die's metadata key over fields (log entry 97). -/
def metaMac (d : Nat) (fields : List Nat) : List Byte := (cmac (deviceKey d .metadata []) (Config.content fields)).take 8

/-- The page MAC of a page from its counter and its 64 lines (R337). -/
def pageMac (d p ctr : Nat) (line : Nat → Nat) : List Byte :=
  (List.range 64).foldl (fun m i => xorBytes m (metaMac d [2, p, i, line i])) (metaMac d [1, p, ctr])

/-- Line i of map page p of a die, as a number: sixteen map entries (R152). -/
def State.mapLine (s : State) (d p i : Nat) : Nat :=
  leValue ((List.range 16).flatMap (fun k =>
    let u := p * 1024 + i * 16 + k
    leBytes 4 (s.mapEntry (quireAt (d * 16 + u / quiresPerChannel) (u % quiresPerChannel))).toNat))

/-- The MAC of a map page (R337). -/
def State.mapPageMac (s : State) (d p : Nat) : List Byte := pageMac d p ((s.mapping.ctrs.get d).get 0 (ctrKey 0 p)) (s.mapLine d p)

/-- The 64 bytes of line i of level L(level − 1) (R338): eight counters of 56 bits, and the MAC of a line that is not the root. -/
def State.counterLine (s : State) (d level i : Nat) : List Byte :=
  let ctr := fun (key : Nat) => (s.mapping.ctrs.get d).get 0 key
  let body := (List.range 8).flatMap (fun j => leBytes 7 (ctr (ctrKey (level - 1) (8 * i + j))))
  body ++ (if level < 8 then metaMac d [level - 1, i, ctr (ctrKey level i), leValue body] else List.replicate 8 0)

/-! ## The quire store (R341, R346) -/

/-- The storage key (R330). -/
def State.storageKey (s : State) : List Byte := deviceKey 0 .storage (leBytes 32 s.sec.nonce)

/-- The 128 bytes of a root slot (R341): its fields, in a layout of theirs (log entry 97), their CMAC and the CRC-32C. -/
def State.rootBytes (s : State) (d : Nat) (x : RootSlot) : List Byte :=
  let b := sized 116 (Config.content ([3, x.kind, d, x.num, x.head, x.ms] ++ x.line))
  let m := b ++ (cmac s.storageKey b).take 8
  m ++ leBytes 4 (crc32c m)

/-- The 64 bytes of a key slot's record (R346): the seed wrapped under the storage key. -/
def State.slotPage (s : State) (k : Nat) : List Byte :=
  let iv := leBytes 12 (k % 4096 + s.sec.counts.get 0 k % 2 ^ 32 * 4096)
  let wrapped := gcmEncrypt s.storageKey iv (leBytes 32 (s.sec.seeds.get 0 k))
  let b := sized 60 (s.slotBytes k ++ wrapped ++ gcmTag s.storageKey iv [] wrapped)
  b ++ leBytes 4 (crc32c b)

end Sys2Proof.Machine
end

