-- ==== Sys2Proof/WellFormed.lean ====
section
/-! DEFINITION. Which terms of `Instr` are commands of their row. Most operand types already hold only what the hardware can meet; the
checks here are those that no type makes: an opcode, operation or direction byte is the row's own, an instruction code of the test port
is no other row's, and a counter index lies in its bank (log entry 6). MAILBOX_UNSUPPORTED depends on the primary head besides, so
`State.mailRefused` checks it. -/

namespace Sys2Proof

/-- Byte k of a payload, zero past its end. -/
def byteAt (p : List Byte) (k : Nat) : Nat := (p[k]?.getD 0).toNat

/-- The opcodes of the requests of R407. -/
def requestOpcodes : List Nat :=
  [0x0000, 0x0001, 0x0002, 0x0003, 0x0004, 0x0100, 0x0101, 0x0102, 0x0103, 0x0104, 0x0200, 0x0201, 0x0202, 0x0203,
   0x0300, 0x0301, 0x0302, 0x0303, 0x0400, 0x0401, 0x0402, 0x0500, 0x0501, 0x0502, 0x0503, 0x0600, 0x0601, 0x0602,
   0x0603, 0x0700, 0x0701, 0x0800, 0x0801, 0x0802, 0x0803, 0x0900, 0x0901, 0x0902, 0x0903, 0x0A00, 0x0A01, 0x0A02]

/-- The descriptor of a BULK_START names the row's operation in its first two bytes (R362). A payload of another length is refused
before anything is read from it, so it is a command of each of these rows. -/
def bulkWf (op : Nat) (h : LeafHdr) (p : List Byte) : Bool :=
  h.length != 128 || p.length != 128 || byteAt p 0 + 256 * byteAt p 1 == op

/-- The counters of a bank: fixed, configurable, signal (R475). -/
def bankCounters : Fin 3 → Nat
  | 0 => 384
  | 1 => 96
  | 2 => 32

/-- The instruction codes that R525 names; every other code is BYPASS. -/
def tapNames (code : Nat) : Bool :=
  (0x01 ≤ code && code ≤ 0x03) || code == 0x10 || (0x20 ≤ code && code ≤ 0x2F) || code == 0x30

/-- A term is a command of its row. -/
def Instr.wf : Instr → Bool
  | .memrd _ _ _ _ => true
  | .memspecrd _ _ _ => true
  | .memwr _ _ _ _ _ _ => true
  | .memwrptl _ _ _ _ _ _ _ => true
  | .mediaReadReady _ _ => true
  | .mediaReadTimeout _ _ _ _ => true
  | .dieSelfResume _ _ => true
  | .evictionSweep _ => true
  | .idleEviction _ => true
  | .partialMerge _ _ => true
  | .deferredMerge _ _ => true
  | .stripeWaitExpiry _ _ => true
  | .stripeComplete _ _ _ => true
  | .steepDone _ _ _ => true
  | .segmentOpenTimeout _ _ => true
  | .pulpPassStart _ _ => true
  | .sizingDue _ _ => true
  | .probeStripes _ => true
  | .journalPageFlush _ => true
  | .journalPageProgrammed => true
  | .ckptBegin => true
  | .ckptEnd => true
  | .mapPageVerify _ _ _ => true
  | .patrolScrubStripe _ _ _ _ => true
  | .poisonWalkStep => true
  | .unmappingWalkStep => true
  | .slotSweepStep => true
  | .verificationScrubStripe _ _ _ _ => true
  | .spareDieCheck _ _ => true
  | .d2dLaneFail _ _ _ => true
  | .d2dModuleDown _ _ => true
  | .refreshDue _ _ _ => true
  | .dramPatrol _ _ _ => true
  | .driftCheck _ _ _ => true
  | .rowRemap _ _ _ _ _ _ _ => true
  | .readmissionTest _ _ _ => true
  | .quiesceEnd _ _ _ => true
  | .engineFault _ _ _ _ => true
  | .watchdogExpiry _ _ => true
  | .engineResetReady _ _ => true
  | .dmaHalt _ _ _ => true
  | .sramSweep _ _ _ => true
  | .p12vLoss _ => true
  | .pourComplete _ _ => true
  | .pourExhausted _ _ _ => true
  | .holdEnd => true
  | .p12vReturn => true
  | .pwrdisAssert _ => true
  | .pwrdisRelease => true
  | .gpfPhase2 _ _ => true
  | .capMeasurementStart => true
  | .capMeasurementDone _ => true
  | .energyUpdate _ _ => true
  | .subbankIsolation _ _ => true
  | .monitorScan _ _ _ => true
  | .stackCapAdjust _ _ => true
  | .phaseFault _ => true
  | .auxPowerRise _ _ => true
  | .auxFault => true
  | .aonRailFault _ _ => true
  | .powerOff => true
  | .coldStart _ => true
  | .warmStart _ => true
  | .startFailed _ => true
  | .perstAssert => true
  | .perst1Assert => true
  | .perstRelease _ => true
  | .hotReset _ => true
  | .linkDown _ => true
  | .linkTrained _ _ _ => true
  | .linkRetrain _ _ _ => true
  | .flr _ => true
  | .d3hotEntry _ => true
  | .ideIntegrityFailure _ _ => true
  | .ideKm _ _ _ => true
  | .hdmDecoderCommit _ _ _ _ => true
  | .msixUnmask _ _ => true
  | .aggGroupMessage _ _ _ => true
  | .dozeEntry _ => true
  | .dozeExit _ _ _ => true
  | .serviceWake _ => true
  | .optimeTick => true
  | .optimeSave => true
  | .minuteTick => true
  | .sensorSample _ _ _ => true
  | .spdmGetVersion _ => true
  | .spdmGetCapabilities _ => true
  | .spdmNegotiateAlgorithms _ _ => true
  | .spdmGetDigests _ => true
  | .spdmGetCertificate _ _ _ _ => true
  | .spdmChallenge _ _ _ => true
  | .spdmGetMeasurements _ _ _ => true
  | .spdmKeyExchange _ _ => true
  | .spdmKeyUpdate _ _ => true
  | .spdmHeartbeat _ _ => true
  | .spdmEndSession _ _ => true
  | .spdmHeartbeatTimeout _ _ => true
  | .cdatTableAccess _ _ => true
  | .doeDiscovery _ _ _ => true
  | .doeAbort _ _ _ => true
  | .backgroundOperationStatus _ => true
  | .getEventRecords _ _ => true
  | .clearEventRecords _ _ _ _ => true
  | .getEventInterruptPolicy _ => true
  | .setEventInterruptPolicy _ _ => true
  | .getFwInfo _ => true
  | .transferFw _ _ _ _ _ => true
  | .activateFw _ _ => true
  | .getTimestamp _ => true
  | .setTimestamp _ _ => true
  | .getSupportedLogs _ => true
  | .getLog _ _ _ _ => true
  | .identifyMemoryDevice _ => true
  | .getPartitionInfo _ => true
  | .getLsa _ _ _ => true
  | .setLsa _ _ _ => true
  | .getHealthInfo _ => true
  | .getAlertConfiguration _ => true
  | .setAlertConfiguration _ _ => true
  | .getShutdownState _ => true
  | .setShutdownState _ _ => true
  | .getPoisonList _ _ _ => true
  | .clearPoison _ _ _ _ => true
  | .getScanMediaCapabilities _ _ _ => true
  | .scanMedia _ _ _ => true
  | .getScanMediaResults _ => true
  | .sanitize _ => true
  | .secureErase _ => true
  | .getMultiHeadedInfo => true
  | .getHeadInfo _ _ => true
  | .mailboxUnsupported _ _ => true
  | .leafUnknownOpcode opcode _ _ => !requestOpcodes.contains opcode.toNat
  | .identify _ _ => true
  | .getMeasurements _ _ => true
  | .getCertificate _ _ => true
  | .scanChallenge _ _ => true
  | .scanUnlock _ _ _ => true
  | .healthReport _ _ => true
  | .getStatus _ _ => true
  | .getUnit _ _ => true
  | .setWallClock _ _ => true
  | .setEventMask _ _ => true
  | .eventNotify => true
  | .setWindowGrant _ _ => true
  | .getWindowGrant _ _ => true
  | .regRead _ _ => true
  | .regWrite _ _ => true
  | .setLatencyTolerance _ _ => true
  | .getPower _ _ => true
  | .warmReset _ _ => true
  | .powerRequestOff _ p => (p == [] || byteAt p 0 % 2 == 0)
  | .powerRequestOn _ p => (p == [] || byteAt p 0 % 2 == 1)
  | .zero h p => bulkWf 0 h p
  | .fill h p => bulkWf 1 h p
  | .copy h p => bulkWf 2 h p
  | .check h p => bulkWf 3 h p
  | .compare h p => bulkWf 4 h p
  | .eraseKey h p => bulkWf 5 h p
  | .bulkQuireHandled _ _ => true
  | .bulkStatus _ _ => true
  | .bulkAbort _ _ => true
  | .keyProvision _ _ => true
  | .keyDestroy _ _ => true
  | .rangeWrite _ _ => true
  | .keyStatus _ _ => true
  | .fwTransfer _ _ _ => true
  | .fwActivate _ _ _ => true
  | .fwInfo _ _ => true
  | .svnCommit _ _ => true
  | .selftestRun _ _ => true
  | .selftestResult _ _ => true
  | .selftestSliceDone _ => true
  | .selftestBudgetExpiry _ => true
  | .reamRead _ p => byteAt p 0 != 1 && byteAt p 0 != 2
  | .reamRewindToMark _ p => byteAt p 0 == 1
  | .reamSetMark _ p => byteAt p 0 == 2
  | .qstRead _ _ => true
  | .qstWrite _ _ => true
  | .qstPassword _ _ => true
  | .qstPageWriteDone _ _ => true
  | .unitOut _ _ => true
  | .unitReturn _ _ _ => true
  | .locate _ _ => true
  | .removalRequest _ _ => true
  | .tallyRead _ _ => true
  | .tallyConfig _ _ => true
  | .tallySample _ _ => true
  | .mctpReplyDiscard => true
  | .cqDrop _ _ => true
  | .strDataWrite _ _ _ _ _ => true
  | .strCmdStart _ _ _ => true
  | .strCmdTail _ _ _ _ => true
  | .strCmdFinal _ _ _ => true
  | .tlyLiveRead _ _ bank index _ => index < bankCounters bank
  | .tlyCounterWrite _ _ bank index _ _ _ => index < bankCounters bank
  | .tlySampleCfgWrite _ _ _ => true
  | .tlyCounterWrap _ bank index _ => index < bankCounters bank
  | .tlySample _ _ _ => true
  | .reamCmdLoad _ => true
  | .reamCmdRewind _ => true
  | .reamCmdMark _ => true
  | .reamGapClear _ _ => true
  | .reamPageFlush => true
  | .reamSuppressionSummary => true
  | .registerWrite _ _ _ _ => true
  | .bypass _ code => !tapNames code.toNat
  | .idcode _ => true
  | .samplePreload _ => true
  | .extest _ => true
  | .bstStatus _ => true
  | .memacc _ _ _ => true
  | .scanN _ _ => true
  | .trst _ => true
  | .padTouchEnd _ => true
  | .padHold3s => true
  | .removalWaitExpiry => true
  | .drbgHealthFail _ => true
  | .mctpReplyRead _ => true
  | .i3cDynamicAddressAssignment _ => true
  | .strapChangeWhilePowered _ _ => true
  | .referenceClockChange _ _ => true
  | .d3hotExit _ => true
  | .flitReplay _ _ => true
  | .scanMediaQuire _ => true
  | .scanChallengeExpiry => true
  | .bar2Read _ _ _ => true

end Sys2Proof
end

