-- ==== Sys2Proof/Safety.lean ====
section
/-! DEFINITION. The terms that the statements use: the canonical form of the stores, which registers a command may move beside its
own, and what it is for a request, a leaf, a mailbox command or an SPDM request to be admitted and answered. -/

namespace Sys2Proof.Machine

/-! ## The stores -/

/-- A map lists its quires in rising order, and none at the entry that it would have unlisted. -/
def mapWf (spans : List Span) (map : Tab (BitVec 32)) : Bool :=
  Tab.rising none map && map.all (fun p => p.2 != unlistedEntry spans p.1)

/-- The stores of the module are in their canonical form: keys strictly rising, no key listed at the value that an unlisted one reads
as, and the label storage area within its 131,072 bytes (R103). Register fields and segments have several defaults, ways and
stripes are listed only where they are, so of these only the keys' order is asked. There are four packages (R18), sixteen bulk slots
(R365) and two passwords to each zone of the quire store (R509). -/
def State.canonical (s : State) : Bool :=
  Tab.rising none s.regs && (Tab.wf 0 s.lsa && s.lsa.all (fun p => p.1 < 131072)) && Tab.wf 0 s.qst.bytes &&
    s.qst.readPw.length == 3 && s.qst.writePw.length == 3 && mapWf s.mapping.unlisted s.mapping.map &&
    s.mapping.rounds.all (fun r => mapWf r.unlisted r.map) && Tab.rising none s.mapping.segs &&
    Tab.rising none s.media.images && Tab.rising none s.path.ways && s.dram.length == 4 && s.bulk.length == 16

/-! ## Registers -/

/-- What any command may move beside its own registers: the fixed counters of R476 with their overflow bits, and the sources that
assert with the groups they count in (R108). -/
def bookFields : List Field :=
  [Reg.TLY_FIXED.COUNT, Reg.TLY_OVF_FIXED.BITS, Reg.LNK_SRC_ROUTE.ASSERTED, Reg.LNK_AGG_CTRL.PENDING]

/-- What a Ream record may move besides: its drops, the readers' gaps, cursors and marks, the mirror's replacements, and the page
writes of the quire store (R494 to R500, R505). -/
def reamFields : List Field :=
  [Reg.REAM_DROP.DROPPED, Reg.REAM_DROP.SUPPRESSED, Reg.REAM_GAP.GAP, Reg.REAM_GAP.LOST, Reg.REAM_CURSOR.SEQ, Reg.REAM_MARK.SEQ,
   Reg.REAM_MIRROR.REPLACED, Reg.QST_WRITES.PAGES, Reg.QST_WEAR.MAX, Reg.QST_WEAR.PAGE]

/-- What taking a leaf and replying to it moves (R402, R411). -/
def leafFields : List Field :=
  [Reg.CQ_STAT_LEAVES.COUNT, Reg.CQ_INPUT.LEAVES, Reg.CQ_RR.NEXT, Reg.CQ_LAST.OPCODE, Reg.CQ_LAST.STATUS, Reg.CQ_LAST.INPUT,
   Reg.CQ_LAST.TAG, Reg.CQ_STAT_OWN.SUPERSEDED]

/-- What refusing a leaf moves besides (R411). -/
def refusalFields : List Field := [Reg.CQ_STAT_ERR.BAD_CRC, Reg.CQ_STAT_ERR.LENGTH, Reg.CQ_STAT_OWN.OWNED]

/-- Every register field reads as before on both dies and at every index, but for the fields listed and `bookFields`. A field is
known by its number. -/
def State.regsBut (s t : State) (l : List Field) : Prop :=
  ∀ b, ∀ f ∈ fieldsOf b, (l ++ bookFields).all (fun g => g.num != f.num) = true → ∀ d i, t.rd f d i = s.rd f d i

/-- t is s but for its registers, its heads and what the platform manager is to be told. -/
def State.counted (s t : State) : Prop := t = { s with regs := t.regs, heads := t.heads, pm := t.pm }

/-- Whatever a head holds but its groups' counts of pending assertions and its vectors' pending bits (R108). -/
def Head.sameBut (a b : Head) : Prop := b = { a with aggCount := b.aggCount, msixPending := b.msixPending }

/-- Both heads hold what they held, but for their groups' counts and their vectors' pending bits. -/
def State.sameHeads (s t : State) : Prop := ∀ h, (s.heads.get h).sameBut (t.heads.get h)

/-- What the platform manager's side holds but the sources it is to be told. -/
def State.samePm (s t : State) : Prop := t.pm = { s.pm with pending := t.pm.pending }

/-- t is s but for counters and indications: nothing else in the state moves, and of the registers `l` and `bookFields`. -/
def State.booked (s t : State) (l : List Field) : Prop :=
  s.counted t ∧ s.sameHeads t ∧ s.samePm t ∧ s.regsBut t l

/-- A message that is an interrupt vector. -/
def Out.isVector : Out → Bool
  | .msix _ _ => true
  | _ => false

/-- From s to t one message more has been sent beside interrupt vectors. -/
def State.says (s t : State) (o : Out) : Prop :=
  t.out.filter (fun x => !x.isVector) = o :: s.out.filter (fun x => !x.isVector)

/-- t is s but for counters and indications, and one message more. -/
def State.sent (s t : State) (o : Out) : Prop :=
  s.says t o ∧ t = { s with regs := t.regs, heads := t.heads, pm := t.pm, out := t.out } ∧
    s.sameHeads t ∧ s.samePm t ∧ s.regsBut t []

/-- A mailbox command has been answered, and nothing else moves but counters, indications and the interrupt enables that the command came
with (R98). -/
def State.mailed (s t : State) (m : Mbox) (op rc : Nat) (b : Body) : Prop :=
  s.says t (.mailbox m.head m.secondary op rc b) ∧ t = { s with regs := t.regs, heads := t.heads, pm := t.pm, out := t.out } ∧
    (∀ h, t.heads.get h = { s.heads.get h with
      aggCount := (t.heads.get h).aggCount, msixPending := (t.heads.get h).msixPending
      dbInt := (t.heads.get h).dbInt, bgInt := (t.heads.get h).bgInt }) ∧
    s.samePm t ∧ s.regsBut t []

/-- From s to t no data has moved: the Caddy's ways and staging, the map, what media hold, the label storage and the key slots. -/
def State.dataKept (s t : State) : Prop :=
  t.path.ways = s.path.ways ∧ t.path.staged = s.path.staged ∧ t.mapping.map = s.mapping.map ∧ t.mapping.unlisted = s.mapping.unlisted ∧
    t.mapping.walks = s.mapping.walks ∧ t.media.images = s.media.images ∧ t.lsa = s.lsa ∧ t.sec.seeds = s.sec.seeds

/-! ## Requests -/

/-- A request meets no lost metadata and no bad LPDDR5X data (R203, R269 to R271); ties and late reads are free. -/
def clearEnv (env : PathEnv) : Bool := env.map != .lost && env.tags != .lost && !env.dataBad

/-! ## Mailbox commands, SPDM and leaves -/

/-- A mailbox command reaches its effect (R98, R99, R114). -/
def State.mailServed (s : State) (m : Mbox) (op : Nat) : Bool :=
  s.ioUp m.head && (s.ctl.mode != .m10 || haltCommands.contains op) && !s.mailRefused m op

/-- An SPDM request reaches its effect (R93, R351): the transport carries SPDM. -/
def State.spdmServed (s : State) (t : Fin 3) : Bool := s.spdmUp t

/-- The state in which a leaf that comes alone has been taken (R391 to R393, R402): through its adapter, and counted at the merge stage of
its die and, where that forwards it, of die 0. -/
def State.takeLeaf (s : State) (row : LeafRow) (h : LeafHdr) (p : List Byte) : State :=
  let u := (s.adapter row h p).1
  let v := ({ u with presented := [] }).countTaken (cqInput h.transport).1 (cqInput h.transport).2
  if runsOn row.wide h.transport = cqInput h.transport then v else v.countTaken 0 4

/-- A leaf comes alone and is taken to run at once (R391 to R393, R399, R402, R405): its adapter presents it, no other input presents one in
the same cycle, no Quiesce holds it and its interpreter runs. -/
def State.arrives (s : State) (i : Instr) (row : LeafRow) (h : LeafHdr) (p : List Byte) : Bool :=
  (s.adapter row h p).2 && s.presented.isEmpty && !s.tiedLeaf i && s.ctl.mode != .m7 &&
    (s.takeLeaf row h p).roleWorks (44 + (runsOn row.wide h.transport).1)

/-- A leaf is taken, and nothing in its header, its length or the mode refuses it (R405). -/
def State.admits (s : State) (i : Instr) (row : LeafRow) (h : LeafHdr) (p : List Byte) : Bool :=
  s.arrives i row h p && (s.takeLeaf row h p).leafGate row h p == stOk

/-- The request of an admitted leaf. -/
def LeafRow.req (row : LeafRow) (h : LeafHdr) : Req := reqOf row h false true

/-- The queues' BUSY is judged anew once a leaf has run (R400). -/
def State.settleBusy (s : State) : State := (s.showBusy 0).showBusy 1

/-- From s to t one reply has been sent and, beside interrupt vectors, nothing else: in band as a message, out of band among the replies
that the platform manager has yet to read (R389, R393). -/
def State.replied (s t : State) (r : Req) (status : Nat) (payload : List Byte) : Prop :=
  if r.transport < 6 then
    s.says t (.leaf (r.leaf status payload)) ∧ t.pm.unread = s.pm.unread
  else t.out.filter (fun o => !o.isVector) = s.out.filter (fun o => !o.isVector) ∧ t.pm.unread = s.pm.unread ++ [r.leaf status payload]

/-- An admitted leaf of a row answers a next state: in the state in which it has been taken it has an effect, where `may` holds of that
state, the request and the payload, and the queues' BUSY is judged anew. -/
def LeafRow.acts (row : LeafRow) (leaf : LeafHdr → List Byte → Instr) (may : State → Req → List Byte → Prop)
    (effect : State → Req → List Byte → State) : Prop :=
  ∀ s h p, s.admits (leaf h p) row h p = true → may (s.takeLeaf row h p) (row.req h) p →
    exec (leaf h p) s = .next (effect (s.takeLeaf row h p) (row.req h) p).settleBusy

end Sys2Proof.Machine
end

