-- ==== Sys2Proof/Certificates/Slice0/Obligations.lean ====
section
/-! DEFINITION. The statements for the provers. Each docstring names the rules a statement formalises, or says that it is the model's
own. A command's statement says in its conclusion that it answers a next state, and what that state holds: an operation of the model
applied to the state and the operands, and what that operation does and leaves. -/

open Sys2Proof Sys2Proof.Machine

/-! ## The block -/

/-- A step runs the command at the front of the queue with the queue's rest, and idles on an empty queue (log entry 2: the queue and
idling are the model's own). -/
def Obligations.StepRunsFrontCommand : Prop :=
  (∀ (s : State) (c : Instr) (rest : List Instr), s.pending = c :: rest → step s = exec c { s with pending := rest }) ∧
  (∀ s : State, s.pending = [] → step s = .next s.idle)

/-- Every step keeps the stores in their canonical form: keys strictly rising, no listed key at the value an unlisted one reads as, and
the label storage area within 131,072 bytes (R103). -/
def Obligations.StepKeepsCanonicalForm : Prop :=
  ∀ s t : State, s.canonical = true → step s = .next t → t.canonical = true

/-- The module as shipped: every quire is unmapped (R57), key slot 0 is ACTIVE (R346), and the operator zone of the quire store reads
zero (R504). It is the model's choice that it lies in M0 with nothing waiting, that every other slot is EMPTY, that the used pages after
the operator zone read zero and that no decoder is committed (log entries 1 and 2), and that every MSI-X vector is masked (log entry
74). The module as shipped has its stores in their canonical form. -/
def Obligations.ResetState : Prop :=
  (State.reset.ctl.mode = .m0 ∧ State.reset.pending = [] ∧
  (∀ q, State.reset.entry q = 0) ∧
  (∀ h, (State.reset.heads.get h).decoders = List.replicate 4 Decoder.idle ∧
    (State.reset.heads.get h).msixMasked = BitVec.allOnes 32) ∧
  State.reset.slotState 0 = 1 ∧ (∀ k, 1 ≤ k → State.reset.slotState k = 0) ∧
  (∀ page o, 256 ≤ page → State.reset.qstByte page o = 0)) ∧
  (State.reset.canonical = true)

/-- Every command answers a next state in every state, well formed or not: none of them stops the module (log entry 6). No command
touches the queue of waiting commands: it is the step's alone. No command takes back what has been sent, and none reads an open value a
second time (log entry 13). -/
def Obligations.CommandsAnswerAndKeepTheQueue : Prop :=
  (∀ (i : Instr) (s : State), ∃ t, exec i s = .next t) ∧
  (∀ (i : Instr) (s t : State), exec i s = .next t → t.pending = s.pending ∧ s.out <:+ t.out ∧ s.free ≤ t.free)

/-! ## Where quires and lines lie -/

/-- R33: the channel of a quire is the exclusive or of its 5-bit groups, the last one of 4 bits under a zero. -/
def Obligations.ChannelOfQuire : Prop :=
  ∀ q : BitVec 34,
    chanOf q.toNat = (q.extractLsb' 0 5 ^^^ q.extractLsb' 5 5 ^^^ q.extractLsb' 10 5 ^^^ q.extractLsb' 15 5 ^^^
      q.extractLsb' 20 5 ^^^ q.extractLsb' 25 5 ^^^ (q.extractLsb' 30 4).setWidth 5).toNat

/-- R34: channel and within-channel index name a quire and no other, so every channel holds 402,653,184 user quires. -/
def Obligations.ChannelAndIndexNameQuire : Prop :=
  (∀ q < 2 ^ 34, chanOf q < 32 ∧ q % 32 = chanOf q ^^^ fold5 (q / 32) ∧ quireAt (chanOf q) (indexOf q) = q) ∧
  (∀ q < 12884901888, indexOf q < 402653184) ∧
  (∀ c < 32, ∀ i < 402653184,
    quireAt c i < 12884901888 ∧ chanOf (quireAt c i) = c ∧ indexOf (quireAt c i) = i)

/-- Where a package's bytes lie (R224, R225). Of each group of 512 physical bytes the first 448 hold data, so that every data unit has
one physical address and none of them is unit 7; a physical address has one channel, bank, rank and row, and these name its row. With
both packages in service and after a loss the areas follow one another without a gap up to 56 GiB, and the last GiB is the remap area. The
rule's example reads as it says. -/
def Obligations.DramAddressesAreOneToOne : Prop :=
  (∀ a, logicalOf (physOf a) = some a ∧ unitOf (physOf a) < 7) ∧
  (∀ p a, logicalOf p = some a → physOf a = p) ∧
  (∀ p < 68719476736, physAt (dramChannel p) (dramRank p) (dramBank p) (dramRow p) (p % 2048) = p) ∧
  (∀ p q, p < 68719476736 → q < 68719476736 → p % 2048 = q % 2048 → rowOfPhys p = rowOfPhys q → p = q) ∧
  (∀ both : Bool,
    [DramArea.map, .caddy, .tags, .tree, .engine, .staging, .reserve].IsChain (fun x y => x.base both + x.size both = y.base both) ∧
    DramArea.map.base both = 0 ∧ DramArea.reserve.base both + DramArea.reserve.size both = 56 * 1073741824 ∧
    DramArea.reserve.base both ≤ DramArea.remap.base both ∧ DramArea.remap.base both = 55 * 1073741824 ∧
    DramArea.remap.size both = 1073741824) ∧
  (physOf 47855482560 = 54691980032 ∧ unitOf 54691980032 = 4 ∧ dramChannel 54691980032 = 4 ∧ dramBank 54691980032 = 5 ∧
    dramRank 54691980032 = 1 ∧ dramRow 54691980032 = 104316)

/-! ## Reads and writes of the host -/

/-- A read that has its credit, and that meets no other request of its line in its cycle, is answered from where its line lies: from the
Caddy, with zeros where the quire is unmapped (R57), with poison where it is lost, and otherwise by a planned media read that holds its
tag (R190, R204). One that no decoder maps is answered with poison (R92), and one of a lost channel too (R287). It uses its credit (R87) and
changes no data: every line is found as before. Map, media, quire store, label storage and key store stay as they were. -/
def Obligations.HostReadIsAnswered : Prop :=
  ∀ (s : State) (head : Fin 2) (tag : BitVec 16) (hpa : Nat) (env : PathEnv),
    s.path.tied = none → env.tie = false → (s.grant head).takes ⟨head, hpa, false, env⟩ = true → clearEnv env = true →
    ∃ t, exec (.memrd head tag hpa env) s = .next t ∧ t = (s.grant head).admitRead head tag hpa env false ∧
      (∀ l, t.find l = s.find l) ∧ t.mapping.map = s.mapping.map ∧ t.media.images = s.media.images ∧ t.qst = s.qst ∧ t.lsa = s.lsa ∧
      t.sec = s.sec ∧ t.bulk = s.bulk ∧ t.ctl = { s.ctl with lastMem := t.ctl.lastMem } ∧
      (t.path.credits.get head).rd + 1 = ((s.grant head).path.credits.get head).rd ∧
      (s.lineOf head hpa = none → t.out = .memData head tag none :: s.out) ∧
      (∀ line, s.lineOf head hpa = some line → s.chanLost (chanOf (line / 16)) = true → t.out = .memData head tag none :: s.out) ∧
      (∀ line, s.lineOf head hpa = some line → s.chanLost (chanOf (line / 16)) = false → s.ctl.mode ≠ .m10 →
        match s.find line with
        | .caddy data poison => t.out = .memData head tag (if poison then none else some data) :: s.out
        | .zeros => t.out = .memData head tag (some 0) :: s.out
        | .poison => t.out = .memData head tag none :: s.out
        | .media => t.out = s.out ∧ ∃ p ∈ t.path.plans, ∃ r ∈ p.readers, r.head = head ∧ r.tag = tag ∧ r.line = line)

/-- In Halt every read that a decoder maps returns poison, and every write completes and is discarded (R73); it uses its credit, and
nothing else of the Caddy, the map or the media moves. A speculative read gets no response (R184): it queues a background read where its
quire misses the Caddy and lies on media, and none where it does not, and every line is found as before. -/
def Obligations.ReadsWithoutData : Prop :=
  (∀ (s : State) (head : Fin 2) (tag : BitVec 16) (hpa line : Nat) (data : Line) (be : ByteEnables) (poison : Bool) (env : PathEnv),
    s.path.tied = none → env.tie = false → s.ctl.mode = .m10 → s.lineOf head hpa = some line →
    ((s.grant head).takes ⟨head, hpa, false, env⟩ = true → ∃ t, exec (.memrd head tag hpa env) s = .next t ∧
      t.out = .memData head tag none :: s.out ∧ t.path = { s.path with credits := t.path.credits } ∧ t.mapping = s.mapping ∧
      t.media = s.media) ∧
    ((s.grant head).takes ⟨head, hpa, true, env⟩ = true →
      (∃ t, exec (.memwr head tag hpa data poison env) s = .next t ∧ t.out = .memDone head tag :: s.out ∧
        t.path = { s.path with credits := t.path.credits } ∧ t.mapping = s.mapping ∧ t.media = s.media) ∧
      (∃ t, exec (.memwrptl head tag hpa data be poison env) s = .next t ∧ t.out = .memDone head tag :: s.out ∧
        t.path = { s.path with credits := t.path.credits } ∧ t.mapping = s.mapping ∧ t.media = s.media))) ∧
  (∀ (s : State) (head : Fin 2) (hpa line : Nat) (env : PathEnv),
    s.inService = true → s.memLink head = true → clearEnv env = true → s.lineOf head hpa = some line →
    s.chanLost (chanOf (line / 16)) = false →
    ∃ t, exec (.memspecrd head hpa env) s = .next t ∧ t.out = s.out ∧ (∀ l, t.find l = s.find l) ∧
      t.mapping.map = s.mapping.map ∧ t.media.images = s.media.images ∧
      (if (s.wayOf (line / 16)).isNone && (s.stagedOf (line / 16)).isEmpty && onMedia (s.entry (line / 16)) then
        t.path.plans.length = s.path.plans.length + 1 ∧
          ∃ p ∈ t.path.plans, p.id = s.path.nextPlan ∧ p.purpose = .background ∧ p.quire = line / 16 ∧ p.sheet = line % 16 / 4 ∧
            p.readers = []
      else t.path.plans = s.path.plans)) ∧
  (∀ (s : State) (head : Fin 2) (hpa : Nat) (env : PathEnv),
    s.inService = false ∨ s.memLink head = false ∨ s.lineOf head hpa = none → exec (.memspecrd head hpa env) s = .next s)

/-- A full or partial write that has its credit, and meets no other request of its line in its cycle, completes, newest of all that has
been sent, outside Write-through (R198, R207); so does one that no decoder maps (R92) and one of a lost channel (R287), and these leave
the Caddy, the map and the media as they were. -/
def Obligations.HostWriteCompletes : Prop :=
  ∀ (s : State) (head : Fin 2) (tag : BitVec 16) (hpa : Nat) (data : Line) (be : ByteEnables) (poison : Bool) (env : PathEnv),
    s.path.tied = none → env.tie = false → (s.grant head).takes ⟨head, hpa, true, env⟩ = true → clearEnv env = true →
    s.ctl.writeThrough = false →
    ∃ t u, exec (.memwr head tag hpa data poison env) s = .next t ∧ exec (.memwrptl head tag hpa data be poison env) s = .next u ∧
      t = (s.grant head).admitWrite head tag hpa data (BitVec.allOnes 64) true poison env false ∧
      u = (s.grant head).admitWrite head tag hpa data be false poison env false ∧
      t.out.head? = some (.memDone head tag) ∧ u.out.head? = some (.memDone head tag) ∧
      (s.lineOf head hpa = none ∨ (∃ line, s.lineOf head hpa = some line ∧ s.chanLost (chanOf (line / 16)) = true) →
        t.out = .memDone head tag :: s.out ∧ u.out = .memDone head tag :: s.out ∧
        t.path = { s.path with credits := t.path.credits } ∧ u.path = { s.path with credits := u.path.credits } ∧
        t.mapping = s.mapping ∧ u.mapping = s.mapping ∧ t.media = s.media ∧ u.media = s.media)

/-- A line written whole is what the next lookup of it finds, poisoned where the write was, outside Write-through and Read-only (R198, R204);
the set has a way for it, so that nothing is evicted, and no walk has yet to reach its quire. The line's way is dirty. No other quire's
lines, no map entry and no media move. -/
def Obligations.FullWriteReadsBack : Prop :=
  ∀ (s : State) (head : Fin 2) (tag : BitVec 16) (hpa line : Nat) (data : Line) (poison : Bool) (env : PathEnv),
    s.path.tied = none → env.tie = false → (s.grant head).takes ⟨head, hpa, true, env⟩ = true → clearEnv env = true →
    s.ctl.writeThrough = false → s.ctl.readOnly = false → s.ctl.mode ≠ .m10 → s.lineOf head hpa = some line →
    s.chanLost (chanOf (line / 16)) = false → s.sweepAhead (line / 16) = false → (s.dirtyWays (line / 16)).length < 6 →
    ((s.wayOf (line / 16)).isSome = true ∨ (s.freeWay (line / 16)).isSome = true) →
    ∃ t, exec (.memwr head tag hpa data poison env) s = .next t ∧
      t.find line = .caddy (if poison then 1 else data) poison ∧
      (∃ w, t.wayOf (line / 16) = some w ∧ w.2.dirty = true ∧ w.2.age = 0) ∧
      t.media = s.media ∧ t.lsa = s.lsa ∧ t.mapping.map = s.mapping.map ∧ t.path.staged = s.path.staged

/-- Two requests that the two inputs of a LOT present for one line in one cycle: the one on the input that LOT_RR favours is admitted first,
the other right after it, and the pointer passes to the other input (R55, R186). The first of the two commands to run is the request i;
it waits for j, which stands behind it, where j's input is favoured. -/
def Obligations.TiesAlternate : Prop :=
  (∀ (i j : Instr) (s : State) (r : Request) (rest : List Instr), requestOf i = some r → s.path.tied = none → s.pending = j :: rest →
    r.env.tie = true → s.sameCycle i j = true →
    (s.rd Reg.LOT_RR.NEXT (s.lotOf i) 0 = s.inputOf i → ∃ t, exec i s = .next t ∧
      t = { (s.passTie i).letIn i false with path := { ((s.passTie i).letIn i false).path with tied := some (i, true) } }) ∧
    (s.rd Reg.LOT_RR.NEXT (s.lotOf i) 0 ≠ s.inputOf i → exec i s = .next { s with path := { s.path with tied := some (i, false) } })) ∧
  (∀ (i j : Instr) (s u : State) (r : Request) (ran : Bool), requestOf j = some r → s.path.tied = some (i, ran) →
    u = { s with path := { s.path with tied := none } } → u.sameCycle i j = true →
    exec j s = .next (if ran then (u.forwards i j).letIn j true
      else (((u.passTie j).letIn j false).forwards j i).letIn i true)) ∧
  (∀ (i : Instr) (s : State), (s.passTie i).rd Reg.LOT_RR.NEXT (s.lotOf i) 0 = 1 - s.inputOf i ∧
    s.regsBut (s.passTie i) [Reg.LOT_RR.NEXT] ∧ s.passTie i = { s with regs := (s.passTie i).regs })

/-- A planned frame read that decodes clean answers every reader that waits on it, with poison where the sheet's mask has the line, and
ends (R195); its tag failing leads to Halt (R343). A READ whose die has not answered in 850 ns is a frame that failed to decode (R194): a
background read is given up, and a host read goes to deep recovery, which answers its readers at the step it ends at, with poison where
it gives the sheet up (R197). A die resumes a suspended bank by itself (R134): that bank is suspended no more, and nothing else moves. -/
def Obligations.PlannedReadsEnd : Prop :=
  (∀ (s : State) (p : Plan) (o : ReadOutcome), s.path.plans.find? (fun x => x.id == p.id && x.issued) = some p →
    exec (.mediaReadReady p.id o) s = .next (s.planDone p o)) ∧
  (∀ (s : State) (p : Plan) (bits : Fin 21) (deep : DeepOutcome) (ns : Nat), s.written p = true →
    (p.around = false ∨ bits.val = 0 →
      (s.planDone p ⟨.clean bits, deep, ns⟩).out = (p.readers.map p.answer).reverse ++ s.out ∧
      (s.planDone p ⟨.clean bits, deep, ns⟩).path.plans.all (fun x => x.id != p.id) = true ∧
      (s.planDone p ⟨.clean bits, deep, ns⟩).mapping = s.mapping ∧
      (s.planDone p ⟨.clean bits, deep, ns⟩).media.images = s.media.images) ∧
    (s.planDone p ⟨.tagBad, deep, ns⟩).ctl.mode = .m10) ∧
  (∀ (s : State) (p : Plan) (member : Fin 9) (deep : DeepOutcome) (ns m : Nat),
    s.path.plans.find? (fun x => x.id == p.id && x.issued) = some p →
    m = (if p.around then member.val else memberOfSheet p.stripe p.half p.sheet) →
    exec (.mediaReadTimeout p.id member deep ns) s =
      .next (((s.readTimeout (chanOf p.quire) m).tallyC (chanOf p.quire) 9 1).planFailed p m true
        (if s.written p then deep else .gaveUp) ns)) ∧
  (∀ (s : State) (p : Plan) (m ns : Nat) (reissue : Bool) (deep : DeepOutcome), p ∈ s.path.plans →
    (p.purpose = .background → s.planFailed p m reissue deep ns = s.endPlan p ∧ (s.endPlan p).out = s.out ∧
      (s.endPlan p).path.plans.all (fun x => x.id != p.id) = true) ∧
    (p.purpose = .host → s.planFailed p m reissue deep ns = s.deepRecovery p m reissue deep ns ∧
      (deep ≠ .gaveUp → deep ≠ .tagBad → ∃ l, (s.deepRecovery p m reissue deep ns).out = l ++ (p.readers.map p.answer).reverse ++ s.out) ∧
      (deep = .gaveUp → s.current p = true → ∃ l, (s.deepRecovery p m reissue deep ns).out =
        (p.readers.map (fun r => Out.memData r.head r.tag none)).reverse ++ l))) ∧
  (∀ (s : State) (die : Fin 320) (bank : Fin 1024),
    ∃ t, exec (.dieSelfResume die bank) s = .next t ∧
      t = { s with media := { s.media with suspended := t.media.suspended } } ∧
      (∀ k, k ∈ t.media.suspended ↔ k ∈ s.media.suspended ∧ k ≠ die.val * 1024 + bank.val))

/-! ## Eviction, stripes and segments -/

/-- The sweep pointer of a die in service moves to the next set, and after the last one to set 0 (R213), and leaves the other die's;
idle eviction brings the die down to its floor of the limit where CDY_CFG.IDLE_MS is not 0 (R214). Over half the partial-line table in
use, a background merge completes the line with the oldest entry from its sheet, or from zeros, and frees the entry (R208). A deferred
merge supplies the lines of its staging entry from what the media reads gave (R199); a failed tag among them leads to Halt (R343). -/
def Obligations.EvictionsAndMergesRun : Prop :=
  (∀ (s : State) (die : Fin 2), s.inService = true →
    ∃ t, exec (.evictionSweep die) s = .next t ∧
      t.path.sweep.get die = (if s.path.sweep.get die + 1 ≥ s.sets die then 0 else s.path.sweep.get die + 1) ∧
      t.path.sweep.get (1 - die.val) = s.path.sweep.get (1 - die.val)) ∧
  (∀ (s : State) (die : Fin 2), s.inService = true → s.rd Reg.CDY_CFG.IDLE_MS 0 0 ≠ 0 →
    exec (.idleEviction die) s =
      .next (s.evictDown die (min 100 (s.rd Reg.CDY_CFG.IDLE_FLOOR 0 0) * s.rd Reg.CDY_DIRTY_LIMIT.BLOCKS die 0 / 100))) ∧
  (∀ (s : State) (die : Fin 2), s.rd Reg.CDY_CFG.IDLE_MS 0 0 = 0 → exec (.idleEviction die) s = .next s) ∧
  (∀ (s : State) (die : Fin 2) (q k w : Nat) (x : Way) (sheet : Sheet),
    s.inService = true → s.partialUsed die > 16384 →
    s.path.partials.find? (fun p => ownerOf p.1 == die.val &&
      (match s.wayOf p.1 with | some w => w.2.blk.isPart p.2 | none => false)) = some (q, k) →
    s.wayOf q = some (w, x) →
    sheet = (if onMedia (s.entry q) then (s.halfAt q (s.entry q)).sheet (k / 4)
      else if entryState (s.entry q) = 0 then Sheet.zero else Sheet.lost) →
    (∃ t, exec (.partialMerge die .good) s = .next t ∧
      t.path.partials = removeFirst (q, k) s.path.partials ∧
      t.path.ways = s.path.ways.ins (wayKey (ownerOf q) (s.setOf q) w)
        { x with blk := x.blk.fillLine k (sheet.line (k % 4)) (sheet.poison.getLsbD (k % 4)) (sheet.host.getLsbD (k % 4)) } ∧
      t.path.staged = s.path.staged ∧ t.mapping = s.mapping ∧ t.media = s.media ∧ t.out = s.out) ∧
    (∃ t, exec (.partialMerge die .tagBad) s = .next t ∧ t.ctl.mode = .m10)) ∧
  (∀ (s : State) (e : Staged) (sheets : List SheetOutcome),
    s.path.staged.find? (fun x => x.id == e.id && x.merging) = some e → s.ctl.mode ≠ .m10 →
    (sheets.contains .tagBad = false → exec (.deferredMerge e.id sheets) s = .next (s.mergeStaged e sheets)) ∧
    (sheets.contains .tagBad = true → ∃ t, exec (.deferredMerge e.id sheets) s = .next t ∧ t.ctl.mode = .m10))

/-- A half that has waited 20 µs goes into a stripe with a pad (R159). The programs of a stripe end on their dies: with every one OK the
stripe is complete, and otherwise its quires are written again (R150, R160). A die that reports CMD_CRC has its PROGRAM issued again, and
the stripe stays in program (R132). A complete stripe is on media, and in Halt nothing else changes with it (R344). -/
def Obligations.StripesEnd : Prop :=
  (∀ (s : State) (channel : Fin 32) (stream : Fin 3), s.running = true →
    exec (.stripeWaitExpiry channel stream) s = .next (s.flushHalf channel stream)) ∧
  (∀ (s : State) (c k : Nat) (h : Half), s.media.waiting.find? (3 * c + k) = some h → s.mapping.walks = [] →
    s.flushHalf c k = ({ s with media := { s.media with waiting := s.media.waiting.del (3 * c + k) } } : State).assemble c k (some h)
      none false) ∧
  (∀ (s : State) (channel : Fin 32) (segment : Fin 65536) (x : Stripe) (pulses : List Nat),
    s.media.inProgram.find? (fun x => x.channel == channel.val && x.segment == segment.val) = some x →
    s.roleWorks (ceOf channel) = true → s.roleWorks (meOf channel) = true →
    (let ends := (s.programsOf x).map (fun p => s.programStatus p.2.1 segment x.index (pulses[p.1]?.getD 1) p.2.2)
     exec (.stripeComplete channel segment ⟨pulses, []⟩) s = .next (
       if ends.all (fun e => e == .ok) then (s.programsEnd x pulses).stripeDone x
       else ((((s.programsEnd x pulses).bumpC Reg.MED_CHAN.PROG_FAIL channel (ends.filter (fun e => e == .progFail)).length).rewrite
         x).issue channel))) ∧
    (∀ m : Fin 9, (s.programsOf x).any (fun p => p.1 == m.val) = true →
      exec (.stripeComplete channel segment ⟨pulses, [m]⟩) s = .next ((s.cmdCrc channel m segment).issue channel))) ∧
  (∀ (s : State) (x : Stripe), s.ctl.mode = .m10 →
    ∃ t, t = s.stripeDone x ∧ t.media.images.find? (stripeKey x.channel x.segment x.index) = some x ∧
      t.media.inProgram = removeFirst x s.media.inProgram ∧
      t.mapping = { s.mapping with summaries := t.mapping.summaries } ∧ t.path = s.path ∧ t.out = s.out ∧ t.regs = s.regs)

/-- A whole steep whose dies all end in time leaves its segment FREE, empty and with no stripe on media (R157, R165), and the channel then
issues what waits. A tile whose steep fails is redirected to a spare or retires its segment (R126, R128). A segment that has been open for
its time is shut with what it has, and gets its summary block (R161); one that reaches 80 % of its sizing limit is DUE (R171), and no other
segment's entry moves. A pulp pass begins on the segment that the order of R166 picks; a channel that has written nothing for its time
writes its probe stripes, in Doze below D1 at the next service wake (R144). The engines that do this work hold it back while they reset
(R471). -/
def Obligations.SegmentsMoveOn : Prop :=
  (∀ (s : State) (channel : Fin 32) (segment : Fin 65536) (us : List Nat) (x : Steep) (on : List (Nat × Nat × Nat)) (u : State),
    s.steepAt channel segment = some x → s.roleWorks (ceOf channel) = true →
    on = (s.serving channel).filter (fun p => x.dies.any (fun y => y.1 == p.2.1)) →
    u = on.foldl (fun s p => s.steepDie p.2.1 segment (us[p.1]?.getD 1500)) (s.clearSuspends channel segment) →
    (on.all (fun p => decide (us[p.1]?.getD 1500 ≤ 2500)) = true →
      exec (.steepDone channel segment ⟨us, []⟩) s = .next (u.steepEnds x)) ∧
    (x.member = none → u.steepEnds x = ((u.steeped x).eraseSteeped x.channel x.segment).issue x.channel)) ∧
  (∀ (s : State) (x : Steep),
    ((s.steeped x).seg x.channel x.segment).state = .free ∧ ((s.steeped x).seg x.channel x.segment).live = 0 ∧
    ((s.steeped x).seg x.channel x.segment).filled = 0 ∧ ((s.steeped x).seg x.channel x.segment).gen = (s.seg x.channel x.segment).gen ∧
    ∀ f < 4096, (s.steeped x).media.images.find? (stripeKey x.channel x.segment f) = none) ∧
  (∀ (s : State) (channel : Fin 32) (segment : Fin 65536), s.running = true → (s.seg channel segment).state = .opened →
    (s.seg channel segment).filled > 0 →
    exec (.segmentOpenTimeout channel segment) s = .next ((s.shutSeg channel segment).sumSeg channel segment) ∧
    (∃ t, t = s.shutSeg channel segment ∧ t.seg channel segment = { s.seg channel segment with state := .closed } ∧
      t.media.images = s.media.images ∧ t.mapping.map = s.mapping.map ∧ t.path = s.path ∧ t.out = s.out)) ∧
  (∀ (s : State) (channel : Fin 32) (segment : Fin 65536), s.running = true → s.roleWorks (40 + channel / 16) = true →
    (s.seg channel segment).state = .closed →
    ∃ t, exec (.sizingDue channel segment) s = .next t ∧ t.seg channel segment = { s.seg channel segment with due := true } ∧
      (∀ c k, segKey c k ≠ segKey channel segment → t.seg c k = s.seg c k) ∧ s.dataKept t ∧ t.media = s.media ∧ t.ctl = s.ctl ∧
      t.out = s.out) ∧
  (∀ (s : State) (channel : Fin 32) (lost : List (Nat × Nat)) (g : Nat), s.inService = true → s.roleWorks (42 + channel / 16) = true →
    s.victim channel = some g → exec (.pulpPassStart channel lost) s = .next (s.pulpPass channel g lost)) ∧
  (∀ (s : State) (channel : Fin 32), s.inService = true →
    (s.ctl.mode = .m6 → 2 ≤ s.reg Reg.MOD_STATUS.DOZE → exec (.probeStripes channel) s =
      .next { s with media := { s.media with probeDue := s.media.probeDue ||| (1#32 <<< channel.val) } }) ∧
    (s.ctl.mode = .m5 ∨ s.reg Reg.MOD_STATUS.DOZE < 2 → exec (.probeStripes channel) s = .next (s.probe channel))) ∧
  (∀ (s : State) (c : Nat), s.chanLost c = true → s.probe c = s)

/-! ## Journal, checkpoints and verification -/

/-- A journal page is issued, with its place in the ring, and then programmed, in order (R173, R174): nothing is dropped on the way, and
what a record releases is released once it is on media. A checkpoint round begins with the next number in the other area, once the last
has ended and a map change has applied, and ends with the map as it stands (log entry 79), the changed bits cleared, and a root slot of the
round on both dies (R172, R270, R341). -/
def Obligations.JournalAndRounds : Prop :=
  (∀ (s : State) (die : Fin 2), s.running = true → s.mapping.openPage.get die ≠ [] →
    ∃ t, exec (.journalPageFlush die) s = .next t ∧
      t.mapping.issued = s.mapping.issued ++ [s.mapping.openPage.get die] ∧ t.mapping.openPage.get die = [] ∧
      t.mapping.openPage.get (1 - die.val) = s.mapping.openPage.get (1 - die.val) ∧
      t.mapping.ringPos.get die = s.mapping.ringPos.get die + 4096 ∧
      t = { s with mapping := { s.mapping with
        openPage := t.mapping.openPage, issued := t.mapping.issued, ringPos := t.mapping.ringPos } }) ∧
  (∀ (s : State) (pg : List JRec) (rest : List (List JRec)), s.running = true → s.mapping.issued = pg :: rest →
    exec .journalPageProgrammed s = .next (pg.foldl (fun s r => s.recordDone r)
      (({ s with mapping := { s.mapping with issued := rest, ring := s.mapping.ring ++ pg } } : State).pageProgrammed pg))) ∧
  (∀ s : State, s.inService = true → s.mapping.ckpt = none → s.mapping.mapChanged = true →
    ∃ t, exec .ckptBegin s = .next t ∧
      t.rd Reg.MAP_CKPT.ROUND 0 0 = (s.rd Reg.MAP_CKPT.ROUND 0 0 + 1) % 4294967296 ∧
      t.rd Reg.MAP_CKPT.AREA 0 0 = (1 - s.rd Reg.MAP_CKPT.AREA 0 0) % 2 ∧
      (∃ rd, t.mapping.ckpt = some rd ∧ rd.num = t.rd Reg.MAP_CKPT.ROUND 0 0 ∧ rd.done = false ∧
        rd.fences = (List.range 32).map s.fence) ∧
      t.mapping.mapChanged = false ∧ s.dataKept t ∧ t.path = s.path ∧ t.media = s.media) ∧
  (∀ (s : State) (rd : Round), s.running = true → s.mapping.ckpt = some rd →
    ∃ t, exec .ckptEnd s = .next t ∧ t = s.ckptEnd rd ∧ t.mapping.ckpt = none ∧ t.mapping.changed = [] ∧
      t.mapping.rounds = ({ rd with
        map := s.mapping.map, unlisted := s.mapping.unlisted, segs := s.mapping.segs
        ctrs := s.mapping.ctrs, done := true } : Round) :: s.mapping.rounds.take 1 ∧
      (∀ d < 2, ((t.sec.roots.get d).head?.map RootSlot.kind) = some 2) ∧
      t.mapping.map = s.mapping.map ∧ t.path = s.path ∧ t.media.images = s.media.images)

/-- The patrol moves its channel's cursor to the segment it reads and acts on the stripe it finds there (R261, R263); the verification
scrub marks a stripe whose frame matches (R290); Scan Media reads the next quire of its range that lies on media, and ends after the last
(R266). A verified page is counted; a clean page that fails is a tamper and leads to Halt with cause 6, and a counter line that fails with
cause 5 (R343); a page whose code fails is served from its duplicate and never leads to Halt (R269). -/
def Obligations.ScrubbersAdvance : Prop :=
  ((∀ (s : State) (channel : Fin 32) (segment : Fin 65536) (stripe : Fin 4096) (frames : List ScrubFrame),
    s.inService = true → s.roleWorks (40 + channel / 16) = true → (s.seg channel segment).state.scrubbed = true →
    s.chanLost channel = false →
    (s.patrolAt channel segment).rdC Reg.PRT_SCRUB.CURSOR channel = segment.val ∧
    (s.media.images.find? (stripeKey channel segment stripe) = none →
      exec (.patrolScrubStripe channel segment stripe frames) s = .next (s.patrolAt channel segment)) ∧
    (∀ x, s.media.images.find? (stripeKey channel segment stripe) = some x →
      exec (.patrolScrubStripe channel segment stripe frames) s = .next ((s.patrolAt channel segment).scrub x frames))) ∧
  (∀ (s : State) (channel : Fin 32) (segment : Fin 65536) (stripe : Fin 4096), s.inService = true →
    s.roleWorks (40 + channel / 16) = true → s.chanState channel = 3 → (s.repairOf channel).old.contains segment.val = true →
    (∃ k ∈ (s.stripesOf channel segment).map Stripe.index, k ≠ stripe.val ∧
      (s.repairOf channel).verified.contains (stripeKey channel segment k) = false) →
    ∃ t, exec (.verificationScrubStripe channel segment stripe true) s = .next t ∧
      stripeKey channel segment stripe ∈ (t.repairOf channel).verified ∧
      t = { s with media := { s.media with repair := t.media.repair } }) ∧
  (∀ (s : State) (sc : Scan) (frames : List ScrubFrame), s.inService = true → s.mapping.scan = some sc → sc.running = true →
    (s.mapping.map.all (fun p => !(sc.next ≤ p.1 && p.1 < sc.hi && onMedia (s.entry p.1))) = true →
      exec (.scanMediaQuire frames) s = .next (s.scanEnd sc)) ∧
    (∀ (q : Nat) (e : BitVec 32) (x : Stripe) (u : State),
      List.find? (fun (p : Nat × BitVec 32) => decide (sc.next ≤ p.1) && decide (p.1 < sc.hi) && onMedia (s.entry p.1)) s.mapping.map =
        some (q, e) →
      u = { s with mapping := { s.mapping with scan := some { sc with next := q + 1 } } } →
      s.media.images.find? (stripeKey (chanOf q) (entrySegment (s.entry q)) (entryStripe (s.entry q))) = some x →
      exec (.scanMediaQuire frames) s = .next (if s.chanLost (chanOf q) then u else u.scrub x frames)))) ∧
  (∀ (s : State) (die : Fin 2) (page : Nat), s.running = true →
    (∃ t, exec (.mapPageVerify die page .good) s = .next t ∧
      t.rd Reg.SEC_VERIFY.PAGES die 0 = min (s.rd Reg.SEC_VERIFY.PAGES die 0 + 1) (2 ^ Reg.SEC_VERIFY.PAGES.width - 1) ∧
      s.booked t [Reg.SEC_VERIFY.PAGES]) ∧
    (∃ t, exec (.mapPageVerify die page .tamper) s = .next t ∧ t.ctl.mode = .m10 ∧ t.sec.haltMarker = true ∧
      t.reg Reg.SEC_STATUS.HALT_CAUSE = 6) ∧
    (∀ level index, ∃ t, exec (.mapPageVerify die page (.counterLine level index)) s = .next t ∧ t.ctl.mode = .m10 ∧
      t.sec.haltMarker = true ∧ t.reg Reg.SEC_STATUS.HALT_CAUSE = 5) ∧
    (∃ t, exec (.mapPageVerify die page .codeFailed) s = .next t ∧
      t.rd Reg.PRT_META.MIRROR_USED die 0 =
        min (s.rd Reg.PRT_META.MIRROR_USED die 0 + 1) (2 ^ Reg.PRT_META.MIRROR_USED.width - 1) ∧
      s.booked t [Reg.SEC_VERIFY.PAGES, Reg.PRT_META.MIRROR_USED]))

/-! ## Walks, and faults between the dies -/

/-- A walk gives the next quire of its range the entry its kind has, a poison walk STATE 3 (R163), an unmapping walk and a slot sweep STATE
0 (R102, R349), and goes on to the next. A slot sweep counts what it reaches, and at its end clears its record, and what waited for it
goes on. A spare die that fails its check is declared failed, and one that passes changes nothing (R280). -/
def Obligations.WalksAndSweepsAdvance : Prop :=
  ((∀ (s : State) (w : Walk), w.early = [] → w.next + 1 < w.hi → w.waits w.next = true → w.waits (w.next + 1) = true →
    s.chanLost (chanOf w.next) = false → s.mapping.walks = [w] → s.mapping.held.find? w.next = none →
    (s.walkOne w).1.entry w.next = w.kind.entry ∧ (s.walkOne w).1.mapping.walks = [{ w with next := w.next + 1 }] ∧
    (s.walkOne w).2 = false) ∧
  (∀ (s : State) (w : Walk), s.running = true →
    s.mapping.walks.find? (fun w => match w.kind with | .poison _ => true | _ => false) = some w →
    exec .poisonWalkStep s = .next (s.walkOne w).1) ∧
  (∀ (s : State) (w : Walk), s.running = true → s.mapping.walks.find? (fun w => w.kind == .unmap) = some w →
    exec .unmappingWalkStep s = .next (if (s.walkOne w).2 then (s.walkOne w).1.unmapped else (s.walkOne w).1))) ∧
  ((∀ (s : State) (w : Walk) (old new reason : Nat), s.running = true → s.scanning = false → w.kind = .sweep old new reason →
    s.mapping.walks.find? (fun w => match w.kind with | .sweep _ _ _ => true | _ => false) = some w →
    exec .slotSweepStep s = .next (s.sweepStep w reason)) ∧
  (∀ (s : State) (w : Walk) (old new reason : Nat), w.kind = .sweep old new reason → s.mapping.walks = [w] → w.early = [] →
    w.next + 1 < w.hi → w.waits w.next = true → w.waits (w.next + 1) = true → s.mapping.held.find? w.next = none →
    s.chanLost (chanOf w.next) = false →
    (s.sweepStep w reason).entry w.next = 0 ∧ (s.sweepStep w reason).mapping.walks = [{ w with next := w.next + 1 }]) ∧
  (∀ (s : State) (channel : Fin 32), exec (.spareDieCheck channel true) s = .next s) ∧
  (∀ (s : State) (channel : Fin 32) (n : Nat), s.running = true → s.spareOf channel = some n →
    exec (.spareDieCheck channel false) s = .next (s.dieFailed n 5)))

/-- A die-to-die module that loses its first lane runs on at x8 with nothing lost (R37); at x8, or where its retrain fails, it goes down
(R293). With another module up the module serves on, Degraded. A change of a strap while the module is powered has no effect until the
next power-on reset and is written to the Ream (R414). -/
def Obligations.DieToDieModulesDegrade : Prop :=
  (∀ (s : State) (m : Fin 4) (inputs : PourInputs), s.d2dUp m = true →
    (s.rd Reg.LNK_D2D_STATUS.DEGRADED 0 0).testBit m = false →
    ∃ t, exec (.d2dLaneFail m true inputs) s = .next t ∧
      (∀ k < 4, (t.rd Reg.LNK_D2D_STATUS.DEGRADED 0 0).testBit k =
        ((s.rd Reg.LNK_D2D_STATUS.DEGRADED 0 0).testBit k || k == m.val)) ∧
      t.rd Reg.LNK_D2D_STATUS.DOWN 0 0 = s.rd Reg.LNK_D2D_STATUS.DOWN 0 0 ∧ t.path = s.path ∧ t.mapping = s.mapping ∧
      t.ctl.mode = s.ctl.mode) ∧
  (∀ (s : State) (m : Fin 4) (retrained : Bool) (inputs : PourInputs), s.d2dUp m = true →
    (retrained = false ∨ (s.rd Reg.LNK_D2D_STATUS.DEGRADED 0 0).testBit m = true) →
    exec (.d2dLaneFail m retrained inputs) s = .next (s.d2dDown m inputs)) ∧
  (∀ (s : State) (m : Fin 4) (inputs : PourInputs), s.d2dUp m = true →
    exec (.d2dModuleDown m inputs) s = .next (s.d2dDown m inputs)) ∧
  (∀ (s : State) (m k : Fin 4) (inputs : PourInputs), k ≠ m → (s.rd Reg.LNK_D2D_STATUS.DOWN 0 0).testBit k = false →
    ((s.d2dDown m inputs).rd Reg.LNK_D2D_STATUS.DOWN 0 0).testBit m = true ∧ (s.d2dDown m inputs).ctl.degraded = true ∧
    (s.d2dDown m inputs).ctl.mode = s.ctl.mode ∧ (s.d2dDown m inputs).path = s.path) ∧
  (∀ (s : State) (sampled present : Nat),
    (s.powered = true → exec (.strapChangeWhilePowered sampled present) s = .next (s.log 3 0x403 [sampled, present])) ∧
    (s.powered = false → exec (.strapChangeWhilePowered sampled present) s = .next s) ∧
    (∃ t, t = s.log 3 0x403 [sampled, present] ∧
      t = { s with regs := t.regs, heads := t.heads, pm := t.pm, ream := t.ream, qst := t.qst } ∧ s.regsBut t reamFields))

/-! ## LPDDR5X -/

/-- Under Pour exclusivity a refresh due is owed, up to 64 for a rank (R239), and else it waits for its bank (R237). The patrol goes on to the
next group of check units, and counts a pass after the last (R229). The drift of a channel is kept, and marks it due for a retrain above
20 %; above 35 % its package is lost (R246). A row with an uncorrectable error, or with corrected errors in three units, takes the first
free entry of its package's remap table (R247), and with none free that is raised. A re-admission test is counted; a package that passes
becomes returning and asks for a Quiesce (R250, R220), and one that fails stays lost. -/
def Obligations.DramUpkeepAndRepair : Prop :=
  ((∀ (s : State) (n : Fin 4) (channel : Fin 8) (rank : Fin 2), s.dram.length = 4 → s.dramOn = true → s.pkgState n ≠ 1 →
    (s.rd Reg.DMC_MODE.POUR_EXCL (n / 2) 0 = 1 → (s.pkg n).debt.get 0 (2 * channel.val + rank.val) < 64 →
      ∃ t, exec (.refreshDue n channel rank) s = .next t ∧
        (t.pkg n).debt.get 0 (2 * channel.val + rank.val) = (s.pkg n).debt.get 0 (2 * channel.val + rank.val) + 1 ∧
        (∀ k, k ≠ 2 * channel.val + rank.val → (t.pkg n).debt.get 0 k = (s.pkg n).debt.get 0 k) ∧
        (∀ k, k ≠ n.val → t.pkg k = s.pkg k) ∧ t = { s with dram := t.dram, regs := t.regs } ∧
        s.regsBut t [Reg.DMC_REFRESH.DEBT_MAX]) ∧
    (s.rd Reg.DMC_MODE.POUR_EXCL (n / 2) 0 ≠ 1 ∨ 64 ≤ (s.pkg n).debt.get 0 (2 * channel.val + rank.val) →
      ∃ t, exec (.refreshDue n channel rank) s = .next t ∧
        (t.bus (n / 2)).due = (s.bus (n / 2)).due.erase (rankKey (n % 2) channel rank) ++ [rankKey (n % 2) channel rank] ∧
        s.dataKept t ∧ t.dram = s.dram ∧ t.ctl = s.ctl ∧ t.out = s.out)) ∧
  (∀ (s : State) (n : Fin 4) (data : List (Fin 7 × List (Fin 72))) (check : List (Fin 72)), s.dramOn = true → s.pkgState n = 0 →
    exec (.dramPatrol n data check) s = .next (s.patrolGroup n data check) ∧
    (s.dram.length = 4 → ((s.patrolGroup n data check).pkg n).patrol = ((s.pkg n).patrol + 1) % patrolGroups) ∧
    ((s.pkg n).patrol + 1 = patrolGroups → (s.patrolGroup n data check).rd Reg.DMC_PATROL.PASSES (n / 2) 0 =
      min (s.rd Reg.DMC_PATROL.PASSES (n / 2) 0 + 1) (2 ^ Reg.DMC_PATROL.PASSES.width - 1))) ∧
  (∀ (s : State) (n : Fin 4) (channel : Fin 8) (drift : Nat), s.dramOn = true → s.pkgState n = 0 →
    (drift ≤ 35 → exec (.driftCheck n channel drift) s = .next (s.driftSeen n channel drift)) ∧
    (drift > 35 → exec (.driftCheck n channel drift) s = .next ((s.driftSeen n channel drift).packageLost n 2)) ∧
    (drift > 20 → ((s.driftSeen n channel drift).rdP Reg.DMC_TRAIN.RETRAIN_DUE n).testBit channel = true) ∧
    (drift ≤ 5 → s.dram.length = 4 →
      ((s.driftSeen n channel drift).pkg n).drift = (s.pkg n).drift.set channel drift ∧
      s.regsBut (s.driftSeen n channel drift) [Reg.DMC_TRAIN.DRIFT_MAX]))) ∧
  ((∀ (s : State) (n : Fin 4) (channel : Fin 8) (rank : Fin 2) (bank : Fin 16) (row : Fin 131072) (ue : Bool) (units : List Nat),
    s.dramOn = true → s.pkgState n = 0 → (ue = true ∨ units.dedup.length ≥ 3) →
    (List.range 64).all (fun e => !(s.remapValid n e && s.remapRow n e == rowKey channel rank bank row)) = true →
    (∀ e, (List.range 64).find? (fun e => !s.remapValid n e) = some e →
      exec (.rowRemap n channel rank bank row ue units) s = .next (s.remapInto n e channel rank bank row) ∧
      (s.remapInto n e channel rank bank row).remapValid n e = true ∧
      (s.remapInto n e channel rank bank row).remapRow n e = rowKey channel rank bank row ∧
      s.dataKept (s.remapInto n e channel rank bank row)) ∧
    ((List.range 64).find? (fun e => !s.remapValid n e) = none →
      exec (.rowRemap n channel rank bank row ue units) s = .next (s.raiseP n 5))) ∧
  (∀ (s : State) (n : Fin 4) (bad corrected : Nat), s.inService = true → s.pkgState n = 1 →
    s.rdP Reg.DMC_PKG.ATTEMPTS n < 3 → (bad ≠ 0 ∨ corrected > 16) →
    ∃ t, exec (.readmissionTest n bad corrected) s = .next t ∧
      t.rdP Reg.DMC_PKG.ATTEMPTS n = s.rdP Reg.DMC_PKG.ATTEMPTS n + 1 ∧ t.pkgState n = 1 ∧ s.booked t [Reg.DMC_PKG.ATTEMPTS]) ∧
  (∀ (s : State) (n : Fin 4) (corrected : Nat), s.inService = true → s.pkgState n = 1 →
    s.rdP Reg.DMC_PKG.ATTEMPTS n < 3 → corrected ≤ 16 →
    ∃ t, exec (.readmissionTest n 0 corrected) s = .next t ∧ t.pkgState n = 3 ∧ t.ctl.mode = .m7 ∧
      t.ctl.quiesce = some (.readmit n) ∧ t.mapping.map = s.mapping.map))

/-! ## Quiesce and engines -/

/-- A Quiesce ends once what had arrived is complete (R435): it is counted with its duration, up to 255 ms, and its cause (R437), its work is
done, and credits resume or a removal pours. An activation runs the other slot, whose version and SVN show, and leaves the map, the
Caddy, the keys and the ranges as they are. -/
def Obligations.QuiesceEnds : Prop :=
  (∀ (s : State) (w : QWork) (ready : Bool) (ms : Nat) (inputs : PourInputs) (center : List Centering), s.ctl.mode = .m7 →
    s.ctl.quiesce = some w → s.quiet = true →
    exec (.quiesceEnd ⟨ready, center⟩ ms inputs) s = .next (s.quiesceDone w ready ms inputs center)) ∧
  (∀ (s : State) (w : QWork) (ready : Bool) (ms : Nat) (inputs : PourInputs) (center : List Centering),
    s.quiesceDone w ready ms inputs center = (if w = .removal
      then ((s.quiesceShown w ms).quiesceWork w ready).pourBegin .removal inputs
      else (((s.quiesceShown w ms).quiesceWork w ready).quiesceOver center).afterQuiesce inputs)) ∧
  (∀ (s : State) (w : QWork) (ms : Nat),
    (s.quiesceShown w ms).reg Reg.MOD_QUIESCE.COUNT = min (s.reg Reg.MOD_QUIESCE.COUNT + 1) 4294967295 ∧
    (s.quiesceShown w ms).reg Reg.MOD_QUIESCE.LAST_MS = min ms 255 ∧
    (s.quiesceShown w ms).reg Reg.MOD_QUIESCE.LAST_CAUSE = w.code ∧
    (s.quiesceShown w ms).reg Reg.MOD_STATUS.QUIESCE_CAUSE = 0 ∧ (s.quiesceShown w ms).ctl = { s.ctl with quiesce := none }) ∧
  (∀ s : State, s.fwRuns ≤ 1 →
    s.activate.fwRuns = 1 - s.fwRuns ∧ s.activate.reg Reg.MOD_LADDER.BOOT_SLOT = 1 - s.fwRuns ∧
    s.activate.reg Reg.SEC_FW.SVN_RUNNING = (s.fwSlot (1 - s.fwRuns)).svn % 256 ∧
    s.activate.reg Reg.LNK_REVISION.FW_VERSION = (s.fwSlot (1 - s.fwRuns)).version % 65536 ∧
    s.activate.path = s.path ∧ s.activate.mapping = s.mapping ∧ s.activate.media = s.media ∧ s.activate.sec = s.sec ∧
    (∀ i, s.activate.rd Reg.SEC_RANGE.BASE 0 i = s.rd Reg.SEC_RANGE.BASE 0 i))

/-- A fault of an engine that runs is recorded with its cause, program counter and address (R466), and leads to an engine reset, unless
the engine had not reported ready or has reached its limit within 24 hours (R467, R468); in a Pour it always does (R472). Its role
stays, its DMA halts and its bad SRAM words are cleared (R275), and nothing beside the engine moves. A watchdog that expires outside Doze
is such a fault (R465). An engine whose reset ends ready serves again, or is its die's spare where it has no role; one that failed and kept
its role stays failed (R467, R469). The reset is counted; the operations that its role held back are issued then (R471). One that does not
report ready faults with cause 4 (R466). A DMA channel that halts keeps its descriptor's address and is counted, and the engine's other
channels go on (R274). A sweep of a die's SRAM counts what it corrected, and what it could not correct stays bad until the engine's reset
(R272). -/
def Obligations.EnginesFaultAndReturn : Prop :=
  ((∀ (s : State) (engine : Fin 48) (cause : EngineCause) (pc : BitVec 64) (addr : BitVec 48), s.enginesOn = true →
    s.engineRuns engine = true →
    exec (.engineFault engine cause pc addr) s =
      .next ((s.countTrap engine cause).engineFaults engine (causeCode cause) pc.toNat addr.toNat)) ∧
  (∀ (s : State) (engine : Fin 48) (pc : BitVec 64), s.enginesOn = true → s.ctl.mode ≠ .m6 → s.engineRuns engine = true →
    s.rdE Reg.ENG_STATE.STATE engine ≠ 1 →
    exec (.watchdogExpiry engine pc) s = .next (s.engineFaults engine 3 pc.toNat 0)) ∧
  (∀ (s : State) (e : Fin 48) (cause : Fin 8) (pc : BitVec 64) (addr : BitVec 48), s.rdE Reg.ENG_STATE.STATE e ≠ 3 →
    (s.pour.running = true ∨ (cause ≠ 4 ∧
      (s.recent (s.engFaults.get [] e)).length + 1 < max 1 (s.rd Reg.ENG_CFG.FAULT_LIMIT 0 0))) →
    ∃ t, t = s.engineFaults e cause pc.toNat addr.toNat ∧
      t.rdE Reg.ENG_STATE.STATE e = 1 ∧ t.rdE Reg.ENG_STATE.CAUSE e = cause ∧ t.rdE Reg.ENG_FAULT.PC e = pc.toNat ∧
      t.rdE Reg.ENG_FAULT.ADDR e = addr.toNat ∧ t.rdE Reg.ENG_STATE.DMA_HALTED e = 0 ∧
      t.rdE Reg.ENG_STATE.ROLE e = s.rdE Reg.ENG_STATE.ROLE e ∧ t.sram.get [] e = [] ∧
      t.path = s.path ∧ t.mapping = s.mapping ∧ t.media = s.media ∧ t.ctl = s.ctl ∧ t.sec = s.sec ∧
      s.regsBut t ([Reg.ENG_STATE.STATE, Reg.ENG_STATE.CAUSE, Reg.ENG_STATE.DMA_HALTED, Reg.ENG_STATE.FAULTS_24H,
        Reg.ENG_FAULT.PC, Reg.ENG_FAULT.ADDR, Reg.ENG_COUNT.TRAPS, Reg.ENG_COUNT.WD_EXPIRED] ++ reamFields))) ∧
  (∀ (s : State) (engine : Fin 48), s.enginesOn = true →
    (s.rdE Reg.ENG_STATE.STATE engine = 1 ∨
      (s.rdE Reg.ENG_STATE.STATE engine = 3 ∧ s.rdE Reg.ENG_STATE.ROLE engine ≠ noRole)) →
    (∃ t, exec (.engineResetReady engine true) s = .next t ∧
      t.rdE Reg.ENG_STATE.STATE engine = (if s.rdE Reg.ENG_STATE.STATE engine = 3 then 3
        else if s.rdE Reg.ENG_STATE.ROLE engine = noRole then 4 else 0) ∧
      t.rdE Reg.ENG_COUNT.RESETS engine = min (s.rdE Reg.ENG_COUNT.RESETS engine + 1) 65535 ∧
      (∀ e : Fin 48, e ≠ engine → t.rdE Reg.ENG_STATE.STATE e = s.rdE Reg.ENG_STATE.STATE e) ∧
      (s.channelsOf engine = [] → s.booked t [Reg.ENG_STATE.STATE, Reg.ENG_COUNT.RESETS])) ∧
    exec (.engineResetReady engine false) s = .next (s.engineFaults engine 4 0 0)) ∧
  ((∀ (s : State) (engine : Fin 48) (channel : Fin 4) (addr : BitVec 48), s.enginesOn = true → s.engineRuns engine = true →
    ∃ t, exec (.dmaHalt engine channel addr) s = .next t ∧
      (∀ k < 4, (t.rdE Reg.ENG_STATE.DMA_HALTED engine).testBit k =
        ((s.rdE Reg.ENG_STATE.DMA_HALTED engine).testBit k || k == channel.val)) ∧
      t.rdE Reg.ENG_FAULT.ADDR engine = addr.toNat ∧
      t.rdE Reg.ENG_COUNT.DMA_HALTS engine = min (s.rdE Reg.ENG_COUNT.DMA_HALTS engine + 1) 65535 ∧
      t.rdE Reg.ENG_STATE.STATE engine = s.rdE Reg.ENG_STATE.STATE engine ∧
      s.booked t [Reg.ENG_STATE.DMA_HALTED, Reg.ENG_FAULT.ADDR, Reg.ENG_COUNT.DMA_HALTS, Reg.PRT_SRAM.DMA_HALTS]) ∧
  (∀ (s : State) (die : Fin 2) (corrected : Nat) (uncorrectable : List (Fin 24 × Nat)), s.enginesOn = true →
    ∃ t, exec (.sramSweep die corrected uncorrectable) s = .next t ∧
      t.rd Reg.PRT_SRAM.CORRECTED die 0 = min (s.rd Reg.PRT_SRAM.CORRECTED die 0 + corrected) 65535 ∧
      t.rd Reg.PRT_SRAM.CORRECTED (1 - die.val) 0 = s.rd Reg.PRT_SRAM.CORRECTED (1 - die.val) 0 ∧
      (∀ p ∈ uncorrectable, p.2 ∈ t.sram.get [] (2 * p.1.val + die.val)) ∧
      t = { s with regs := t.regs, heads := t.heads, pm := t.pm, sram := t.sram } ∧ s.regsBut t [Reg.PRT_SRAM.CORRECTED]))

/-! ## Power and the Pour -/

/-- A Pour that begins without a failed tag is in M8 with its number, its cause and a record at STATE 1 (R314, R318), with the DRAM
under Pour exclusivity (R236). A 12 V loss and an assertion of PWRDIS pour from M2 to M7, with causes 1 and 2 (R308, R313), and phase 2
of a GPF from Serve and Doze, with cause 3 (R324); from another mode that is before Serve, in a Quiesce or in a Pour the GPF waits. A
loss or PWRDIS in a GPF Pour gives it that cause (R326). -/
def Obligations.PoursBegin : Prop :=
  (∀ (s : State) (cause : PourCause) (inputs : PourInputs), inputs.tagBad = false →
    ∃ t, t = s.pourBegin cause inputs ∧ t.ctl.mode = .m8 ∧ t.pour.running = true ∧
      t.reg Reg.POUR_STATUS.CAUSE = cause.code ∧
      t.reg Reg.POUR_STATUS.COUNT = (s.reg Reg.POUR_STATUS.COUNT + 1) % 4294967296 ∧
      t.reg Reg.POUR_STATUS.LAST_STATE = 1 ∧ t.rd Reg.DMC_MODE.POUR_EXCL 0 0 = 1 ∧ t.rd Reg.DMC_MODE.POUR_EXCL 1 0 = 1 ∧
      (∃ r, t.pour.record = some r ∧ r.state = 1 ∧ r.cause = cause.code) ∧ t.ctl.p12 = s.ctl.p12 ∧ t.ctl.aux = s.ctl.aux) ∧
  ((∀ (s : State) (inputs : PourInputs), s.ctl.p12 = true → s.ctl.mode ∈ [.m2, .m3, .m4, .m5, .m6, .m7] →
    ∃ t, exec (.p12vLoss inputs) s = .next t ∧ t.ctl.p12 = false ∧
      (inputs.tagBad = false → t.ctl.mode = .m8 ∧ t.reg Reg.POUR_STATUS.CAUSE = 1)) ∧
  (∀ (s : State) (inputs : PourInputs), s.ctl.p12 = true → s.ctl.mode = .m8 → s.reg Reg.POUR_STATUS.CAUSE = 3 →
    ∃ t, exec (.p12vLoss inputs) s = .next t ∧ t.ctl.p12 = false ∧ t.ctl.mode = .m8 ∧ t.reg Reg.POUR_STATUS.CAUSE = 1 ∧
      (t.heads.get 0).linkUp = false ∧ (t.heads.get 1).linkUp = false ∧ t.path.ways = s.path.ways ∧
      t.mapping.map = s.mapping.map) ∧
  (∀ (s : State) (inputs : PourInputs), s.ctl.p12 = true → s.ctl.mode ∈ [.m0, .m1, .m9, .m10, .m11] →
    exec (.p12vLoss inputs) s = .next s.inputLost.inputGone) ∧
  (∀ (s : State) (inputs : PourInputs), s.reg Reg.PIN_LEVEL.PWRDIS ≠ 1 → s.ctl.mode ∈ [.m2, .m3, .m4, .m5, .m6, .m7] →
    ∃ t, exec (.pwrdisAssert inputs) s = .next t ∧ t.reg Reg.PIN_LEVEL.PWRDIS = 1 ∧
      (inputs.tagBad = false → t.ctl.mode = .m8 ∧ t.reg Reg.POUR_STATUS.CAUSE = 2)) ∧
  (∀ (s : State) (head : Fin 2) (inputs : PourInputs), s.hasHead head = true → s.rd Reg.LNK_STATUS.CXL_MEM head 0 ≠ 0 →
    (s.ctl.mode ∈ [.m5, .m6] → exec (.gpfPhase2 head inputs) s =
      .next (({ s with pour := { s.pour with gpf := s.pour.gpf ++ [head.val] } } : State).pourBegin .gpf inputs)) ∧
    (s.ctl.mode ∈ [.m2, .m3, .m4, .m7, .m8] → exec (.gpfPhase2 head inputs) s =
      .next { s with pour := { s.pour with gpf := s.pour.gpf ++ [head.val] } })))

/-- The return of the input starts the module from a hold (R320, R413) and from Safe, with its counts of failed starts cleared (R423); in
M1 it ends a standing off request (R416). The release of PWRDIS changes its pin alone. Without either input the module lies in M0, but
for a Pour, which goes on to its end (R413). -/
def Obligations.InputsReturnAndGo : Prop :=
  (∀ s : State, s.ctl.p12 = false → s.ctl.mode ≠ .m0 →
    ∃ t, exec .p12vReturn s = .next t ∧ t.ctl.p12 = true ∧ t.path = s.path ∧ t.mapping = s.mapping ∧ t.media = s.media ∧
      (if s.ctl.mode = .m8 then
        if s.pour.hold then t.ctl.mode = .m2 ∧ t.ctl.retained = true ∧ t.pour.hold = false
        else t = { s with ctl := { s.ctl with p12 := true } }
      else if s.ctl.mode = .m9 then t.ctl.mode = .m2 ∧ t.ctl.due = 1 ∧ t.reg Reg.MOD_LADDER.WARM_FAILS = 0 ∧
        t.reg Reg.MOD_LADDER.COLD_FAILS = 0
      else t.ctl.mode = s.ctl.mode ∧ t.reg Reg.MOD_REQUEST.OFF_STANDING = 0)) ∧
  (∀ s : State, ∃ t, exec .pwrdisRelease s = .next t ∧ t.reg Reg.PIN_LEVEL.PWRDIS = 0 ∧ t = { s with regs := t.regs } ∧
    s.regsBut t [Reg.PIN_LEVEL.PWRDIS]) ∧
  (∀ s : State, s.ctl.mode ∈ [.m0, .m1, .m8, .m9, .m10, .m11] →
    ∃ t, exec .powerOff s = .next t ∧ t.ctl.p12 = false ∧ t.ctl.aux = false ∧ t.ctl.retained = false ∧
      (if s.ctl.mode = .m8 then t.ctl.mode = .m8 ∧ t.pour = s.pour ∧ t.path = s.path else t.ctl.mode = .m0))

/-- A Pour ends as its cause says (R313, R319, R320, R324): a GPF returns to Serve; after a 12 V loss the LPDDR5X is held, or a warm start
follows where the input is back; with Trip latched the module enters M11, and else standby, a removal being ready then (R541). A bank
that runs out leaves a record with STATE 3, and no hold (R319). -/
def Obligations.PoursEnd : Prop :=
  (∀ (s : State) (energyEnd us : Nat), s.ctl.mode = .m8 → s.pour.running = true →
    exec (.pourComplete energyEnd us) s = .next (s.pourFinish energyEnd us).afterPour) ∧
  (∀ s : State, s.pour.warmAfter = false → s.gpfReturn.ctl.mode = .m5) ∧
  (∀ (s : State) (cause : Nat), s.reg Reg.THM_STATUS.TRIP ≠ 1 → s.ctl.afterPourOff = false →
    s.reg Reg.MOD_REQUEST.ON_PENDING ≠ 1 →
    (cause = 1 → s.ctl.p12 = true → (s.pourDown cause).ctl.mode = .m2) ∧
    (cause = 1 → s.ctl.p12 = false → (s.pourDown cause).ctl.mode = s.ctl.mode ∧ (s.pourDown cause).pour.hold = true ∧
      ∀ d < 2, (s.pourDown cause).rd Reg.DMC_MODE.SELF_REFRESH d 0 = 1) ∧
    (cause ≠ 1 → (s.pourDown cause).ctl.mode = (if s.ctl.aux then .m1 else .m0) ∧ (s.pourDown cause).ctl.retained = false) ∧
    (cause = 4 → (s.pourDown cause).reg Reg.PIN_REMOVAL.STATE = 4)) ∧
  (∀ (s : State) (cause : Nat), s.reg Reg.THM_STATUS.TRIP = 1 → s.ctl.p12 = true → (s.pourDown cause).ctl.mode = .m11) ∧
  (∀ (s : State) (energyEnd us poured : Nat), s.ctl.mode = .m8 → s.pour.running = true →
    exec (.pourExhausted energyEnd us poured) s = .next (if s.reg Reg.THM_STATUS.TRIP = 1
      then ((s.pourCut energyEnd us poured).coresOff.toMode .m11).afterPour
      else (s.pourCut energyEnd us poured).toStandby.afterPour) ∧
    (∀ r, s.pour.record = some r → ∃ q, (s.pourCut energyEnd us poured).pour.record = some q ∧ q.state = 3 ∧
      q.quires ≤ poured ∧ q.num = r.num ∧ (s.pourCut energyEnd us poured).reg Reg.POUR_STATUS.LAST_STATE = 3)) ∧
  (∀ s : State, s.ctl.mode = .m8 → s.pour.hold = true →
    ∃ t, exec .holdEnd s = .next t ∧ t.pour.hold = false ∧ t.ctl.retained = false ∧ t.ctl.mode ≠ .m8 ∧
      (s.reg Reg.MOD_REQUEST.ON_PENDING ≠ 1 →
        t.ctl.mode = (if s.ctl.aux && !s.ctl.afterPourOff then .m1 else .m0)))

/-- A measurement takes the next sub-bank, in order (R309), and records its capacitance, rounded down and at most 3,500 µF (R307); one
that measures below 60 % of its rating is isolated, as one that a cause of R294 isolates is. E is recomputed from the sub-banks that are
not isolated, each at its recorded capacitance and its voltage up to 35 V (R310; log entry 25 for one below 12 V), and selects the
budget that LNK_DIRTY_BUDGET shows and Write-through, once no strap caps it (R311). A sub-bank under measurement counts at its voltage
from before. -/
def Obligations.EnergyIsMeasured : Prop :=
  ((∀ s : State, s.running = true → s.ctl.mode ≠ .m8 → 34500 ≤ s.pour.bus →
    (∀ k < 8, s.rd Reg.POUR_SUBBANK.MEASURING 0 k ≠ 1 ∧
      (s.rd Reg.POUR_SUBBANK.ISOLATED 0 k ≠ 0 ∨ 34500 ≤ s.pour.volts[k]?.getD 0)) →
    (s.rd Reg.THM_STATUS.THROTTLE 0 0).testBit 3 = false →
    ∃ t, exec .capMeasurementStart s = .next t ∧ t.pour = { s.pour with next := (s.pour.next + 1) % 8 } ∧
      (s.rd Reg.POUR_SUBBANK.ISOLATED 0 s.pour.next ≠ 1 → t.rd Reg.POUR_SUBBANK.MEASURING 0 s.pour.next = 1) ∧
      t = { s with pour := t.pour, regs := t.regs } ∧ s.regsBut t [Reg.POUR_SUBBANK.MEASURING]) ∧
  (∀ (s : State) (drop i : Nat), i < 8 → s.rd Reg.POUR_SUBBANK.MEASURING 0 i = 1 →
    (∀ k < i, s.rd Reg.POUR_SUBBANK.MEASURING 0 k ≠ 1) → 0 < drop →
    ∃ t, exec (.capMeasurementDone drop) s = .next t ∧
      t.rd Reg.POUR_SUBBANK.CAP_UF 0 i = min 3500 (3960000 / drop) ∧
      t.rd Reg.POUR_SUBBANK.MEASURED_MIN 0 i = s.minutes % 4294967296 ∧ t.rd Reg.POUR_SUBBANK.MEASURING 0 i = 0 ∧
      (3960000 / drop < 2100 → s.rd Reg.POUR_SUBBANK.ISOLATED 0 i ≠ 1 →
        t.rd Reg.POUR_SUBBANK.ISOLATED 0 i = 1 ∧ t.rd Reg.POUR_SUBBANK.CAUSE 0 i = 1) ∧
      i ∈ t.pour.measured ∧ t.path = s.path ∧ t.mapping = s.mapping ∧ t.media = s.media ∧ t.ctl.mode = s.ctl.mode) ∧
  (∀ (s : State) (subbank : Fin 8) (cause : Fin 4), s.running = true → cause.val ≠ 0 →
    s.rd Reg.POUR_SUBBANK.ISOLATED 0 subbank ≠ 1 →
    ∃ t, exec (.subbankIsolation subbank cause) s = .next t ∧ t.rd Reg.POUR_SUBBANK.ISOLATED 0 subbank = 1 ∧
      t.rd Reg.POUR_SUBBANK.CAUSE 0 subbank = cause ∧ t.rd Reg.POUR_SUBBANK.MEASURING 0 subbank = 0 ∧
      (∀ k < 8, k ≠ subbank.val → t.rd Reg.POUR_SUBBANK.ISOLATED 0 k = s.rd Reg.POUR_SUBBANK.ISOLATED 0 k) ∧
      t.path = s.path ∧ t.mapping = s.mapping ∧ t.media = s.media ∧ t.ctl.mode = s.ctl.mode)) ∧
  (∀ (s : State) (volts : List Nat) (bus : Nat), s.running = true →
    ∃ t, exec (.energyUpdate volts bus) s = .next t ∧
      (∀ i < 8, t.pour.volts[i]? = some (if s.rd Reg.POUR_SUBBANK.MEASURING 0 i = 1 then s.pour.volts[i]?.getD 0
        else min 35000 (volts[i]?.getD (s.pour.volts[i]?.getD 0)))) ∧
      t.reg Reg.POUR_ENERGY.EST_MJ = t.energyMj % 4294967296 ∧ t.reg Reg.POUR_ENERGY.BUS_MV = bus % 65536 ∧
      t.ctl.writeThrough = decide (t.energyMj < 5000) ∧
      (s.reg Reg.POUR_ENERGY.STRAP_CAP ≠ 1 → t.reg Reg.LNK_DIRTY_BUDGET.GIB = budgetOf t.energyMj) ∧
      (∀ i, t.rd Reg.POUR_SUBBANK.CAP_UF 0 i = s.rd Reg.POUR_SUBBANK.CAP_UF 0 i) ∧
      t.path = s.path ∧ t.mapping = s.mapping ∧ t.media = s.media ∧ t.ctl.mode = s.ctl.mode)

/-- The monitor shows the mean input power and its peak (R448) and every rail's reading (R443): a rail judged within its limits reads
good, the first reading out of them only counts, and the second in a row confirms the fault and counts it. The stack cap falls by 16 to
no less than 32 from above 66 W until the mean is below 64 W, and rises by 16 to no more than 128 below 60 W (R448). A phase that is shed takes its rail's spare, and a
further one limits the rail (R295).
Auxiliary power that is good takes a module from M0 to M1 with its power cycles one higher (R413, R441); in another mode it comes back
alone, and one that is not good is flagged in M0. Its loss switches the always-on rails to the bus, or leaves the module in M0 where it
was the last supply (R445). A fault of an always-on rail pours with cause 2, or ends in M0 (R445). -/
def Obligations.PowerIsJudgedAndSwitched : Prop :=
  (((∀ (s : State) (readings : List Nat) (inputMw : Nat) (inputs : PourInputs), s.powered = true →
    ∃ t, exec (.monitorScan readings inputMw inputs) s = .next t ∧ t.reg Reg.PWR_INPUT.MW = inputMw % 4294967296 ∧
      t.reg Reg.PWR_INPUT.PEAK_MW = max (s.reg Reg.PWR_INPUT.PEAK_MW) (min inputMw 4294967295) % 4294967296 ∧
      (∀ r < 18, ∀ mv, readings[r]? = some mv → t.rd Reg.PWR_RAIL.MV 0 r = mv % 65536)) ∧
  (∀ (s : State) (r mv : Nat) (inputs : PourInputs), r < 18 → s.judged r = true →
    s.ctl.railRuns.length = 18 →
    ((railLimits r).1 ≤ mv → mv ≤ (railLimits r).2 → (s.scanRail r mv inputs).rd Reg.PWR_RAIL.STATE 0 r = 2 ∧
      (s.scanRail r mv inputs).ctl.railRuns[r]? = some (0, 0) ∧ s.regsBut (s.scanRail r mv inputs) [Reg.PWR_RAIL.MV,
        Reg.PWR_RAIL.STATE]) ∧
    (mv < (railLimits r).1 → (s.ctl.railRuns[r]?.getD (0, 0)).1 = 0 →
      (s.scanRail r mv inputs).ctl = { s.ctl with railRuns := s.ctl.railRuns.set r (1, 0) } ∧
      s.regsBut (s.scanRail r mv inputs) [Reg.PWR_RAIL.MV]) ∧
    ((railLimits r).2 < mv → (s.ctl.railRuns[r]?.getD (0, 0)).2 = 0 →
      (s.scanRail r mv inputs).ctl = { s.ctl with railRuns := s.ctl.railRuns.set r (0, 1) } ∧
      s.regsBut (s.scanRail r mv inputs) [Reg.PWR_RAIL.MV]) ∧
    (mv < (railLimits r).1 → (s.ctl.railRuns[r]?.getD (0, 0)).1 = 1 →
      (s.scanRail r mv inputs).rd Reg.PWR_RAIL_CNT.UV 0 r = min (s.rd Reg.PWR_RAIL_CNT.UV 0 r + 1) 65535) ∧
    ((railLimits r).2 < mv → (s.ctl.railRuns[r]?.getD (0, 0)).2 = 1 →
      (s.scanRail r mv inputs).rd Reg.PWR_RAIL_CNT.OV 0 r = min (s.rd Reg.PWR_RAIL_CNT.OV 0 r + 1) 65535))) ∧
  ((∀ (s u : State) (mean : Nat) (raise low : Bool), s.running = true →
    low = (decide (mean > 66000) || (s.ctl.lowering && decide (mean ≥ 64000))) →
    u = { s with ctl := { s.ctl with lowering := low } } →
    exec (.stackCapAdjust mean raise) s = .next (
      if raise = true then (if mean < 60000 then u.setStackCap (min 128 (s.reg Reg.PWR_BUDGET.STACK_CAP + 16)) else u)
      else if low = true then u.setStackCap (max 32 (s.reg Reg.PWR_BUDGET.STACK_CAP - 16))
      else u)) ∧
  (∀ (s : State) (cap : Nat), cap ≤ 128 → (s.setStackCap cap).reg Reg.PWR_BUDGET.STACK_CAP = cap ∧
    (s.setStackCap cap).reg Reg.PWR_STATUS.LOAD_LIMITED = (if cap < 128 then 1 else 0) ∧
    (∀ k < 16, (s.setStackCap cap).rd Reg.MED_STACK_PROG.LIMIT (k / 8) (k % 8) = if s.ctl.mode = .m8 then 128
      else min cap (s.rd Reg.THM_STACK.LIMIT (k / 8) (k % 8)) % 256) ∧
    s.booked (s.setStackCap cap) [Reg.PWR_BUDGET.STACK_CAP, Reg.PWR_STATUS.LOAD_LIMITED, Reg.MED_STACK_PROG.LIMIT]) ∧
  (∀ (s : State) (rail : Fin 6), s.powered = true → s.rd Reg.PWR_RAIL.STATE 0 (phaseRail rail) ∉ [0, 6] →
    ∃ t, exec (.phaseFault rail) s = .next t ∧ (t.reg Reg.SPR_SPARES.PHASE_USED).testBit rail = true ∧
      ((s.reg Reg.SPR_SPARES.PHASE_USED).testBit rail = true → (t.reg Reg.SPR_SPARES.PHASE_SHORT).testBit rail = true) ∧
      ((s.reg Reg.SPR_SPARES.PHASE_USED).testBit rail = false →
        t.reg Reg.SPR_SPARES.PHASE_SHORT = s.reg Reg.SPR_SPARES.PHASE_SHORT) ∧
      t.ctl.mode = s.ctl.mode ∧ t.path = s.path ∧ t.mapping = s.mapping ∧ t.media = s.media))) ∧
  ((∀ (s : State) (strapMv : Nat), s.ctl.aux = false →
    ∃ t, exec (.auxPowerRise true strapMv) s = .next t ∧ t.ctl.aux = true ∧ t.rd Reg.PWR_RAIL.STATE 0 1 = 2 ∧
      t.path = s.path ∧ t.mapping = s.mapping ∧
      (if s.ctl.mode = .m0 then t.ctl.mode = .m1 ∧
        t.reg Reg.LNK_POWER_CYCLES.COUNT = min (s.reg Reg.LNK_POWER_CYCLES.COUNT + 1) 4294967295
      else t.ctl.mode = s.ctl.mode)) ∧
  (∀ (s : State) (strapMv : Nat), s.ctl.aux = false → s.ctl.mode = .m0 →
    ∃ t, exec (.auxPowerRise false strapMv) s = .next t ∧ t.ctl = s.ctl ∧ t.rd Reg.PWR_RAIL.STATE 0 1 = 3) ∧
  (∀ s : State, s.ctl.aux = true → s.powered = true →
    ∃ t, exec .auxFault s = .next t ∧ t.ctl.aux = false ∧ t.rd Reg.PWR_RAIL.STATE 0 1 = 4 ∧
      (if s.ctl.mode = .m1 ∨ (s.ctl.mode = .m11 ∧ s.ctl.p12 = false) then t.ctl.mode = .m0
      else t.ctl.mode = s.ctl.mode ∧ (s.ctl.mode ≠ .m11 → t.reg Reg.PWR_STATUS.AON_FROM_BUS = 1))) ∧
  (∀ (s : State) (core : Bool) (inputs : PourInputs), s.powered = true →
    ∃ t, exec (.aonRailFault core inputs) s = .next t ∧
      t.rd Reg.PWR_RAIL.STATE 0 (if core then 17 else 16) = 4 ∧
      (if s.ctl.mode ∈ [.m2, .m3, .m4, .m5, .m6, .m7] then
        inputs.tagBad = false → t.ctl.mode = .m8 ∧ t.reg Reg.POUR_STATUS.CAUSE = 2 ∧ t.ctl.afterPourOff = true
      else if s.ctl.mode = .m8 ∧ s.pour.hold = false then t.ctl.mode = .m8 ∧ t.ctl.afterPourOff = true
      else t.ctl.mode = .m0)))

/-! ## Starts -/

/-- A cold start that may begin runs its steps (R417): three failed starts or a rail lead to Safe, with causes 2 and 3 (R422, R440), and a
start whose packages or whose boot slot's image fail is counted (R421), in the order of its steps. It starts from an empty Caddy with no
request (R438). A start
that reaches its first credit serves with its ladder cleared and the slot that ran recorded (R422). -/
def Obligations.ColdStarts : Prop :=
  (∀ (s : State) (env : StartEnv), s.mayStartCold = true →
    (3 ≤ (s.coldBegin env).reg Reg.MOD_LADDER.COLD_FAILS → ∃ t, exec (.coldStart env) s = .next t ∧ t.ctl.mode = .m9 ∧
      t.reg Reg.MOD_STATUS.SAFE_CAUSE = 2) ∧
    ((s.coldBegin env).reg Reg.MOD_LADDER.COLD_FAILS < 3 → railsUnsafe env.railsBad = true →
      ∃ t, exec (.coldStart env) s = .next t ∧ t.ctl.mode = .m9 ∧ t.reg Reg.MOD_STATUS.SAFE_CAUSE = 3) ∧
    ((s.coldBegin env).reg Reg.MOD_LADDER.COLD_FAILS < 3 → railsUnsafe env.railsBad = false →
      exec (.coldStart env) s = .next ((s.coldBegin env).coldBoot env))) ∧
  (∀ (s : State) (env : StartEnv), (s.coldBegin env).path = Path.reset ∧ (s.coldBegin env).ctl.mode = .m2 ∧
    (s.coldBegin env).mapping.map = s.mapping.map ∧
    (s.media.inProgram = [] → (s.coldBegin env).media.images = s.media.images) ∧ (s.coldBegin env).lsa = s.lsa) ∧
  (∀ (s : State) (env : StartEnv),
    (packagesGone env.packagesBad = true → s.coldBoot env = (s.coldTrain env).startFails true 3) ∧
    (packagesGone env.packagesBad = false → env.imageOk = false →
      s.coldBoot env = ((s.coldTrain env).coldDies env).startFails true 1)) ∧
  (∀ (s : State) (slot : Nat), slot ≤ 1 → s.ctl.quiesceQueue = [] → s.pour.gpf = [] →
    (s.serveFrom slot).ctl.mode = .m5 ∧ (s.serveFrom slot).reg Reg.MOD_LADDER.WARM_FAILS = 0 ∧
    (s.serveFrom slot).reg Reg.MOD_LADDER.COLD_FAILS = 0 ∧ (s.serveFrom slot).reg Reg.MOD_LADDER.BOOT_SLOT = slot ∧
    (∀ d < 2, (((s.serveFrom slot).sec.roots.get d).head?.map RootSlot.kind) = some 3) ∧
    (s.serveFrom slot).path.ways = s.path.ways ∧ (s.serveFrom slot).mapping.map = s.mapping.map)

/-- A warm start that may begin runs its steps over the Caddy and the map as they are (R418, R419), and a start that fails is counted, with
its cause: it starts again, cold after a cold or a third warm failure, and in Safe after the third cold one (R421, R422). -/
def Obligations.WarmStartsAndFailures : Prop :=
  (∀ (s : State) (env : StartEnv), s.mayStartWarm = true → (s.warmBegin env).reg Reg.MOD_LADDER.COLD_FAILS < 3 →
    s.coresUp = true ∨ railsUnsafe env.railsBad = false →
    exec (.warmStart env) s =
      .next ((s.warmBegin env).warmBoot env s.coresUp (!s.coresUp && s.trainsAnew env.trainingSaved))) ∧
  (∀ (s : State) (env : StartEnv), s.mayStartWarm = true → (s.warmBegin env).reg Reg.MOD_LADDER.COLD_FAILS < 3 →
    s.coresUp = false → railsUnsafe env.railsBad = true →
    ∃ t, exec (.warmStart env) s = .next t ∧ t.ctl.mode = .m9 ∧ t.reg Reg.MOD_STATUS.SAFE_CAUSE = 3) ∧
  (∀ (s : State) (env : StartEnv), env.centering = [] → (s.warmBegin env).path = s.path ∧
    (s.warmBegin env).mapping = s.mapping ∧ (s.warmBegin env).media = s.media) ∧
  (∀ (s : State) (cause : StartFailure), s.mayStartCold = true ∨ s.mayStartWarm = true →
    ∃ t, exec (.startFailed cause) s = .next t ∧ t.reg Reg.MOD_LADDER.LAST_FAIL = failureCode cause ∧
      (s.mayStartCold = true →
        t.reg Reg.MOD_LADDER.COLD_FAILS = min (s.reg Reg.MOD_LADDER.COLD_FAILS + 1) 3 ∧
        (if 2 ≤ s.reg Reg.MOD_LADDER.COLD_FAILS then t.ctl.mode = .m9 else t.ctl.mode = .m2 ∧ t.ctl.due = 1)) ∧
      (s.mayStartCold = false → s.reg Reg.MOD_LADDER.COLD_FAILS < 3 →
        t.reg Reg.MOD_LADDER.WARM_FAILS = min (s.reg Reg.MOD_LADDER.WARM_FAILS + 1) 3 ∧ t.ctl.mode = .m2 ∧
        t.ctl.due = (if 2 ≤ s.reg Reg.MOD_LADDER.WARM_FAILS then 1 else 2)) ∧
      (s.mayStartCold = true ∨ s.coresUp = false →
        t.mapping.map = s.mapping.map ∧ t.path.ways = s.path.ways ∧ t.path.staged.map Staged.quire = s.path.staged.map Staged.quire))

/-! ## Resets and links -/

/-- A warm reset restores the heads and begins a start, with every way of the Caddy, the map and the media as they were and no request
of a head left (R413, R418, R438). A PERST# line shows at its pin. It asks for a warm reset in single-head mode, and in dual-head mode
where both are asserted; else it resets its own head, and PERST1# is ignored in single-head mode (R110). Its release ends the reset hold
with the last line (R418). -/
def Obligations.WarmResets : Prop :=
  (∀ (s : State) (byLine : Bool), s.reg Reg.PIN_REMOVAL.STATE < 2 →
    ∃ t, t = s.warmReset byLine ∧ t.ctl.mode = .m2 ∧ t.path.ways = s.path.ways ∧ t.path.plans = [] ∧
      t.mapping.map = s.mapping.map ∧ t.media.images = s.media.images ∧ t.lsa = s.lsa ∧
      t.ctl.resetHold = (byLine && s.lineAsserted) ∧
      (∀ h, (t.heads.get h).decoders = List.replicate 4 Decoder.idle ∧ (t.heads.get h).linkUp = false ∧
        (t.heads.get h).fatal = (s.heads.get h).fatal) ∧
      (s.ctl.mode = .m5 ∨ s.ctl.mode = .m6 → t.ctl.retained = true ∧ t.ctl.due = (if s.sec.scanMarker then 1 else 2))) ∧
  ((∀ s : State, s.reg Reg.PIN_LEVEL.PERST ≠ 1 → s.reg Reg.PIN_REMOVAL.STATE < 2 → s.ctl.mode ∉ [.m9, .m10] →
    exec .perstAssert s = .next (
      if s.dual = false ∨ s.reg Reg.PIN_LEVEL.PERST1 = 1 then (s.setReg Reg.PIN_LEVEL.PERST 1).askWarm true
      else (s.setReg Reg.PIN_LEVEL.PERST 1).headEvent 0)) ∧
  (∀ s : State, s.reg Reg.PIN_LEVEL.PERST1 ≠ 1 → s.reg Reg.PIN_REMOVAL.STATE < 2 → s.ctl.mode ∉ [.m9, .m10] →
    exec .perst1Assert s = .next (
      if s.dual = false then s.setReg Reg.PIN_LEVEL.PERST1 1
      else if s.reg Reg.PIN_LEVEL.PERST = 1 then (s.setReg Reg.PIN_LEVEL.PERST1 1).askWarm true
      else (s.setReg Reg.PIN_LEVEL.PERST1 1).headEvent 1)) ∧
  (∀ s : State, s.ctl.mode ∈ [.m9, .m10] → s.reg Reg.PIN_REMOVAL.STATE < 2 →
    (s.reg Reg.PIN_LEVEL.PERST ≠ 1 → exec .perstAssert s = .next ((s.setReg Reg.PIN_LEVEL.PERST 1).linkGone 0)) ∧
    (s.reg Reg.PIN_LEVEL.PERST1 ≠ 1 → s.dual = true →
      exec .perst1Assert s = .next ((s.setReg Reg.PIN_LEVEL.PERST1 1).linkGone 1))) ∧
  (∀ s : State, s.ctl.mode ∈ [.m2, .m3, .m4, .m5, .m6] → s.askWarm true = s.warmReset true) ∧
  (∀ (s : State) (line : Fin 2), ∃ t, exec (.perstRelease line) s = .next t ∧
    (if line = 0 then t.reg Reg.PIN_LEVEL.PERST = 0 ∧ t.reg Reg.PIN_LEVEL.PERST1 = s.reg Reg.PIN_LEVEL.PERST1
      else t.reg Reg.PIN_LEVEL.PERST1 = 0 ∧ t.reg Reg.PIN_LEVEL.PERST = s.reg Reg.PIN_LEVEL.PERST) ∧
    (t.lineAsserted = false → t.ctl.resetHold = false) ∧ (t.lineAsserted = true → t.ctl = s.ctl) ∧
    t = { s with regs := t.regs, ctl := { s.ctl with resetHold := t.ctl.resetHold } } ∧
    s.regsBut t [Reg.PIN_LEVEL.PERST, Reg.PIN_LEVEL.PERST1]))

/-- A hot reset, a link-down event and the loss of a head's clock are a head reset of that head (R84, R86, R110): its requests are dropped,
its decoders and vectors restored, its link down, its event logs kept, and a grant falls with the primary head (R111). Nothing that is shared
moves. -/
def Obligations.LinkEventsResetTheHead : Prop :=
  (∀ (s : State) (head : Fin 2), s.hasHead head = true → (s.heads.get head).linkUp = true →
    exec (.hotReset head) s = .next (s.headEvent head) ∧
    exec (.linkDown head) s = .next (s.headEvent head) ∧
    exec (.referenceClockChange head false) s = .next ((s.onHead head (fun hd => { hd with clock := false })).headEvent head)) ∧
  (∀ (s : State) (clock : Fin 2), ∃ t, exec (.referenceClockChange clock true) s = .next t ∧
    t = { s with heads := t.heads } ∧ t.heads.get clock = { s.heads.get clock with clock := true } ∧
    t.heads.get (1 - clock.val) = s.heads.get (1 - clock.val)) ∧
  (∀ (s : State) (h : Fin 2), s.ctl.mode.linkTrains = true → s.ctl.mode ≠ .m9 → s.ctl.mode ≠ .m10 →
    ∃ t, t = s.headEvent h ∧ (t.heads.get h).linkUp = false ∧ (t.heads.get h).decoders = List.replicate 4 Decoder.idle ∧
      (t.heads.get h).msixMasked = BitVec.allOnes 32 ∧ (t.heads.get h).background = (s.heads.get h).background ∧
      (s.ctl.mode ≠ .m6 → s.rd Reg.LNK_STATUS.IDE_IO h 0 ≠ 1 → s.rd Reg.LNK_STATUS.IDE_MEM h 0 ≠ 1 →
        (t.heads.get h).info = (s.heads.get h).info ∧ (t.heads.get h).fatal = (s.heads.get h).fatal ∧
        (s.heads.get (1 - h.val)).sameBut (t.heads.get (1 - h.val))) ∧
      t.rd Reg.LNK_STATUS.WIDTH h 0 = 0 ∧ t.rd Reg.LNK_STATUS.CXL_MEM h 0 = 0 ∧
      (s.primary = h.val → t.granted = false) ∧
      (∀ p ∈ t.path.plans, ∀ r ∈ p.readers, r.head ≠ h) ∧
      t.path.ways = s.path.ways ∧ t.mapping.map = s.mapping.map ∧ t.lsa = s.lsa)

/-- A head trains with a stable clock and its PERST# released (R82, R84): its width and rate show, and CXL.mem where they are at least x4
and 32 GT/s (R83). A retrain through Recovery is counted and loses no request (R86). A flit replay counts what FEC corrected on each
lane (R119). -/
def Obligations.LinksTrain : Prop :=
  (∀ (s : State) (head : Fin 2) (width : Nat) (rate : Fin 4), s.hasHead head = true → (s.heads.get head).clock = true →
    (s.heads.get head).linkUp = false → s.headHeld head = false → s.physOn = true → s.widthOk width = true → rate.val ≠ 0 →
    ∃ t, exec (.linkTrained head width rate) s = .next t ∧ (t.heads.get head).linkUp = true ∧
      t.rd Reg.LNK_STATUS.WIDTH head 0 = width ∧ t.rd Reg.LNK_STATUS.RATE head 0 = rate ∧
      t.rd Reg.LNK_STATUS.CXL_MEM head 0 = (if width ≥ 4 ∧ 2 ≤ rate.val then 1 else 0) ∧
      (t.heads.get head).decoders = (s.heads.get head).decoders ∧
      t = { s with regs := t.regs, heads := t.heads, pm := t.pm, out := t.out, free := s.free + 1 }) ∧
  (∀ (s : State) (head : Fin 2) (width : Nat) (rate : Fin 4), s.hasHead head = true → (s.heads.get head).linkUp = true →
    s.widthOk width = true → rate.val ≠ 0 →
    ∃ t, exec (.linkRetrain head width rate) s = .next t ∧ (t.heads.get head).linkUp = true ∧
      t.rd Reg.LNK_STATUS.WIDTH head 0 = width ∧ t.rd Reg.LNK_STATUS.RATE head 0 = rate ∧
      t.rd Reg.LNK_RETRAIN_CNT.COUNT head 0 = min (s.rd Reg.LNK_RETRAIN_CNT.COUNT head 0 + 1) 4294967295 ∧
      (t.heads.get head).decoders = (s.heads.get head).decoders ∧
      t = { s with regs := t.regs, heads := t.heads, pm := t.pm, out := t.out, free := s.free + 1 }) ∧
  (∀ (s : State) (head : Fin 2) (corrected : List Nat), s.hasHead head = true → (s.heads.get head).linkUp = true →
    ∃ t, exec (.flitReplay head corrected) s = .next t ∧
      (∀ l < (if s.dual then 8 else 16), t.rd Reg.LNK_LANE_STATUS.ERRORS (s.laneOf head l).1 (s.laneOf head l).2 =
        min (s.rd Reg.LNK_LANE_STATUS.ERRORS (s.laneOf head l).1 (s.laneOf head l).2 + corrected[l]?.getD 0) 65535) ∧
      s.booked t [Reg.LNK_LANE_STATUS.ERRORS])

/-! ## A head's function, vectors and decoders -/

/-- An FLR leaves every decoder, every request and all data (R90), and D3hot only stops the head's CXL.io traffic (R85): each changes
that one head, and in it what is named. Unmasking a vector sends it where it is pending (R108), and a group's vector goes with its
pending assertions cleared once its interval has elapsed or its count is reached; no assertion is lost while it is masked. (The counter
of messages does not wrap with this one: its source could assert in the group.) -/
def Obligations.FunctionsAndVectors : Prop :=
  (∀ (s : State) (head : Fin 2), s.hasHead head = true → (s.heads.get head).linkUp = true →
    exec (.flr head) s = .next (s.onHead head (fun hd => { hd with
      d3hot := false, msixMasked := BitVec.allOnes 32, dbInt := ⟨false, false⟩, doeError := ⟨false, false⟩ })) ∧
    exec (.d3hotEntry head) s = .next (s.onHead head (fun hd => { hd with d3hot := true })) ∧
    (∃ t, exec (.d3hotExit head) s = .next t ∧ (t.heads.get head).d3hot = false ∧
      (t.heads.get head).decoders = (s.heads.get head).decoders ∧ (t.heads.get head).msixMasked = (s.heads.get head).msixMasked ∧
      t = { s with heads := t.heads, regs := t.regs, out := t.out, pm := t.pm } ∧
      (∀ v < 32, (s.heads.get head).msixPending.getLsbD v = true → (s.heads.get head).msixMasked.getLsbD v = false →
        v < 8 ∨ s.granted = true → .msix head v ∈ t.out ∧ (t.heads.get head).msixPending.getLsbD v = false))) ∧
  ((∀ (s : State) (head : Fin 2) (vector : Fin 32), s.ioUp head = true →
    ∃ t, exec (.msixUnmask head vector) s = .next t ∧ (t.heads.get head).msixMasked.getLsbD vector = false ∧
      (∀ v < 32, v ≠ vector.val → (t.heads.get head).msixMasked.getLsbD v = (s.heads.get head).msixMasked.getLsbD v) ∧
      ((s.heads.get head).msixPending.getLsbD vector = true → vector.val < 8 ∨ s.granted = true →
        .msix head vector ∈ t.out ∧ (t.heads.get head).msixPending.getLsbD vector = false) ∧
      t = { s with heads := t.heads, regs := t.regs, out := t.out, pm := t.pm }) ∧
  (∀ (s : State) (head : Fin 2) (group : Fin 24) (elapsed : Bool) (n : Nat), s.hasHead head = true → s.granted = true →
    (s.heads.get head).aggCount[group.val]? = some n → n ≠ 0 →
    (elapsed = true ∨ (s.rd Reg.LNK_AGG_CTRL.COUNT head group ≠ 0 ∧ s.rd Reg.LNK_AGG_CTRL.COUNT head group ≤ n)) →
    s.rd Reg.TLY_FIXED.COUNT head 373 < 281474976710655 →
    ∃ t, exec (.aggGroupMessage head group elapsed) s = .next t ∧
      t.rd Reg.LNK_AGG_CTRL.PENDING head group = 0 ∧ (t.heads.get head).aggCount[group.val]? = some 0 ∧
      (if (s.heads.get head).msixMasked.getLsbD (8 + group) ∨ (s.heads.get head).d3hot
        then (t.heads.get head).msixPending.getLsbD (8 + group) = true ∧ t.out = s.out
        else t.out = .msix head (8 + group) :: s.out) ∧
      t = { s with heads := t.heads, regs := t.regs, out := t.out, pm := t.pm }))

/-- A commit of a decoder takes effect as it was programmed, or sets Error Not Committed where R92 refuses it; a commit cleared leaves
the decoder uncommitted (R91, R92). A committed decoder keeps its range under a commit, and a locked one under both. No other decoder
and no data move. Keys that IDE_KM establishes in a session of the head make its stream secure, in the integrity mode that it names for CXL.mem (R96),
and a stream whose integrity check fails is secure no more, without a Halt (R97). -/
def Obligations.DecodersAndIde : Prop :=
  (∀ (s : State) (head : Fin 2) (index : Fin 4) (set : DecoderSet) (commit : Bool) (old : Decoder), s.ioUp head = true →
    (s.heads.get head).decoders[index.val]? = some old →
    ∃ t, exec (.hdmDecoderCommit head index set commit) s = .next t ∧ t = { s with heads := t.heads } ∧
      t.heads.get (1 - head.val) = s.heads.get (1 - head.val) ∧
      t.heads.get head = { s.heads.get head with decoders := (t.heads.get head).decoders } ∧
      (∀ k, k ≠ index.val → (t.heads.get head).decoders[k]? = (s.heads.get head).decoders[k]?) ∧
      (t.heads.get head).decoders[index.val]? = some (
        if old.committed ∧ (commit ∨ old.lock) then old
        else if commit = false then { old with committed := false, error := false }
        else if (s.heads.get head).commitFails index (Decoder.ofSet set) then { old with error := true }
        else Decoder.ofSet set)) ∧
  ((∀ (s : State) (head : Fin 2) (mem contain : Bool) (session : Nat), s.ioUp head = true →
    (s.heads.get head).doeError.get 1 = false →
    s.sec.sessions.any (fun x => x.transport == head.val && x.id == session) = true →
    ∃ t, exec (.ideKm head (if mem then .mem contain else .io) session) s = .next t ∧
      t.rd (if mem then Reg.LNK_STATUS.IDE_MEM else Reg.LNK_STATUS.IDE_IO) head 0 = 1 ∧
      (if mem then (t.heads.get head).ideInsecureMem = false ∧ (t.heads.get head).ideContain = contain ∧
          (t.heads.get head).ideInsecureIo = (s.heads.get head).ideInsecureIo
        else (t.heads.get head).ideInsecureIo = false ∧ (t.heads.get head).ideInsecureMem = (s.heads.get head).ideInsecureMem) ∧
      (t.heads.get head).ideKeysMem = (s.heads.get head).ideKeysMem + (if mem then 1 else 0) ∧
      (t.heads.get head).ideKeysIo = (s.heads.get head).ideKeysIo + (if mem then 0 else 1) ∧
      Out.doe head 1 (.values [1]) ∈ t.out ∧
      t = { s with regs := t.regs, heads := t.heads, pm := t.pm, out := t.out }) ∧
  (∀ (s : State) (head : Fin 2) (mem : Bool), s.hasHead head = true → (s.heads.get head).linkUp = true →
    s.rd (if mem then Reg.LNK_STATUS.IDE_MEM else Reg.LNK_STATUS.IDE_IO) head 0 = 1 →
    ∃ t, exec (.ideIntegrityFailure head mem) s = .next t ∧
      t.rd (if mem then Reg.LNK_STATUS.IDE_MEM else Reg.LNK_STATUS.IDE_IO) head 0 = 0 ∧
      (if mem then (t.heads.get head).ideInsecureMem = true else (t.heads.get head).ideInsecureIo = true) ∧ t.ctl = s.ctl ∧ t.path = s.path ∧ t.mapping = s.mapping ∧ t.sec = s.sec))

/-! ## Doze and time -/

/-- The module descends by one Doze state where the tolerance, the idle time and the prediction allow it and no work is due (R427, R428,
R430), below D2 only with nothing dirty or unprogrammed. In D3 and D4 the DRAM is in self-refresh, in D4 deeply, and D4 writes the final
root slots. Nothing else moves. A wake source ends Doze in Serve, with the time spent counted (R431), and declares failed each die whose
WAKE fails twice (R280). A service wake issues what waits in D2 to D4 and returns to the state it left, and may begin a checkpoint round
(R432). -/
def Obligations.DozeDescendsAndEnds : Prop :=
  ((∀ (s : State) (idleUs d : Nat) (center : List Centering), s.inService = true → d = (if s.ctl.mode = .m6 then s.reg Reg.MOD_STATUS.DOZE else 0) → d < 4 →
    (∀ k ≤ d, s.rd Reg.MOD_DOZE_CFG.DISABLE 0 k ≠ 1) → exitLatency (d + 1) ≤ s.tolerance →
    s.rd Reg.MOD_DOZE_CFG.ENTER_US 0 d ≤ idleUs → predictAtLeast (d + 1) ≤ s.prediction idleUs → s.workDue = false →
    (1 ≤ d → s.banksBusy = false) →
    (2 ≤ d → s.dirtyQuires = [] ∧ s.mapping.openPage = ⟨[], []⟩ ∧ s.mapping.issued = []) →
    exec (.dozeEntry ⟨idleUs, center⟩) s = .next (((s.setReg Reg.MOD_LATENCY_FORCE.PREDICT_US
      (min (s.prediction idleUs) 4294967295)).enterDoze (d + 1)).centered s center)) ∧
  (∀ (s : State) (d : Nat), 1 ≤ d → d ≤ 4 →
    ∃ t, t = s.enterDoze d ∧ t.ctl.mode = .m6 ∧ t.reg Reg.MOD_STATUS.DOZE = d ∧ t.reg Reg.LNK_MODE.DOZE = d ∧
      (∀ k < 2, t.rd Reg.DMC_MODE.SELF_REFRESH k 0 = (if 3 ≤ d then 1 else 0) ∧
        t.rd Reg.DMC_MODE.DEEP_SLEEP k 0 = (if d = 4 then 1 else 0)) ∧
      t.rd Reg.MOD_DOZE_STAT.ENTRIES 0 (d - 1) = min (s.rd Reg.MOD_DOZE_STAT.ENTRIES 0 (d - 1) + 1) 4294967295 ∧
      (d = 4 → ∀ k < 2, ((t.sec.roots.get k).head?.map RootSlot.kind) = some 1) ∧ s.dataKept t ∧ t.out = s.out)) ∧
  ((∀ (s : State) (idleUs seconds : Nat), s.ctl.mode = .m6 →
    ∃ t, exec (.dozeExit ⟨idleUs, []⟩ seconds []) s = .next t ∧ t.ctl.mode = .m5 ∧ t.reg Reg.MOD_STATUS.DOZE = 0 ∧
      (∀ k < 2, t.rd Reg.DMC_MODE.SELF_REFRESH k 0 = 0 ∧ t.rd Reg.DMC_MODE.DEEP_SLEEP k 0 = 0) ∧
      t.rd Reg.MOD_DOZE_STAT.TIME_S 0 (s.reg Reg.MOD_STATUS.DOZE - 1) =
        min (s.rd Reg.MOD_DOZE_STAT.TIME_S 0 (s.reg Reg.MOD_STATUS.DOZE - 1) + seconds) 4294967295 ∧
      t.ctl.idlePeriods = (if 20 ≤ idleUs then (idleUs :: s.ctl.idlePeriods).take 8 else s.ctl.idlePeriods) ∧
      t.path.ways = s.path.ways ∧ t.mapping.map = s.mapping.map ∧
      ∀ wakeBad center, exec (.dozeExit ⟨idleUs, center⟩ seconds wakeBad) s =
        .next ((wakeBad.map Fin.val).foldl (fun s n => s.dieFailed n 5) (t.centered s center))) ∧
  (∀ (s : State) (work : List WakeWork), s.ctl.mode = .m6 → 2 ≤ s.reg Reg.MOD_STATUS.DOZE → s.reg Reg.MOD_STATUS.DOZE ≤ 4 →
    ∃ t, exec (.serviceWake work) s = .next t ∧ t.ctl.mode = .m6 ∧
      t.reg Reg.MOD_STATUS.DOZE = s.reg Reg.MOD_STATUS.DOZE ∧ t.path.ways = s.path.ways ∧ t.mapping.map = s.mapping.map ∧
      (∀ k < 2, t.rd Reg.DMC_MODE.SELF_REFRESH k 0 = if 3 ≤ s.reg Reg.MOD_STATUS.DOZE then 1 else 0) ∧
      (.checkpoint ∈ work → s.mapping.mapChanged = true → t.mapping.ckpt.isSome = true) ∧
      (.checkpoint ∉ work → t.mapping.ckpt = s.mapping.ckpt)))

/-- A tick of a powered module adds 1,000 to the accumulator, and 1 ms at each 32,768 (R40), and runs the LPDDR5X accesses that wait (log
entry 91); nothing else moves: after the first tick any 32,768 ticks gain exactly 1,000 ms. What a save of the operating time puts into its ring is what the module resumes from after
a loss of auxiliary power (R507, R508), until the ring's serial numbers are used up. Each minute counts in the bin of the highest value
that the class read in it (R302), and the classes begin the next minute with none. -/
def Obligations.TimeIsKept : Prop :=
  ((∀ s : State, s.powered = true → ∃ t, exec .optimeTick s = .next t ∧
    t.ctl = { s.ctl with opAcc := (s.ctl.opAcc + 1000) % 32768 } ∧
    t.ms % 281474976710656 = (s.ms + (if 32768 ≤ s.ctl.opAcc + 1000 then 1 else 0)) % 281474976710656 ∧
    t = { s with regs := t.regs, ctl := t.ctl, ports := t.ports, dram := t.dram, heads := t.heads, pm := t.pm } ∧
    (s.dramOn = false → s.booked { t with ctl := s.ctl } [Reg.LNK_OPTIME.MS])) ∧
  (∀ (f : Nat → State) (n : Nat), (f 0).powered = true → (∀ k, exec .optimeTick (f k) = .next (f (k + 1))) →
    (f (n + 1)).ctl.opAcc = ((f 1).ctl.opAcc + 1000 * n) % 32768 ∧
    (f (n + 1)).ms % 281474976710656 = ((f 1).ms + ((f 1).ctl.opAcc + 1000 * n) / 32768) % 281474976710656)) ∧
  (∀ s : State, s.powered = true → s.rd Reg.QST_RING.SERIAL 0 0 < 4294967295 →
    ∃ t, exec .optimeSave s = .next t ∧ t.rd Reg.QST_RING.SERIAL 0 0 = s.rd Reg.QST_RING.SERIAL 0 0 + 1 ∧
      t.timeFromRing.ms = s.ms % 281474976710656 ∧ t.ctl = s.ctl ∧ t.path = s.path ∧ t.mapping = s.mapping) ∧
  (∀ s : State, s.powered = true →
    ∃ t, exec .minuteTick s = .next t ∧ t.minute = [] ∧ t = { s with regs := t.regs, minute := [] } ∧
      s.regsBut t [Reg.SPR_HIST.MIN] ∧
      (∀ c < 24, ∀ v, s.minute.find? c = some v → s.minute.find? (100 + c) = none →
        ∀ b < 8, t.rd Reg.SPR_HIST.MIN 0 (8 * c + b) = if b = ((histEdges c).filter (fun e => e ≤ v)).length
          then min (s.rd Reg.SPR_HIST.MIN 0 (8 * c + b) + 1) 4294967295 else s.rd Reg.SPR_HIST.MIN 0 (8 * c + b)) ∧
      (∀ c < 24, s.minute.find? c = none → ∀ b < 8,
        t.rd Reg.SPR_HIST.MIN 0 (8 * c + b) = s.rd Reg.SPR_HIST.MIN 0 (8 * c + b)))

/-- A sensor that works takes the value it reads and puts it to each of its thresholds (R450, R451); a value out of range, an undefined code
and the third missed sample in a row break it (R453); a broken one takes its substitute (R454). A sample missed before that changes nothing
but the count. -/
def Obligations.SensorsAreSampled : Prop :=
  ∀ (s : State) (x : SensorId) (k : Sensor) (inputs : PourInputs), s.sensorOn (sensorClass x) = true →
    k = s.sensor (sensorKey x) →
    (∀ v, k.broken = false → inRange (sensorClass x) v = true → s.stuck k v = false →
      ∃ t, exec (.sensorSample x (.value v) inputs) s = .next t ∧ (t.sensor (sensorKey x)).value = v ∧
        (t.sensor (sensorKey x)).missed = 0 ∧ (t.sensor (sensorKey x)).broken = false ∧
        (∀ (i : Nat) (e : Int), (thresholds (sensorClass x) (s.rd Reg.THM_CFG.PROFILE 0 0))[i]? = some e →
          (t.sensor (sensorKey x)).thr[i]? = some (((k.thr[i]?).getD ⟨0, 0, false⟩).sample e v))) ∧
    (∀ v, k.broken = false → (inRange (sensorClass x) v = false ∨ s.stuck k v = true) →
      ∃ t, exec (.sensorSample x (.value v) inputs) s = .next t ∧ (t.sensor (sensorKey x)).broken = true ∧
        (t.sensor (sensorKey x)).value = k.value) ∧
    (k.broken = false → ∃ t, exec (.sensorSample x .undefinedCode inputs) s = .next t ∧
      (t.sensor (sensorKey x)).broken = true) ∧
    (k.broken = false → 2 ≤ k.missed → ∃ t, exec (.sensorSample x .missed inputs) s = .next t ∧
      (t.sensor (sensorKey x)).broken = true) ∧
    (k.broken = false → k.missed < 2 → ∃ t, exec (.sensorSample x .missed inputs) s = .next t ∧
      t.sensor (sensorKey x) = { k with missed := k.missed + 1 } ∧ s.booked { t with sensors := s.sensors } []) ∧
    (k.broken = true → ∀ r, ∃ t, exec (.sensorSample x r inputs) s = .next t ∧
      (t.sensor (sensorKey x)).value = s.substitute x ∧ (t.sensor (sensorKey x)).broken = true)


/-! ## SPDM and DOE -/

/-- The SPDM requests that need no session are answered with what R351 and R352 name, in SPDM's codes (log entry 10), and change
nothing; a slot other than 0, an offset beyond the chain and algorithms not offered are refused with ERROR. A signed response carries
its content, then a nonce and a signature, which are open (log entry 7), and a blocked DRBG refuses it (R331, R351, R352). -/
def Obligations.SpdmAnswers : Prop :=
  (∀ (s : State) (transport : Fin 3), s.spdmServed transport = true →
    (∃ t, exec (.spdmGetVersion transport) s = .next t ∧ s.sent t (.spdm transport (.values [0x04, 0x12]))) ∧
    (∃ t, exec (.spdmGetCapabilities transport) s = .next t ∧ s.sent t (.spdm transport (.values [0x61, 0x62F6]))) ∧
    (∀ supported, ∃ t, exec (.spdmNegotiateAlgorithms transport supported) s = .next t ∧
      s.sent t (.spdm transport (.values (if supported then [0x63, 0x800, 0x20, 0x1, 0x10, 0x2] else [0x7F])))) ∧
    (∃ t, exec (.spdmGetDigests transport) s = .next t ∧ s.sent t (.spdm transport (.bytes (leBytes 1 0x01 ++ chainDigest)))) ∧
    (∀ slot offset length, ∃ t, exec (.spdmGetCertificate transport slot offset length) s = .next t ∧
      s.sent t (.spdm transport (if slot = 0 ∧ offset < Config.chainLength
        then .bytes (leBytes 1 0x02 ++ chainBytes offset length) else .values [0x7F])))) ∧
  (∀ (s : State) (transport : Fin 3) (nonce : Nat), s.spdmServed transport = true →
    (s.drbgBlocked = true →
      (∃ t, exec (.spdmChallenge transport 0 nonce) s = .next t ∧ s.sent t (.spdm transport (.values [0x7F]))) ∧
      ∀ index, ∃ t, exec (.spdmGetMeasurements transport index nonce) s = .next t ∧
        s.sent t (.spdm transport (.values [0x7F]))) ∧
    (∀ slot, slot ≠ 0 → ∃ t, exec (.spdmChallenge transport slot nonce) s = .next t ∧
      s.sent t (.spdm transport (.values [0x7F]))) ∧
    (s.drbgBlocked = false →
      (∃ t, exec (.spdmChallenge transport 0 nonce) s = .next t ∧ t.free = s.free + 1 ∧
        s.sent { t with free := s.free } (.spdm transport (.bytes (leBytes 1 0x03 ++ ((chainDigest ++ leBytes 32 nonce) ++
          s.openBytes 146))))) ∧
      (∀ index, 1 ≤ index → index ≤ 8 → ∃ t, exec (.spdmGetMeasurements transport index nonce) s = .next t ∧
        t.free = s.free + 1 ∧ s.sent { t with free := s.free } (.spdm transport (.bytes (leBytes 1 0x60 ++
          ((s.measurementBlock index ++ leBytes 32 nonce) ++ s.openBytes 146))))) ∧
      (∃ t, exec (.spdmGetMeasurements transport 0 nonce) s = .next t ∧ t.free = s.free + 1 ∧
        s.sent { t with free := s.free } (.spdm transport (.bytes (leBytes 1 0x60 ++ ((leBytes 1 8 ++ leBytes 32 nonce) ++
          s.openBytes 146))))) ∧
      (∃ t, exec (.spdmGetMeasurements transport 255 nonce) s = .next t ∧ t.free = s.free + 1 ∧
        s.sent { t with free := s.free } (.spdm transport (.bytes (leBytes 1 0x60 ++ ((s.measurementBlocks 0 ++ leBytes 32 nonce) ++
          s.openBytes 146)))))))

/-- A session stands from its key exchange to its end or its heartbeat's third miss, at most two on a transport and none begun in Halt
(R345, R351). A request in a session is answered where the session stands, and with ERROR where none does. A DOE object is answered on
its head (R93, R94; its numbers are the model's, log entry 10): an entry of the CDAT, a protocol of the instance with the next
index, and an abort that leaves the instance idle. One above 65,536 bytes is discarded, with DOE Error until the next abort. -/
def Obligations.SessionsAndDoe : Prop :=
  (∀ (s : State) (transport : Fin 3) (id : Nat),
    (s.spdmServed transport = true → s.ctl.mode ≠ .m10 → (s.sessionsOn transport).length < 2 → s.drbgBlocked = false →
      ∃ t, exec (.spdmKeyExchange transport true) s = .next t ∧
        t.sec.sessions = s.sec.sessions ++ [⟨transport, s.sec.nextSession⟩] ∧ t.sec.nextSession = s.sec.nextSession + 1 ∧
        s.sent { t with sec := s.sec } (.spdm transport (.values [0x64, 0x65, s.sec.nextSession]))) ∧
    (∀ good, s.spdmServed transport = true →
      (s.ctl.mode = .m10 ∨ 2 ≤ (s.sessionsOn transport).length ∨ s.drbgBlocked = true ∨ good = false) →
      ∃ t, exec (.spdmKeyExchange transport good) s = .next t ∧ s.sent t (.spdm transport (.values [0x7F]))) ∧
    (s.spdmServed transport = true →
      (∃ t, exec (.spdmKeyUpdate transport id) s = .next t ∧
        s.sent t (.spdm transport (.values [if s.hasSession transport id then 0x69 else 0x7F]))) ∧
      (∃ t, exec (.spdmHeartbeat transport id) s = .next t ∧
        s.sent t (.spdm transport (.values [if s.hasSession transport id then 0x68 else 0x7F]))) ∧
      (∃ t, exec (.spdmEndSession transport id) s = .next t ∧ t.hasSession transport id = false ∧
        s.sent { t with sec := s.sec } (.spdm transport (.values [if s.hasSession transport id then 0x6C else 0x7F])))) ∧
    ((s.sessionsOn transport).any (fun x => x.id == id) = true →
      ∃ t, exec (.spdmHeartbeatTimeout transport id) s = .next t ∧ (t.sessionsOn transport).all (fun x => x.id != id) = true ∧
        s.booked { t with sec := s.sec } [] ∧ t.sec = { s.sec with sessions := t.sec.sessions })) ∧
  (∀ (s : State) (head : Fin 2) (bytes : Nat), s.ioUp head = true →
    ((s.heads.get head).doeError.get 0 = false → bytes ≤ 65536 →
      ∀ entry, ∃ t, exec (.cdatTableAccess head ⟨entry, bytes⟩) s = .next t ∧ s.sent t (.doe head 0 (.values (s.cdat head entry)))) ∧
    (∀ inst : Fin 2, (s.heads.get head).doeError.get inst = false →
      (bytes ≤ 65536 →
        (∀ (index : Nat) (p : Nat × Nat), (doeProtocols inst)[index]? = some p →
          ∃ t, exec (.doeDiscovery head inst ⟨index, bytes⟩) s = .next t ∧ s.sent t (.doe head inst (.values
            [p.1, p.2, if index + 1 < (doeProtocols inst).length then index + 1 else 0]))) ∧
        (∀ index : Nat, (doeProtocols inst)[index]? = none →
          ∃ t, exec (.doeDiscovery head inst ⟨index, bytes⟩) s = .next t ∧
            s.sent t (.doe head inst (.values [0xFFFF, 0xFF, 0])))) ∧
      (65536 < bytes → ∀ index, ∃ t, exec (.doeDiscovery head inst ⟨index, bytes⟩) s = .next t ∧
        (t.heads.get head).doeError.get inst = true ∧ t = { s with heads := t.heads })) ∧
    (∀ (inst : Fin 2), ∃ t, exec (.doeAbort head inst bytes) s = .next t ∧
      t.out = .doe head inst (.values [if (s.heads.get head).doeError.get inst = true ∨ 65536 < bytes then 1 else 0]) :: s.out ∧
      (t.heads.get head).doeError.get inst = false ∧ t = { s with heads := t.heads, out := t.out }) ∧
    (∀ (inst : Fin 2) (index : Nat), (s.heads.get head).doeError.get inst = true →
      exec (.doeDiscovery head inst ⟨index, bytes⟩) s = .next s))

/-! ## The mailboxes -/

/-- The mailbox commands that only read are answered with what the module holds, and change nothing (R99 to R104, R303, R106; the order of
the numbers is the model's, log entry 10). What a scan would take is open. -/
def Obligations.MailboxReads : Prop :=
  ∀ (s : State) (m : Mbox),
    (s.mailServed m 0x0002 = true → ∃ t, exec (.backgroundOperationStatus m) s = .next t ∧
      s.mailed t m 0x0002 0 (.values (let b := (s.heads.get m.head).background.get (bnat m.secondary)
        [b.opcode, bnat b.running, s.bgPercent b, b.rc]))) ∧
    (s.mailServed m 0x0100 = true → ∀ log, ∃ t, exec (.getEventRecords m log) s = .next t ∧
      s.mailed t m 0x0100 0 (.events ((s.heads.get m.head).log log))) ∧
    (s.mailServed m 0x0102 = true → ∃ t, exec (.getEventInterruptPolicy m) s = .next t ∧
      s.mailed t m 0x0102 0 (.values (s.heads.get m.head).policy)) ∧
    (s.mailServed m 0x0200 = true → ∃ t, exec (.getFwInfo m) s = .next t ∧ s.mailed t m 0x0200 0 (.values
      [2, s.fwRuns + 1, s.reg Reg.MOD_LADDER.BOOT_SLOT + 1, 1, s.sec.slotA.version, s.sec.slotB.version])) ∧
    (s.mailServed m 0x0300 = true → ∃ t, exec (.getTimestamp m) s = .next t ∧
      s.mailed t m 0x0300 0 (.values [s.wallMs.getD 0])) ∧
    (s.mailServed m 0x0400 = true → ∃ t, exec (.getSupportedLogs m) s = .next t ∧ s.mailed t m 0x0400 0 (.values [1, 116])) ∧
    (s.mailServed m 0x0401 = true → ∀ effects offset length, ∃ t, exec (.getLog m effects offset length) s = .next t ∧
      (if effects = true ∧ offset + length ≤ 116
        then s.mailed t m 0x0401 0 (.bytes ((effectsBytes.drop offset).take length))
        else s.mailed t m 0x0401 rcInvalid (.values []))) ∧
    (s.mailServed m 0x4000 = true → ∃ t, exec (.identifyMemoryDevice m) s = .next t ∧
      s.mailed t m 0x4000 0 (.values [49152, 0, 49152, 0, 256, 256, 256, 256, 131072, 262144, 0])) ∧
    (s.mailServed m 0x4100 = true → ∃ t, exec (.getPartitionInfo m) s = .next t ∧
      s.mailed t m 0x4100 0 (.values [0, 49152, 0, 49152])) ∧
    (s.mailServed m 0x4102 = true → ∀ offset length, ∃ t, exec (.getLsa m offset length) s = .next t ∧
      (if offset + length ≤ 131072
        then s.mailed t m 0x4102 0 (.bytes ((List.range length).map (fun k => s.lsa.get 0 (offset + k))))
        else s.mailed t m 0x4102 rcInvalid (.values []))) ∧
    (s.mailServed m 0x4200 = true → ∃ t, exec (.getHealthInfo m) s = .next t ∧ s.mailed t m 0x4200 0 (.values s.healthInfo)) ∧
    (s.mailServed m 0x4201 = true → ∃ t, exec (.getAlertConfiguration m) s = .next t ∧
      s.mailed t m 0x4201 0 (.values (s.heads.get m.head).alerts)) ∧
    (s.mailServed m 0x4203 = true → ∃ t, exec (.getShutdownState m) s = .next t ∧
      s.mailed t m 0x4203 0 (.values [(s.heads.get m.head).shutdownState, s.ctl.dirtyShutdowns])) ∧
    (s.mailServed m 0x4300 = true → ∀ dpa length, inDpa dpa length = true →
      ∃ t, exec (.getPoisonList m dpa length) s = .next t ∧ s.mailed t m 0x4300 0 (.values (
        let l := s.mapping.poison.clip (linesOf dpa length).1 (linesOf dpa length).2
        [bnat (l.length > 2048), bnat s.mapping.poison.overflow, s.mapping.poison.overflowMs] ++ runValues (l.take 2048)))) ∧
    (s.mailServed m 0x4303 = true → ∀ dpa length, inDpa dpa length = true →
      ∃ t, exec (.getScanMediaCapabilities m dpa length) s = .next t ∧ t.free = s.free + 1 ∧
        s.mailed { t with free := s.free } m 0x4303 0 (.values [s.open?])) ∧
    (s.mailServed m 0x4305 = true → ∀ x, s.mapping.scan = some x → x.head = m.head.val → x.running = false →
      ∃ t, exec (.getScanMediaResults m) s = .next t ∧ s.mailed t m 0x4305 0 (.values (runValues x.found)))

/-- The mailbox commands that set something of their head set that (R99, R103, R104, R106), and the label storage area and the wall
clock take what they are given (R103, R495). Each is answered with success, and nothing else of what it touches moves. Clear Poison acts
as a write of its data (R61): the next lookup of the line finds it, without poison, outside Write-through and Read-only, where no walk
has yet to reach its quire and its set has a way for it. -/
def Obligations.MailboxSettings : Prop :=
  (∀ (s : State) (m : Mbox),
    (s.mailServed m 0x0101 = true → ∀ (log : Fin 4) (all : Bool) (handles : List Nat), (all = true ∨ handles.all (fun h =>
        ((s.heads.get m.head).log log).recs.any (fun r => r.handle == h)) = true) →
      ∃ t, exec (.clearEventRecords m log all handles) s = .next t ∧
        s.says t (.mailbox m.head m.secondary 0x0101 0 (.values [])) ∧
        ((t.heads.get m.head).log log).recs = (if all then [] else
          ((s.heads.get m.head).log log).recs.filter (fun r => !handles.contains r.handle)) ∧
        ((t.heads.get m.head).log log).overflow = false ∧
        (∀ k < 4, k ≠ log.val → (t.heads.get m.head).log k = (s.heads.get m.head).log k) ∧
        t = { s with regs := t.regs, heads := t.heads, pm := t.pm, out := t.out } ∧ s.regsBut t []) ∧
    (s.mailServed m 0x0103 = true → ∀ modes : List (Fin 3), modes.length = 4 →
      ∃ t, exec (.setEventInterruptPolicy m modes) s = .next t ∧ (t.heads.get m.head).policy = modes.map Fin.val ∧
        s.says t (.mailbox m.head m.secondary 0x0103 0 (.values [])) ∧
        t = { s with regs := t.regs, heads := t.heads, pm := t.pm, out := t.out } ∧ s.regsBut t []) ∧
    (s.mailServed m 0x4202 = true → ∀ values, ∃ t, exec (.setAlertConfiguration m values) s = .next t ∧
        (t.heads.get m.head).alerts = values ∧ s.says t (.mailbox m.head m.secondary 0x4202 0 (.values [])) ∧
        t = { s with regs := t.regs, heads := t.heads, pm := t.pm, out := t.out } ∧ s.regsBut t []) ∧
    (s.mailServed m 0x4204 = true → ∀ state : BitVec 8, ∃ t, exec (.setShutdownState m state) s = .next t ∧
        (t.heads.get m.head).shutdownState = state.toNat ∧
        s.says t (.mailbox m.head m.secondary 0x4204 0 (.values [])) ∧
        t = { s with regs := t.regs, heads := t.heads, pm := t.pm, out := t.out } ∧ s.regsBut t []) ∧
    (s.mailServed m 0x4103 = true → ∀ (offset : Nat) (data : List Byte), offset + data.length ≤ 131072 →
      8 + data.length ≤ 131072 →
      ∃ t, exec (.setLsa m offset data) s = .next t ∧
        (∀ k, t.lsa.get 0 k = if offset ≤ k ∧ k < offset + data.length then data[k - offset]?.getD 0 else s.lsa.get 0 k) ∧
        s.mailed { t with lsa := s.lsa } m 0x4103 0 (.values [])) ∧
    (s.mailServed m 0x0301 = true → ∀ ms : BitVec 64, ∃ t, exec (.setTimestamp m ms) s = .next t ∧
        t.wallMs = some ms.toNat ∧ s.says t (.mailbox m.head m.secondary 0x0301 0 (.values [])) ∧
        t.ctl = s.ctl ∧ t.path = s.path ∧ t.mapping = s.mapping ∧ t.lsa = s.lsa ∧ t.sec = s.sec)) ∧
  (∀ (s : State) (m : Mbox) (dpa : Nat) (data : Line) (env : PathEnv), s.mailServed m 0x4302 = true → dpa % 64 = 0 →
    inDpa dpa 64 = true → s.inService = true → s.chanLost (chanOf (dpa / 64 / 16)) = false → clearEnv env = true →
    s.ctl.readOnly = false → s.ctl.writeThrough = false → s.sweepAhead (dpa / 1024) = false →
    (s.dirtyWays (dpa / 1024)).length < 6 →
    ((s.wayOf (dpa / 1024)).isSome = true ∨ (s.freeWay (dpa / 1024)).isSome = true) →
    ∃ t, exec (.clearPoison m dpa data env) s = .next t ∧ t.find (dpa / 64) = .caddy data false ∧
      s.says t (.mailbox m.head m.secondary 0x4302 0 (.values [])) ∧ t.media = s.media ∧ t.lsa = s.lsa ∧
      t.mapping.map = s.mapping.map)

/-- A piece of an image goes to the slot that does not run (R353, R354): a whole image that passes replaces the slot's contents, with
nothing of the running slot touched, and one that fails leaves both, refused. A background command occupies its mailbox and does its
work: a scan begins over its range (R101, R266), and an activation, a Sanitize and a Secure Erase ask for a Quiesce, which starts in
Serve and Doze and waits before Serve and in a Quiesce (R102, R354, R434). -/
def Obligations.ImagesAndBackground : Prop :=
  (∀ (s : State) (m : Mbox) (offset length data : Nat), s.mailServed m 0x0201 = true → imagePiece offset data length = true →
    128 + data ≤ 131072 →
    (∀ v, v = .partly ∨ offset + data ≠ length → ∃ t, exec (.transferFw m offset length data v) s = .next t ∧
      t.sec = { s.sec with transfer := some (1 - s.fwRuns, offset + data, length) } ∧
      s.mailed { t with sec := s.sec } m 0x0201 0 (.values [])) ∧
    (∀ version svn, offset + data = length → s.reg Reg.SEC_FW.SVN_FUSED ≤ svn % 256 →
      ∃ t, exec (.transferFw m offset length data (.good version svn)) s = .next t ∧
        t.fwSlot (1 - s.fwRuns) = ⟨true, version % 65536, svn % 256⟩ ∧
        (s.fwRuns ≤ 1 → t.fwSlot s.fwRuns = s.fwSlot s.fwRuns) ∧ t.sec.transfer = none ∧
        s.mailed { t with sec := s.sec } m 0x0201 0 (.values [])) ∧
    (∀ v, offset + data = length → (v = .refused ∨ ∃ version svn, v = .good version svn ∧ svn % 256 < s.reg Reg.SEC_FW.SVN_FUSED) →
      ∃ t, exec (.transferFw m offset length data v) s = .next t ∧
      t.sec = { s.sec with transfer := none } ∧ s.mailed { t with sec := s.sec } m 0x0201 rcFwAuth (.values []))) ∧
  (∀ (s : State) (m : Mbox), s.bgRunning m = false →
    (s.mailServed m 0x4304 = true → ∀ dpa length, inDpa dpa length = true →
      (∀ x, s.mapping.scan = some x → x.running = false) →
      ∃ t, exec (.scanMedia m dpa length) s = .next t ∧
        t.mapping = { s.mapping with scan := some ⟨m.head, dpa / 1024, (dpa + length + 1023) / 1024, dpa / 1024, true, []⟩ } ∧
        t.bgRunning m = true ∧ s.says t (.mailbox m.head m.secondary 0x4304 rcBackground (.values [])) ∧
        t.path = s.path ∧ t.media = s.media ∧ t.ctl = s.ctl) ∧
    (∀ (op : Nat) (c : Instr) (w : QWork), (op, c, w) ∈ [(0x0202, .activateFw m true, QWork.activateMailbox m.head), (0x4400, .sanitize m, .sanitize m.head),
        (0x4401, .secureErase m, .secureErase m.head)] →
      s.mailServed m op = true → (op = 0x0202 → s.mayActivate true = true ∧ s.mustWait w = false) →
      (op ≠ 0x0202 → s.ctl.erase = none ∧ s.drbgBlocked = false) →
      ∃ t, exec c s = .next t ∧ t.bgRunning m = true ∧
        s.says t (.mailbox m.head m.secondary op rcBackground (.values [])) ∧
        (s.ctl.mode ∈ [.m5, .m6] → t.ctl.mode = .m7 ∧ t.ctl.quiesce = some w) ∧
        (s.ctl.mode ∈ [.m2, .m3, .m4, .m7] → t.ctl = { s.ctl with quiesceQueue := s.ctl.quiesceQueue ++ [w] }) ∧
        t.path = s.path ∧ t.mapping = s.mapping))

/-- What a mailbox does not serve is refused and changes nothing: with Media Disabled in Halt (R114), and as Unsupported on the secondary
mailbox, from the wrong head, or outside the table of R99 (R98). A payload above the mailbox's size is refused (log entry 10), and an
opcode that is served is that command with an empty payload (log entry 6). The fabric commands of the platform manager say what heads exist. -/
def Obligations.MailboxRefuses : Prop :=
  (∀ (s : State) (m : Mbox) (op : BitVec 16), s.ioUp m.head = true → s.mailRefused m op.toNat = true →
    ∃ t, exec (.mailboxUnsupported m op) s = .next t ∧ s.mailed t m op.toNat
      (if s.ctl.mode = .m10 ∧ op.toNat ∉ haltCommands then rcMediaDisabled else rcUnsupported) (.values [])) ∧
  (∀ (s : State) (m : Mbox) (op : BitVec 16), s.mailRefused m op.toNat = false →
    (op = 0x4000 → exec (.mailboxUnsupported m op) s = exec (.identifyMemoryDevice m) s) ∧
    (op = 0x4400 → exec (.mailboxUnsupported m op) s = exec (.sanitize m) s) ∧
    (op = 0x4102 → s.mailServed m 0x4102 = true →
      ∃ t, exec (.mailboxUnsupported m op) s = .next t ∧ s.mailed t m 0x4102 rcLength (.values []))) ∧
  (∀ (s : State) (m : Mbox) (offset : Nat) (data : List Byte), s.mailServed m 0x4103 = true → 131072 < 8 + data.length →
    ∃ t, exec (.setLsa m offset data) s = .next t ∧ s.mailed t m 0x4103 rcLength (.values [])) ∧
  (∀ (s : State) (m : Mbox), s.ioUp m.head = true → s.ctl.mode = .m10 →
    ∃ t, exec (.sanitize m) s = .next t ∧ s.mailed t m 0x4400 rcMediaDisabled (.values [])) ∧
  (∀ (s : State) (m : Mbox) (offset : Nat) (data : List Byte), s.ioUp m.head = true → s.ctl.mode ≠ .m10 → m.secondary = true →
    ∃ t, exec (.setLsa m offset data) s = .next t ∧ s.mailed t m 0x4103 rcUnsupported (.values [])) ∧
  (∀ s : State, s.spdmServed 2 = true →
    ∃ t, exec .getMultiHeadedInfo s = .next t ∧ s.sent t (.fabric 0x5500 0 (.values [if s.dual then 2 else 1, 1]))) ∧
  (∀ (s : State) (start count : Nat), s.spdmServed 2 = true → 0 < count → start + count ≤ (if s.dual then 2 else 1) →
    ∃ t, exec (.getHeadInfo start count) s = .next t ∧ s.sent t (.fabric 0x5501 0 (.values ((List.range count).flatMap (fun k =>
      [start + k, s.rd Reg.LNK_STATUS.WIDTH (start + k) 0, s.rd Reg.LNK_STATUS.RATE (start + k) 0,
       bnat (s.heads.get (start + k)).linkUp])))))


/-! ## Leaves -/

/-- A leaf that comes alone is taken: beside counters nothing moves (R402, R411). A reply goes back on the leaf's transport, to a head's
mailbox or DOE while its link serves CXL.io and else among those that the platform manager has yet to read, and moves nothing else (R389,
R393, R409). A leaf that its header, its length, its CRC, its owner or the mode refuses is answered with the status of R390 that R399 and R405
give, in their order: an opcode outside R407 UNKNOWN, then LENGTH, INVALID, HALT, OWNED, LENGTH for a payload that is not as long, BAD_CRC,
NOT_SECURE and STATE. One that comes as unknown but carries an opcode of R407 is that row's (log entry 6). -/
def Obligations.LeafIsTakenOrRefused : Prop :=
  (∀ (i : Instr) (s : State) (row : LeafRow) (h : LeafHdr) (p : List Byte), leafOf i = some (row, h, p) → s.arrives i row h p = true →
    ∃ t, t = s.takeLeaf row h p ∧ t = { s with regs := t.regs, heads := t.heads, pm := t.pm, free := t.free } ∧ s.free ≤ t.free ∧
      s.sameHeads t ∧ s.samePm t ∧ s.regsBut t [Reg.CQ_STAT_LEAVES.COUNT, Reg.CQ_INPUT.LEAVES, Reg.CQ_RR.NEXT]) ∧
  (∀ (s : State) (r : Req) (st : Nat) (payload : List Byte), r.transport < 8 →
    (r.transport < 6 → s.ioUp r.who = true ∧ (4 ≤ r.transport → (s.heads.get r.who).doeError.one = false)) →
    ∃ t, t = s.reply r st payload ∧ s.replied t r (if st = stOk ∧ r.superseded = true then stSuperseded else st) payload ∧
      t = { s with regs := t.regs, heads := t.heads, pm := t.pm, out := t.out } ∧ s.sameHeads t ∧
      s.regsBut t (refusalFields ++ leafFields)) ∧
  (∀ (i : Instr) (s : State) (row : LeafRow) (h : LeafHdr) (p : List Byte), leafOf i = some (row, h, p) → s.spelled i = i →
    s.arrives i row h p = true → (s.takeLeaf row h p).leafGate row h p ≠ stOk →
    exec i s = .next (((s.takeLeaf row h p).dropRest row h ((s.takeLeaf row h p).leafGate row h p) p.length).refuse (row.req h)
      ((s.takeLeaf row h p).leafGate row h p)).settleBusy) ∧
  (∀ (op : BitVec 16) (s : State) (h : LeafHdr) (p : List Byte), leafKnown op.toNat = false →
    s.arrives (.leafUnknownOpcode op h p) (rowUnknown op.toNat) h p = true →
    exec (.leafUnknownOpcode op h p) s = .next (((s.takeLeaf (rowUnknown op.toNat) h p).dropRest (rowUnknown op.toNat) h stUnknown
      p.length).refuse ((rowUnknown op.toNat).req h) stUnknown).settleBusy) ∧
  (∀ (s : State) (h : LeafHdr) (p : List Byte), exec (.leafUnknownOpcode 0x0101 h p) s = exec (.getStatus h p) s.draw) ∧
  (∀ (s : State) (row : LeafRow) (h : LeafHdr) (p : List Byte), leafKnown row.opcode = true → row.allows h.length.toNat = true →
    h.length.toNat ≤ 4096 → h.flags &&& 0xF1 = 0 → (h.transport.val < 6 ∨ h.flags.getLsbD 1 = false) →
    (s.ctl.mode = .m10 → row.inHalt = false → s.leafGate row h p = stHalt) ∧
    (s.ctl.mode ≠ .m10 → s.owns row.owner (requesterOf h.transport.val) = false → s.leafGate row h p = stOwned) ∧
    (s.ctl.mode ≠ .m10 → s.owns row.owner (requesterOf h.transport.val) = true → h.length.toNat ≠ p.length →
      s.leafGate row h p = stLength) ∧
    (s.ctl.mode ≠ .m10 → s.owns row.owner (requesterOf h.transport.val) = true → h.length.toNat = p.length →
      (h.flags.getLsbD 1 = false → h.crc.toNat ≠ crc32c (leafHeader row.opcode h.flags 0 h.tag 0 h.length.toNat ++ p) →
        s.leafGate row h p = stBadCrc) ∧
      (h.flags.getLsbD 1 = true ∨ h.crc.toNat = crc32c (leafHeader row.opcode h.flags 0 h.tag 0 h.length.toNat ++ p) →
        s.leafGate row h p = (if row.fits p = false then stLength else if row.sec = true ∧ securedTransport h.transport.val = false then stNotSecure
          else if s.leafMode row = false then stState else stOk))))

/-- The leaves that read answer OK with their payload and do nothing else, where their rule refuses nothing: IDENTIFY, whose bytes 0 to 7
are the serial, GET_STATUS with the mode and the operating time, GET_POWER, GET_WINDOW_GRANT and GET_UNIT (R407, R408), HEALTH_REPORT (R301),
measurements and certificate (R351, R352), a slot's record (R346), FW_INFO, a bulk slot's words (R377), a run's records (R523), register words
behind the grant (R408), and the tally words of a latch (R481). -/
def Obligations.ReadingLeavesReply : Prop :=
  rowIdentify.acts .identify (fun _ _ _ => True) (fun u r _ => u.ok r (u.identity r.who)) ∧
  rowGetStatus.acts .getStatus (fun _ _ _ => True) (fun u r _ => u.ok r u.statusReply) ∧
  (∀ (s : State) (who : Nat), (s.identity who).length = 64 ∧
    (s.identity who).take 8 = leBytes 8 (s.reg Reg.LNK_SERIAL.SERIAL) ∧
    ((s.identity who).drop 12).take 16 = orderingCode ∧
    s.statusReply.length = 48 ∧ s.statusReply.take 1 = leBytes 1 s.ctl.mode.num ∧ (s.statusReply.drop 4).take 6 = leBytes 6 s.ms) ∧
  rowGetPower.acts .getPower (fun _ _ _ => True) (fun u r _ => u.ok r (
    leBytes 1 u.ctl.mode.num ++ leBytes 1 (u.reg Reg.MOD_STATUS.DOZE) ++ leBytes 2 0 ++ leBytes 4 (u.rd Reg.MOD_LATENCY.US 0 0) ++
      leBytes 4 (u.rd Reg.MOD_LATENCY.US 0 1) ++ leBytes 4 (u.reg Reg.PWR_INPUT.MW))) ∧
  rowGetWindowGrant.acts .getWindowGrant (fun _ _ _ => True) (fun u r _ => u.ok r u.grantBytes) ∧
  (∀ s : State, s.grantBytes = leBytes 1 (s.rd Reg.LNK_BAR2_GRANT.READ_EN s.primary 0) ++
    leBytes 1 (s.rd Reg.LNK_BAR2_GRANT.WRITE_EN s.primary 0) ++ leBytes 6 0) ∧
  rowGetUnit.acts .getUnit (fun _ _ p => fieldAt p 1 1 = 0 ∧ unitExists (fieldAt p 0 1) (fieldAt p 2 2) = true) (fun u r p =>
    u.ok r (u.unitBytes (fieldAt p 0 1) (fieldAt p 2 2))) ∧
  rowHealthReport.acts .healthReport (fun _ _ _ => True) (fun u r _ => u.ok r u.healthBytes) ∧
  rowGetMeasurements.acts .getMeasurements (fun _ _ p => fieldAt p 0 1 ≤ 8 ∧ fieldAt p 1 3 = 0) (fun u r p => u.ok r (
    if fieldAt p 0 1 = 0 then (List.range 8).flatMap (fun k => u.measurementBlock (k + 1)) else u.measurementBlock (fieldAt p 0 1))) ∧
  rowGetCertificate.acts .getCertificate (fun _ _ p => 1 ≤ fieldAt p 4 2 ∧ fieldAt p 4 2 ≤ 4096 ∧ fieldAt p 6 2 = 0)
    (fun u r p => u.ok r (chainBytes (fieldAt p 0 4) (fieldAt p 4 2))) ∧
  rowKeyStatus.acts .keyStatus (fun _ _ p => fieldAt p 0 2 ≤ 4095) (fun u r p => u.ok r (u.slotBytes (fieldAt p 0 2))) ∧
  rowFwInfo.acts .fwInfo (fun _ _ _ => True) (fun u r _ => u.ok r u.fwInfoBytes) ∧
  (∀ k < 16, rowBulkStatus.acts .bulkStatus (fun u _ p => u.bulkOf (fieldAt p 0 2) = some k)
    (fun u r _ => u.ok r ((u.bulkAt k).words.flatMap (leBytes 8)))) ∧
  (∀ x : TestRun, rowSelftestResult.acts .selftestResult
    (fun u _ p => u.test.find? (fun y => y.handle == fieldAt p 0 2) = some x)
    (fun u r _ => u.ok r (leBytes 2 x.handle ++ leBytes 2 x.state ++ leBytes 8 x.mask.toNat ++ leBytes 4 x.recs.length ++
      x.recs.flatMap SliceRec.bytes))) ∧
  rowRegRead.acts .regRead (fun u _ p => u.regGate p false = none) (fun u r p =>
    (u.readWords (fieldAt p 0 4) (fieldAt p 4 2)).1.draw.ok r (u.readWords (fieldAt p 0 4) (fieldAt p 4 2)).2) ∧
  (∀ bank die, rowTallyRead.acts .tallyRead
    (fun u r p => bank = fieldAt p 0 1 ∧ bank ≤ 2 ∧ die = fieldAt p 1 1 ∧ die ≤ 1 ∧ 1 ≤ fieldAt p 4 2 ∧ fieldAt p 4 2 ≤ 768 ∧
      fieldAt p 2 2 + fieldAt p 4 2 ≤ bankSize bank ∧ u.tallyOpen r.who = true)
    (fun u r p => (u.latch die bank).ok r ((List.range (fieldAt p 4 2)).flatMap (fun k =>
      leBytes 8 ((u.latch die bank).tallyWord die bank (fieldAt p 2 2 + k))))))

/-- The leaves that set something set it and reply OK: SET_WALL_CLOCK the stamp (R495), SET_EVENT_MASK the mask, beside which no source stays
pending (R394), SET_WINDOW_GRANT the grant (R115, R408), LOCATE the lamp with source 629 on a change (R536), TALLY_SAMPLE the sampler, whose
count restarts (R484), QST_PASSWORD a password of its zone (R509), and TALLY_CONFIG and REG_WRITE their words in order (R407, R408). -/
def Obligations.SettingLeaves : Prop :=
  rowSetWallClock.acts .setWallClock (fun _ _ _ => True) (fun u r p => (u.setWall (fieldAt p 0 8) r.who).ok r []) ∧
  (∀ (s : State) (ms who : Nat), (s.setWall ms who).ream.wall = some (ms, s.ms) ∧ s.dataKept (s.setWall ms who) ∧
    (s.setWall ms who).ctl = s.ctl) ∧
  rowSetEventMask.acts .setEventMask (fun _ _ _ => True) (fun u r p => ({ u with pm := { u.pm with
    mask := BitVec.ofNat 640 (leNat p), pending := u.pm.pending &&& BitVec.ofNat 640 (leNat p) } } : State).ok r []) ∧
  rowSetWindowGrant.acts .setWindowGrant
    (fun _ _ p => fieldAt p 0 1 < 128 ∧ fieldAt p 1 1 < 128 ∧ fieldAt p 1 1 &&& fieldAt p 0 1 = fieldAt p 1 1 ∧ fieldAt p 2 6 = 0)
    (fun u r p => ((u.wr Reg.LNK_BAR2_GRANT.READ_EN u.primary 0 (fieldAt p 0 1)).wr Reg.LNK_BAR2_GRANT.WRITE_EN u.primary 0
      (fieldAt p 1 1)).ok r []) ∧
  rowLocate.acts .locate (fun _ _ p => fieldAt p 0 4 ≤ 1) (fun u r p => (u.setLocate (fieldAt p 0 1 == 1)).ok r []) ∧
  (∀ (s : State) (on : Bool), ((s.setLocate on).reg Reg.PIN_LED.LOCATE = 1 ↔ on = true) ∧
    (¬(s.reg Reg.PIN_LED.LOCATE = 1 ↔ on = true) → (s.setLocate on).rd Reg.LNK_SRC_ROUTE.ASSERTED 0 629 = 1) ∧
    s.booked (s.setLocate on) [Reg.PIN_LED.LOCATE]) ∧
  (∀ d, rowTallySample.acts .tallySample
    (fun u _ p => d = fieldAt p 0 1 ∧ d ≤ 1 ∧ fieldAt p 1 1 ≤ 2 ∧ sampleEventOk (fieldAt p 2 2) = true ∧ u.tallyWritable = true)
    (fun u r p => ((((u.wr Reg.TLY_SAMPLE_CFG.MODE d 0 (fieldAt p 1 1)).wr Reg.TLY_SAMPLE_CFG.EVENT d 0 (fieldAt p 2 2)).wr
      Reg.TLY_SAMPLE_PERIOD.EVENTS d 0 (fieldAt p 4 4)).restartSampler d).ok r [])) ∧
  (∀ z, rowQstPassword.acts .qstPassword
    (fun u _ p => z = fieldAt p 0 1 ∧ z < 2 ∧ fieldAt p 1 1 ≤ 1 ∧ fieldAt p 2 6 = 0 ∧ u.lockedOut z = false ∧
      admits (u.password z true) (fieldAt p 8 8) = true)
    (fun u r p => (((u.wr Reg.QST_PW.FAILS 0 z 0).setPassword z (fieldAt p 1 1 == 1) (fieldAt p 16 8)).pageCommit 5052).ok r [])) ∧
  (∀ (s : State) (z new : Nat) (w : Bool), s.canonical = true → z < 2 →
    (s.setPassword z w new).password z w = some new ∧ (s.setPassword z w new).password z (!w) = s.password z (!w) ∧
    (∀ y, y ≠ z → ∀ v, (s.setPassword z w new).password y v = s.password y v)) ∧
  rowTallyConfig.acts .tallyConfig
    (fun u _ p => fieldAt p 0 1 ≤ 1 ∧ fieldAt p 1 1 = 0 ∧
      (∀ k < fieldAt p 2 2, fieldAt p (8 + 16 * k) 4 = 0) ∧ (∀ e ∈ tallyEntries p, e.1 % 8 = 0 ∧ e.1 < 65536) ∧ u.tallyWritable = true)
    (fun u r p => ((tallyEntries p).foldl (fun v e => v.writeWord .TLY (fieldAt p 0 1) (e.1 / 8) 0 8 e.2) u).ok r []) ∧
  rowRegWrite.acts .regWrite (fun u _ p => u.regGate p true = none)
    (fun u r p => ((List.range (fieldAt p 4 2)).foldl (fun v k =>
      v.writePlace (fieldAt p 0 4 + 8 * k) 8 (fieldAt p (8 + 8 * k) 8)) u).ok r [])

/-- The leaves about power and service. SET_LATENCY_TOLERANCE stores a head's tolerance and answers the one in force (R426). POWER_REQUEST
off shuts down during a start, in Serve and in Doze and leads from Safe to standby; on starts from M1, and cold from Safe, waits behind a
Pour that goes down, and elsewhere changes nothing; WARM_RESET resets warm and cold from Safe (R415, R416, R418, R423). UNIT_OUT takes a unit
out and UNIT_RETURN returns one whose slice passed, once no run stands (R288 to R292, R524). A removal begins with its Quiesce (R540). A leaf
that its mode refuses is answered STATE. -/
def Obligations.SystemLeaves : Prop :=
  rowSetLatencyTolerance.acts .setLatencyTolerance (fun _ _ _ => True) (fun u r p =>
    let v := ((u.wr Reg.MOD_LATENCY.US 0 r.who (fieldAt p 0 4)).wr Reg.MOD_LATENCY.SET 0 r.who 1).showTolerance
    v.ok r (leBytes 4 v.tolerance)) ∧
  rowPowerRequest.acts .powerRequestOff (fun u _ p => fieldAt p 0 4 = 0 ∧ u.ctl.mode ∈ [.m2, .m3, .m4, .m5, .m6])
    (fun u r _ => (u.ok r []).cleanShutdown) ∧
  rowPowerRequest.acts .powerRequestOff (fun u _ p => fieldAt p 0 4 = 0 ∧ u.ctl.mode = .m9)
    (fun u r _ => (((u.ok r []).clearLadder).setReg Reg.MOD_REQUEST.OFF_STANDING 1).toStandby) ∧
  rowPowerRequest.acts .powerRequestOff (fun u _ p => fieldAt p 0 4 = 0 ∧ u.ctl.mode = .m1)
    (fun u r _ => (u.ok r []).setReg Reg.MOD_REQUEST.OFF_STANDING 1) ∧
  (∀ s : State, s.reg Reg.MOD_REQUEST.ON_PENDING = 0 → s.ctl.afterPourOff = false →
    (s.cleanShutdown).ctl.mode = (if s.ctl.aux then .m1 else .m0) ∧ s.cleanShutdown.reg Reg.MOD_REQUEST.OFF_STANDING = 1 ∧
      s.cleanShutdown.ctl.retained = s.ctl.p12) ∧
  rowPowerRequest.acts .powerRequestOn (fun u _ p => fieldAt p 0 4 = 1 ∧ u.ctl.mode ∈ [.m2, .m3, .m4, .m5, .m6]) (fun u r _ => u.ok r []) ∧
  rowPowerRequest.acts .powerRequestOn (fun u _ p => fieldAt p 0 4 = 1 ∧ u.ctl.mode = .m9)
    (fun u r _ => (u.ok r []).clearLadder.beginCold) ∧
  rowPowerRequest.acts .powerRequestOn (fun u _ p => fieldAt p 0 4 = 1 ∧ u.ctl.mode = .m1 ∧ u.ctl.p12 = true ∧
      u.reg Reg.PIN_LEVEL.PWRDIS = 0)
    (fun u r _ => ((u.ok r []).setReg Reg.MOD_REQUEST.OFF_STANDING 0).beginStart) ∧
  rowPowerRequest.acts .powerRequestOn (fun u _ p => fieldAt p 0 4 = 1 ∧ u.ctl.mode = .m8 ∧ u.reg Reg.POUR_STATUS.CAUSE ≠ 3)
    (fun u r _ => (u.ok r []).setReg Reg.MOD_REQUEST.ON_PENDING 1) ∧
  rowWarmReset.acts .warmReset (fun u _ _ => u.ctl.mode ∈ [.m2, .m3, .m4, .m5, .m6]) (fun u r _ => (u.ok r []).warmReset false) ∧
  rowWarmReset.acts .warmReset (fun u _ _ => u.ctl.mode = .m9) (fun u r _ => (u.ok r []).clearLadder.beginCold) ∧
  rowWarmReset.acts .warmReset (fun u _ _ => u.ctl.mode = .m1) (fun u r _ => u.refuse r stState) ∧
  rowUnitOut.acts .unitOut
    (fun u _ p => fieldAt p 1 1 ≤ 1 ∧ fieldAt p 0 1 ≤ 2 ∧ unitExists (fieldAt p 0 1) (fieldAt p 2 2) = true ∧
      (u.unitOut (fieldAt p 0 1) (fieldAt p 2 2) (fieldAt p 1 1 == 1)).isSome = true)
    (fun u r p => let v := (u.unitOut (fieldAt p 0 1) (fieldAt p 2 2) (fieldAt p 1 1 == 1)).getD u
      v.ok r (v.unitBytes (fieldAt p 0 1) (fieldAt p 2 2))) ∧
  (∀ pass, rowUnitReturn.acts (fun h p => .unitReturn h p pass)
    (fun u _ p => fieldAt p 1 1 = 0 ∧ fieldAt p 0 1 ≤ 2 ∧ unitExists (fieldAt p 0 1) (fieldAt p 2 2) = true ∧ u.runningTest = none)
    (fun u r p => let v := if pass then u.unitReturn (fieldAt p 0 1) (fieldAt p 2 2) else u
      v.ok r (v.unitBytes (fieldAt p 0 1) (fieldAt p 2 2)))) ∧
  rowRemovalRequest.acts .removalRequest (fun u _ _ => u.ctl.mode ∈ [.m5, .m6] ∧ u.reg Reg.PIN_REMOVAL.STATE < 2)
    (fun u r _ => (u.startRemoval (if r.who = 2 then 2 else 1)).ok r []) ∧
  (∀ (s : State) (origin : Nat), s.ctl.mode ∈ [.m5, .m6] →
    (s.startRemoval origin).reg Reg.PIN_REMOVAL.STATE = 2 ∧ (s.startRemoval origin).ctl.mode = .m7 ∧
    (s.startRemoval origin).ctl.quiesce = some .removal ∧ (s.startRemoval origin).reg Reg.MOD_REQUEST.OFF_STANDING = 1)

/-- Key slots. KEY_PROVISION makes an empty slot ACTIVE with its owner, its flags and its seed, its own or an open one of the DRBG's (log entry
7), and no other slot changes (R346, R347). KEY_DESTROY begins the destroy of a slot that its requester may destroy: one without a region
is emptied at once, and one with regions sweeps each to slot 0 first (R350). RANGE_WRITE puts its register (R348). A failed entropy source
blocks the DRBG (R331), and a challenge expires (R357). -/
def Obligations.KeySlots : Prop :=
  (∀ k, rowKeyProvision.acts .keyProvision
    (fun u _ p => k = fieldAt p 0 2 ∧ 1 ≤ k ∧ k ≤ 4095 ∧ fieldAt p 2 1 < 4 ∧ fieldAt p 3 5 = 0 ∧ u.slotState k ≠ 1 ∧ u.slotState k ≠ 2 ∧
      ((fieldAt p 2 1).testBit 0 = true → fieldAt p 8 32 = 0 ∧ u.drbgBlocked = false))
    (fun u r p => let gen := (fieldAt p 2 1).testBit 0
      let v := if gen then (u.setSeed k (Config.freeNat u.free)).draw else u.setSeed k (fieldAt p 8 32)
      ((v.setSlot k 1 r.who ((fieldAt p 2 1).testBit 1) gen).raise 539).ok r [])) ∧
  (∀ (s : State) (k st owner seed : Nat) (shared gen : Bool), k < 4096 → st < 4 → owner < 4 →
    (s.setSlot k st owner shared gen).slotState k = st ∧ (s.setSlot k st owner shared gen).rd Reg.SEC_SLOT.OWNER 0 k = owner ∧
    (s.setSlot k st owner shared gen).rd Reg.SEC_SLOT.SHARED 0 k = bnat shared ∧
    (s.setSlot k st owner shared gen).rd Reg.SEC_SLOT.GENERATED 0 k = bnat gen ∧
    (s.setSlot k st owner shared gen).sec.counts.get 0 k = s.sec.counts.get 0 k + 1 ∧
    (s.setSlot k st owner shared gen).sec.seeds = s.sec.seeds ∧
    (s.setSeed k seed).sec.seeds.get 0 k = seed ∧
    (∀ j < 4096, j ≠ k → (s.setSlot k st owner shared gen).slotState j = s.slotState j ∧
      (s.setSeed k seed).sec.seeds.get 0 j = s.sec.seeds.get 0 j)) ∧
  rowKeyProvision.acts .keyProvision
    (fun u _ p => 1 ≤ fieldAt p 0 2 ∧ fieldAt p 0 2 ≤ 4095 ∧ fieldAt p 2 1 = 0 ∧ fieldAt p 3 5 = 0 ∧
      (u.slotState (fieldAt p 0 2) = 1 ∨ u.slotState (fieldAt p 0 2) = 2))
    (fun u r p => u.refuse r (if u.slotState (fieldAt p 0 2) = 1 then stState else stBusy)) ∧
  (∀ k, rowKeyDestroy.acts .keyDestroy
    (fun u r p => k = fieldAt p 0 2 ∧ 1 ≤ k ∧ k ≤ 4095 ∧ u.slotState k ≠ 0 ∧ u.mayDestroy k r.who = true ∧ u.destroying k = false)
    (fun u r _ => u.destroySlot ⟨k, r.transport, r.tag, r.nocrc, r.opcode, none⟩)) ∧
  (∀ (s : State) (d : Destroy), 1 ≤ d.slot → d.slot < 4096 → d.bulk = none → s.sweeping d.slot = false → s.destroying d.slot = false →
    s.sec.destroys.all (fun x => x.slot != d.slot) = true →
    (s.slotRegions d.slot = [] → ((s.destroySlot d).slotState d.slot = 0 ∧ (s.destroySlot d).sec.seeds.get 0 d.slot = 0 ∧
      (s.destroySlot d).sec.destroys = s.sec.destroys ∧ (s.destroySlot d).rd Reg.LNK_SRC_ROUTE.ASSERTED 0 540 = 1)) ∧
    (s.slotRegions d.slot ≠ [] → (s.destroySlot d).slotState d.slot = 2 ∧ (s.destroySlot d).out = s.out ∧
      (s.destroySlot d).pm.unread = s.pm.unread ∧
      ∀ g ∈ s.slotRegions d.slot, (s.destroySlot d).mapping.walks.any (fun w => w.kind == .sweep d.slot 0 (128 + d.slot) &&
        w.lo == g.1 * unitQuires && w.hi == g.2.1 * unitQuires) = true)) ∧
  (∀ i, rowRangeWrite.acts .rangeWrite
    (fun u r p => i = 64 * r.who + fieldAt p 0 1 ∧ fieldAt p 0 1 ≤ 63 ∧ fieldAt p 1 1 ≤ 1 ∧
      (fieldAt p 1 1 = 1 → u.rangeRefused r.who i (fieldAt p 2 2) (fieldAt p 4 2) (fieldAt p 6 2) = stOk))
    (fun u r p => (u.writeRange i (fieldAt p 2 2) (fieldAt p 4 2) (fieldAt p 6 2) ((fieldAt p 1 1).testBit 0)).ok r [])) ∧
  (∀ (s : State) (i base size slot : Nat) (on : Bool), i < 128 → base < 65536 → size < 65536 → slot < 4096 →
    ∃ t, t = s.writeRange i base size slot on ∧ t.rd Reg.SEC_RANGE.BASE 0 i = base ∧ t.rd Reg.SEC_RANGE.SIZE 0 i = size ∧
      t.rd Reg.SEC_RANGE.SLOT 0 i = slot ∧ t.rangeOn i = on ∧ (∀ j < 128, j ≠ i → ∀ u, t.rangeCovers j u = s.rangeCovers j u) ∧
      t.path.ways = s.path.ways ∧ t.mapping.map = s.mapping.map) ∧
  (∀ (s : State) (d : Fin 2), s.running = true →
    ∃ t, exec (.drbgHealthFail d) s = .next t ∧ t.rd Reg.SEC_STATUS.DRBG_FAIL d.val 0 = 1 ∧
      t.rd Reg.LNK_SRC_ROUTE.ASSERTED 0 549 = 1 ∧ s.booked t [Reg.SEC_STATUS.DRBG_FAIL]) ∧
  (∀ s : State, exec .scanChallengeExpiry s = .next { s with sec := { s.sec with challenge := none } })

/-- Secured leaves of the firmware and of scan mode. SCAN_CHALLENGE answers 16 open bytes that stand as the challenge, SCAN_UNLOCK enters scan
mode with a good token, or after the Pour that runs, and refuses another (R357, R358, R360). FW_TRANSFER takes a piece that lies in its image
(R353). FW_ACTIVATE asks for its Quiesce, or starts cold from Safe, and refuses an image that does not verify (R354, R423). SVN_COMMIT
raises the fused number while the other slot keeps one at least as high (R355). -/
def Obligations.ImagesAndTokens : Prop :=
  rowScanChallenge.acts .scanChallenge (fun u _ _ => u.drbgBlocked = false) (fun u r _ =>
    (({ u with free := u.free + 1, sec := { u.sec with challenge := some (Config.freeNat u.free % 2 ^ 128) } } : State).raise 548).ok r
      (leBytes 16 (Config.freeNat u.free % 2 ^ 128))) ∧
  (∀ signed, rowScanUnlock.acts (fun h p => .scanUnlock h p signed)
    (fun u _ p => u.tokenGood p signed = true ∧ u.drbgBlocked = false ∧ u.pour.running = false) (fun u r _ => (u.ok r []).scanEnter)) ∧
  (∀ signed, rowScanUnlock.acts (fun h p => .scanUnlock h p signed)
    (fun u _ p => u.tokenGood p signed = true ∧ u.drbgBlocked = false ∧ u.pour.running = true)
    (fun u r _ => ({ u with sec := { u.sec with scanHeld := true } } : State).ok r [])) ∧
  (∀ signed, rowScanUnlock.acts (fun h p => .scanUnlock h p signed) (fun u _ p => u.tokenGood p signed = false)
    (fun u r _ => (u.raise 547).refuse r stSignature)) ∧
  (∀ s : State, ∃ t, t = s.scanEnter ∧ t.sec.scanMarker = true ∧ t.sec.scanEnabled = true ∧ t.sec.keysLoaded = false ∧
    t.sec.sessions = [] ∧ t.sec.challenge = none ∧ t.path.ways = [] ∧ t.path.staged = [] ∧ t.mapping.walks = [] ∧
    t.reg Reg.SEC_STATUS.SCAN = 1 ∧ t.reg Reg.SEC_STATUS.UDS_CLOSED = 1) ∧
  (∀ v, rowFwTransfer.acts (fun h p => .fwTransfer h p v)
    (fun u _ p => imagePiece (fieldAt p 0 4) (p.length - 8) (fieldAt p 4 4) = true ∧
      (u.takeImage (fieldAt p 0 4) (p.length - 8) (fieldAt p 4 4) v).2 = false)
    (fun u r p => (u.takeImage (fieldAt p 0 4) (p.length - 8) (fieldAt p 4 4) v).1.ok r [])) ∧
  (∀ v, rowFwTransfer.acts (fun h p => .fwTransfer h p v)
    (fun u _ p => imagePiece (fieldAt p 0 4) (p.length - 8) (fieldAt p 4 4) = true ∧
      (u.takeImage (fieldAt p 0 4) (p.length - 8) (fieldAt p 4 4) v).2 = true)
    (fun u r p => (u.takeImage (fieldAt p 0 4) (p.length - 8) (fieldAt p 4 4) v).1.refuse r stSignature)) ∧
  (∀ (s : State) (offset n length : Nat) (v : ImageVerdict), (s.takeImage offset n length v).2 = true →
    (s.takeImage offset n length v).1.sec = { s.sec with transfer := none } ∧
    (s.takeImage offset n length v).1.rd Reg.LNK_SRC_ROUTE.ASSERTED 0 543 = 1) ∧
  (∀ (s : State) (offset n length version svn : Nat), s.imageFollows offset length = true →
    (offset + n < length → ∃ t, s.takeImage offset n length .partly = (t, false) ∧
      t.sec = { s.sec with transfer := some (1 - s.fwRuns, offset + n, length) }) ∧
    (length ≤ offset + n → s.reg Reg.SEC_FW.SVN_FUSED ≤ svn % 256 → ∃ t, s.takeImage offset n length (.good version svn) = (t, false) ∧
      t.fwSlot (1 - s.fwRuns) = ⟨true, version % 65536, svn % 256⟩ ∧ t.fwSlot s.fwRuns = s.fwSlot s.fwRuns ∧ t.sec.transfer = none)) ∧
  (∀ verified, rowFwActivate.acts (fun h p => .fwActivate h p verified) (fun u _ _ => u.mayActivate verified = false)
    (fun u r _ => (u.raise 543).refuse r stSignature)) ∧
  (∀ verified, rowFwActivate.acts (fun h p => .fwActivate h p verified) (fun u _ _ => u.mayActivate verified = true ∧ u.ctl.mode ≠ .m9)
    (fun u r _ => u.askQuiesce (.activateLeaf r.transport r.tag r.nocrc))) ∧
  (∀ verified, rowFwActivate.acts (fun h p => .fwActivate h p verified) (fun u _ _ => u.mayActivate verified = true ∧ u.ctl.mode = .m9)
    (fun u r _ => ((u.ok r []).setReg Reg.MOD_LADDER.BOOT_SLOT (1 - u.fwRuns)).clearLadder.beginCold)) ∧
  (∀ (s : State) (w : QWork), s.ctl.mode = .m5 → s.mapping.walks = [] →
    (s.askQuiesce w).ctl.mode = .m7 ∧ (s.askQuiesce w).ctl.quiesce = some w ∧ (s.askQuiesce w).pm.unread = s.pm.unread) ∧
  rowSvnCommit.acts .svnCommit
    (fun u _ _ => (u.fwSlot (1 - u.fwRuns)).valid = true ∧ u.reg Reg.SEC_FW.SVN_RUNNING ≤ (u.fwSlot (1 - u.fwRuns)).svn)
    (fun u r _ => let v := (u.setReg Reg.SEC_FW.SVN_FUSED (min 32 (max (u.reg Reg.SEC_FW.SVN_FUSED) (u.reg Reg.SEC_FW.SVN_RUNNING)))).raise 545
      v.ok r (leBytes 1 (v.reg Reg.SEC_FW.SVN_FUSED)))

/-- Bulk operations. A descriptor that R363 and R364 allow is accepted with a handle, in a free slot of the table or the one that ended
earliest, and waits in the order of acceptance (R365); ERASE_KEY replies with the end of its destroy (R372). A running operation handles its next quire
(R366 to R371), and BULK_ABORT ends one (R374). -/
def Obligations.BulkOperations : Prop :=
  (∀ k op, ∀ leaf : LeafHdr → List Byte → Instr,
    (op = 0 ∧ leaf = .zero) ∨ (op = 1 ∧ leaf = .fill) ∨ (op = 2 ∧ leaf = .copy) ∨ (op = 3 ∧ leaf = .check) ∨ (op = 4 ∧ leaf = .compare) →
    rowBulkStart.acts leaf
      (fun u r p => descOp p = op ∧ descBad p = false ∧ u.bulkSlot = some k ∧
        u.rangesOpen [(fieldAt p 8 8 / 1024, fieldAt p 8 8 / 1024 + descQuires p)] r.who = true ∧
        (op = 2 ∨ op = 4 → u.rangesOpen [(fieldAt p 16 8 / 1024, fieldAt p 16 8 / 1024 + descQuires p)] r.who = true))
      (fun u r p => ((u.acceptBulk p r.who k []).reply r stAccepted
        (leBytes 2 (u.nextHandle (u.reg Reg.BLK_QUEUE.NEXT_HANDLE) 16))).bulkGo)) ∧
  (∀ k, rowBulkStart.acts .eraseKey
    (fun u r p => descOp p = 5 ∧ securedTransport r.transport = true ∧ descBad p = false ∧ u.mayDestroy (fieldAt p 32 2) r.who = true ∧
      u.slotState (fieldAt p 32 2) ≠ 0 ∧ u.destroying (fieldAt p 32 2) = false ∧ u.bulkSlot = some k)
    (fun u r p => let v := u.acceptBulk p r.who k (u.slotQuires (fieldAt p 32 2))
      ({ v with sec := { v.sec with destroys := v.sec.destroys ++
        [⟨fieldAt p 32 2, r.transport, r.tag, r.nocrc, r.opcode, some k⟩] } } : State).bulkGo)) ∧
  (∀ (s : State) (p : List Byte) (who k : Nat) (regions : List (Nat × Nat)), s.canonical = true → k < 16 →
    ∃ t, t = s.acceptBulk p who k regions ∧ (t.bulkAt k).op = descOp p ∧ (t.bulkAt k).state = .queued ∧ (t.bulkAt k).origin = who ∧
      (t.bulkAt k).done = 0 ∧ (descOp p ≠ 5 → (t.bulkAt k).total = descQuires p) ∧
      (t.bulkAt k).handle = s.nextHandle (s.reg Reg.BLK_QUEUE.NEXT_HANDLE) 16 ∧ (t.bulkAt k).regions = regions ∧
      (∀ b ∈ s.bulk, b.order < (t.bulkAt k).order) ∧ (∀ j, j ≠ k → t.bulkAt j = s.bulkAt j) ∧ t.path = s.path ∧ t.mapping = s.mapping) ∧
  (∀ k, rowBulkAbort.acts .bulkAbort
    (fun u r p => u.bulkOf (fieldAt p 0 2) = some k ∧ (r.who = (u.bulkAt k).origin ∨ r.who = 2 ∨ r.who = u.primary) ∧
      (u.bulkAt k).state ≠ .ended ∧ (u.bulkAt k).op ≠ 5)
    (fun u r _ => let v := if (u.bulkAt k).zeroing then u.stopZero (u.bulkAt k).handle else u
      ((if (u.bulkAt k).op = 3 ∧ (u.bulkAt k).state ≠ .queued then v.checkEnds k 4 else v.endBulk k 4).ok r []).bulkGo)) ∧
  (∀ (s : State) (k result : Nat), s.canonical = true → k < 16 →
    ((s.endBulk k result).bulkAt k).state = .ended ∧ ((s.endBulk k result).bulkAt k).result = result ∧
    ((s.endBulk k result).bulkAt k).handle = (s.bulkAt k).handle ∧ (s.endBulk k result).rd Reg.LNK_SRC_ROUTE.ASSERTED 0 614 = 1 ∧
    (∀ j, j ≠ k → (s.endBulk k result).bulkAt j = s.bulkAt j)) ∧
  (∀ (s : State) (k : Fin 16) (sheets : List SheetOutcome), s.inService = true → (s.bulkAt k.val).state = .running →
    let b := s.bulkAt k.val
    let oa := fun n => sheets[n]?.getD .good
    let ob := fun n => sheets[4 + n]?.getD .good
    let qa := b.a + b.done
    let qb := b.b + b.done
    (b.op = 5 → exec (.bulkQuireHandled k sheets) s = .next s) ∧
    (b.op ≠ 5 → b.zeroing = true → exec (.bulkQuireHandled k sheets) s = .next (s.zeroQuire k.val).bulkGo) ∧
    (b.op ≠ 5 → b.zeroing = false → b.sent = true → exec (.bulkQuireHandled k sheets) s =
      .next (s.bulkWrote k.val qa (346 + b.op)).bulkGo) ∧
    (b.zeroing = false → b.sent = false →
      (b.op = 1 → exec (.bulkQuireHandled k sheets) s =
        .next (((s.writeQuire qa (Block16.ofPattern b.pattern)).tally (ownerOf qa) 215 1).bulkWrote k.val qa 347).bulkGo) ∧
      (b.op = 2 → (s.chanLost (chanOf qb) = true ∨ s.tagFails qb oa = none) → exec (.bulkQuireHandled k sheets) s =
        .next (((s.copyQuire qa qb oa).tally (ownerOf qa) 215 1).bulkWrote k.val qa 348).bulkGo) ∧
      (b.op = 3 → (s.chanLost (chanOf qa) = true ∨ s.tagFails qa oa = none) → exec (.bulkQuireHandled k sheets) s =
        .next (s.checkQuire k.val qa oa).bulkGo) ∧
      (b.op = 4 → (s.chanLost (chanOf qa) = true ∨ s.tagFails qa oa = none) →
        (s.chanLost (chanOf qb) = true ∨ s.tagFails qb ob = none) →
        exec (.bulkQuireHandled k sheets) s = .next (s.compareQuire k.val qa qb oa ob).bulkGo) ∧
      (∀ n, b.op = 2 → s.chanLost (chanOf qb) = false → s.tagFails qb oa = some n →
        exec (.bulkQuireHandled k sheets) s = .next (s.bulkTamper qb n)))) ∧
  (∀ (s : State) (k q event : Nat), s.canonical = true → k < 16 →
    let t := s.bulkWrote k q event
    (s.wtWaits q = true → (t.bulkAt k).done = (s.bulkAt k).done ∧ (t.bulkAt k).state = (s.bulkAt k).state ∧ (t.bulkAt k).sent = true) ∧
    (s.wtWaits q = false → (t.bulkAt k).done = (s.bulkAt k).done + 1 ∧ (t.bulkAt k).sent = false))

/-- Self-test runs. SELFTEST_RUN begins a run of the slices it names and answers its handle (R520, R523); a slice that ends without a
faulty unit passes, and a whole that is broken fails (R517, R522); at a start, a slice at its budget ends FAIL and leads to Safe (R518, R519). -/
def Obligations.SelfTestSlices : Prop :=
  (∀ mask : Nat, ∀ l : List Nat, rowSelftestRun.acts .selftestRun
    (fun u _ p => mask = fieldAt p 0 8 ∧ l = (List.range 33).filter (fun k => mask.testBit k) ∧ l ≠ [] ∧ mask < 2 ^ 33 ∧
      u.runningTest = none ∧ (u.ctl.mode = .m9 ∨ (u.ctl.mode ∈ [.m5, .m6] ∧ ∀ k ∈ safeSlices, k ∉ l)))
    (fun u r _ => let v := ((if u.ctl.mode = .m6 then u.leaveDoze else u).beginRun 2 (BitVec.ofNat 64 mask) l).startSlices
      v.reply r stAccepted (leBytes 2 ((v.test.head?.map TestRun.handle).getD 0)))) ∧
  (∀ (s : State) (mask : BitVec 64) (l : List Nat), ∃ t x, t = (s.beginRun 2 mask l).startSlices ∧ t.runningTest = some x ∧
    t.test = (x :: s.test).take 8 ∧ x.left = l ∧ x.trigger = 2 ∧ x.mask = mask ∧ x.recs = [] ∧
    (∀ d < 2, t.rd Reg.BST_RUN.STATE d 0 = 1 ∧ t.rd Reg.BST_FAILED.MASK d 0 = 0) ∧
    t.path = s.path ∧ t.mapping = s.mapping ∧ t.media = s.media ∧ t.ctl = s.ctl) ∧
  (∀ (s : State) (r : SliceResult) (run : TestRun), s.runningTest = some run → s.enginesOn = true → s.slicesNow.contains r.slice.val = true →
    s.held = [] → s.ctl.mode ≠ .m3 → r.units = [] →
    ∃ t, exec (.selftestSliceDone r) s = .next t ∧
      t.rd Reg.BST_SLICE.VERDICT (sliceDie r.slice.val) r.slice.val =
        (if r.broken = true ∧ [16, 17, 18, 19, 24, 25, 31].contains r.slice.val = true then 3 else 1) ∧
      t.path = s.path ∧ t.mapping = s.mapping ∧ t.media = s.media) ∧
  (∀ (s : State) (r : SliceResult) (run : TestRun), s.runningTest = some run → s.enginesOn = true → s.slicesNow.contains r.slice.val = true →
    s.ctl.mode = .m3 → (s.endSlice run r).2 = 3 → exec (.selftestSliceDone r) s = .next (((s.endSlice run r).1.endRun 2).toSafe 1)) ∧
  (∀ (s : State) (k : Fin 33) (run : TestRun), s.runningTest = some run → s.ctl.mode = .m3 → s.slicesNow.contains k.val = true →
    ∃ t, exec (.selftestBudgetExpiry k) s = .next t ∧ t.ctl.mode = .m9 ∧ t.reg Reg.MOD_STATUS.SAFE_CAUSE = 1 ∧
      t.rd Reg.BST_SLICE.VERDICT (sliceDie k.val) k.val = 3 ∧ t.runningTest = none) ∧
  (∀ (s : State) (k : Fin 33), s.ctl.mode ≠ .m3 → exec (.selftestBudgetExpiry k) s = .next s)

/-! ## The Ream, the quire store, the window and the tally -/

/-- Readers of the Ream. REAM_READ answers the whole records that fit from the reader's cursor, after the first SEQ, GAP and LOST, and
moves the cursor past them; its other forms move the cursor to the mark and the mark to the cursor (R500, R502). Full or 1 s old log
pages are programmed (R496), and a second ends with its summaries (R494). The quire store. A page is read under its zone's password, or
without one in the firmware zone, whose sealed pages no leaf reads and which no leaf writes (R506, R509); a wrong password is refused
and counted, the eighth in a row locks the zone out, and a zone that is locked out refuses every password (R509). A write is queued, and
answered when its page commits; one that fails to verify leaves the page as it was (R505, R510). -/
def Obligations.ReamAndStore : Prop :=
  ((∀ k, rowReamRead.acts .reamRead (fun _ r p => k = readerOf r.who ∧ fieldAt p 0 1 = 0 ∧ fieldAt p 1 3 = 0 ∧ 1 ≤ fieldAt p 4 4 ∧
      fieldAt p 4 4 ≤ 65536)
    (fun u r p => let l := u.taken k (min (fieldAt p 4 4) 65520)
      ((u.setCursor k (u.seqAfter k l)).reportGap k).ok r
        (u.reamPrefix k ((l.head?.map ReamRec.seq).getD u.ream.nextSeq) ++ l.flatMap ReamRec.bytes)) ∧
    rowReamRead.acts .reamRewindToMark (fun _ r p => k = readerOf r.who ∧ fieldAt p 0 1 = 1 ∧ fieldAt p 1 3 = 0)
      (fun u r _ => ((u.setCursor k (u.mark k)).reportGap k).ok r (u.reamPrefix k u.ream.nextSeq)) ∧
    rowReamRead.acts .reamSetMark (fun _ r p => k = readerOf r.who ∧ fieldAt p 0 1 = 2 ∧ fieldAt p 1 3 = 0)
      (fun u r _ => ((u.setMark k (u.cursor k)).reportGap k).ok r (u.reamPrefix k u.ream.nextSeq))) ∧
  (∀ (n : Nat) (l : List ReamRec), logBytes (fitRecords n l) ≤ n ∧ fitRecords n l <+: l) ∧
  (∀ (s : State) (u q : Nat), u < 2 →
    (s.mirrored = false →
      (s.setCursor u q).rd Reg.REAM_CURSOR.SEQ 0 u = q % 2 ^ 64 ∧ (s.setMark u q).rd Reg.REAM_MARK.SEQ 0 u = q % 2 ^ 64 ∧
      (s.setCursor u q).rd Reg.REAM_CURSOR.SEQ 0 (1 - u) = s.rd Reg.REAM_CURSOR.SEQ 0 (1 - u) ∧
      (s.setMark u q).rd Reg.REAM_MARK.SEQ 0 (1 - u) = s.rd Reg.REAM_MARK.SEQ 0 (1 - u) ∧
      s.booked (s.setCursor u q) [Reg.REAM_CURSOR.SEQ] ∧ s.booked (s.setMark u q) [Reg.REAM_MARK.SEQ]) ∧
    (s.mirrored = true → (s.setCursor u q).regs = s.regs ∧ (s.setCursor u q).ream.mirrorCursor.get u = q ∧
      (s.setMark u q).regs = s.regs ∧ (s.setMark u q).ream.mirrorMark.get u = q) ∧
    (s.rd Reg.REAM_GAP.GAP 0 u = 0 → s.reportGap u = s)) ∧
  (∀ s : State, s.running = true → s.ctl.mode ≠ .m2 → ∃ t, exec .reamPageFlush s = .next t ∧
    t.ream = { s.ream with programmed := s.ream.nextSeq - 1 } ∧ t.out = s.out) ∧
  (∀ s : State, ∃ t, exec .reamSuppressionSummary s = .next t ∧ t.ream.accepted = [] ∧ t.ream.suppressed = [] ∧ s.dataKept t ∧
    s.regsBut t reamFields ∧
    (s.ream.suppressed ≠ [] → s.reg Reg.REAM_CFG.DEBUG_EN = 1 → t.rd Reg.LNK_SRC_ROUTE.ASSERTED 0 621 = 1 ∧
      t.ream.nextSeq = s.ream.nextSeq + s.ream.suppressed.length))) ∧
  (rowQstRead.acts .qstRead (fun _ _ p => qstFieldsOk p = true ∧ fieldAt p 0 1 = 2 ∧ sealedPage (qstPage p) = false)
    (fun u r p => u.draw.ok r (u.pageBytes (qstPage p) (fieldAt p 4 1) (fieldAt p 5 2))) ∧
  rowQstRead.acts .qstRead (fun _ _ p => qstFieldsOk p = true ∧ fieldAt p 0 1 = 2 ∧ sealedPage (qstPage p) = true)
    (fun u r _ => u.refuse r stAccess) ∧
  rowQstWrite.acts .qstWrite (fun _ _ p => qstFieldsOk p = true ∧ fieldAt p 0 1 = 2 ∧ fieldAt p 5 2 = (p.drop 16).length)
    (fun u r _ => u.refuse r stAccess) ∧
  (∀ z < 2,
    rowQstRead.acts .qstRead (fun u _ p => qstFieldsOk p = true ∧ fieldAt p 0 1 = z ∧ u.lockedOut z = false ∧
        admits (u.password z false) (fieldAt p 8 8) = true)
      (fun u r p => (u.wr Reg.QST_PW.FAILS 0 z 0).draw.ok r (u.pageBytes (qstPage p) (fieldAt p 4 1) (fieldAt p 5 2))) ∧
    rowQstRead.acts .qstRead (fun u _ p => qstFieldsOk p = true ∧ fieldAt p 0 1 = z ∧ u.lockedOut z = false ∧
        admits (u.password z false) (fieldAt p 8 8) = false)
      (fun u r _ => (u.passwordFails z).refuse r stPassword) ∧
    rowQstRead.acts .qstRead (fun u _ p => qstFieldsOk p = true ∧ fieldAt p 0 1 = z ∧ u.lockedOut z = true)
      (fun u r _ => u.refuse r stPassword) ∧
    rowQstWrite.acts .qstWrite (fun u _ p => qstFieldsOk p = true ∧ fieldAt p 0 1 = z ∧ fieldAt p 5 2 = (p.drop 16).length ∧
        u.lockedOut z = false ∧ admits (u.password z true) (fieldAt p 8 8) = true)
      (fun u r p => { u.wr Reg.QST_PW.FAILS 0 z 0 with
        qst := { u.qst with queue := u.qst.queue ++ [⟨qstPage p, fieldAt p 4 1, p.drop 16, r.transport, r.tag, r.nocrc⟩] } }) ∧
    (∀ s : State, s.dataKept (s.passwordFails z) ∧ (s.passwordFails z).qst.queue = s.qst.queue ∧
      (s.passwordFails z).rd Reg.QST_PW.FAILS 0 z = min (s.rd Reg.QST_PW.FAILS 0 z + 1) 15 ∧
      (s.rd Reg.QST_PW.FAILS 0 z = 7 → (s.passwordFails z).lockedOut z = true ∧
        (s.passwordFails z).rd Reg.LNK_SRC_ROUTE.ASSERTED 0 623 = 1))) ∧
  (∀ (s u : State) (plane : Fin 4) (w : QstWrite), s.planeWrite plane.val = some w →
    u = { s with qst := { s.qst with queue := dropFirst (fun x => x.page % 4 == plane.val) s.qst.queue } } →
    exec (.qstPageWriteDone plane true) s =
      .next ((u.pageWrite w.page w.offset w.data).ok (w.req (w.replaced u.qst.queue)) []) ∧
    exec (.qstPageWriteDone plane false) s =
      .next (((u.bump Reg.QST_TORN.VERIFY_FAIL 0 0 1).raise 622).refuse (w.req (w.replaced u.qst.queue)) stState)) ∧
  (∀ (s : State) (page o : Nat) (b : List Byte), b.length ≤ 256 → ∃ t, t = s.pageWrite page o b ∧ s.dataKept t ∧ t.out = s.out ∧
    (∀ k (h : k < b.length), t.qstByte page (o + k) = b[k]) ∧
    (∀ a i, a ≠ page → t.qstByte a i = s.qstByte a i) ∧
    (∀ i < 256, (∀ k < b.length, (o + k) % 256 ≠ i) → t.qstByte page i = s.qstByte page i) ∧
    t.qst.writes.get 0 page = s.qst.writes.get 0 page + 1))

/-- BAR2. An access that the grant, its alignment and its size open reads or writes the window; another counts a violation at its head, reads
zero and writes nothing (R115 to R117). A write of a field follows its access code (R11), and a bit that the hardware sets in the cycle of
the write that clears it reads 1 (R13). -/
def Obligations.WindowOpensByGrant : Prop :=
  (∀ (s : State) (h : Fin 2) (off size : Nat), s.ioUp h.val = true → s.barOpens h.val off size false = true →
    exec (.bar2Read h off size) s =
      .next ((s.readPlace off size).1.draw.send (.bar2 h.val off size (s.readPlace off size).2))) ∧
  (∀ (s : State) (h : Fin 2) (off size : Nat), s.ioUp h.val = true → s.barOpens h.val off size false = false →
    ∃ t, exec (.bar2Read h off size) s = .next t ∧ t.out = .bar2 h.val off size 0 :: s.out ∧
      t.rd Reg.LNK_BAR2_VIOL.COUNT h.val 0 = min (s.rd Reg.LNK_BAR2_VIOL.COUNT h.val 0 + 1) (2 ^ Reg.LNK_BAR2_VIOL.COUNT.width - 1) ∧
      t.rd Reg.LNK_SRC_ROUTE.ASSERTED 0 (512 + 12 * h.val + 10) = 1 ∧ s.dataKept t ∧ s.regsBut t [Reg.LNK_BAR2_VIOL.COUNT]) ∧
  (∀ (s : State) (h : Fin 2) (off size : Nat) (v hw : BitVec 64), s.ioUp h.val = true → s.barOpens h.val off size true = true →
    exec (.registerWrite h off size ⟨v, hw⟩) s = .next ((s.writePlace off size v.toNat).hwSet off hw.toNat)) ∧
  (∀ (s : State) (h : Fin 2) (off size : Nat) (v : BitVec 64), s.ioUp h.val = true → s.barOpens h.val off size true = false →
    ∃ t, exec (.registerWrite h off size ⟨v, 0⟩) s = .next t ∧ s.booked t [Reg.LNK_BAR2_VIOL.COUNT]) ∧
  (∀ (s : State) (h off size : Nat) (w : Bool), h ≠ s.primary ∨ (size ≠ 4 ∧ size ≠ 8) ∨ off % size ≠ 0 ∨ regionOf off = none →
    s.barOpens h off size w = false) ∧
  (∀ (s : State) (off size v : Nat), placeOf off = .empty → s.writePlace off size v = s ∧ s.readPlace off size = (s, 0)) ∧
  (∀ (s : State) (f : Field) (d i v : Nat), d < 2 → (d = 0 ∨ f.scope ≠ .die0) → 0 < f.width →
    (f.acc = .rw → (s.writeField f d i (2 ^ f.width - 1) v).rd f d i = v % 2 ^ f.width) ∧
    (f.acc = .rw1c → f.width = 1 → s.rd f d i < 2 → (s.writeField f d i 1 v).rd f d i = (if v.testBit 0 then 0 else s.rd f d i)) ∧
    (f.acc = .ro → s.writeField f d i (2 ^ f.width - 1) v = s)) ∧
  (∀ (s : State) (off : Nat), s.hwSet off 0 = s) ∧
  (∀ (s : State) (off bits d o : Nat) (b : Block) (copy : Bool) (f : Field) (i : Nat), placeOf off = .word b d o copy →
    (f, i) ∈ fieldsAt b (o / 8) → f.acc = .rw1c → f.width = 1 → (d = 0 ∨ f.scope ≠ .die0) →
    bits.testBit (f.bit i % 64) = true → (s.hwSet off bits).rd f d i = 1)

/-- R379: a channel of width 3 to 64 shifts each bit of a byte in from the top, with the polynomial at its low bits, and its result is reflected
and inverted as its configuration says; POLY, INIT and CTX use their low bits. -/
def Obligations.StrainerComputesCrc : Prop :=
  (∀ (s : State) (d n : Nat), 3 ≤ (s.strCfg d n).width ∧ (s.strCfg d n).width ≤ 64) ∧
  (∀ (c : StrCfg) (reg : Nat) (b : BitVec 8), 3 ≤ c.width →
    c.feed reg b = ((List.range 8).foldl (fun (r : BitVec c.width) k =>
      let top := r.msb ^^ (if c.refin then b.reverse else b).getLsbD (7 - k)
      if top then (r <<< 1) ^^^ BitVec.ofNat c.width c.poly else r <<< 1) (BitVec.ofNat c.width reg)).toNat) ∧
  (∀ (c : StrCfg) (reg : Nat), 3 ≤ c.width →
    c.final reg = (let r := if c.refout then (BitVec.ofNat c.width reg).reverse else BitVec.ofNat c.width reg
      if c.invert then ~~~r else r).toNat) ∧
  (∀ (s : State) (d n : Nat) (l : List Byte), 1 ≤ n → n < 16 →
    (s.strFeed d n l).rd Reg.STR_CTX.CTX d n = l.foldl (s.strCfg d n).feed (s.rd Reg.STR_CTX.CTX d n) % 2 ^ 64 ∧
    (s.strStart d n).rd Reg.STR_CTX.CTX d n = (s.strCfg d n).init % 2 ^ 64 ∧
    (s.strFinal d n).rd Reg.STR_RESULT.RESULT d n = (s.strCfg d n).final (s.rd Reg.STR_CTX.CTX d n) % 2 ^ 64 ∧
    (s.strFinal d n).rd Reg.STR_CTX.CTX d n = s.rd Reg.STR_CTX.CTX d n)

/-- The window's own registers. A data write feeds a Strainer channel of software's, START loads its initial value, TAIL feeds up to 7 bytes
and FINAL shows the result and compares it (R378 to R381); a channel that a CHECK uses shows COLLISION, and channels 0 to 3 ignore the host (R382).
A read of a live counter latches its bank, a whole write sets it (R479, R480), the sampler's selection restarts its count (R484). REAM_CMD
loads, rewinds and marks, and a write of 1 to GAP reports it (R500, R501). -/
def Obligations.WindowCommands : Prop :=
  (∀ (s : State) (w : BarWho) (die : Fin 2) (n : Fin 16) (wide : Bool) (v : BitVec 64) (b : Fin 8),
    (∀ o size, o = 0x28 ∨ o = 0x38 → size = 4 ∨ size = 8 →
      s.barOpens w.head.val (strOffset w die.val (64 * n.val + o)) size true = true) → s.ioUp w.head.val = true →
    (n.val < 4 → exec (.strDataWrite w die n wide v) s = .next s ∧ exec (.strCmdStart w die n) s = .next s ∧
      exec (.strCmdTail w die n b) s = .next s ∧ exec (.strCmdFinal w die n) s = .next s) ∧
    (4 ≤ n.val → s.strBusy die.val n.val = true →
      exec (.strDataWrite w die n wide v) s = .next (s.wr Reg.STR_CFG.COLLISION die.val n.val 1) ∧
      exec (.strCmdStart w die n) s = .next (s.wr Reg.STR_CFG.COLLISION die.val n.val 1) ∧
      exec (.strCmdTail w die n b) s = .next (s.wr Reg.STR_CFG.COLLISION die.val n.val 1) ∧
      exec (.strCmdFinal w die n) s = .next (s.wr Reg.STR_CFG.COLLISION die.val n.val 1)) ∧
    (4 ≤ n.val → s.strBusy die.val n.val = false →
      (∃ t, exec (.strDataWrite w die n wide v) s = .next t ∧ s.booked t [Reg.STR_CTX.CTX] ∧
        t.rd Reg.STR_CTX.CTX die.val n.val =
          (leBytes (if wide then 8 else 4) v.toNat).foldl (s.strCfg die.val n.val).feed (s.rd Reg.STR_CTX.CTX die.val n.val) % 2 ^ 64) ∧
      (∃ t, exec (.strCmdStart w die n) s = .next t ∧ s.booked t [Reg.STR_CTX.CTX, Reg.STR_CFG.DONE] ∧
        t.rd Reg.STR_CTX.CTX die.val n.val = (s.strCfg die.val n.val).init % 2 ^ 64 ∧ t.rd Reg.STR_CFG.DONE die.val n.val = 0) ∧
      (∃ t, exec (.strCmdTail w die n b) s = .next t ∧ s.booked t [Reg.STR_CTX.CTX] ∧
        t.rd Reg.STR_CTX.CTX die.val n.val = (leBytes b.val (s.rd Reg.STR_TAIL.TAIL die.val n.val)).foldl
          (s.strCfg die.val n.val).feed (s.rd Reg.STR_CTX.CTX die.val n.val) % 2 ^ 64) ∧
      (∃ t, exec (.strCmdFinal w die n) s = .next t ∧
        s.booked t [Reg.STR_RESULT.RESULT, Reg.STR_CFG.DONE, Reg.STR_CFG.MISMATCH, Reg.STR_SUMMARY.MISMATCH] ∧
        t.rd Reg.STR_RESULT.RESULT die.val n.val = (s.strCfg die.val n.val).final (s.rd Reg.STR_CTX.CTX die.val n.val) % 2 ^ 64 ∧
        t.rd Reg.STR_CFG.DONE die.val n.val = 1 ∧
        (s.strMismatch die.val n.val = true → t.rd Reg.STR_CFG.MISMATCH die.val n.val = 1 ∧
          t.rd Reg.LNK_SRC_ROUTE.ASSERTED 0 (612 + die.val) = 1)))) ∧
  (∀ (s : State) (w : BarWho) (die : Fin 2) (bank : Fin 3) (i : Nat) (wide : Bool), i < bankCounters bank → s.ioUp w.head.val = true →
    s.barOpens w.head.val (tlyOffset w die.val (liveOffset bank.val i)) (if wide then 8 else 4) false = true →
    ∃ t v, exec (.tlyLiveRead w die bank i wide) s = .next t ∧
      t.out = .bar2 w.head.val (tlyOffset w die.val (liveOffset bank.val i)) (if wide then 8 else 4) v :: s.out ∧
      v = s.tlyValue die.val bank.val i % 2 ^ 48 % 2 ^ (if wide then 64 else 32) ∧
      t.rd Reg.TLY_LATCH.SEQ die.val bank.val = (s.rd Reg.TLY_LATCH.SEQ die.val bank.val + 1) % 2 ^ 32 ∧
      (∀ j < bankSize bank.val, t.rd (tlySnap bank.val) die.val j = s.tlyValue die.val bank.val j % 2 ^ 48) ∧
      (∀ j, t.rd (tlyLive bank.val) die.val j = s.rd (tlyLive bank.val) die.val j)) ∧
  (∀ (s : State) (w : BarWho) (die : Fin 2) (bank : Fin 3) (i : Nat) (wide : Bool) (v : BitVec 64) (n : Nat), i < bankCounters bank →
    s.ioUp w.head.val = true →
    s.barOpens w.head.val (tlyOffset w die.val (liveOffset bank.val i)) (if wide then 8 else 4) true = true →
    exec (.tlyCounterWrite w die bank i wide v n) s =
      .next ((if wide then s.wr (tlyLive bank.val) die.val i v.toNat else s).tlyAdd die.val bank.val i n)) ∧
  (∀ (s : State) (w : BarWho) (die : Fin 2) (v : BitVec 32), s.ioUp w.head.val = true →
    s.barOpens w.head.val (tlyOffset w die.val 0x28) 4 true = true →
    ∃ t, exec (.tlySampleCfgWrite w die v) s = .next t ∧ t.rd Reg.TLY_SAMPLE_CFG.MODE die.val 0 = v.toNat % 4 ∧
      t.rd Reg.TLY_SAMPLE_CFG.EVENT die.val 0 = v.toNat / 65536 ∧ t.tlyCount.get die.val = 0 ∧ t.tlyBuf = s.tlyBuf) ∧
  (∀ (s : State) (w : BarWho), s.ioUp w.head.val = true → s.barOpens w.head.val (reamOffset w 0x78) 8 true = true →
    exec (.reamCmdLoad w) s = .next s.loadWindow ∧
    exec (.reamCmdRewind w) s = .next (s.wr Reg.REAM_CURSOR.SEQ 0 0 (s.rd Reg.REAM_MARK.SEQ 0 0)) ∧
    exec (.reamCmdMark w) s = .next (s.wr Reg.REAM_MARK.SEQ 0 0 (s.rd Reg.REAM_CURSOR.SEQ 0 0))) ∧
  (∀ s : State, ∃ t, t = s.loadWindow ∧ t.ream.window = s.windowRecords.flatMap ReamRec.bytes ∧
    t.reg Reg.REAM_WIN.RECORDS = s.windowRecords.length % 256 ∧ logBytes s.windowRecords ≤ 4096) ∧
  (∀ (s : State) (w : BarWho) (u : Fin 2), s.ioUp w.head.val = true → s.barOpens w.head.val (reamOffset w (0x60 + 8 * u.val)) 8 true = true →
    exec (.reamGapClear w u) s = .next (s.reportGap u.val)) ∧
  (∀ (s : State) (w : BarWho) (die : Fin 2) (n : Fin 16) (u : Fin 2) (wide : Bool) (v : BitVec 64), s.ioUp w.head.val = true →
    w.head.val ≠ s.primary →
    (∃ t, exec (.strDataWrite w die n wide v) s = .next t ∧ s.booked t [Reg.LNK_BAR2_VIOL.COUNT]) ∧
    (∃ t, exec (.reamGapClear w u) s = .next t ∧ s.booked t [Reg.LNK_BAR2_VIOL.COUNT]))

/-- The tally counts a selected event, and a wrap past 2^48 − 1 sets the overflow bit and source 615 or 616 (R481). The sampler counts events; the
PERIOD-th leaves a precise record in the next place of its buffer, or a skid sample, or is lost while a precise one is busy (R484 to R487). -/
def Obligations.TallyCountsAndSamples : Prop :=
  (∀ (s : State) (die : Fin 2) (bank : Fin 3) (i n : Nat), i < bankCounters bank → 0 < n → s.tlyCounts die.val bank.val i = true →
    ∃ t, exec (.tlyCounterWrap die bank i n) s = .next t ∧
      t.rd (tlyLive bank.val) die.val i = (s.rd (tlyLive bank.val) die.val i + n) % 2 ^ 48 ∧
      (2 ^ 48 ≤ s.rd (tlyLive bank.val) die.val i + n →
        t.tlyOvf die.val bank.val i = true ∧ t.rd Reg.LNK_SRC_ROUTE.ASSERTED 0 (615 + die.val) = 1) ∧
      (s.rd (tlyLive bank.val) die.val i + n < 2 ^ 48 → t = s.wr (tlyLive bank.val) die.val i (s.rd (tlyLive bank.val) die.val i + n)) ∧
      s.counted t ∧ s.sameHeads t ∧ s.samePm t) ∧
  (∀ (s : State) (die : Fin 2) (n : Nat) (f : SampleFields), s.sampling die.val = true →
    s.tlyCount.get die.val + n < s.samplePeriod die.val →
    exec (.tlySample die n f) s = .next { s with tlyCount := s.tlyCount.modify die.val (fun _ => s.tlyCount.get die.val + n) }) ∧
  (∀ (s : State) (die : Fin 2) (n : Nat) (f : SampleFields), s.sampling die.val = true →
    s.samplePeriod die.val ≤ s.tlyCount.get die.val + n → s.sampleMode die.val = 1 → f.busy = false →
    s.rd Reg.TLY_SAMPLE_WR.INDEX die.val 0 < 8192 → s.rd Reg.TLY_SAMPLE_STAT.UNREAD die.val 0 < 8191 →
    ∃ t, exec (.tlySample die n f) s = .next t ∧
      t.tlyBuf.get 0 (tlyBufKey die.val (s.rd Reg.TLY_SAMPLE_WR.INDEX die.val 0)) =
        sampleRecord (Config.freeNat s.free) (s.rd Reg.TLY_SAMPLE_CFG.EVENT die.val 0) f ∧
      t.rd Reg.TLY_SAMPLE_WR.INDEX die.val 0 = (s.rd Reg.TLY_SAMPLE_WR.INDEX die.val 0 + 1) % 8192 ∧
      t.rd Reg.TLY_SAMPLE_STAT.UNREAD die.val 0 = s.rd Reg.TLY_SAMPLE_STAT.UNREAD die.val 0 + 1 ∧
      t.tlyCount.get die.val = s.tlyCount.get die.val + n - s.samplePeriod die.val ∧ t.path = s.path ∧ t.out = s.out) ∧
  (∀ (s : State) (die : Fin 2) (n : Nat) (f : SampleFields), s.sampling die.val = true →
    s.samplePeriod die.val ≤ s.tlyCount.get die.val + n → s.sampleMode die.val = 1 → f.busy = true →
    ∃ t, exec (.tlySample die n f) s = .next t ∧ t.tlyBuf = s.tlyBuf ∧
      t.rd Reg.TLY_SAMPLE_STAT.LOST die.val 0 = min (s.rd Reg.TLY_SAMPLE_STAT.LOST die.val 0 + 1) (2 ^ 32 - 1)) ∧
  (∀ (s : State) (die : Fin 2) (n : Nat) (f : SampleFields), s.sampling die.val = true →
    s.samplePeriod die.val ≤ s.tlyCount.get die.val + n → s.sampleMode die.val = 2 → s.rd Reg.TLY_SKID.VALID die.val 0 = 0 →
    ∃ t, exec (.tlySample die n f) s = .next t ∧ t.tlyBuf = s.tlyBuf ∧ t.rd Reg.TLY_SKID.VALID die.val 0 = 1 ∧
      t.rd Reg.TLY_SKID.EVENT die.val 0 = s.rd Reg.TLY_SAMPLE_CFG.EVENT die.val 0 % 2 ^ Reg.TLY_SKID.EVENT.width ∧
      t.rd Reg.LNK_SRC_ROUTE.ASSERTED 0 (617 + die.val) = 1) ∧
  rowTallyRead.acts .tallyRead (fun u r p => fieldAt p 0 1 ≤ 2 ∧ fieldAt p 1 1 ≤ 1 ∧ 1 ≤ fieldAt p 4 2 ∧ fieldAt p 4 2 ≤ 768 ∧
      fieldAt p 2 2 + fieldAt p 4 2 ≤ bankSize (fieldAt p 0 1) ∧ u.tallyOpen r.who = false)
    (fun u r _ => u.refuse r stAccess)

/-! ## The platform manager, the service pad and the test port -/

/-- The platform manager's side of the protocol: pending sources go into the one notification that may stand (R394), it reads that or
its oldest reply, and a reply unread for 1 s is discarded and counted (R393); its address is assigned. An engine's discarded words are
counted (R399). The service pad (R537): a touch of 100 ms to 2 s cancels a pending removal, else acknowledges the alerts that stand,
else turns locate, with source 626; a shorter one only shows its length, and Halt and a Pour ignore it. A hold of 3 s makes a removal
pending in Serve, or begins it where no wait is set (R539); the wait's end cancels it. -/
def Obligations.ManagerAndPadAct : Prop :=
  ((∀ s : State, s.powered = true → s.pm.pending ≠ 0 → exec .eventNotify s =
    .next { s with pm := { s.pm with notice := some ((s.pm.notice.getD 0) ||| s.pm.pending), pending := 0 } }) ∧
  (∀ (s : State) (b : BitVec 640), s.pm.notice = some b → exec (.mctpReplyRead true) s =
    .next ((({ s with pm := { s.pm with notice := none } } : State).mctp 99).send (.notify b))) ∧
  (∀ (s : State) (x : LeafReply) (l : List LeafReply), s.pm.unread = x :: l →
    exec (.mctpReplyRead false) s =
      .next ((({ s with pm := { s.pm with unread := l } } : State).mctp (19 + x.payload.length)).send (.leaf x)) ∧
    ∃ t, exec .mctpReplyDiscard s = .next t ∧ t.pm = { s.pm with unread := l } ∧ t.out = s.out ∧
      t.rd Reg.CQ_STAT_ERR.REPLY_DISCARDED 0 0 = min (s.rd Reg.CQ_STAT_ERR.REPLY_DISCARDED 0 0 + 1) 65535 ∧
      t = { s with pm := t.pm, regs := t.regs } ∧ s.regsBut t [Reg.CQ_STAT_ERR.REPLY_DISCARDED]) ∧
  (∀ (s : State) (n : Nat), ∃ t, t = s.mctp n ∧ t = { s with regs := t.regs, heads := t.heads, pm := t.pm, free := t.free } ∧
    s.sameHeads t ∧ s.samePm t ∧ s.regsBut t [] ∧ s.free < t.free) ∧
  (∀ s : State, s.pm.unread = [] → s.pm.notice = none →
    exec (.mctpReplyRead false) s = .next s ∧ exec .mctpReplyDiscard s = .next s ∧ exec (.mctpReplyRead true) s = .next s) ∧
  (∀ (s : State) (a : Option (Fin 128)), s.powered = true → exec (.i3cDynamicAddressAssignment a) s =
    .next { s with pm := { s.pm with address := a.map Fin.val } }) ∧
  (∀ (s : State) (d : Fin 2) (n : Nat), s.running = true → 0 < n → s.rd Reg.CQ_CMD.DROPPING d.val 0 ≠ 1 →
    ∃ t, exec (.cqDrop d n) s = .next t ∧
    t.rd Reg.CQ_STAT_ERR.DROPS d.val 0 = min (s.rd Reg.CQ_STAT_ERR.DROPS d.val 0 + 1) 65535 ∧
    t = { s with regs := t.regs } ∧ s.regsBut t [Reg.CQ_STAT_ERR.DROPS]) ∧
  (∀ (s : State) (d : Fin 2) (n : Nat), s.running = true → s.rd Reg.CQ_CMD.DROPPING d.val 0 = 1 →
    exec (.cqDrop d n) s = .next (s.wr Reg.CQ_CMD.DROPPING d.val 0 0))) ∧
  ((∀ (s : State) (ms : Nat), s.powered = true → ms < 100 →
    exec (.padTouchEnd ms) s = .next (s.setReg Reg.PIN_PAD.LAST_MS ms)) ∧
  (∀ (s : State) (ms : Nat), s.powered = true → 100 ≤ ms → s.padIgnored = true → ∃ t, exec (.padTouchEnd ms) s = .next t ∧
    t.reg Reg.PIN_PAD.LAST_ACTION = 5 ∧ t.reg Reg.PIN_PAD.LAST_MS = min ms 4095 ∧ t = { s with regs := t.regs } ∧
    s.regsBut t [Reg.PIN_PAD.LAST_MS, Reg.PIN_PAD.TOUCHES, Reg.PIN_PAD.LAST_ACTION]) ∧
  (∀ (s : State) (ms : Nat), s.powered = true → 100 ≤ ms → ms < 2000 → s.padIgnored = false →
    ∃ t, exec (.padTouchEnd ms) s = .next t ∧ t.rd Reg.LNK_SRC_ROUTE.ASSERTED 0 626 = 1 ∧ t.reg Reg.PIN_PAD.LAST_MS = ms ∧
      t.ctl.mode = s.ctl.mode ∧ t.path = s.path ∧ t.mapping = s.mapping ∧
      (s.reg Reg.PIN_REMOVAL.STATE = 1 → t.reg Reg.PIN_REMOVAL.STATE = 0 ∧ t.reg Reg.PIN_PAD.LAST_ACTION = 4 ∧
        t.rd Reg.LNK_SRC_ROUTE.ASSERTED 0 627 = 1) ∧
      (s.reg Reg.PIN_REMOVAL.STATE ≠ 1 → s.alertStands = true → t.reg Reg.PIN_PAD.LAST_ACTION = 2 ∧ t.ctl.alert = 0 ∧
        t.rd Reg.LNK_SRC_ROUTE.ASSERTED 0 630 = 1 ∧ t.out = s.out) ∧
      (s.reg Reg.PIN_REMOVAL.STATE ≠ 1 → s.alertStands = false → t.reg Reg.PIN_PAD.LAST_ACTION = 1 ∧
        (t.reg Reg.PIN_LED.LOCATE = 1 ↔ s.reg Reg.PIN_LED.LOCATE = 0) ∧ t.out = s.out)) ∧
  (∀ s : State, (s.ctl.mode = .m5 ∨ s.ctl.mode = .m6) → s.padIgnored = false → s.reg Reg.PIN_REMOVAL.STATE = 0 →
    ∃ t, exec .padHold3s s = .next t ∧ t.reg Reg.PIN_PAD.LAST_ACTION = 3 ∧ t.rd Reg.LNK_SRC_ROUTE.ASSERTED 0 626 = 1 ∧
      t.reg Reg.PIN_REMOVAL.ORIGIN = 0 ∧
      (s.reg Reg.PIN_CFG.REMOVAL_WAIT_S ≠ 0 → t.reg Reg.PIN_REMOVAL.STATE = 1 ∧ t.ctl.mode = s.ctl.mode ∧ t.ctl.removalMs = s.ms ∧
        t.rd Reg.LNK_SRC_ROUTE.ASSERTED 0 627 = 1) ∧
      (s.reg Reg.PIN_CFG.REMOVAL_WAIT_S = 0 → t.reg Reg.PIN_REMOVAL.STATE = 2 ∧ t.ctl.mode = .m7 ∧ t.ctl.quiesce = some .removal ∧
        t.reg Reg.MOD_REQUEST.OFF_STANDING = 1)) ∧
  (∀ s : State, s.reg Reg.PIN_REMOVAL.STATE = 1 → ∃ t, exec .removalWaitExpiry s = .next t ∧ t.reg Reg.PIN_REMOVAL.STATE = 0 ∧
    t.rd Reg.LNK_SRC_ROUTE.ASSERTED 0 627 = 1 ∧ t.ctl = s.ctl ∧ t.path = s.path ∧ t.mapping = s.mapping ∧ t.media = s.media) ∧
  (∀ s : State, s.reg Reg.PIN_REMOVAL.STATE ≠ 1 → exec .removalWaitExpiry s = .next s))

/-- The test access port (R525, R526, R534). IDCODE shifts out the die's code, BST_STATUS the slices that failed, SAMPLE/PRELOAD an open
boundary; EXTEST drives the cells in Safe alone, SCAN_n selects a chain in scan mode alone and is BYPASS else, and every code without a
name is BYPASS. MEMACC reads and writes slot 0's lines, and refuses every other target: it reads zeros, keeps what it holds, and is
counted with source 546 (R356). In reset, or from a die that is off, nothing answers. -/
def Obligations.TestPortAnswers : Prop :=
  (∀ (s : State) (d : Fin 2), s.tapUp d.val = true →
    exec (.idcode d) s = .next ((s.tapSelect d.val .idcode).send
      (.tap d.val (s.reg Reg.LNK_REVISION.ZORSA_STEP % 16 * 2 ^ 28 + (0x5A12 + d.val) * 2 ^ 12 + 0x2D3 * 2 + 1))) ∧
    exec (.bstStatus d) s = .next ((s.tapSelect d.val .bstStatus).send
      (.tap d.val (s.rd Reg.BST_FAILED.MASK 0 0 ||| s.rd Reg.BST_FAILED.MASK 1 0))) ∧
    (∃ t, exec (.samplePreload d) s = .next t ∧ t.out = .tap d.val (Config.freeNat s.free) :: s.out ∧ s.free < t.free ∧
      t.tap.get d.val = .boundary ∧ t = { s with out := t.out, free := t.free, tap := t.tap }) ∧
    exec (.extest d) s = .next (s.tapSelect d.val (if s.ctl.mode = .m9 then .extest else .bypass)) ∧
    (∀ n : Fin 16, exec (.scanN d n) s = .next (s.tapSelect d.val (if s.sec.scanEnabled then .scan n.val else .bypass))) ∧
    (∀ code, (Instr.bypass d code).wf = true → exec (.bypass d code) s = .next (s.tapSelect d.val .bypass))) ∧
  (∀ (s : State) (d : Fin 2) (x : TapSel), (s.tapSelect d.val x).tap.get d.val = x ∧
    (s.tapSelect d.val x).tap.get (1 - d.val) = s.tap.get (1 - d.val) ∧ s.tapSelect d.val x = { s with tap := (s.tapSelect d.val x).tap }) ∧
  (∀ (s : State) (d : Fin 2), s.tapUp d.val = false →
    exec (.idcode d) s = .next s ∧ exec (.bstStatus d) s = .next s ∧ exec (.samplePreload d) s = .next s ∧ exec (.extest d) s = .next s ∧
    (∀ n, exec (.scanN d n) s = .next s) ∧ (∀ x w, exec (.memacc d x w) s = .next s) ∧
    (∀ code, (Instr.bypass d code).wf = true → exec (.bypass d code) s = .next s)) ∧
  (∀ s : State, (∃ t, exec (.trst true) s = .next t ∧ t.trst = true ∧ (∀ d, t.tap.get d = .idcode ∧ t.tapUp d = false)) ∧
    exec (.trst false) s = .next { s with trst := false }) ∧
  (∀ (s : State) (d : Fin 2) (x : MemTarget) (w : Option Line), s.tapUp d.val = true →
    x = .secret ∨ (∃ l, x = .dpa l ∧ (dpaBytes ≤ l * 64 ∨ s.effSlot (l / 16) ≠ 0)) →
    ∃ t, exec (.memacc d x w) s = .next t ∧ t.out = (if w = none then [.tap d.val 0] else []) ++ s.out ∧
      t.rd Reg.SEC_DEBUG_REFUSED.COUNT d.val 0 =
        min (s.rd Reg.SEC_DEBUG_REFUSED.COUNT d.val 0 + 1) (2 ^ Reg.SEC_DEBUG_REFUSED.COUNT.width - 1) ∧
      t.rd Reg.LNK_SRC_ROUTE.ASSERTED 0 546 = 1 ∧ t.path = s.path ∧ t.mapping = s.mapping ∧ t.media = s.media ∧ t.ctl = s.ctl) ∧
  (∀ (s : State) (d : Fin 2) (l : Nat) (v : Line), s.tapUp d.val = true → l * 64 < dpaBytes → s.effSlot (l / 16) = 0 →
    exec (.memacc d (.dpa l) none) s = .next ((s.tapSelect d.val .memacc).debugRead d.val l) ∧
    (s.dataUp = true → s.chanLost (chanOf (l / 16)) = false → s.ctl.readOnly = false → exec (.memacc d (.dpa l) (some v)) s =
      .next ((s.tapSelect d.val .memacc).writeLine l v (BitVec.allOnes 64) true false false 0 none)) ∧
    (s.dataUp = true → s.chanLost (chanOf (l / 16)) = true →
      exec (.memacc d (.dpa l) none) s = .next ((s.tapSelect d.val .memacc).send (.tap d.val (Config.freeNat s.free))).draw ∧
      exec (.memacc d (.dpa l) (some v)) s = .next (s.tapSelect d.val .memacc)))

/-! ## The controllers and the codes -/

/-- A package's controller. Arbitration selects a request that waits for its channel and that may be served; under Pour exclusivity it is
the power module's; else, while a privileged request has urgency 3, a privileged one (R231, R236), and it is served at once where no
refresh has its gap. A port's request is accepted behind those that wait (R230, R234). A port of class Panic is in panic from its entry
threshold to its exit one, and an exit threshold at or above the entry acts as the entry less 1 (R233). A frame that is rebuilt from the
other eight is the frame (R29, R259). -/
def Obligations.ControllersServeInOrder : Prop :=
  (∀ (s : State) (d k ch : Nat) (r : DramReq) (t : Nat × Nat), s.arbitrate d k ch = some (r, t) →
    r ∈ (s.bus d).queue ∧ r.pkg = k ∧ dramChannel r.phys = ch ∧
    (s.rd Reg.DMC_MODE.POUR_EXCL d 0 = 1 → r.port = 7) ∧
    (s.rd Reg.DMC_MODE.POUR_EXCL d 0 ≠ 1 → (∃ x ∈ s.servable d k ch, x.port ≤ 1 ∧ s.urgencyOf d x = 3) →
      r.port ≤ 1)) ∧
  (∀ (s : State) (d k ch : Nat), (s.servable d k ch ≠ [] ∧ ∀ r ∈ s.servable d k ch, r.port ≤ 7) →
    (s.rd Reg.DMC_MODE.POUR_EXCL d 0 = 1 ∨ ∀ r ∈ s.servable d k ch, r.port ≠ 7) → (s.arbitrate d k ch).isSome = true) ∧
  (∀ (s : State) (n port a : Nat) (w : Bool), n < 4 → s.dramOn = true →
    (s.bus (n / 2)).count port < s.rd Reg.DMC_PORT.DEPTH (n / 2) port →
    ((s.access n port a w).bus (n / 2)).queue =
      (s.bus (n / 2)).queue ++ [⟨port, n % 2, s.redirected n (physOf (a / 64 * 64)), w, (s.bus (n / 2)).cycle⟩]) ∧
  (∀ (was : Bool) (held depth on off : Nat), inPanic was held depth on off =
    (decide (on * depth ≤ held * 100) || (was && decide ((held * 100 : Int) > (if off ≥ on then (on : Int) - 1 else off) * depth)))) ∧
  (∀ (s : State) (x : Stripe), ∀ m < 9, ∀ k < 320, Machine.byteAt (s.rebuilt x m) k = Machine.byteAt (s.frameOn x m) k)
end

