-- ==== Sys2Proof/Laws/State.lean ====
section
/-! SUPPORT. What the plain updates of the state leave as it was: one lemma for each field and each update. -/

namespace Sys2Proof.Machine

variable (s : State)

/-! ## `State.wr` -/

@[simp] theorem State.wr_pending (f : Field) (d i v : Nat) : (s.wr f d i v).pending = s.pending := rfl
@[simp] theorem State.wr_held (f : Field) (d i v : Nat) : (s.wr f d i v).held = s.held := rfl
@[simp] theorem State.wr_out (f : Field) (d i v : Nat) : (s.wr f d i v).out = s.out := rfl
@[simp] theorem State.wr_free (f : Field) (d i v : Nat) : (s.wr f d i v).free = s.free := rfl
@[simp] theorem State.wr_ctl (f : Field) (d i v : Nat) : (s.wr f d i v).ctl = s.ctl := rfl
@[simp] theorem State.wr_heads (f : Field) (d i v : Nat) : (s.wr f d i v).heads = s.heads := rfl
@[simp] theorem State.wr_ream (f : Field) (d i v : Nat) : (s.wr f d i v).ream = s.ream := rfl
@[simp] theorem State.wr_qst (f : Field) (d i v : Nat) : (s.wr f d i v).qst = s.qst := rfl
@[simp] theorem State.wr_lsa (f : Field) (d i v : Nat) : (s.wr f d i v).lsa = s.lsa := rfl
@[simp] theorem State.wr_path (f : Field) (d i v : Nat) : (s.wr f d i v).path = s.path := rfl
@[simp] theorem State.wr_mapping (f : Field) (d i v : Nat) : (s.wr f d i v).mapping = s.mapping := rfl
@[simp] theorem State.wr_media (f : Field) (d i v : Nat) : (s.wr f d i v).media = s.media := rfl
@[simp] theorem State.wr_dram (f : Field) (d i v : Nat) : (s.wr f d i v).dram = s.dram := rfl
@[simp] theorem State.wr_pour (f : Field) (d i v : Nat) : (s.wr f d i v).pour = s.pour := rfl
@[simp] theorem State.wr_sec (f : Field) (d i v : Nat) : (s.wr f d i v).sec = s.sec := rfl
@[simp] theorem State.wr_bulk (f : Field) (d i v : Nat) : (s.wr f d i v).bulk = s.bulk := rfl
@[simp] theorem State.wr_sensors (f : Field) (d i v : Nat) : (s.wr f d i v).sensors = s.sensors := rfl
@[simp] theorem State.wr_minute (f : Field) (d i v : Nat) : (s.wr f d i v).minute = s.minute := rfl
@[simp] theorem State.wr_engFaults (f : Field) (d i v : Nat) : (s.wr f d i v).engFaults = s.engFaults := rfl
@[simp] theorem State.wr_pourFaults (f : Field) (d i v : Nat) : (s.wr f d i v).pourFaults = s.pourFaults := rfl
@[simp] theorem State.wr_tlyCount (f : Field) (d i v : Nat) : (s.wr f d i v).tlyCount = s.tlyCount := rfl
@[simp] theorem State.wr_tlyBuf (f : Field) (d i v : Nat) : (s.wr f d i v).tlyBuf = s.tlyBuf := rfl
@[simp] theorem State.wr_test (f : Field) (d i v : Nat) : (s.wr f d i v).test = s.test := rfl
@[simp] theorem State.wr_tap (f : Field) (d i v : Nat) : (s.wr f d i v).tap = s.tap := rfl
@[simp] theorem State.wr_trst (f : Field) (d i v : Nat) : (s.wr f d i v).trst = s.trst := rfl
@[simp] theorem State.wr_presented (f : Field) (d i v : Nat) : (s.wr f d i v).presented = s.presented := rfl
@[simp] theorem State.wr_ports (f : Field) (d i v : Nat) : (s.wr f d i v).ports = s.ports := rfl
@[simp] theorem State.wr_sram (f : Field) (d i v : Nat) : (s.wr f d i v).sram = s.sram := rfl
@[simp] theorem State.wr_pm (f : Field) (d i v : Nat) : (s.wr f d i v).pm = s.pm := rfl

/-! ## `State.setReg` -/

@[simp] theorem State.setReg_pending (f : Field) (v : Nat) : (s.setReg f v).pending = s.pending := rfl
@[simp] theorem State.setReg_held (f : Field) (v : Nat) : (s.setReg f v).held = s.held := rfl
@[simp] theorem State.setReg_out (f : Field) (v : Nat) : (s.setReg f v).out = s.out := rfl
@[simp] theorem State.setReg_free (f : Field) (v : Nat) : (s.setReg f v).free = s.free := rfl
@[simp] theorem State.setReg_ctl (f : Field) (v : Nat) : (s.setReg f v).ctl = s.ctl := rfl
@[simp] theorem State.setReg_heads (f : Field) (v : Nat) : (s.setReg f v).heads = s.heads := rfl
@[simp] theorem State.setReg_ream (f : Field) (v : Nat) : (s.setReg f v).ream = s.ream := rfl
@[simp] theorem State.setReg_qst (f : Field) (v : Nat) : (s.setReg f v).qst = s.qst := rfl
@[simp] theorem State.setReg_lsa (f : Field) (v : Nat) : (s.setReg f v).lsa = s.lsa := rfl
@[simp] theorem State.setReg_path (f : Field) (v : Nat) : (s.setReg f v).path = s.path := rfl
@[simp] theorem State.setReg_mapping (f : Field) (v : Nat) : (s.setReg f v).mapping = s.mapping := rfl
@[simp] theorem State.setReg_media (f : Field) (v : Nat) : (s.setReg f v).media = s.media := rfl
@[simp] theorem State.setReg_dram (f : Field) (v : Nat) : (s.setReg f v).dram = s.dram := rfl
@[simp] theorem State.setReg_pour (f : Field) (v : Nat) : (s.setReg f v).pour = s.pour := rfl
@[simp] theorem State.setReg_sec (f : Field) (v : Nat) : (s.setReg f v).sec = s.sec := rfl
@[simp] theorem State.setReg_bulk (f : Field) (v : Nat) : (s.setReg f v).bulk = s.bulk := rfl
@[simp] theorem State.setReg_sensors (f : Field) (v : Nat) : (s.setReg f v).sensors = s.sensors := rfl
@[simp] theorem State.setReg_minute (f : Field) (v : Nat) : (s.setReg f v).minute = s.minute := rfl
@[simp] theorem State.setReg_engFaults (f : Field) (v : Nat) : (s.setReg f v).engFaults = s.engFaults := rfl
@[simp] theorem State.setReg_pourFaults (f : Field) (v : Nat) : (s.setReg f v).pourFaults = s.pourFaults := rfl
@[simp] theorem State.setReg_tlyCount (f : Field) (v : Nat) : (s.setReg f v).tlyCount = s.tlyCount := rfl
@[simp] theorem State.setReg_tlyBuf (f : Field) (v : Nat) : (s.setReg f v).tlyBuf = s.tlyBuf := rfl
@[simp] theorem State.setReg_test (f : Field) (v : Nat) : (s.setReg f v).test = s.test := rfl
@[simp] theorem State.setReg_tap (f : Field) (v : Nat) : (s.setReg f v).tap = s.tap := rfl
@[simp] theorem State.setReg_trst (f : Field) (v : Nat) : (s.setReg f v).trst = s.trst := rfl
@[simp] theorem State.setReg_presented (f : Field) (v : Nat) : (s.setReg f v).presented = s.presented := rfl
@[simp] theorem State.setReg_ports (f : Field) (v : Nat) : (s.setReg f v).ports = s.ports := rfl
@[simp] theorem State.setReg_sram (f : Field) (v : Nat) : (s.setReg f v).sram = s.sram := rfl
@[simp] theorem State.setReg_pm (f : Field) (v : Nat) : (s.setReg f v).pm = s.pm := rfl

/-! ## `State.bump` -/

@[simp] theorem State.bump_pending (f : Field) (d i n : Nat) : (s.bump f d i n).pending = s.pending := rfl
@[simp] theorem State.bump_held (f : Field) (d i n : Nat) : (s.bump f d i n).held = s.held := rfl
@[simp] theorem State.bump_out (f : Field) (d i n : Nat) : (s.bump f d i n).out = s.out := rfl
@[simp] theorem State.bump_free (f : Field) (d i n : Nat) : (s.bump f d i n).free = s.free := rfl
@[simp] theorem State.bump_ctl (f : Field) (d i n : Nat) : (s.bump f d i n).ctl = s.ctl := rfl
@[simp] theorem State.bump_heads (f : Field) (d i n : Nat) : (s.bump f d i n).heads = s.heads := rfl
@[simp] theorem State.bump_ream (f : Field) (d i n : Nat) : (s.bump f d i n).ream = s.ream := rfl
@[simp] theorem State.bump_qst (f : Field) (d i n : Nat) : (s.bump f d i n).qst = s.qst := rfl
@[simp] theorem State.bump_lsa (f : Field) (d i n : Nat) : (s.bump f d i n).lsa = s.lsa := rfl
@[simp] theorem State.bump_path (f : Field) (d i n : Nat) : (s.bump f d i n).path = s.path := rfl
@[simp] theorem State.bump_mapping (f : Field) (d i n : Nat) : (s.bump f d i n).mapping = s.mapping := rfl
@[simp] theorem State.bump_media (f : Field) (d i n : Nat) : (s.bump f d i n).media = s.media := rfl
@[simp] theorem State.bump_dram (f : Field) (d i n : Nat) : (s.bump f d i n).dram = s.dram := rfl
@[simp] theorem State.bump_pour (f : Field) (d i n : Nat) : (s.bump f d i n).pour = s.pour := rfl
@[simp] theorem State.bump_sec (f : Field) (d i n : Nat) : (s.bump f d i n).sec = s.sec := rfl
@[simp] theorem State.bump_bulk (f : Field) (d i n : Nat) : (s.bump f d i n).bulk = s.bulk := rfl
@[simp] theorem State.bump_sensors (f : Field) (d i n : Nat) : (s.bump f d i n).sensors = s.sensors := rfl
@[simp] theorem State.bump_minute (f : Field) (d i n : Nat) : (s.bump f d i n).minute = s.minute := rfl
@[simp] theorem State.bump_engFaults (f : Field) (d i n : Nat) : (s.bump f d i n).engFaults = s.engFaults := rfl
@[simp] theorem State.bump_pourFaults (f : Field) (d i n : Nat) : (s.bump f d i n).pourFaults = s.pourFaults := rfl
@[simp] theorem State.bump_tlyCount (f : Field) (d i n : Nat) : (s.bump f d i n).tlyCount = s.tlyCount := rfl
@[simp] theorem State.bump_tlyBuf (f : Field) (d i n : Nat) : (s.bump f d i n).tlyBuf = s.tlyBuf := rfl
@[simp] theorem State.bump_test (f : Field) (d i n : Nat) : (s.bump f d i n).test = s.test := rfl
@[simp] theorem State.bump_tap (f : Field) (d i n : Nat) : (s.bump f d i n).tap = s.tap := rfl
@[simp] theorem State.bump_trst (f : Field) (d i n : Nat) : (s.bump f d i n).trst = s.trst := rfl
@[simp] theorem State.bump_presented (f : Field) (d i n : Nat) : (s.bump f d i n).presented = s.presented := rfl
@[simp] theorem State.bump_ports (f : Field) (d i n : Nat) : (s.bump f d i n).ports = s.ports := rfl
@[simp] theorem State.bump_sram (f : Field) (d i n : Nat) : (s.bump f d i n).sram = s.sram := rfl
@[simp] theorem State.bump_pm (f : Field) (d i n : Nat) : (s.bump f d i n).pm = s.pm := rfl

/-! ## `State.peak` -/

@[simp] theorem State.peak_pending (f : Field) (d i v : Nat) : (s.peak f d i v).pending = s.pending := rfl
@[simp] theorem State.peak_held (f : Field) (d i v : Nat) : (s.peak f d i v).held = s.held := rfl
@[simp] theorem State.peak_out (f : Field) (d i v : Nat) : (s.peak f d i v).out = s.out := rfl
@[simp] theorem State.peak_free (f : Field) (d i v : Nat) : (s.peak f d i v).free = s.free := rfl
@[simp] theorem State.peak_ctl (f : Field) (d i v : Nat) : (s.peak f d i v).ctl = s.ctl := rfl
@[simp] theorem State.peak_heads (f : Field) (d i v : Nat) : (s.peak f d i v).heads = s.heads := rfl
@[simp] theorem State.peak_ream (f : Field) (d i v : Nat) : (s.peak f d i v).ream = s.ream := rfl
@[simp] theorem State.peak_qst (f : Field) (d i v : Nat) : (s.peak f d i v).qst = s.qst := rfl
@[simp] theorem State.peak_lsa (f : Field) (d i v : Nat) : (s.peak f d i v).lsa = s.lsa := rfl
@[simp] theorem State.peak_path (f : Field) (d i v : Nat) : (s.peak f d i v).path = s.path := rfl
@[simp] theorem State.peak_mapping (f : Field) (d i v : Nat) : (s.peak f d i v).mapping = s.mapping := rfl
@[simp] theorem State.peak_media (f : Field) (d i v : Nat) : (s.peak f d i v).media = s.media := rfl
@[simp] theorem State.peak_dram (f : Field) (d i v : Nat) : (s.peak f d i v).dram = s.dram := rfl
@[simp] theorem State.peak_pour (f : Field) (d i v : Nat) : (s.peak f d i v).pour = s.pour := rfl
@[simp] theorem State.peak_sec (f : Field) (d i v : Nat) : (s.peak f d i v).sec = s.sec := rfl
@[simp] theorem State.peak_bulk (f : Field) (d i v : Nat) : (s.peak f d i v).bulk = s.bulk := rfl
@[simp] theorem State.peak_sensors (f : Field) (d i v : Nat) : (s.peak f d i v).sensors = s.sensors := rfl
@[simp] theorem State.peak_minute (f : Field) (d i v : Nat) : (s.peak f d i v).minute = s.minute := rfl
@[simp] theorem State.peak_engFaults (f : Field) (d i v : Nat) : (s.peak f d i v).engFaults = s.engFaults := rfl
@[simp] theorem State.peak_pourFaults (f : Field) (d i v : Nat) : (s.peak f d i v).pourFaults = s.pourFaults := rfl
@[simp] theorem State.peak_tlyCount (f : Field) (d i v : Nat) : (s.peak f d i v).tlyCount = s.tlyCount := rfl
@[simp] theorem State.peak_tlyBuf (f : Field) (d i v : Nat) : (s.peak f d i v).tlyBuf = s.tlyBuf := rfl
@[simp] theorem State.peak_test (f : Field) (d i v : Nat) : (s.peak f d i v).test = s.test := rfl
@[simp] theorem State.peak_tap (f : Field) (d i v : Nat) : (s.peak f d i v).tap = s.tap := rfl
@[simp] theorem State.peak_trst (f : Field) (d i v : Nat) : (s.peak f d i v).trst = s.trst := rfl
@[simp] theorem State.peak_presented (f : Field) (d i v : Nat) : (s.peak f d i v).presented = s.presented := rfl
@[simp] theorem State.peak_ports (f : Field) (d i v : Nat) : (s.peak f d i v).ports = s.ports := rfl
@[simp] theorem State.peak_sram (f : Field) (d i v : Nat) : (s.peak f d i v).sram = s.sram := rfl
@[simp] theorem State.peak_pm (f : Field) (d i v : Nat) : (s.peak f d i v).pm = s.pm := rfl

/-! ## `State.wrBit` -/

@[simp] theorem State.wrBit_pending (f : Field) (d i n : Nat) (b : Bool) : (s.wrBit f d i n b).pending = s.pending := rfl
@[simp] theorem State.wrBit_held (f : Field) (d i n : Nat) (b : Bool) : (s.wrBit f d i n b).held = s.held := rfl
@[simp] theorem State.wrBit_out (f : Field) (d i n : Nat) (b : Bool) : (s.wrBit f d i n b).out = s.out := rfl
@[simp] theorem State.wrBit_free (f : Field) (d i n : Nat) (b : Bool) : (s.wrBit f d i n b).free = s.free := rfl
@[simp] theorem State.wrBit_ctl (f : Field) (d i n : Nat) (b : Bool) : (s.wrBit f d i n b).ctl = s.ctl := rfl
@[simp] theorem State.wrBit_heads (f : Field) (d i n : Nat) (b : Bool) : (s.wrBit f d i n b).heads = s.heads := rfl
@[simp] theorem State.wrBit_ream (f : Field) (d i n : Nat) (b : Bool) : (s.wrBit f d i n b).ream = s.ream := rfl
@[simp] theorem State.wrBit_qst (f : Field) (d i n : Nat) (b : Bool) : (s.wrBit f d i n b).qst = s.qst := rfl
@[simp] theorem State.wrBit_lsa (f : Field) (d i n : Nat) (b : Bool) : (s.wrBit f d i n b).lsa = s.lsa := rfl
@[simp] theorem State.wrBit_path (f : Field) (d i n : Nat) (b : Bool) : (s.wrBit f d i n b).path = s.path := rfl
@[simp] theorem State.wrBit_mapping (f : Field) (d i n : Nat) (b : Bool) : (s.wrBit f d i n b).mapping = s.mapping := rfl
@[simp] theorem State.wrBit_media (f : Field) (d i n : Nat) (b : Bool) : (s.wrBit f d i n b).media = s.media := rfl
@[simp] theorem State.wrBit_dram (f : Field) (d i n : Nat) (b : Bool) : (s.wrBit f d i n b).dram = s.dram := rfl
@[simp] theorem State.wrBit_pour (f : Field) (d i n : Nat) (b : Bool) : (s.wrBit f d i n b).pour = s.pour := rfl
@[simp] theorem State.wrBit_sec (f : Field) (d i n : Nat) (b : Bool) : (s.wrBit f d i n b).sec = s.sec := rfl
@[simp] theorem State.wrBit_bulk (f : Field) (d i n : Nat) (b : Bool) : (s.wrBit f d i n b).bulk = s.bulk := rfl
@[simp] theorem State.wrBit_sensors (f : Field) (d i n : Nat) (b : Bool) : (s.wrBit f d i n b).sensors = s.sensors := rfl
@[simp] theorem State.wrBit_minute (f : Field) (d i n : Nat) (b : Bool) : (s.wrBit f d i n b).minute = s.minute := rfl
@[simp] theorem State.wrBit_engFaults (f : Field) (d i n : Nat) (b : Bool) : (s.wrBit f d i n b).engFaults = s.engFaults := rfl
@[simp] theorem State.wrBit_pourFaults (f : Field) (d i n : Nat) (b : Bool) : (s.wrBit f d i n b).pourFaults = s.pourFaults := rfl
@[simp] theorem State.wrBit_tlyCount (f : Field) (d i n : Nat) (b : Bool) : (s.wrBit f d i n b).tlyCount = s.tlyCount := rfl
@[simp] theorem State.wrBit_tlyBuf (f : Field) (d i n : Nat) (b : Bool) : (s.wrBit f d i n b).tlyBuf = s.tlyBuf := rfl
@[simp] theorem State.wrBit_test (f : Field) (d i n : Nat) (b : Bool) : (s.wrBit f d i n b).test = s.test := rfl
@[simp] theorem State.wrBit_tap (f : Field) (d i n : Nat) (b : Bool) : (s.wrBit f d i n b).tap = s.tap := rfl
@[simp] theorem State.wrBit_trst (f : Field) (d i n : Nat) (b : Bool) : (s.wrBit f d i n b).trst = s.trst := rfl
@[simp] theorem State.wrBit_presented (f : Field) (d i n : Nat) (b : Bool) : (s.wrBit f d i n b).presented = s.presented := rfl
@[simp] theorem State.wrBit_ports (f : Field) (d i n : Nat) (b : Bool) : (s.wrBit f d i n b).ports = s.ports := rfl
@[simp] theorem State.wrBit_sram (f : Field) (d i n : Nat) (b : Bool) : (s.wrBit f d i n b).sram = s.sram := rfl
@[simp] theorem State.wrBit_pm (f : Field) (d i n : Nat) (b : Bool) : (s.wrBit f d i n b).pm = s.pm := rfl

/-! ## `State.resetRegs` -/

@[simp] theorem State.resetRegs_pending (k : ResetKind) (p : Nat → Bool) : (s.resetRegs k p).pending = s.pending := rfl
@[simp] theorem State.resetRegs_held (k : ResetKind) (p : Nat → Bool) : (s.resetRegs k p).held = s.held := rfl
@[simp] theorem State.resetRegs_out (k : ResetKind) (p : Nat → Bool) : (s.resetRegs k p).out = s.out := rfl
@[simp] theorem State.resetRegs_free (k : ResetKind) (p : Nat → Bool) : (s.resetRegs k p).free = s.free := rfl
@[simp] theorem State.resetRegs_ctl (k : ResetKind) (p : Nat → Bool) : (s.resetRegs k p).ctl = s.ctl := rfl
@[simp] theorem State.resetRegs_heads (k : ResetKind) (p : Nat → Bool) : (s.resetRegs k p).heads = s.heads := rfl
@[simp] theorem State.resetRegs_ream (k : ResetKind) (p : Nat → Bool) : (s.resetRegs k p).ream = s.ream := rfl
@[simp] theorem State.resetRegs_qst (k : ResetKind) (p : Nat → Bool) : (s.resetRegs k p).qst = s.qst := rfl
@[simp] theorem State.resetRegs_lsa (k : ResetKind) (p : Nat → Bool) : (s.resetRegs k p).lsa = s.lsa := rfl
@[simp] theorem State.resetRegs_path (k : ResetKind) (p : Nat → Bool) : (s.resetRegs k p).path = s.path := rfl
@[simp] theorem State.resetRegs_mapping (k : ResetKind) (p : Nat → Bool) : (s.resetRegs k p).mapping = s.mapping := rfl
@[simp] theorem State.resetRegs_media (k : ResetKind) (p : Nat → Bool) : (s.resetRegs k p).media = s.media := rfl
@[simp] theorem State.resetRegs_dram (k : ResetKind) (p : Nat → Bool) : (s.resetRegs k p).dram = s.dram := rfl
@[simp] theorem State.resetRegs_pour (k : ResetKind) (p : Nat → Bool) : (s.resetRegs k p).pour = s.pour := rfl
@[simp] theorem State.resetRegs_sec (k : ResetKind) (p : Nat → Bool) : (s.resetRegs k p).sec = s.sec := rfl
@[simp] theorem State.resetRegs_bulk (k : ResetKind) (p : Nat → Bool) : (s.resetRegs k p).bulk = s.bulk := rfl
@[simp] theorem State.resetRegs_sensors (k : ResetKind) (p : Nat → Bool) : (s.resetRegs k p).sensors = s.sensors := rfl
@[simp] theorem State.resetRegs_minute (k : ResetKind) (p : Nat → Bool) : (s.resetRegs k p).minute = s.minute := rfl
@[simp] theorem State.resetRegs_engFaults (k : ResetKind) (p : Nat → Bool) : (s.resetRegs k p).engFaults = s.engFaults := rfl
@[simp] theorem State.resetRegs_pourFaults (k : ResetKind) (p : Nat → Bool) : (s.resetRegs k p).pourFaults = s.pourFaults := rfl
@[simp] theorem State.resetRegs_tlyCount (k : ResetKind) (p : Nat → Bool) : (s.resetRegs k p).tlyCount = s.tlyCount := rfl
@[simp] theorem State.resetRegs_tlyBuf (k : ResetKind) (p : Nat → Bool) : (s.resetRegs k p).tlyBuf = s.tlyBuf := rfl
@[simp] theorem State.resetRegs_test (k : ResetKind) (p : Nat → Bool) : (s.resetRegs k p).test = s.test := rfl
@[simp] theorem State.resetRegs_tap (k : ResetKind) (p : Nat → Bool) : (s.resetRegs k p).tap = s.tap := rfl
@[simp] theorem State.resetRegs_trst (k : ResetKind) (p : Nat → Bool) : (s.resetRegs k p).trst = s.trst := rfl
@[simp] theorem State.resetRegs_presented (k : ResetKind) (p : Nat → Bool) : (s.resetRegs k p).presented = s.presented := rfl
@[simp] theorem State.resetRegs_ports (k : ResetKind) (p : Nat → Bool) : (s.resetRegs k p).ports = s.ports := rfl
@[simp] theorem State.resetRegs_sram (k : ResetKind) (p : Nat → Bool) : (s.resetRegs k p).sram = s.sram := rfl
@[simp] theorem State.resetRegs_pm (k : ResetKind) (p : Nat → Bool) : (s.resetRegs k p).pm = s.pm := rfl

/-! ## `State.onHead` -/

@[simp] theorem State.onHead_pending (h : Nat) (f : Head → Head) : (s.onHead h f).pending = s.pending := rfl
@[simp] theorem State.onHead_held (h : Nat) (f : Head → Head) : (s.onHead h f).held = s.held := rfl
@[simp] theorem State.onHead_out (h : Nat) (f : Head → Head) : (s.onHead h f).out = s.out := rfl
@[simp] theorem State.onHead_free (h : Nat) (f : Head → Head) : (s.onHead h f).free = s.free := rfl
@[simp] theorem State.onHead_regs (h : Nat) (f : Head → Head) : (s.onHead h f).regs = s.regs := rfl
@[simp] theorem State.onHead_ctl (h : Nat) (f : Head → Head) : (s.onHead h f).ctl = s.ctl := rfl
@[simp] theorem State.onHead_ream (h : Nat) (f : Head → Head) : (s.onHead h f).ream = s.ream := rfl
@[simp] theorem State.onHead_qst (h : Nat) (f : Head → Head) : (s.onHead h f).qst = s.qst := rfl
@[simp] theorem State.onHead_lsa (h : Nat) (f : Head → Head) : (s.onHead h f).lsa = s.lsa := rfl
@[simp] theorem State.onHead_path (h : Nat) (f : Head → Head) : (s.onHead h f).path = s.path := rfl
@[simp] theorem State.onHead_mapping (h : Nat) (f : Head → Head) : (s.onHead h f).mapping = s.mapping := rfl
@[simp] theorem State.onHead_media (h : Nat) (f : Head → Head) : (s.onHead h f).media = s.media := rfl
@[simp] theorem State.onHead_dram (h : Nat) (f : Head → Head) : (s.onHead h f).dram = s.dram := rfl
@[simp] theorem State.onHead_pour (h : Nat) (f : Head → Head) : (s.onHead h f).pour = s.pour := rfl
@[simp] theorem State.onHead_sec (h : Nat) (f : Head → Head) : (s.onHead h f).sec = s.sec := rfl
@[simp] theorem State.onHead_bulk (h : Nat) (f : Head → Head) : (s.onHead h f).bulk = s.bulk := rfl
@[simp] theorem State.onHead_sensors (h : Nat) (f : Head → Head) : (s.onHead h f).sensors = s.sensors := rfl
@[simp] theorem State.onHead_minute (h : Nat) (f : Head → Head) : (s.onHead h f).minute = s.minute := rfl
@[simp] theorem State.onHead_engFaults (h : Nat) (f : Head → Head) : (s.onHead h f).engFaults = s.engFaults := rfl
@[simp] theorem State.onHead_pourFaults (h : Nat) (f : Head → Head) : (s.onHead h f).pourFaults = s.pourFaults := rfl
@[simp] theorem State.onHead_tlyCount (h : Nat) (f : Head → Head) : (s.onHead h f).tlyCount = s.tlyCount := rfl
@[simp] theorem State.onHead_tlyBuf (h : Nat) (f : Head → Head) : (s.onHead h f).tlyBuf = s.tlyBuf := rfl
@[simp] theorem State.onHead_test (h : Nat) (f : Head → Head) : (s.onHead h f).test = s.test := rfl
@[simp] theorem State.onHead_tap (h : Nat) (f : Head → Head) : (s.onHead h f).tap = s.tap := rfl
@[simp] theorem State.onHead_trst (h : Nat) (f : Head → Head) : (s.onHead h f).trst = s.trst := rfl
@[simp] theorem State.onHead_presented (h : Nat) (f : Head → Head) : (s.onHead h f).presented = s.presented := rfl
@[simp] theorem State.onHead_ports (h : Nat) (f : Head → Head) : (s.onHead h f).ports = s.ports := rfl
@[simp] theorem State.onHead_sram (h : Nat) (f : Head → Head) : (s.onHead h f).sram = s.sram := rfl
@[simp] theorem State.onHead_pm (h : Nat) (f : Head → Head) : (s.onHead h f).pm = s.pm := rfl

/-! ## `State.draw` -/

@[simp] theorem State.draw_pending : (s.draw).pending = s.pending := rfl
@[simp] theorem State.draw_held : (s.draw).held = s.held := rfl
@[simp] theorem State.draw_out : (s.draw).out = s.out := rfl
@[simp] theorem State.draw_regs : (s.draw).regs = s.regs := rfl
@[simp] theorem State.draw_ctl : (s.draw).ctl = s.ctl := rfl
@[simp] theorem State.draw_heads : (s.draw).heads = s.heads := rfl
@[simp] theorem State.draw_ream : (s.draw).ream = s.ream := rfl
@[simp] theorem State.draw_qst : (s.draw).qst = s.qst := rfl
@[simp] theorem State.draw_lsa : (s.draw).lsa = s.lsa := rfl
@[simp] theorem State.draw_path : (s.draw).path = s.path := rfl
@[simp] theorem State.draw_mapping : (s.draw).mapping = s.mapping := rfl
@[simp] theorem State.draw_media : (s.draw).media = s.media := rfl
@[simp] theorem State.draw_dram : (s.draw).dram = s.dram := rfl
@[simp] theorem State.draw_pour : (s.draw).pour = s.pour := rfl
@[simp] theorem State.draw_sec : (s.draw).sec = s.sec := rfl
@[simp] theorem State.draw_bulk : (s.draw).bulk = s.bulk := rfl
@[simp] theorem State.draw_sensors : (s.draw).sensors = s.sensors := rfl
@[simp] theorem State.draw_minute : (s.draw).minute = s.minute := rfl
@[simp] theorem State.draw_engFaults : (s.draw).engFaults = s.engFaults := rfl
@[simp] theorem State.draw_pourFaults : (s.draw).pourFaults = s.pourFaults := rfl
@[simp] theorem State.draw_tlyCount : (s.draw).tlyCount = s.tlyCount := rfl
@[simp] theorem State.draw_tlyBuf : (s.draw).tlyBuf = s.tlyBuf := rfl
@[simp] theorem State.draw_test : (s.draw).test = s.test := rfl
@[simp] theorem State.draw_tap : (s.draw).tap = s.tap := rfl
@[simp] theorem State.draw_trst : (s.draw).trst = s.trst := rfl
@[simp] theorem State.draw_presented : (s.draw).presented = s.presented := rfl
@[simp] theorem State.draw_ports : (s.draw).ports = s.ports := rfl
@[simp] theorem State.draw_sram : (s.draw).sram = s.sram := rfl
@[simp] theorem State.draw_pm : (s.draw).pm = s.pm := rfl

/-! ## `State.send` -/

@[simp] theorem State.send_pending (o : Out) : (s.send o).pending = s.pending := rfl
@[simp] theorem State.send_held (o : Out) : (s.send o).held = s.held := rfl
@[simp] theorem State.send_free (o : Out) : (s.send o).free = s.free := rfl
@[simp] theorem State.send_regs (o : Out) : (s.send o).regs = s.regs := rfl
@[simp] theorem State.send_ctl (o : Out) : (s.send o).ctl = s.ctl := rfl
@[simp] theorem State.send_heads (o : Out) : (s.send o).heads = s.heads := rfl
@[simp] theorem State.send_ream (o : Out) : (s.send o).ream = s.ream := rfl
@[simp] theorem State.send_qst (o : Out) : (s.send o).qst = s.qst := rfl
@[simp] theorem State.send_lsa (o : Out) : (s.send o).lsa = s.lsa := rfl
@[simp] theorem State.send_path (o : Out) : (s.send o).path = s.path := rfl
@[simp] theorem State.send_mapping (o : Out) : (s.send o).mapping = s.mapping := rfl
@[simp] theorem State.send_media (o : Out) : (s.send o).media = s.media := rfl
@[simp] theorem State.send_dram (o : Out) : (s.send o).dram = s.dram := rfl
@[simp] theorem State.send_pour (o : Out) : (s.send o).pour = s.pour := rfl
@[simp] theorem State.send_sec (o : Out) : (s.send o).sec = s.sec := rfl
@[simp] theorem State.send_bulk (o : Out) : (s.send o).bulk = s.bulk := rfl
@[simp] theorem State.send_sensors (o : Out) : (s.send o).sensors = s.sensors := rfl
@[simp] theorem State.send_minute (o : Out) : (s.send o).minute = s.minute := rfl
@[simp] theorem State.send_engFaults (o : Out) : (s.send o).engFaults = s.engFaults := rfl
@[simp] theorem State.send_pourFaults (o : Out) : (s.send o).pourFaults = s.pourFaults := rfl
@[simp] theorem State.send_tlyCount (o : Out) : (s.send o).tlyCount = s.tlyCount := rfl
@[simp] theorem State.send_tlyBuf (o : Out) : (s.send o).tlyBuf = s.tlyBuf := rfl
@[simp] theorem State.send_test (o : Out) : (s.send o).test = s.test := rfl
@[simp] theorem State.send_tap (o : Out) : (s.send o).tap = s.tap := rfl
@[simp] theorem State.send_trst (o : Out) : (s.send o).trst = s.trst := rfl
@[simp] theorem State.send_presented (o : Out) : (s.send o).presented = s.presented := rfl
@[simp] theorem State.send_ports (o : Out) : (s.send o).ports = s.ports := rfl
@[simp] theorem State.send_sram (o : Out) : (s.send o).sram = s.sram := rfl
@[simp] theorem State.send_pm (o : Out) : (s.send o).pm = s.pm := rfl

/-! ## `State.notify` -/

@[simp] theorem State.notify_pending (n : Nat) : (s.notify n).pending = s.pending := rfl
@[simp] theorem State.notify_held (n : Nat) : (s.notify n).held = s.held := rfl
@[simp] theorem State.notify_out (n : Nat) : (s.notify n).out = s.out := rfl
@[simp] theorem State.notify_free (n : Nat) : (s.notify n).free = s.free := rfl
@[simp] theorem State.notify_regs (n : Nat) : (s.notify n).regs = s.regs := rfl
@[simp] theorem State.notify_ctl (n : Nat) : (s.notify n).ctl = s.ctl := rfl
@[simp] theorem State.notify_heads (n : Nat) : (s.notify n).heads = s.heads := rfl
@[simp] theorem State.notify_ream (n : Nat) : (s.notify n).ream = s.ream := rfl
@[simp] theorem State.notify_qst (n : Nat) : (s.notify n).qst = s.qst := rfl
@[simp] theorem State.notify_lsa (n : Nat) : (s.notify n).lsa = s.lsa := rfl
@[simp] theorem State.notify_path (n : Nat) : (s.notify n).path = s.path := rfl
@[simp] theorem State.notify_mapping (n : Nat) : (s.notify n).mapping = s.mapping := rfl
@[simp] theorem State.notify_media (n : Nat) : (s.notify n).media = s.media := rfl
@[simp] theorem State.notify_dram (n : Nat) : (s.notify n).dram = s.dram := rfl
@[simp] theorem State.notify_pour (n : Nat) : (s.notify n).pour = s.pour := rfl
@[simp] theorem State.notify_sec (n : Nat) : (s.notify n).sec = s.sec := rfl
@[simp] theorem State.notify_bulk (n : Nat) : (s.notify n).bulk = s.bulk := rfl
@[simp] theorem State.notify_sensors (n : Nat) : (s.notify n).sensors = s.sensors := rfl
@[simp] theorem State.notify_minute (n : Nat) : (s.notify n).minute = s.minute := rfl
@[simp] theorem State.notify_engFaults (n : Nat) : (s.notify n).engFaults = s.engFaults := rfl
@[simp] theorem State.notify_pourFaults (n : Nat) : (s.notify n).pourFaults = s.pourFaults := rfl
@[simp] theorem State.notify_tlyCount (n : Nat) : (s.notify n).tlyCount = s.tlyCount := rfl
@[simp] theorem State.notify_tlyBuf (n : Nat) : (s.notify n).tlyBuf = s.tlyBuf := rfl
@[simp] theorem State.notify_test (n : Nat) : (s.notify n).test = s.test := rfl
@[simp] theorem State.notify_tap (n : Nat) : (s.notify n).tap = s.tap := rfl
@[simp] theorem State.notify_trst (n : Nat) : (s.notify n).trst = s.trst := rfl
@[simp] theorem State.notify_presented (n : Nat) : (s.notify n).presented = s.presented := rfl
@[simp] theorem State.notify_ports (n : Nat) : (s.notify n).ports = s.ports := rfl
@[simp] theorem State.notify_sram (n : Nat) : (s.notify n).sram = s.sram := rfl

@[simp] theorem State.draw_free : s.draw.free = s.free + 1 := rfl

@[simp] theorem State.send_out (o : Out) : (s.send o).out = o :: s.out := rfl

end Sys2Proof.Machine
end

