-- ==== Sys2Proof/Laws/Tab.lean ====
section
/-! SUPPORT. The laws of sparse tables: what a key reads after a write, and that every operation keeps the canonical form. -/

namespace Sys2Proof.Machine

variable {α : Type}

/-! ## Reading after a write -/

theorem Tab.find?_del_self (t : Tab α) (n : Nat) : (t.del n).find? n = none := by
  induction t with
  | nil => rfl
  | cons p t ih => by_cases h : p.1 = n <;> simp [Tab.del, Tab.find?, h, ih]

theorem Tab.find?_del_ne (t : Tab α) {n m : Nat} (h : m ≠ n) : (t.del n).find? m = t.find? m := by
  induction t with
  | nil => rfl
  | cons p t ih =>
    by_cases h1 : p.1 = n
    · have h2 : p.1 ≠ m := fun e => h (e.symm.trans h1)
      simp [Tab.del, Tab.find?, h1, ih]
      intro e; exact absurd (e.symm) h
    · simp [Tab.del, Tab.find?, h1, ih]

theorem Tab.find?_ins_self (t : Tab α) (n : Nat) (v : α) : (t.ins n v).find? n = some v := by
  induction t with
  | nil => simp [Tab.ins, Tab.find?]
  | cons p t ih =>
    by_cases h1 : n < p.1
    · simp [Tab.ins, Tab.find?, h1]
    · by_cases h2 : p.1 = n <;> simp [Tab.ins, Tab.find?, h1, h2, ih]

theorem Tab.find?_ins_ne (t : Tab α) {n m : Nat} (v : α) (h : m ≠ n) : (t.ins n v).find? m = t.find? m := by
  induction t with
  | nil => simp [Tab.ins, Tab.find?, h.symm]
  | cons p t ih =>
    by_cases h1 : n < p.1
    · simp [Tab.ins, Tab.find?, h1, h.symm]
    · by_cases h2 : p.1 = n
      · simp [Tab.ins, Tab.find?, h2, h.symm]
      · simp [Tab.ins, Tab.find?, h1, h2, ih]

variable [DecidableEq α]

@[simp] theorem Tab.get_put_self (t : Tab α) (d : α) (n : Nat) (v : α) : (t.put d n v).get d n = v := by
  by_cases h : v = d <;> simp [Tab.put, Tab.get, h, Tab.find?_del_self, Tab.find?_ins_self]

theorem Tab.get_put_ne (t : Tab α) (d e : α) {n m : Nat} (v : α) (h : m ≠ n) : (t.put d n v).get e m = t.get e m := by
  by_cases hv : v = d <;> simp [Tab.put, Tab.get, hv, Tab.find?_del_ne _ h, Tab.find?_ins_ne _ _ h]

/-! ## The canonical form -/

omit [DecidableEq α] in
theorem Tab.rising_iff (lo : Option Nat) (t : Tab α) :
    Tab.rising lo t = true ↔ (∀ p ∈ t, ∀ l, lo = some l → l < p.1) ∧ t.Pairwise (fun a b => a.1 < b.1) := by
  induction t generalizing lo with
  | nil => simp [Tab.rising]
  | cons p t ih =>
    obtain ⟨k, v⟩ := p
    cases lo with
    | none =>
      simp only [Tab.rising, ih, List.pairwise_cons, Bool.and_eq_true]
      simp
    | some l =>
      simp only [Tab.rising, ih, List.pairwise_cons, Bool.and_eq_true, decide_eq_true_eq]
      constructor
      · rintro ⟨h, h1, h2⟩
        refine ⟨?_, fun a ha => h1 a ha k rfl, h2⟩
        intro q hq m hm
        cases hm
        rcases List.mem_cons.mp hq with rfl | hq
        · exact h
        · exact Nat.lt_trans h (h1 q hq k rfl)
      · rintro ⟨h, h1, h2⟩
        refine ⟨h _ (List.mem_cons_self ..) l rfl, ?_, h2⟩
        intro q hq m hm
        cases hm
        exact h1 q hq

omit [DecidableEq α] in
theorem Tab.rising_none (t : Tab α) : Tab.rising none t = true ↔ t.Pairwise (fun a b => a.1 < b.1) := by
  simp [Tab.rising_iff]

omit [DecidableEq α] in
theorem Tab.mem_ins {t : Tab α} {n : Nat} {v : α} {p : Nat × α} (h : p ∈ t.ins n v) : p = (n, v) ∨ p ∈ t := by
  induction t with
  | nil => simpa [Tab.ins] using h
  | cons q t ih =>
    unfold Tab.ins at h
    split at h
    · simpa using h
    · split at h
      · rcases List.mem_cons.mp h with h | h <;> simp [h]
      · rcases List.mem_cons.mp h with h | h
        · simp [h]
        · rcases ih h with h | h <;> simp [h]

omit [DecidableEq α] in
theorem Tab.mem_of_mem_del {t : Tab α} {n : Nat} {p : Nat × α} (h : p ∈ t.del n) : p ∈ t := by
  induction t with
  | nil => exact h
  | cons q t ih =>
    unfold Tab.del at h
    split at h
    · exact List.mem_cons_of_mem _ (ih h)
    · rcases List.mem_cons.mp h with h | h
      · simp [h]
      · exact List.mem_cons_of_mem _ (ih h)

omit [DecidableEq α] in
theorem Tab.pairwise_del {t : Tab α} (n : Nat) (h : t.Pairwise (fun a b => a.1 < b.1)) :
    (t.del n).Pairwise (fun a b => a.1 < b.1) := by
  induction t with
  | nil => exact h
  | cons q t ih =>
    obtain ⟨h1, h2⟩ := List.pairwise_cons.mp h
    unfold Tab.del
    split
    · exact ih h2
    · exact List.pairwise_cons.mpr ⟨fun a ha => h1 a (mem_of_mem_del ha), ih h2⟩

omit [DecidableEq α] in
theorem Tab.pairwise_ins {t : Tab α} (n : Nat) (v : α) (h : t.Pairwise (fun a b => a.1 < b.1)) :
    (t.ins n v).Pairwise (fun a b => a.1 < b.1) := by
  induction t with
  | nil => simp [Tab.ins]
  | cons q t ih =>
    obtain ⟨h1, h2⟩ := List.pairwise_cons.mp h
    unfold Tab.ins
    split
    · next hlt =>
      refine List.pairwise_cons.mpr ⟨fun a ha => ?_, h⟩
      rcases List.mem_cons.mp ha with rfl | ha
      · exact hlt
      · exact Nat.lt_trans hlt (h1 a ha)
    · split
      · next heq =>
        refine List.pairwise_cons.mpr ⟨fun a ha => ?_, h2⟩
        exact heq ▸ h1 a ha
      · next hn hne =>
        refine List.pairwise_cons.mpr ⟨fun a ha => ?_, ih h2⟩
        rcases mem_ins ha with rfl | ha
        · change q.1 < n; omega
        · exact h1 a ha

/-- A table whose keys all read a default keeps its canonical form when a key is given a value. -/
theorem Tab.wf_put {d : α} {t : Tab α} (n : Nat) (v : α) (h : Tab.wf d t = true) : Tab.wf d (t.put d n v) = true := by
  simp only [Tab.wf, Bool.and_eq_true, Tab.rising_none, List.all_eq_true, decide_eq_true_eq] at h ⊢
  unfold Tab.put
  split
  · exact ⟨pairwise_del n h.1, fun p hp => h.2 p (mem_of_mem_del hp)⟩
  · next hv =>
    refine ⟨pairwise_ins n v h.1, fun p hp => ?_⟩
    rcases mem_ins hp with rfl | hp
    · exact hv
    · exact h.2 p hp

/-- A table whose keys read several defaults keeps its keys rising. -/
theorem Tab.rising_put {d : α} {t : Tab α} (n : Nat) (v : α) (h : Tab.rising none t = true) :
    Tab.rising none (t.put d n v) = true := by
  rw [Tab.rising_none] at h ⊢
  unfold Tab.put
  split
  · exact pairwise_del n h
  · exact pairwise_ins n v h

omit [DecidableEq α] in
theorem Tab.rising_filter {t : Tab α} (p : Nat × α → Bool) (h : Tab.rising none t = true) :
    Tab.rising none (t.filter p) = true := by
  rw [Tab.rising_none] at h ⊢
  exact h.filter p

end Sys2Proof.Machine
end

