-- ==== Sys2Proof/Laws/Ops.lean ====
section
/-! SUPPORT. What the shared operations do: the register read after a write, and for each operation that counts, reports or records
the components it may change. -/

namespace Sys2Proof.Machine

/-! ## Registers -/

/-- Fields of different numbers lie at different places. -/
theorem Field.key_ne {f g : Field} (hf : f.kinds < 16) (hg : g.kinds < 16) (h : f.num ≠ g.num) (d i e j : Nat) :
    f.key d i ≠ g.key e j := by
  have h1 : f.copy d < 2 := by unfold Field.copy; split <;> omega
  have h2 : g.copy e < 2 := by unfold Field.copy; split <;> omega
  have h3 : i % 1048576 < 1048576 := Nat.mod_lt _ (by decide)
  have h4 : j % 1048576 < 1048576 := Nat.mod_lt _ (by decide)
  unfold Field.key
  omega

/-- The copies of a field on the two dies, and its indices below 2^20, lie at different places. -/
theorem Field.key_ne_index (f : Field) (d e : Nat) {i j : Nat} (hi : i < 1048576) (hj : j < 1048576) (h : i ≠ j) :
    f.key d i ≠ f.key e j := by
  have h1 : f.copy d < 2 := by unfold Field.copy; split <;> omega
  have h2 : f.copy e < 2 := by unfold Field.copy; split <;> omega
  unfold Field.key
  omega

/-- A register reads what was written to it, at the bits it has. -/
@[simp] theorem State.rd_wr_self (s : State) (f : Field) (d i v : Nat) : (s.wr f d i v).rd f d i = v % 2 ^ f.width := by
  simp [State.rd, State.wr]

/-- A write leaves every field of another number. -/
theorem State.rd_wr_ne (s : State) {f g : Field} (hf : f.kinds < 16) (hg : g.kinds < 16) (h : f.num ≠ g.num) (d i v e j : Nat) :
    (s.wr g d i v).rd f e j = s.rd f e j := by
  simp only [State.rd, State.wr]
  exact Tab.get_put_ne _ _ _ _ (Field.key_ne hf hg h e j d i)

/-- A write leaves the field's other indices. -/
theorem State.rd_wr_index (s : State) (f : Field) (d e v : Nat) {i j : Nat} (hi : i < 1048576) (hj : j < 1048576) (h : j ≠ i) :
    (s.wr f d i v).rd f e j = s.rd f e j := by
  simp only [State.rd, State.wr]
  exact Tab.get_put_ne _ _ _ _ (Field.key_ne_index f e d hj hi h)

/-- A write leaves the other die's copy of a field that each die has. -/
theorem State.rd_wr_die (s : State) (f : Field) (hs : f.scope = .each) (i j v : Nat) {d e : Nat} (h : e % 2 ≠ d % 2) :
    (s.wr f d i v).rd f e j = s.rd f e j := by
  simp only [State.rd, State.wr]
  refine Tab.get_put_ne _ _ _ _ ?_
  have h3 : i % 1048576 < 1048576 := Nat.mod_lt _ (by decide)
  have h4 : j % 1048576 < 1048576 := Nat.mod_lt _ (by decide)
  simp only [Field.key, Field.copy, hs, if_true]
  omega

@[simp] theorem State.reg_setReg_self (s : State) (f : Field) (v : Nat) : (s.setReg f v).reg f = v % 2 ^ f.width :=
  State.rd_wr_self s f 0 0 v

/-- A table keeps its keys rising through a register write. -/
theorem State.wr_rising (s : State) (f : Field) (d i v : Nat) (h : Tab.rising none s.regs = true) :
    Tab.rising none (s.wr f d i v).regs = true := Tab.rising_put _ _ h

/-- What an update of the state other than its registers leaves every register at. -/
theorem State.rd_congr {s t : State} (h : t.regs = s.regs) (f : Field) (d i : Nat) : t.rd f d i = s.rd f d i := by
  simp only [State.rd, h]

/-! ## Counting and reporting -/

/-- t is s but for its registers, what the heads hold and what the platform manager is to be told. -/
def Counted (s t : State) : Prop := t = { s with regs := t.regs, heads := t.heads, pm := t.pm }

/-- As `Counted`, with messages sent. -/
def Reported (s t : State) : Prop := t = { s with regs := t.regs, heads := t.heads, pm := t.pm, out := t.out }

/-- As `Counted`, with records in the Ream and pages of the quire store written. -/
def Recorded (s t : State) : Prop := t = { s with regs := t.regs, heads := t.heads, pm := t.pm, ream := t.ream, qst := t.qst }

theorem Counted.refl (s : State) : Counted s s := rfl

theorem Counted.trans {s t u : State} (h1 : Counted s t) (h2 : Counted t u) : Counted s u := by
  unfold Counted at *; rw [h2, h1]

theorem Counted.reported {s t : State} (h : Counted s t) : Reported s t := by
  unfold Counted at h; unfold Reported; rw [h]

theorem Counted.recorded {s t : State} (h : Counted s t) : Recorded s t := by
  unfold Counted at h; unfold Recorded; rw [h]

theorem Reported.refl (s : State) : Reported s s := rfl

theorem Reported.trans {s t u : State} (h1 : Reported s t) (h2 : Reported t u) : Reported s u := by
  unfold Reported at *; rw [h2, h1]

theorem Recorded.refl (s : State) : Recorded s s := rfl

theorem Recorded.trans {s t u : State} (h1 : Recorded s t) (h2 : Recorded t u) : Recorded s u := by
  unfold Recorded at *; rw [h2, h1]

theorem State.wr_counted (s : State) (f : Field) (d i v : Nat) : Counted s (s.wr f d i v) := rfl

theorem State.bump_counted (s : State) (f : Field) (d i n : Nat) : Counted s (s.bump f d i n) := rfl

theorem State.wrBit_counted (s : State) (f : Field) (d i n : Nat) (b : Bool) : Counted s (s.wrBit f d i n b) := rfl

theorem State.peak_counted (s : State) (f : Field) (d i v : Nat) : Counted s (s.peak f d i v) := rfl

theorem State.setReg_counted (s : State) (f : Field) (v : Nat) : Counted s (s.setReg f v) := rfl

theorem State.onHead_counted (s : State) (h : Nat) (f : Head → Head) : Counted s (s.onHead h f) := rfl

theorem State.notify_counted (s : State) (n : Nat) : Counted s (s.notify n) := rfl

theorem State.raiseAt_counted (s : State) (h n : Nat) : Counted s (s.raiseAt h n) := by
  unfold State.raiseAt
  split
  · exact s.wr_counted ..
  · exact ((s.wr_counted ..).trans (State.wr_counted _ ..)).trans (State.onHead_counted _ ..)

theorem State.assertSource_counted (s : State) (n : Nat) : Counted s (s.assertSource n) := by
  unfold State.assertSource
  refine Counted.trans ?_ (State.notify_counted _ n)
  split
  · exact (s.raiseAt_counted 0 n).trans (State.raiseAt_counted _ 1 n)
  · exact s.raiseAt_counted 0 n

theorem State.tally_counted (s : State) (d i n : Nat) : Counted s (s.tally d i n) := by
  unfold State.tally
  split
  · exact Counted.refl s
  · dsimp only
    split
    · exact s.wr_counted ..
    · exact ((s.wr_counted ..).trans (State.wrBit_counted _ ..)).trans (State.assertSource_counted _ _)

theorem State.raise_counted (s : State) (n : Nat) : Counted s (s.raise n) :=
  (s.assertSource_counted n).trans (State.tally_counted _ ..)

theorem State.msix_reported (s : State) (h v : Nat) : Reported s (s.msix h v) := by
  unfold State.msix
  split
  · exact (s.onHead_counted ..).reported
  · exact Reported.trans (t := s.send _) rfl (State.tally_counted _ ..).reported

theorem State.eventAt_reported (s : State) (h log : Nat) (ty : EvType) (c : EvCause) (vs : List Nat) :
    Reported s (s.eventAt h log ty c vs) := by
  unfold State.eventAt
  dsimp only
  split
  · exact (s.onHead_counted ..).reported.trans (State.msix_reported _ ..)
  · exact (s.onHead_counted ..).reported

theorem State.event_reported (s : State) (log : Nat) (ty : EvType) (c : EvCause) (vs : List Nat) :
    Reported s (s.event log ty c vs) := by
  unfold State.event
  dsimp only
  split
  · exact (s.eventAt_reported ..).trans (State.eventAt_reported _ ..)
  · exact s.eventAt_reported ..

theorem State.ream_recorded (s : State) (x : Ream) : Recorded s { s with ream := x } := rfl

theorem State.qst_recorded (s : State) (x : Qst) : Recorded s { s with qst := x } := rfl

theorem State.pageCommit_recorded (s : State) (page : Nat) : Recorded s (s.pageCommit page) := by
  unfold State.pageCommit
  extract_lets n x s1 s2 s3
  have h2 : Recorded s s2 := (s.qst_recorded _).trans (State.bump_counted _ ..).recorded
  have h3 : Recorded s s3 := by
    simp only [s3]
    split
    · exact h2.trans ((State.setReg_counted ..).trans (State.setReg_counted ..)).recorded
    · exact h2
  clear_value s3
  refine Recorded.trans ?_ (State.tally_counted ..).recorded
  split
  · exact h3.trans (s3.raise_counted 622).recorded
  · exact h3

theorem State.pageWrite_recorded (s : State) (page o : Nat) (b : List (BitVec 8)) : Recorded s (s.pageWrite page o b) := by
  unfold State.pageWrite
  exact (s.qst_recorded _).trans (State.pageCommit_recorded _ page)

theorem State.slotWrite_recorded (s : State) (ring value : Nat) : Recorded s (s.slotWrite ring value) := rfl

theorem State.gapAt_counted (s : State) (u : Nat) (a b : List ReamRec) : Counted s (s.gapAt u a b) := by
  unfold State.gapAt
  dsimp only
  split
  · exact Counted.refl s
  · exact Counted.trans (t := (((s.wr _ _ _ _).bump _ _ _ _).wr _ _ _ _).wr _ _ _ _) rfl (State.raise_counted _ _)

theorem State.reamLog_recorded (s : State) (r : ReamRec) : Recorded s (s.reamLog r) := by
  unfold State.reamLog
  dsimp only
  have h : ∀ (p : List ReamRec × List ReamRec), Recorded s (if p.2 = [] then s else
      (({ s with ream := { s.ream with log := p.1 } } : State).gapAt 0 p.1 p.2).gapAt 1 p.1 p.2) := by
    intro p
    split
    · exact Recorded.refl s
    · exact (Recorded.trans (t := { s with ream := { s.ream with log := p.1 } }) rfl (State.gapAt_counted _ ..).recorded).trans
        (State.gapAt_counted _ ..).recorded
  split
  · exact (h _).trans rfl
  · exact (h _).trans (Recorded.trans (State.bump_counted _ ..).recorded (State.raise_counted _ _).recorded)

theorem State.reamMirror_recorded (s : State) (r : ReamRec) : Recorded s (s.reamMirror r) := by
  unfold State.reamMirror
  extract_lets m x s1 s2
  have h1 : Recorded s s1 := s.ream_recorded _
  clear_value s1
  have h2 : Recorded s s2 := by
    simp only [s2]
    split
    · exact h1.trans (s1.bump_counted ..).recorded
    · exact h1
  clear_value s2
  exact h2.trans (s2.pageWrite_recorded ..)

theorem State.reamPlace_recorded (s : State) (r : ReamRec) : Recorded s (s.reamPlace r) := by
  unfold State.reamPlace
  extract_lets x s1 crit b y s2
  have h1 : Recorded s s1 := s.ream_recorded _
  clear_value s1
  have h2 : Recorded s s2 := by
    simp only [s2]
    split
    · split
      · exact h1.trans (s1.reamMirror_recorded r)
      · exact h1.trans (s1.ream_recorded _)
    · split
      · exact h1.trans (s1.reamLog_recorded r)
      · split
        · exact (h1.trans (s1.reamLog_recorded r)).trans (State.reamMirror_recorded _ r)
        · exact h1.trans (s1.reamLog_recorded r)
  clear_value s2
  refine Recorded.trans ?_ (State.tally_counted ..).recorded
  split
  · exact h2.trans (s2.raise_counted 619).recorded
  · exact h2

theorem State.reamAs_recorded (s : State) (rate : Bool) (origin sev cls : Nat) (p : List Nat) :
    Recorded s (s.reamAs rate origin sev cls p) := by
  unfold State.reamAs
  split
  · exact Recorded.refl s
  · split
    · extract_lets old new
      exact (s.ream_recorded _).trans (State.bump_counted _ ..).recorded
    · extract_lets x s1
      have h1 : Recorded s s1 := by
        simp only [s1]
        split
        · exact s.ream_recorded _
        · exact Recorded.refl s
      clear_value s1
      exact h1.trans (s1.reamPlace_recorded _)

theorem State.log_recorded (s : State) (sev cls : Nat) (p : List Nat) : Recorded s (s.log sev cls p) := s.reamAs_recorded ..

theorem State.supLog_recorded (s : State) (sev cls : Nat) (p : List Nat) : Recorded s (s.supLog sev cls p) := s.reamAs_recorded ..

theorem State.hwLog_recorded (s : State) (sev cls : Nat) (p : List Nat) : Recorded s (s.hwLog sev cls p) := s.reamAs_recorded ..

theorem State.raiseLog_recorded (s : State) (src sev : Nat) (p : List Nat) : Recorded s (s.raiseLog src sev p) :=
  (s.raise_counted src).recorded.trans (State.log_recorded _ ..)

/-! ## Component by component -/

variable (s : State)

/-! ### `State.raiseAt` -/

@[simp] theorem State.raiseAt_pending (h n : Nat) : (s.raiseAt h n).pending = s.pending := by rw [s.raiseAt_counted h n]
@[simp] theorem State.raiseAt_held (h n : Nat) : (s.raiseAt h n).held = s.held := by rw [s.raiseAt_counted h n]
@[simp] theorem State.raiseAt_out (h n : Nat) : (s.raiseAt h n).out = s.out := by rw [s.raiseAt_counted h n]
@[simp] theorem State.raiseAt_free (h n : Nat) : (s.raiseAt h n).free = s.free := by rw [s.raiseAt_counted h n]
@[simp] theorem State.raiseAt_ctl (h n : Nat) : (s.raiseAt h n).ctl = s.ctl := by rw [s.raiseAt_counted h n]
@[simp] theorem State.raiseAt_ream (h n : Nat) : (s.raiseAt h n).ream = s.ream := by rw [s.raiseAt_counted h n]
@[simp] theorem State.raiseAt_qst (h n : Nat) : (s.raiseAt h n).qst = s.qst := by rw [s.raiseAt_counted h n]
@[simp] theorem State.raiseAt_lsa (h n : Nat) : (s.raiseAt h n).lsa = s.lsa := by rw [s.raiseAt_counted h n]
@[simp] theorem State.raiseAt_path (h n : Nat) : (s.raiseAt h n).path = s.path := by rw [s.raiseAt_counted h n]
@[simp] theorem State.raiseAt_mapping (h n : Nat) : (s.raiseAt h n).mapping = s.mapping := by rw [s.raiseAt_counted h n]
@[simp] theorem State.raiseAt_media (h n : Nat) : (s.raiseAt h n).media = s.media := by rw [s.raiseAt_counted h n]
@[simp] theorem State.raiseAt_dram (h n : Nat) : (s.raiseAt h n).dram = s.dram := by rw [s.raiseAt_counted h n]
@[simp] theorem State.raiseAt_pour (h n : Nat) : (s.raiseAt h n).pour = s.pour := by rw [s.raiseAt_counted h n]
@[simp] theorem State.raiseAt_sec (h n : Nat) : (s.raiseAt h n).sec = s.sec := by rw [s.raiseAt_counted h n]
@[simp] theorem State.raiseAt_bulk (h n : Nat) : (s.raiseAt h n).bulk = s.bulk := by rw [s.raiseAt_counted h n]
@[simp] theorem State.raiseAt_sensors (h n : Nat) : (s.raiseAt h n).sensors = s.sensors := by rw [s.raiseAt_counted h n]
@[simp] theorem State.raiseAt_minute (h n : Nat) : (s.raiseAt h n).minute = s.minute := by rw [s.raiseAt_counted h n]
@[simp] theorem State.raiseAt_engFaults (h n : Nat) : (s.raiseAt h n).engFaults = s.engFaults := by rw [s.raiseAt_counted h n]
@[simp] theorem State.raiseAt_pourFaults (h n : Nat) : (s.raiseAt h n).pourFaults = s.pourFaults := by rw [s.raiseAt_counted h n]
@[simp] theorem State.raiseAt_tlyCount (h n : Nat) : (s.raiseAt h n).tlyCount = s.tlyCount := by rw [s.raiseAt_counted h n]
@[simp] theorem State.raiseAt_tlyBuf (h n : Nat) : (s.raiseAt h n).tlyBuf = s.tlyBuf := by rw [s.raiseAt_counted h n]
@[simp] theorem State.raiseAt_test (h n : Nat) : (s.raiseAt h n).test = s.test := by rw [s.raiseAt_counted h n]
@[simp] theorem State.raiseAt_tap (h n : Nat) : (s.raiseAt h n).tap = s.tap := by rw [s.raiseAt_counted h n]
@[simp] theorem State.raiseAt_trst (h n : Nat) : (s.raiseAt h n).trst = s.trst := by rw [s.raiseAt_counted h n]
@[simp] theorem State.raiseAt_presented (h n : Nat) : (s.raiseAt h n).presented = s.presented := by rw [s.raiseAt_counted h n]
@[simp] theorem State.raiseAt_ports (h n : Nat) : (s.raiseAt h n).ports = s.ports := by rw [s.raiseAt_counted h n]
@[simp] theorem State.raiseAt_sram (h n : Nat) : (s.raiseAt h n).sram = s.sram := by rw [s.raiseAt_counted h n]

/-! ### `State.assertSource` -/

@[simp] theorem State.assertSource_pending (n : Nat) : (s.assertSource n).pending = s.pending := by rw [s.assertSource_counted n]
@[simp] theorem State.assertSource_held (n : Nat) : (s.assertSource n).held = s.held := by rw [s.assertSource_counted n]
@[simp] theorem State.assertSource_out (n : Nat) : (s.assertSource n).out = s.out := by rw [s.assertSource_counted n]
@[simp] theorem State.assertSource_free (n : Nat) : (s.assertSource n).free = s.free := by rw [s.assertSource_counted n]
@[simp] theorem State.assertSource_ctl (n : Nat) : (s.assertSource n).ctl = s.ctl := by rw [s.assertSource_counted n]
@[simp] theorem State.assertSource_ream (n : Nat) : (s.assertSource n).ream = s.ream := by rw [s.assertSource_counted n]
@[simp] theorem State.assertSource_qst (n : Nat) : (s.assertSource n).qst = s.qst := by rw [s.assertSource_counted n]
@[simp] theorem State.assertSource_lsa (n : Nat) : (s.assertSource n).lsa = s.lsa := by rw [s.assertSource_counted n]
@[simp] theorem State.assertSource_path (n : Nat) : (s.assertSource n).path = s.path := by rw [s.assertSource_counted n]
@[simp] theorem State.assertSource_mapping (n : Nat) : (s.assertSource n).mapping = s.mapping := by rw [s.assertSource_counted n]
@[simp] theorem State.assertSource_media (n : Nat) : (s.assertSource n).media = s.media := by rw [s.assertSource_counted n]
@[simp] theorem State.assertSource_dram (n : Nat) : (s.assertSource n).dram = s.dram := by rw [s.assertSource_counted n]
@[simp] theorem State.assertSource_pour (n : Nat) : (s.assertSource n).pour = s.pour := by rw [s.assertSource_counted n]
@[simp] theorem State.assertSource_sec (n : Nat) : (s.assertSource n).sec = s.sec := by rw [s.assertSource_counted n]
@[simp] theorem State.assertSource_bulk (n : Nat) : (s.assertSource n).bulk = s.bulk := by rw [s.assertSource_counted n]
@[simp] theorem State.assertSource_sensors (n : Nat) : (s.assertSource n).sensors = s.sensors := by rw [s.assertSource_counted n]
@[simp] theorem State.assertSource_minute (n : Nat) : (s.assertSource n).minute = s.minute := by rw [s.assertSource_counted n]
@[simp] theorem State.assertSource_engFaults (n : Nat) : (s.assertSource n).engFaults = s.engFaults := by rw [s.assertSource_counted n]
@[simp] theorem State.assertSource_pourFaults (n : Nat) : (s.assertSource n).pourFaults = s.pourFaults := by rw [s.assertSource_counted n]
@[simp] theorem State.assertSource_tlyCount (n : Nat) : (s.assertSource n).tlyCount = s.tlyCount := by rw [s.assertSource_counted n]
@[simp] theorem State.assertSource_tlyBuf (n : Nat) : (s.assertSource n).tlyBuf = s.tlyBuf := by rw [s.assertSource_counted n]
@[simp] theorem State.assertSource_test (n : Nat) : (s.assertSource n).test = s.test := by rw [s.assertSource_counted n]
@[simp] theorem State.assertSource_tap (n : Nat) : (s.assertSource n).tap = s.tap := by rw [s.assertSource_counted n]
@[simp] theorem State.assertSource_trst (n : Nat) : (s.assertSource n).trst = s.trst := by rw [s.assertSource_counted n]
@[simp] theorem State.assertSource_presented (n : Nat) : (s.assertSource n).presented = s.presented := by rw [s.assertSource_counted n]
@[simp] theorem State.assertSource_ports (n : Nat) : (s.assertSource n).ports = s.ports := by rw [s.assertSource_counted n]
@[simp] theorem State.assertSource_sram (n : Nat) : (s.assertSource n).sram = s.sram := by rw [s.assertSource_counted n]

/-! ### `State.raise` -/

@[simp] theorem State.raise_pending (n : Nat) : (s.raise n).pending = s.pending := by rw [s.raise_counted n]
@[simp] theorem State.raise_held (n : Nat) : (s.raise n).held = s.held := by rw [s.raise_counted n]
@[simp] theorem State.raise_out (n : Nat) : (s.raise n).out = s.out := by rw [s.raise_counted n]
@[simp] theorem State.raise_free (n : Nat) : (s.raise n).free = s.free := by rw [s.raise_counted n]
@[simp] theorem State.raise_ctl (n : Nat) : (s.raise n).ctl = s.ctl := by rw [s.raise_counted n]
@[simp] theorem State.raise_ream (n : Nat) : (s.raise n).ream = s.ream := by rw [s.raise_counted n]
@[simp] theorem State.raise_qst (n : Nat) : (s.raise n).qst = s.qst := by rw [s.raise_counted n]
@[simp] theorem State.raise_lsa (n : Nat) : (s.raise n).lsa = s.lsa := by rw [s.raise_counted n]
@[simp] theorem State.raise_path (n : Nat) : (s.raise n).path = s.path := by rw [s.raise_counted n]
@[simp] theorem State.raise_mapping (n : Nat) : (s.raise n).mapping = s.mapping := by rw [s.raise_counted n]
@[simp] theorem State.raise_media (n : Nat) : (s.raise n).media = s.media := by rw [s.raise_counted n]
@[simp] theorem State.raise_dram (n : Nat) : (s.raise n).dram = s.dram := by rw [s.raise_counted n]
@[simp] theorem State.raise_pour (n : Nat) : (s.raise n).pour = s.pour := by rw [s.raise_counted n]
@[simp] theorem State.raise_sec (n : Nat) : (s.raise n).sec = s.sec := by rw [s.raise_counted n]
@[simp] theorem State.raise_bulk (n : Nat) : (s.raise n).bulk = s.bulk := by rw [s.raise_counted n]
@[simp] theorem State.raise_sensors (n : Nat) : (s.raise n).sensors = s.sensors := by rw [s.raise_counted n]
@[simp] theorem State.raise_minute (n : Nat) : (s.raise n).minute = s.minute := by rw [s.raise_counted n]
@[simp] theorem State.raise_engFaults (n : Nat) : (s.raise n).engFaults = s.engFaults := by rw [s.raise_counted n]
@[simp] theorem State.raise_pourFaults (n : Nat) : (s.raise n).pourFaults = s.pourFaults := by rw [s.raise_counted n]
@[simp] theorem State.raise_tlyCount (n : Nat) : (s.raise n).tlyCount = s.tlyCount := by rw [s.raise_counted n]
@[simp] theorem State.raise_tlyBuf (n : Nat) : (s.raise n).tlyBuf = s.tlyBuf := by rw [s.raise_counted n]
@[simp] theorem State.raise_test (n : Nat) : (s.raise n).test = s.test := by rw [s.raise_counted n]
@[simp] theorem State.raise_tap (n : Nat) : (s.raise n).tap = s.tap := by rw [s.raise_counted n]
@[simp] theorem State.raise_trst (n : Nat) : (s.raise n).trst = s.trst := by rw [s.raise_counted n]
@[simp] theorem State.raise_presented (n : Nat) : (s.raise n).presented = s.presented := by rw [s.raise_counted n]
@[simp] theorem State.raise_ports (n : Nat) : (s.raise n).ports = s.ports := by rw [s.raise_counted n]
@[simp] theorem State.raise_sram (n : Nat) : (s.raise n).sram = s.sram := by rw [s.raise_counted n]

/-! ### `State.tally` -/

@[simp] theorem State.tally_pending (d i n : Nat) : (s.tally d i n).pending = s.pending := by rw [s.tally_counted d i n]
@[simp] theorem State.tally_held (d i n : Nat) : (s.tally d i n).held = s.held := by rw [s.tally_counted d i n]
@[simp] theorem State.tally_out (d i n : Nat) : (s.tally d i n).out = s.out := by rw [s.tally_counted d i n]
@[simp] theorem State.tally_free (d i n : Nat) : (s.tally d i n).free = s.free := by rw [s.tally_counted d i n]
@[simp] theorem State.tally_ctl (d i n : Nat) : (s.tally d i n).ctl = s.ctl := by rw [s.tally_counted d i n]
@[simp] theorem State.tally_ream (d i n : Nat) : (s.tally d i n).ream = s.ream := by rw [s.tally_counted d i n]
@[simp] theorem State.tally_qst (d i n : Nat) : (s.tally d i n).qst = s.qst := by rw [s.tally_counted d i n]
@[simp] theorem State.tally_lsa (d i n : Nat) : (s.tally d i n).lsa = s.lsa := by rw [s.tally_counted d i n]
@[simp] theorem State.tally_path (d i n : Nat) : (s.tally d i n).path = s.path := by rw [s.tally_counted d i n]
@[simp] theorem State.tally_mapping (d i n : Nat) : (s.tally d i n).mapping = s.mapping := by rw [s.tally_counted d i n]
@[simp] theorem State.tally_media (d i n : Nat) : (s.tally d i n).media = s.media := by rw [s.tally_counted d i n]
@[simp] theorem State.tally_dram (d i n : Nat) : (s.tally d i n).dram = s.dram := by rw [s.tally_counted d i n]
@[simp] theorem State.tally_pour (d i n : Nat) : (s.tally d i n).pour = s.pour := by rw [s.tally_counted d i n]
@[simp] theorem State.tally_sec (d i n : Nat) : (s.tally d i n).sec = s.sec := by rw [s.tally_counted d i n]
@[simp] theorem State.tally_bulk (d i n : Nat) : (s.tally d i n).bulk = s.bulk := by rw [s.tally_counted d i n]
@[simp] theorem State.tally_sensors (d i n : Nat) : (s.tally d i n).sensors = s.sensors := by rw [s.tally_counted d i n]
@[simp] theorem State.tally_minute (d i n : Nat) : (s.tally d i n).minute = s.minute := by rw [s.tally_counted d i n]
@[simp] theorem State.tally_engFaults (d i n : Nat) : (s.tally d i n).engFaults = s.engFaults := by rw [s.tally_counted d i n]
@[simp] theorem State.tally_pourFaults (d i n : Nat) : (s.tally d i n).pourFaults = s.pourFaults := by rw [s.tally_counted d i n]
@[simp] theorem State.tally_tlyCount (d i n : Nat) : (s.tally d i n).tlyCount = s.tlyCount := by rw [s.tally_counted d i n]
@[simp] theorem State.tally_tlyBuf (d i n : Nat) : (s.tally d i n).tlyBuf = s.tlyBuf := by rw [s.tally_counted d i n]
@[simp] theorem State.tally_test (d i n : Nat) : (s.tally d i n).test = s.test := by rw [s.tally_counted d i n]
@[simp] theorem State.tally_tap (d i n : Nat) : (s.tally d i n).tap = s.tap := by rw [s.tally_counted d i n]
@[simp] theorem State.tally_trst (d i n : Nat) : (s.tally d i n).trst = s.trst := by rw [s.tally_counted d i n]
@[simp] theorem State.tally_presented (d i n : Nat) : (s.tally d i n).presented = s.presented := by rw [s.tally_counted d i n]
@[simp] theorem State.tally_ports (d i n : Nat) : (s.tally d i n).ports = s.ports := by rw [s.tally_counted d i n]
@[simp] theorem State.tally_sram (d i n : Nat) : (s.tally d i n).sram = s.sram := by rw [s.tally_counted d i n]

/-! ### `State.msix` -/

@[simp] theorem State.msix_pending (h v : Nat) : (s.msix h v).pending = s.pending := by rw [s.msix_reported h v]
@[simp] theorem State.msix_held (h v : Nat) : (s.msix h v).held = s.held := by rw [s.msix_reported h v]
@[simp] theorem State.msix_free (h v : Nat) : (s.msix h v).free = s.free := by rw [s.msix_reported h v]
@[simp] theorem State.msix_ctl (h v : Nat) : (s.msix h v).ctl = s.ctl := by rw [s.msix_reported h v]
@[simp] theorem State.msix_ream (h v : Nat) : (s.msix h v).ream = s.ream := by rw [s.msix_reported h v]
@[simp] theorem State.msix_qst (h v : Nat) : (s.msix h v).qst = s.qst := by rw [s.msix_reported h v]
@[simp] theorem State.msix_lsa (h v : Nat) : (s.msix h v).lsa = s.lsa := by rw [s.msix_reported h v]
@[simp] theorem State.msix_path (h v : Nat) : (s.msix h v).path = s.path := by rw [s.msix_reported h v]
@[simp] theorem State.msix_mapping (h v : Nat) : (s.msix h v).mapping = s.mapping := by rw [s.msix_reported h v]
@[simp] theorem State.msix_media (h v : Nat) : (s.msix h v).media = s.media := by rw [s.msix_reported h v]
@[simp] theorem State.msix_dram (h v : Nat) : (s.msix h v).dram = s.dram := by rw [s.msix_reported h v]
@[simp] theorem State.msix_pour (h v : Nat) : (s.msix h v).pour = s.pour := by rw [s.msix_reported h v]
@[simp] theorem State.msix_sec (h v : Nat) : (s.msix h v).sec = s.sec := by rw [s.msix_reported h v]
@[simp] theorem State.msix_bulk (h v : Nat) : (s.msix h v).bulk = s.bulk := by rw [s.msix_reported h v]
@[simp] theorem State.msix_sensors (h v : Nat) : (s.msix h v).sensors = s.sensors := by rw [s.msix_reported h v]
@[simp] theorem State.msix_minute (h v : Nat) : (s.msix h v).minute = s.minute := by rw [s.msix_reported h v]
@[simp] theorem State.msix_engFaults (h v : Nat) : (s.msix h v).engFaults = s.engFaults := by rw [s.msix_reported h v]
@[simp] theorem State.msix_pourFaults (h v : Nat) : (s.msix h v).pourFaults = s.pourFaults := by rw [s.msix_reported h v]
@[simp] theorem State.msix_tlyCount (h v : Nat) : (s.msix h v).tlyCount = s.tlyCount := by rw [s.msix_reported h v]
@[simp] theorem State.msix_tlyBuf (h v : Nat) : (s.msix h v).tlyBuf = s.tlyBuf := by rw [s.msix_reported h v]
@[simp] theorem State.msix_test (h v : Nat) : (s.msix h v).test = s.test := by rw [s.msix_reported h v]
@[simp] theorem State.msix_tap (h v : Nat) : (s.msix h v).tap = s.tap := by rw [s.msix_reported h v]
@[simp] theorem State.msix_trst (h v : Nat) : (s.msix h v).trst = s.trst := by rw [s.msix_reported h v]
@[simp] theorem State.msix_presented (h v : Nat) : (s.msix h v).presented = s.presented := by rw [s.msix_reported h v]
@[simp] theorem State.msix_ports (h v : Nat) : (s.msix h v).ports = s.ports := by rw [s.msix_reported h v]
@[simp] theorem State.msix_sram (h v : Nat) : (s.msix h v).sram = s.sram := by rw [s.msix_reported h v]

/-! ### `State.event` -/

@[simp] theorem State.event_pending (log : Nat) (ty : EvType) (c : EvCause) (vs : List Nat) : (s.event log ty c vs).pending = s.pending := by rw [s.event_reported log ty c vs]
@[simp] theorem State.event_held (log : Nat) (ty : EvType) (c : EvCause) (vs : List Nat) : (s.event log ty c vs).held = s.held := by rw [s.event_reported log ty c vs]
@[simp] theorem State.event_free (log : Nat) (ty : EvType) (c : EvCause) (vs : List Nat) : (s.event log ty c vs).free = s.free := by rw [s.event_reported log ty c vs]
@[simp] theorem State.event_ctl (log : Nat) (ty : EvType) (c : EvCause) (vs : List Nat) : (s.event log ty c vs).ctl = s.ctl := by rw [s.event_reported log ty c vs]
@[simp] theorem State.event_ream (log : Nat) (ty : EvType) (c : EvCause) (vs : List Nat) : (s.event log ty c vs).ream = s.ream := by rw [s.event_reported log ty c vs]
@[simp] theorem State.event_qst (log : Nat) (ty : EvType) (c : EvCause) (vs : List Nat) : (s.event log ty c vs).qst = s.qst := by rw [s.event_reported log ty c vs]
@[simp] theorem State.event_lsa (log : Nat) (ty : EvType) (c : EvCause) (vs : List Nat) : (s.event log ty c vs).lsa = s.lsa := by rw [s.event_reported log ty c vs]
@[simp] theorem State.event_path (log : Nat) (ty : EvType) (c : EvCause) (vs : List Nat) : (s.event log ty c vs).path = s.path := by rw [s.event_reported log ty c vs]
@[simp] theorem State.event_mapping (log : Nat) (ty : EvType) (c : EvCause) (vs : List Nat) : (s.event log ty c vs).mapping = s.mapping := by rw [s.event_reported log ty c vs]
@[simp] theorem State.event_media (log : Nat) (ty : EvType) (c : EvCause) (vs : List Nat) : (s.event log ty c vs).media = s.media := by rw [s.event_reported log ty c vs]
@[simp] theorem State.event_dram (log : Nat) (ty : EvType) (c : EvCause) (vs : List Nat) : (s.event log ty c vs).dram = s.dram := by rw [s.event_reported log ty c vs]
@[simp] theorem State.event_pour (log : Nat) (ty : EvType) (c : EvCause) (vs : List Nat) : (s.event log ty c vs).pour = s.pour := by rw [s.event_reported log ty c vs]
@[simp] theorem State.event_sec (log : Nat) (ty : EvType) (c : EvCause) (vs : List Nat) : (s.event log ty c vs).sec = s.sec := by rw [s.event_reported log ty c vs]
@[simp] theorem State.event_bulk (log : Nat) (ty : EvType) (c : EvCause) (vs : List Nat) : (s.event log ty c vs).bulk = s.bulk := by rw [s.event_reported log ty c vs]
@[simp] theorem State.event_sensors (log : Nat) (ty : EvType) (c : EvCause) (vs : List Nat) : (s.event log ty c vs).sensors = s.sensors := by rw [s.event_reported log ty c vs]
@[simp] theorem State.event_minute (log : Nat) (ty : EvType) (c : EvCause) (vs : List Nat) : (s.event log ty c vs).minute = s.minute := by rw [s.event_reported log ty c vs]
@[simp] theorem State.event_engFaults (log : Nat) (ty : EvType) (c : EvCause) (vs : List Nat) : (s.event log ty c vs).engFaults = s.engFaults := by rw [s.event_reported log ty c vs]
@[simp] theorem State.event_pourFaults (log : Nat) (ty : EvType) (c : EvCause) (vs : List Nat) : (s.event log ty c vs).pourFaults = s.pourFaults := by rw [s.event_reported log ty c vs]
@[simp] theorem State.event_tlyCount (log : Nat) (ty : EvType) (c : EvCause) (vs : List Nat) : (s.event log ty c vs).tlyCount = s.tlyCount := by rw [s.event_reported log ty c vs]
@[simp] theorem State.event_tlyBuf (log : Nat) (ty : EvType) (c : EvCause) (vs : List Nat) : (s.event log ty c vs).tlyBuf = s.tlyBuf := by rw [s.event_reported log ty c vs]
@[simp] theorem State.event_test (log : Nat) (ty : EvType) (c : EvCause) (vs : List Nat) : (s.event log ty c vs).test = s.test := by rw [s.event_reported log ty c vs]
@[simp] theorem State.event_tap (log : Nat) (ty : EvType) (c : EvCause) (vs : List Nat) : (s.event log ty c vs).tap = s.tap := by rw [s.event_reported log ty c vs]
@[simp] theorem State.event_trst (log : Nat) (ty : EvType) (c : EvCause) (vs : List Nat) : (s.event log ty c vs).trst = s.trst := by rw [s.event_reported log ty c vs]
@[simp] theorem State.event_presented (log : Nat) (ty : EvType) (c : EvCause) (vs : List Nat) : (s.event log ty c vs).presented = s.presented := by rw [s.event_reported log ty c vs]
@[simp] theorem State.event_ports (log : Nat) (ty : EvType) (c : EvCause) (vs : List Nat) : (s.event log ty c vs).ports = s.ports := by rw [s.event_reported log ty c vs]
@[simp] theorem State.event_sram (log : Nat) (ty : EvType) (c : EvCause) (vs : List Nat) : (s.event log ty c vs).sram = s.sram := by rw [s.event_reported log ty c vs]

/-! ### `State.pageCommit` -/

@[simp] theorem State.pageCommit_pending (p : Nat) : (s.pageCommit p).pending = s.pending := by rw [s.pageCommit_recorded p]
@[simp] theorem State.pageCommit_held (p : Nat) : (s.pageCommit p).held = s.held := by rw [s.pageCommit_recorded p]
@[simp] theorem State.pageCommit_out (p : Nat) : (s.pageCommit p).out = s.out := by rw [s.pageCommit_recorded p]
@[simp] theorem State.pageCommit_free (p : Nat) : (s.pageCommit p).free = s.free := by rw [s.pageCommit_recorded p]
@[simp] theorem State.pageCommit_ctl (p : Nat) : (s.pageCommit p).ctl = s.ctl := by rw [s.pageCommit_recorded p]
@[simp] theorem State.pageCommit_lsa (p : Nat) : (s.pageCommit p).lsa = s.lsa := by rw [s.pageCommit_recorded p]
@[simp] theorem State.pageCommit_path (p : Nat) : (s.pageCommit p).path = s.path := by rw [s.pageCommit_recorded p]
@[simp] theorem State.pageCommit_mapping (p : Nat) : (s.pageCommit p).mapping = s.mapping := by rw [s.pageCommit_recorded p]
@[simp] theorem State.pageCommit_media (p : Nat) : (s.pageCommit p).media = s.media := by rw [s.pageCommit_recorded p]
@[simp] theorem State.pageCommit_dram (p : Nat) : (s.pageCommit p).dram = s.dram := by rw [s.pageCommit_recorded p]
@[simp] theorem State.pageCommit_pour (p : Nat) : (s.pageCommit p).pour = s.pour := by rw [s.pageCommit_recorded p]
@[simp] theorem State.pageCommit_sec (p : Nat) : (s.pageCommit p).sec = s.sec := by rw [s.pageCommit_recorded p]
@[simp] theorem State.pageCommit_bulk (p : Nat) : (s.pageCommit p).bulk = s.bulk := by rw [s.pageCommit_recorded p]
@[simp] theorem State.pageCommit_sensors (p : Nat) : (s.pageCommit p).sensors = s.sensors := by rw [s.pageCommit_recorded p]
@[simp] theorem State.pageCommit_minute (p : Nat) : (s.pageCommit p).minute = s.minute := by rw [s.pageCommit_recorded p]
@[simp] theorem State.pageCommit_engFaults (p : Nat) : (s.pageCommit p).engFaults = s.engFaults := by rw [s.pageCommit_recorded p]
@[simp] theorem State.pageCommit_pourFaults (p : Nat) : (s.pageCommit p).pourFaults = s.pourFaults := by rw [s.pageCommit_recorded p]
@[simp] theorem State.pageCommit_tlyCount (p : Nat) : (s.pageCommit p).tlyCount = s.tlyCount := by rw [s.pageCommit_recorded p]
@[simp] theorem State.pageCommit_tlyBuf (p : Nat) : (s.pageCommit p).tlyBuf = s.tlyBuf := by rw [s.pageCommit_recorded p]
@[simp] theorem State.pageCommit_test (p : Nat) : (s.pageCommit p).test = s.test := by rw [s.pageCommit_recorded p]
@[simp] theorem State.pageCommit_tap (p : Nat) : (s.pageCommit p).tap = s.tap := by rw [s.pageCommit_recorded p]
@[simp] theorem State.pageCommit_trst (p : Nat) : (s.pageCommit p).trst = s.trst := by rw [s.pageCommit_recorded p]
@[simp] theorem State.pageCommit_presented (p : Nat) : (s.pageCommit p).presented = s.presented := by rw [s.pageCommit_recorded p]
@[simp] theorem State.pageCommit_ports (p : Nat) : (s.pageCommit p).ports = s.ports := by rw [s.pageCommit_recorded p]
@[simp] theorem State.pageCommit_sram (p : Nat) : (s.pageCommit p).sram = s.sram := by rw [s.pageCommit_recorded p]

/-! ### `State.slotWrite` -/

@[simp] theorem State.slotWrite_pending (r v : Nat) : (s.slotWrite r v).pending = s.pending := by rw [s.slotWrite_recorded r v]
@[simp] theorem State.slotWrite_held (r v : Nat) : (s.slotWrite r v).held = s.held := by rw [s.slotWrite_recorded r v]
@[simp] theorem State.slotWrite_out (r v : Nat) : (s.slotWrite r v).out = s.out := by rw [s.slotWrite_recorded r v]
@[simp] theorem State.slotWrite_free (r v : Nat) : (s.slotWrite r v).free = s.free := by rw [s.slotWrite_recorded r v]
@[simp] theorem State.slotWrite_ctl (r v : Nat) : (s.slotWrite r v).ctl = s.ctl := by rw [s.slotWrite_recorded r v]
@[simp] theorem State.slotWrite_lsa (r v : Nat) : (s.slotWrite r v).lsa = s.lsa := by rw [s.slotWrite_recorded r v]
@[simp] theorem State.slotWrite_path (r v : Nat) : (s.slotWrite r v).path = s.path := by rw [s.slotWrite_recorded r v]
@[simp] theorem State.slotWrite_mapping (r v : Nat) : (s.slotWrite r v).mapping = s.mapping := by rw [s.slotWrite_recorded r v]
@[simp] theorem State.slotWrite_media (r v : Nat) : (s.slotWrite r v).media = s.media := by rw [s.slotWrite_recorded r v]
@[simp] theorem State.slotWrite_dram (r v : Nat) : (s.slotWrite r v).dram = s.dram := by rw [s.slotWrite_recorded r v]
@[simp] theorem State.slotWrite_pour (r v : Nat) : (s.slotWrite r v).pour = s.pour := by rw [s.slotWrite_recorded r v]
@[simp] theorem State.slotWrite_sec (r v : Nat) : (s.slotWrite r v).sec = s.sec := by rw [s.slotWrite_recorded r v]
@[simp] theorem State.slotWrite_bulk (r v : Nat) : (s.slotWrite r v).bulk = s.bulk := by rw [s.slotWrite_recorded r v]
@[simp] theorem State.slotWrite_sensors (r v : Nat) : (s.slotWrite r v).sensors = s.sensors := by rw [s.slotWrite_recorded r v]
@[simp] theorem State.slotWrite_minute (r v : Nat) : (s.slotWrite r v).minute = s.minute := by rw [s.slotWrite_recorded r v]
@[simp] theorem State.slotWrite_engFaults (r v : Nat) : (s.slotWrite r v).engFaults = s.engFaults := by rw [s.slotWrite_recorded r v]
@[simp] theorem State.slotWrite_pourFaults (r v : Nat) : (s.slotWrite r v).pourFaults = s.pourFaults := by rw [s.slotWrite_recorded r v]
@[simp] theorem State.slotWrite_tlyCount (r v : Nat) : (s.slotWrite r v).tlyCount = s.tlyCount := by rw [s.slotWrite_recorded r v]
@[simp] theorem State.slotWrite_tlyBuf (r v : Nat) : (s.slotWrite r v).tlyBuf = s.tlyBuf := by rw [s.slotWrite_recorded r v]
@[simp] theorem State.slotWrite_test (r v : Nat) : (s.slotWrite r v).test = s.test := by rw [s.slotWrite_recorded r v]
@[simp] theorem State.slotWrite_tap (r v : Nat) : (s.slotWrite r v).tap = s.tap := by rw [s.slotWrite_recorded r v]
@[simp] theorem State.slotWrite_trst (r v : Nat) : (s.slotWrite r v).trst = s.trst := by rw [s.slotWrite_recorded r v]
@[simp] theorem State.slotWrite_presented (r v : Nat) : (s.slotWrite r v).presented = s.presented := by rw [s.slotWrite_recorded r v]
@[simp] theorem State.slotWrite_ports (r v : Nat) : (s.slotWrite r v).ports = s.ports := by rw [s.slotWrite_recorded r v]
@[simp] theorem State.slotWrite_sram (r v : Nat) : (s.slotWrite r v).sram = s.sram := by rw [s.slotWrite_recorded r v]

/-! ### `State.reamAs` -/

@[simp] theorem State.reamAs_pending (b : Bool) (o sev cls : Nat) (p : List Nat) : (s.reamAs b o sev cls p).pending = s.pending := by rw [s.reamAs_recorded b o sev cls p]
@[simp] theorem State.reamAs_held (b : Bool) (o sev cls : Nat) (p : List Nat) : (s.reamAs b o sev cls p).held = s.held := by rw [s.reamAs_recorded b o sev cls p]
@[simp] theorem State.reamAs_out (b : Bool) (o sev cls : Nat) (p : List Nat) : (s.reamAs b o sev cls p).out = s.out := by rw [s.reamAs_recorded b o sev cls p]
@[simp] theorem State.reamAs_free (b : Bool) (o sev cls : Nat) (p : List Nat) : (s.reamAs b o sev cls p).free = s.free := by rw [s.reamAs_recorded b o sev cls p]
@[simp] theorem State.reamAs_ctl (b : Bool) (o sev cls : Nat) (p : List Nat) : (s.reamAs b o sev cls p).ctl = s.ctl := by rw [s.reamAs_recorded b o sev cls p]
@[simp] theorem State.reamAs_lsa (b : Bool) (o sev cls : Nat) (p : List Nat) : (s.reamAs b o sev cls p).lsa = s.lsa := by rw [s.reamAs_recorded b o sev cls p]
@[simp] theorem State.reamAs_path (b : Bool) (o sev cls : Nat) (p : List Nat) : (s.reamAs b o sev cls p).path = s.path := by rw [s.reamAs_recorded b o sev cls p]
@[simp] theorem State.reamAs_mapping (b : Bool) (o sev cls : Nat) (p : List Nat) : (s.reamAs b o sev cls p).mapping = s.mapping := by rw [s.reamAs_recorded b o sev cls p]
@[simp] theorem State.reamAs_media (b : Bool) (o sev cls : Nat) (p : List Nat) : (s.reamAs b o sev cls p).media = s.media := by rw [s.reamAs_recorded b o sev cls p]
@[simp] theorem State.reamAs_dram (b : Bool) (o sev cls : Nat) (p : List Nat) : (s.reamAs b o sev cls p).dram = s.dram := by rw [s.reamAs_recorded b o sev cls p]
@[simp] theorem State.reamAs_pour (b : Bool) (o sev cls : Nat) (p : List Nat) : (s.reamAs b o sev cls p).pour = s.pour := by rw [s.reamAs_recorded b o sev cls p]
@[simp] theorem State.reamAs_sec (b : Bool) (o sev cls : Nat) (p : List Nat) : (s.reamAs b o sev cls p).sec = s.sec := by rw [s.reamAs_recorded b o sev cls p]
@[simp] theorem State.reamAs_bulk (b : Bool) (o sev cls : Nat) (p : List Nat) : (s.reamAs b o sev cls p).bulk = s.bulk := by rw [s.reamAs_recorded b o sev cls p]
@[simp] theorem State.reamAs_sensors (b : Bool) (o sev cls : Nat) (p : List Nat) : (s.reamAs b o sev cls p).sensors = s.sensors := by rw [s.reamAs_recorded b o sev cls p]
@[simp] theorem State.reamAs_minute (b : Bool) (o sev cls : Nat) (p : List Nat) : (s.reamAs b o sev cls p).minute = s.minute := by rw [s.reamAs_recorded b o sev cls p]
@[simp] theorem State.reamAs_engFaults (b : Bool) (o sev cls : Nat) (p : List Nat) : (s.reamAs b o sev cls p).engFaults = s.engFaults := by rw [s.reamAs_recorded b o sev cls p]
@[simp] theorem State.reamAs_pourFaults (b : Bool) (o sev cls : Nat) (p : List Nat) : (s.reamAs b o sev cls p).pourFaults = s.pourFaults := by rw [s.reamAs_recorded b o sev cls p]
@[simp] theorem State.reamAs_tlyCount (b : Bool) (o sev cls : Nat) (p : List Nat) : (s.reamAs b o sev cls p).tlyCount = s.tlyCount := by rw [s.reamAs_recorded b o sev cls p]
@[simp] theorem State.reamAs_tlyBuf (b : Bool) (o sev cls : Nat) (p : List Nat) : (s.reamAs b o sev cls p).tlyBuf = s.tlyBuf := by rw [s.reamAs_recorded b o sev cls p]
@[simp] theorem State.reamAs_test (b : Bool) (o sev cls : Nat) (p : List Nat) : (s.reamAs b o sev cls p).test = s.test := by rw [s.reamAs_recorded b o sev cls p]
@[simp] theorem State.reamAs_tap (b : Bool) (o sev cls : Nat) (p : List Nat) : (s.reamAs b o sev cls p).tap = s.tap := by rw [s.reamAs_recorded b o sev cls p]
@[simp] theorem State.reamAs_trst (b : Bool) (o sev cls : Nat) (p : List Nat) : (s.reamAs b o sev cls p).trst = s.trst := by rw [s.reamAs_recorded b o sev cls p]
@[simp] theorem State.reamAs_presented (b : Bool) (o sev cls : Nat) (p : List Nat) : (s.reamAs b o sev cls p).presented = s.presented := by rw [s.reamAs_recorded b o sev cls p]
@[simp] theorem State.reamAs_ports (b : Bool) (o sev cls : Nat) (p : List Nat) : (s.reamAs b o sev cls p).ports = s.ports := by rw [s.reamAs_recorded b o sev cls p]
@[simp] theorem State.reamAs_sram (b : Bool) (o sev cls : Nat) (p : List Nat) : (s.reamAs b o sev cls p).sram = s.sram := by rw [s.reamAs_recorded b o sev cls p]

/-! ### `State.log` -/

@[simp] theorem State.log_pending (sev cls : Nat) (p : List Nat) : (s.log sev cls p).pending = s.pending := by rw [s.log_recorded sev cls p]
@[simp] theorem State.log_held (sev cls : Nat) (p : List Nat) : (s.log sev cls p).held = s.held := by rw [s.log_recorded sev cls p]
@[simp] theorem State.log_out (sev cls : Nat) (p : List Nat) : (s.log sev cls p).out = s.out := by rw [s.log_recorded sev cls p]
@[simp] theorem State.log_free (sev cls : Nat) (p : List Nat) : (s.log sev cls p).free = s.free := by rw [s.log_recorded sev cls p]
@[simp] theorem State.log_ctl (sev cls : Nat) (p : List Nat) : (s.log sev cls p).ctl = s.ctl := by rw [s.log_recorded sev cls p]
@[simp] theorem State.log_lsa (sev cls : Nat) (p : List Nat) : (s.log sev cls p).lsa = s.lsa := by rw [s.log_recorded sev cls p]
@[simp] theorem State.log_path (sev cls : Nat) (p : List Nat) : (s.log sev cls p).path = s.path := by rw [s.log_recorded sev cls p]
@[simp] theorem State.log_mapping (sev cls : Nat) (p : List Nat) : (s.log sev cls p).mapping = s.mapping := by rw [s.log_recorded sev cls p]
@[simp] theorem State.log_media (sev cls : Nat) (p : List Nat) : (s.log sev cls p).media = s.media := by rw [s.log_recorded sev cls p]
@[simp] theorem State.log_dram (sev cls : Nat) (p : List Nat) : (s.log sev cls p).dram = s.dram := by rw [s.log_recorded sev cls p]
@[simp] theorem State.log_pour (sev cls : Nat) (p : List Nat) : (s.log sev cls p).pour = s.pour := by rw [s.log_recorded sev cls p]
@[simp] theorem State.log_sec (sev cls : Nat) (p : List Nat) : (s.log sev cls p).sec = s.sec := by rw [s.log_recorded sev cls p]
@[simp] theorem State.log_bulk (sev cls : Nat) (p : List Nat) : (s.log sev cls p).bulk = s.bulk := by rw [s.log_recorded sev cls p]
@[simp] theorem State.log_sensors (sev cls : Nat) (p : List Nat) : (s.log sev cls p).sensors = s.sensors := by rw [s.log_recorded sev cls p]
@[simp] theorem State.log_minute (sev cls : Nat) (p : List Nat) : (s.log sev cls p).minute = s.minute := by rw [s.log_recorded sev cls p]
@[simp] theorem State.log_engFaults (sev cls : Nat) (p : List Nat) : (s.log sev cls p).engFaults = s.engFaults := by rw [s.log_recorded sev cls p]
@[simp] theorem State.log_pourFaults (sev cls : Nat) (p : List Nat) : (s.log sev cls p).pourFaults = s.pourFaults := by rw [s.log_recorded sev cls p]
@[simp] theorem State.log_tlyCount (sev cls : Nat) (p : List Nat) : (s.log sev cls p).tlyCount = s.tlyCount := by rw [s.log_recorded sev cls p]
@[simp] theorem State.log_tlyBuf (sev cls : Nat) (p : List Nat) : (s.log sev cls p).tlyBuf = s.tlyBuf := by rw [s.log_recorded sev cls p]
@[simp] theorem State.log_test (sev cls : Nat) (p : List Nat) : (s.log sev cls p).test = s.test := by rw [s.log_recorded sev cls p]
@[simp] theorem State.log_tap (sev cls : Nat) (p : List Nat) : (s.log sev cls p).tap = s.tap := by rw [s.log_recorded sev cls p]
@[simp] theorem State.log_trst (sev cls : Nat) (p : List Nat) : (s.log sev cls p).trst = s.trst := by rw [s.log_recorded sev cls p]
@[simp] theorem State.log_presented (sev cls : Nat) (p : List Nat) : (s.log sev cls p).presented = s.presented := by rw [s.log_recorded sev cls p]
@[simp] theorem State.log_ports (sev cls : Nat) (p : List Nat) : (s.log sev cls p).ports = s.ports := by rw [s.log_recorded sev cls p]
@[simp] theorem State.log_sram (sev cls : Nat) (p : List Nat) : (s.log sev cls p).sram = s.sram := by rw [s.log_recorded sev cls p]

/-! ### `State.supLog` -/

@[simp] theorem State.supLog_pending (sev cls : Nat) (p : List Nat) : (s.supLog sev cls p).pending = s.pending := by rw [s.supLog_recorded sev cls p]
@[simp] theorem State.supLog_held (sev cls : Nat) (p : List Nat) : (s.supLog sev cls p).held = s.held := by rw [s.supLog_recorded sev cls p]
@[simp] theorem State.supLog_out (sev cls : Nat) (p : List Nat) : (s.supLog sev cls p).out = s.out := by rw [s.supLog_recorded sev cls p]
@[simp] theorem State.supLog_free (sev cls : Nat) (p : List Nat) : (s.supLog sev cls p).free = s.free := by rw [s.supLog_recorded sev cls p]
@[simp] theorem State.supLog_ctl (sev cls : Nat) (p : List Nat) : (s.supLog sev cls p).ctl = s.ctl := by rw [s.supLog_recorded sev cls p]
@[simp] theorem State.supLog_lsa (sev cls : Nat) (p : List Nat) : (s.supLog sev cls p).lsa = s.lsa := by rw [s.supLog_recorded sev cls p]
@[simp] theorem State.supLog_path (sev cls : Nat) (p : List Nat) : (s.supLog sev cls p).path = s.path := by rw [s.supLog_recorded sev cls p]
@[simp] theorem State.supLog_mapping (sev cls : Nat) (p : List Nat) : (s.supLog sev cls p).mapping = s.mapping := by rw [s.supLog_recorded sev cls p]
@[simp] theorem State.supLog_media (sev cls : Nat) (p : List Nat) : (s.supLog sev cls p).media = s.media := by rw [s.supLog_recorded sev cls p]
@[simp] theorem State.supLog_dram (sev cls : Nat) (p : List Nat) : (s.supLog sev cls p).dram = s.dram := by rw [s.supLog_recorded sev cls p]
@[simp] theorem State.supLog_pour (sev cls : Nat) (p : List Nat) : (s.supLog sev cls p).pour = s.pour := by rw [s.supLog_recorded sev cls p]
@[simp] theorem State.supLog_sec (sev cls : Nat) (p : List Nat) : (s.supLog sev cls p).sec = s.sec := by rw [s.supLog_recorded sev cls p]
@[simp] theorem State.supLog_bulk (sev cls : Nat) (p : List Nat) : (s.supLog sev cls p).bulk = s.bulk := by rw [s.supLog_recorded sev cls p]
@[simp] theorem State.supLog_sensors (sev cls : Nat) (p : List Nat) : (s.supLog sev cls p).sensors = s.sensors := by rw [s.supLog_recorded sev cls p]
@[simp] theorem State.supLog_minute (sev cls : Nat) (p : List Nat) : (s.supLog sev cls p).minute = s.minute := by rw [s.supLog_recorded sev cls p]
@[simp] theorem State.supLog_engFaults (sev cls : Nat) (p : List Nat) : (s.supLog sev cls p).engFaults = s.engFaults := by rw [s.supLog_recorded sev cls p]
@[simp] theorem State.supLog_pourFaults (sev cls : Nat) (p : List Nat) : (s.supLog sev cls p).pourFaults = s.pourFaults := by rw [s.supLog_recorded sev cls p]
@[simp] theorem State.supLog_tlyCount (sev cls : Nat) (p : List Nat) : (s.supLog sev cls p).tlyCount = s.tlyCount := by rw [s.supLog_recorded sev cls p]
@[simp] theorem State.supLog_tlyBuf (sev cls : Nat) (p : List Nat) : (s.supLog sev cls p).tlyBuf = s.tlyBuf := by rw [s.supLog_recorded sev cls p]
@[simp] theorem State.supLog_test (sev cls : Nat) (p : List Nat) : (s.supLog sev cls p).test = s.test := by rw [s.supLog_recorded sev cls p]
@[simp] theorem State.supLog_tap (sev cls : Nat) (p : List Nat) : (s.supLog sev cls p).tap = s.tap := by rw [s.supLog_recorded sev cls p]
@[simp] theorem State.supLog_trst (sev cls : Nat) (p : List Nat) : (s.supLog sev cls p).trst = s.trst := by rw [s.supLog_recorded sev cls p]
@[simp] theorem State.supLog_presented (sev cls : Nat) (p : List Nat) : (s.supLog sev cls p).presented = s.presented := by rw [s.supLog_recorded sev cls p]
@[simp] theorem State.supLog_ports (sev cls : Nat) (p : List Nat) : (s.supLog sev cls p).ports = s.ports := by rw [s.supLog_recorded sev cls p]
@[simp] theorem State.supLog_sram (sev cls : Nat) (p : List Nat) : (s.supLog sev cls p).sram = s.sram := by rw [s.supLog_recorded sev cls p]

/-! ### `State.hwLog` -/

@[simp] theorem State.hwLog_pending (sev cls : Nat) (p : List Nat) : (s.hwLog sev cls p).pending = s.pending := by rw [s.hwLog_recorded sev cls p]
@[simp] theorem State.hwLog_held (sev cls : Nat) (p : List Nat) : (s.hwLog sev cls p).held = s.held := by rw [s.hwLog_recorded sev cls p]
@[simp] theorem State.hwLog_out (sev cls : Nat) (p : List Nat) : (s.hwLog sev cls p).out = s.out := by rw [s.hwLog_recorded sev cls p]
@[simp] theorem State.hwLog_free (sev cls : Nat) (p : List Nat) : (s.hwLog sev cls p).free = s.free := by rw [s.hwLog_recorded sev cls p]
@[simp] theorem State.hwLog_ctl (sev cls : Nat) (p : List Nat) : (s.hwLog sev cls p).ctl = s.ctl := by rw [s.hwLog_recorded sev cls p]
@[simp] theorem State.hwLog_lsa (sev cls : Nat) (p : List Nat) : (s.hwLog sev cls p).lsa = s.lsa := by rw [s.hwLog_recorded sev cls p]
@[simp] theorem State.hwLog_path (sev cls : Nat) (p : List Nat) : (s.hwLog sev cls p).path = s.path := by rw [s.hwLog_recorded sev cls p]
@[simp] theorem State.hwLog_mapping (sev cls : Nat) (p : List Nat) : (s.hwLog sev cls p).mapping = s.mapping := by rw [s.hwLog_recorded sev cls p]
@[simp] theorem State.hwLog_media (sev cls : Nat) (p : List Nat) : (s.hwLog sev cls p).media = s.media := by rw [s.hwLog_recorded sev cls p]
@[simp] theorem State.hwLog_dram (sev cls : Nat) (p : List Nat) : (s.hwLog sev cls p).dram = s.dram := by rw [s.hwLog_recorded sev cls p]
@[simp] theorem State.hwLog_pour (sev cls : Nat) (p : List Nat) : (s.hwLog sev cls p).pour = s.pour := by rw [s.hwLog_recorded sev cls p]
@[simp] theorem State.hwLog_sec (sev cls : Nat) (p : List Nat) : (s.hwLog sev cls p).sec = s.sec := by rw [s.hwLog_recorded sev cls p]
@[simp] theorem State.hwLog_bulk (sev cls : Nat) (p : List Nat) : (s.hwLog sev cls p).bulk = s.bulk := by rw [s.hwLog_recorded sev cls p]
@[simp] theorem State.hwLog_sensors (sev cls : Nat) (p : List Nat) : (s.hwLog sev cls p).sensors = s.sensors := by rw [s.hwLog_recorded sev cls p]
@[simp] theorem State.hwLog_minute (sev cls : Nat) (p : List Nat) : (s.hwLog sev cls p).minute = s.minute := by rw [s.hwLog_recorded sev cls p]
@[simp] theorem State.hwLog_engFaults (sev cls : Nat) (p : List Nat) : (s.hwLog sev cls p).engFaults = s.engFaults := by rw [s.hwLog_recorded sev cls p]
@[simp] theorem State.hwLog_pourFaults (sev cls : Nat) (p : List Nat) : (s.hwLog sev cls p).pourFaults = s.pourFaults := by rw [s.hwLog_recorded sev cls p]
@[simp] theorem State.hwLog_tlyCount (sev cls : Nat) (p : List Nat) : (s.hwLog sev cls p).tlyCount = s.tlyCount := by rw [s.hwLog_recorded sev cls p]
@[simp] theorem State.hwLog_tlyBuf (sev cls : Nat) (p : List Nat) : (s.hwLog sev cls p).tlyBuf = s.tlyBuf := by rw [s.hwLog_recorded sev cls p]
@[simp] theorem State.hwLog_test (sev cls : Nat) (p : List Nat) : (s.hwLog sev cls p).test = s.test := by rw [s.hwLog_recorded sev cls p]
@[simp] theorem State.hwLog_tap (sev cls : Nat) (p : List Nat) : (s.hwLog sev cls p).tap = s.tap := by rw [s.hwLog_recorded sev cls p]
@[simp] theorem State.hwLog_trst (sev cls : Nat) (p : List Nat) : (s.hwLog sev cls p).trst = s.trst := by rw [s.hwLog_recorded sev cls p]
@[simp] theorem State.hwLog_presented (sev cls : Nat) (p : List Nat) : (s.hwLog sev cls p).presented = s.presented := by rw [s.hwLog_recorded sev cls p]
@[simp] theorem State.hwLog_ports (sev cls : Nat) (p : List Nat) : (s.hwLog sev cls p).ports = s.ports := by rw [s.hwLog_recorded sev cls p]
@[simp] theorem State.hwLog_sram (sev cls : Nat) (p : List Nat) : (s.hwLog sev cls p).sram = s.sram := by rw [s.hwLog_recorded sev cls p]

/-! ### `State.raiseLog` -/

@[simp] theorem State.raiseLog_pending (src sev : Nat) (p : List Nat) : (s.raiseLog src sev p).pending = s.pending := by rw [s.raiseLog_recorded src sev p]
@[simp] theorem State.raiseLog_held (src sev : Nat) (p : List Nat) : (s.raiseLog src sev p).held = s.held := by rw [s.raiseLog_recorded src sev p]
@[simp] theorem State.raiseLog_out (src sev : Nat) (p : List Nat) : (s.raiseLog src sev p).out = s.out := by rw [s.raiseLog_recorded src sev p]
@[simp] theorem State.raiseLog_free (src sev : Nat) (p : List Nat) : (s.raiseLog src sev p).free = s.free := by rw [s.raiseLog_recorded src sev p]
@[simp] theorem State.raiseLog_ctl (src sev : Nat) (p : List Nat) : (s.raiseLog src sev p).ctl = s.ctl := by rw [s.raiseLog_recorded src sev p]
@[simp] theorem State.raiseLog_lsa (src sev : Nat) (p : List Nat) : (s.raiseLog src sev p).lsa = s.lsa := by rw [s.raiseLog_recorded src sev p]
@[simp] theorem State.raiseLog_path (src sev : Nat) (p : List Nat) : (s.raiseLog src sev p).path = s.path := by rw [s.raiseLog_recorded src sev p]
@[simp] theorem State.raiseLog_mapping (src sev : Nat) (p : List Nat) : (s.raiseLog src sev p).mapping = s.mapping := by rw [s.raiseLog_recorded src sev p]
@[simp] theorem State.raiseLog_media (src sev : Nat) (p : List Nat) : (s.raiseLog src sev p).media = s.media := by rw [s.raiseLog_recorded src sev p]
@[simp] theorem State.raiseLog_dram (src sev : Nat) (p : List Nat) : (s.raiseLog src sev p).dram = s.dram := by rw [s.raiseLog_recorded src sev p]
@[simp] theorem State.raiseLog_pour (src sev : Nat) (p : List Nat) : (s.raiseLog src sev p).pour = s.pour := by rw [s.raiseLog_recorded src sev p]
@[simp] theorem State.raiseLog_sec (src sev : Nat) (p : List Nat) : (s.raiseLog src sev p).sec = s.sec := by rw [s.raiseLog_recorded src sev p]
@[simp] theorem State.raiseLog_bulk (src sev : Nat) (p : List Nat) : (s.raiseLog src sev p).bulk = s.bulk := by rw [s.raiseLog_recorded src sev p]
@[simp] theorem State.raiseLog_sensors (src sev : Nat) (p : List Nat) : (s.raiseLog src sev p).sensors = s.sensors := by rw [s.raiseLog_recorded src sev p]
@[simp] theorem State.raiseLog_minute (src sev : Nat) (p : List Nat) : (s.raiseLog src sev p).minute = s.minute := by rw [s.raiseLog_recorded src sev p]
@[simp] theorem State.raiseLog_engFaults (src sev : Nat) (p : List Nat) : (s.raiseLog src sev p).engFaults = s.engFaults := by rw [s.raiseLog_recorded src sev p]
@[simp] theorem State.raiseLog_pourFaults (src sev : Nat) (p : List Nat) : (s.raiseLog src sev p).pourFaults = s.pourFaults := by rw [s.raiseLog_recorded src sev p]
@[simp] theorem State.raiseLog_tlyCount (src sev : Nat) (p : List Nat) : (s.raiseLog src sev p).tlyCount = s.tlyCount := by rw [s.raiseLog_recorded src sev p]
@[simp] theorem State.raiseLog_tlyBuf (src sev : Nat) (p : List Nat) : (s.raiseLog src sev p).tlyBuf = s.tlyBuf := by rw [s.raiseLog_recorded src sev p]
@[simp] theorem State.raiseLog_test (src sev : Nat) (p : List Nat) : (s.raiseLog src sev p).test = s.test := by rw [s.raiseLog_recorded src sev p]
@[simp] theorem State.raiseLog_tap (src sev : Nat) (p : List Nat) : (s.raiseLog src sev p).tap = s.tap := by rw [s.raiseLog_recorded src sev p]
@[simp] theorem State.raiseLog_trst (src sev : Nat) (p : List Nat) : (s.raiseLog src sev p).trst = s.trst := by rw [s.raiseLog_recorded src sev p]
@[simp] theorem State.raiseLog_presented (src sev : Nat) (p : List Nat) : (s.raiseLog src sev p).presented = s.presented := by rw [s.raiseLog_recorded src sev p]
@[simp] theorem State.raiseLog_ports (src sev : Nat) (p : List Nat) : (s.raiseLog src sev p).ports = s.ports := by rw [s.raiseLog_recorded src sev p]
@[simp] theorem State.raiseLog_sram (src sev : Nat) (p : List Nat) : (s.raiseLog src sev p).sram = s.sram := by rw [s.raiseLog_recorded src sev p]

end Sys2Proof.Machine
end

