-- ==== Sys2Proof/Laws/Leaves.lean ====
section
/-! SUPPORT. A leaf that comes alone: it is counted at its merge stage, and runs at once (R391 to R393, R402). -/

namespace Sys2Proof.Machine

theorem cqAt_of {i : Instr} {row : LeafRow} {h : LeafHdr} {p : List Byte} (hl : leafOf i = some (row, h, p)) :
    cqAt i = cqInput h.transport := by
  simp [cqAt, hl]

theorem cqInput_lt (t : Fin 8) : ((cqInput t).1 = 0 ∧ (cqInput t).2 < 5) ∨ ((cqInput t).1 = 1 ∧ (cqInput t).2 < 3) := by
  revert t; decide

theorem firstAt_single {n k : Nat} {i : Instr} (hn : (cqAt i).2 < n) : firstAt n k [i] = some i := by
  cases h : firstAt n k [i] with
  | some x =>
    obtain ⟨a, _, ha⟩ := List.exists_of_findSome?_eq_some h
    have := List.mem_of_find?_eq_some ha
    simp_all
  | none =>
    have h' := List.findSome?_eq_none_iff.1 h (((cqAt i).2 + (n - k % n)) % n) (List.mem_range.2 (Nat.mod_lt _ (by omega)))
    have e : (k + ((cqAt i).2 + (n - k % n)) % n) % n = (cqAt i).2 := by
      have hk := Nat.mod_lt k (show n > 0 by omega)
      rw [Nat.add_mod, Nat.mod_mod, ← Nat.add_mod]
      have : k + ((cqAt i).2 + (n - k % n)) = (cqAt i).2 + n * (k / n + 1) := by
        rw [Nat.mul_add]
        have := Nat.div_add_mod k n
        omega
      rw [this, Nat.add_mul_mod_self_left, Nat.mod_eq_of_lt hn]
    simp [e] at h'

theorem firstAt_nil (n k : Nat) : firstAt n k [] = none := by
  simp [firstAt]

/-- An adapter that presents a leaf moves nothing but counters, indications and the free value it may draw. -/
theorem State.adapter_presents (s : State) (row : LeafRow) (h : LeafHdr) (p : List Byte) (hq : (s.adapter row h p).2 = true) :
    (s.adapter row h p).1 =
      { s with regs := (s.adapter row h p).1.regs, heads := (s.adapter row h p).1.heads, pm := (s.adapter row h p).1.pm
               free := (s.adapter row h p).1.free } := by
  have hm : ∀ n, s.mctp n = { s with regs := (s.mctp n).regs, heads := (s.mctp n).heads, pm := (s.mctp n).pm, free := (s.mctp n).free } := by
    intro n
    unfold State.mctp
    dsimp only
    rw [State.tally_counted s]
    rfl
  unfold State.adapter at hq ⊢
  dsimp only at hq ⊢
  split at hq
  · simp_all
  · rename_i h0
    rw [if_neg h0]
    split at hq
    · rename_i h1
      rw [if_pos h1]
      repeat' (split at hq <;> try (exact absurd hq Bool.false_ne_true))
      rename_i h2 h3 h4 h5
      rw [if_neg h2, if_neg h3, if_neg h4, if_neg h5]
      dsimp only
      rw [State.tally_counted s]
    · rename_i h1
      rw [if_neg h1]
      split at hq
      · rename_i h2
        rw [if_pos h2]
        dsimp only
        unfold State.doeObject
        repeat' split
        all_goals rfl
      · rename_i h2
        rw [if_neg h2]
        repeat' (split at hq <;> try (exact absurd hq Bool.false_ne_true))
        rename_i h3 h4
        rw [if_neg h3, if_neg h4]
        dsimp only
        exact hm _

/-- One leaf alone is counted at its die's merge stage, and runs next. -/
theorem serialise_single (s : State) {i : Instr} {row : LeafRow} {h : LeafHdr} {p : List Byte} (hl : leafOf i = some (row, h, p)) :
    s.serialise [i] =
      (if runsOn row.wide h.transport = cqInput h.transport then s.countTaken (cqInput h.transport).1 (cqInput h.transport).2
        else (s.countTaken (cqInput h.transport).1 (cqInput h.transport).2).countTaken 0 4, [i]) := by
  have hc := cqAt_of hl
  have hf : forwarded i = (runsOn row.wide h.transport != cqInput h.transport) := by simp [forwarded, hl]
  rcases cqInput_lt h.transport with ⟨h1, h2⟩ | ⟨h1, h2⟩
  · have hi : firstAt 5 (s.rd Reg.CQ_RR.NEXT 0 0) [i] = some i := firstAt_single (by rw [hc]; exact h2)
    have hw : runsOn row.wide h.transport = cqInput h.transport := by simp [runsOn, h1]
    simp [State.serialise, hc, h1, State.takeAll, hi, hw, firstAt_nil]
  · have hi : firstAt 3 (s.rd Reg.CQ_RR.NEXT 1 0) [i] = some i := firstAt_single (by rw [hc]; exact h2)
    by_cases hw : runsOn row.wide h.transport = cqInput h.transport
    · simp [State.serialise, hc, h1, State.takeAll, hi, hf, hw, firstAt_nil]
    · simp [State.serialise, hc, h1, State.takeAll, hi, hf, hw, firstAt_nil]

/-- A leaf that comes alone and is admitted has its effect in the state in which it has been taken. -/
theorem leafArrives_alone (s : State) {i : Instr} {row : LeafRow} {h : LeafHdr} {p : List Byte} {body : Req → State → State}
    (hs : s.spelled i = i) (hl : leafOf i = some (row, h, p)) (hb : leafBody i = some body) (ha : s.admits i row h p = true) :
    s.leafArrives i = (body (row.req h) (s.takeLeaf row h p)).settleBusy := by
  simp only [State.admits, State.arrives, Bool.and_eq_true, beq_iff_eq, bne_iff_ne, Bool.not_eq_true', List.isEmpty_iff] at ha
  obtain ⟨⟨⟨⟨⟨h1, h2⟩, h3⟩, h4⟩, h5⟩, h6⟩ := ha
  have ea := s.adapter_presents row h p h1
  have e : (s.adapter row h p).1.presented = [] := by rw [ea]; exact h2
  have hc : ∀ (x : State) (d k : Nat), Counted x (x.countTaken d k) := fun x d k => by
    unfold State.countTaken
    exact (((x.tally_counted ..).trans (State.bump_counted ..)).trans (State.bump_counted ..)).trans (State.wr_counted ..)
  have hm : (s.takeLeaf row h p).ctl.mode ≠ .m7 := by
    unfold State.takeLeaf
    dsimp only
    split
    · rw [hc]; dsimp only; rw [ea]; exact h4
    · rw [hc]; dsimp only; rw [hc]; dsimp only; rw [ea]; exact h4
  have hg : leafDie i = (runsOn row.wide h.transport).1 := by simp [leafDie, hl]
  simp only [State.leafArrives, hs, if_true, hl, h1, h3, Bool.false_eq_true, if_false, State.mergeCycle, e, List.nil_append]
  rw [serialise_single _ hl]
  have hq : ({ (s.adapter row h p).1 with presented := [] } : State) = (s.adapter row h p).1 := by rw [← e]
  simp only [List.map_cons, List.map_nil, State.settleBusy]
  have ht : (if runsOn row.wide h.transport = cqInput h.transport then
        ({ (s.adapter row h p).1 with presented := [] } : State).countTaken (cqInput h.transport).1 (cqInput h.transport).2
      else (({ (s.adapter row h p).1 with presented := [] } : State).countTaken (cqInput h.transport).1 (cqInput h.transport).2).countTaken 0 4) =
      s.takeLeaf row h p := rfl
  rw [ht]
  simp only [State.runInOrder, hm, if_false, hg, h5, Bool.not_true, Bool.false_eq_true, State.runTaken, hl, hb, State.runLeaf, h6, if_true,
    LeafRow.req, List.any_nil]
  split <;> rfl
/-- What an admitted leaf of a row does follows from what its body does. -/
theorem LeafRow.acts_of {row : LeafRow} {leaf : LeafHdr → List Byte → Instr} {may : State → Req → List Byte → Prop}
    {effect : State → Req → List Byte → State} (body : LeafHdr → List Byte → Req → State → State)
    (hs : ∀ (s : State) h p, s.spelled (leaf h p) = leaf h p) (hl : ∀ h p, leafOf (leaf h p) = some (row, h, p))
    (hb : ∀ h p, leafBody (leaf h p) = some (body h p)) (he : ∀ (s : State) h p, exec (leaf h p) s = .next (s.leafArrives (leaf h p)))
    (hi : ∀ (u : State) h p, may u (row.req h) p → body h p (row.req h) u = effect u (row.req h) p) : row.acts leaf may effect := by
  intro s h p ha hm
  rw [he, leafArrives_alone s (hs s h p) (hl h p) (hb h p) ha, hi _ h p hm]

end Sys2Proof.Machine
end

