-- ==== Sys2Proof/Laws/Ports.lean ====
section
/-! SUPPORT. What a request to an LPDDR5X port, and what the integrity tree's lines, can change: the controllers, the packages' marks, the
registers that count, and of the mapping the tree cache and its counters. -/

namespace Sys2Proof.Machine

/-- t is s but for its registers, what the heads hold, what the platform manager is to be told, and the DRAM controllers. -/
def Accessed (s t : State) : Prop :=
  t = { s with regs := t.regs, heads := t.heads, pm := t.pm, ports := t.ports, dram := t.dram }

/-- As `Accessed`, with the tree cache and its counters. -/
def Treed (s t : State) : Prop :=
  t = { s with
    regs := t.regs, heads := t.heads, pm := t.pm, ports := t.ports, dram := t.dram
    mapping := { s.mapping with tree := t.mapping.tree, ctrs := t.mapping.ctrs } }

theorem Accessed.refl (s : State) : Accessed s s := rfl

theorem Accessed.trans {s t u : State} (h1 : Accessed s t) (h2 : Accessed t u) : Accessed s u := by
  unfold Accessed at *; rw [h2, h1]

theorem Counted.accessed {s t : State} (h : Counted s t) : Accessed s t := by
  unfold Counted at h; unfold Accessed; rw [h]

theorem Treed.refl (s : State) : Treed s s := rfl

theorem Treed.trans {s t u : State} (h1 : Treed s t) (h2 : Treed t u) : Treed s u := by
  unfold Treed at *; rw [h2, h1]

theorem Accessed.treed {s t : State} (h : Accessed s t) : Treed s t := by
  unfold Accessed at h; unfold Treed; rw [h]

theorem State.onBus_accessed (s : State) (d : Nat) (f : DramBus → DramBus) : Accessed s (s.onBus d f) := rfl

theorem State.onPkg_accessed (s : State) (n : Nat) (f : Package → Package) : Accessed s (s.onPkg n f) := rfl

theorem State.tallyP_accessed (s : State) (n x k : Nat) : Accessed s (s.tallyP n x k) := (s.tally_counted ..).accessed

theorem State.showPanic_accessed (s : State) (d port : Nat) : Accessed s (s.showPanic d port) := by
  unfold State.showPanic
  split
  · exact Accessed.refl s
  · dsimp only
    split
    · exact Accessed.refl s
    · split
      · exact (s.onBus_accessed ..).trans (State.bump_counted ..).accessed
      · exact s.onBus_accessed ..

theorem State.serveReq_accessed (s : State) (d : Nat) (r : DramReq) (turn : Nat × Nat) : Accessed s (s.serveReq d r turn) := by
  unfold State.serveReq
  dsimp only
  refine Accessed.trans ?_ (State.showPanic_accessed ..)
  refine Accessed.trans ?_ (State.peak_counted ..).accessed
  refine (((((Accessed.trans ?_ (State.tallyP_accessed ..)).trans (State.tallyP_accessed ..)).trans (State.tallyP_accessed ..)).trans
    (State.tallyP_accessed ..)).trans (State.tallyP_accessed ..)).trans (State.tallyP_accessed ..)
  split
  · exact (s.onBus_accessed ..).trans (State.onPkg_accessed ..)
  · exact s.onBus_accessed ..

theorem State.serveChannel_accessed (s : State) (d k ch : Nat) : Accessed s (s.serveChannel d k ch) := by
  unfold State.serveChannel
  split
  · unfold State.issueRefresh
    exact (s.onBus_accessed ..).trans (State.tallyP_accessed ..)
  · split
    · exact s.serveReq_accessed ..
    · exact Accessed.refl s

/-- A cycle of a die's controller moves nothing beside the controllers, their counters and what it serves. -/
theorem State.dramCycle_accessed (s : State) (d : Nat) : Accessed s (s.dramCycle d) := by
  unfold State.dramCycle
  refine Accessed.trans ?_ (State.onBus_accessed ..)
  generalize List.range 16 = l
  induction l generalizing s with
  | nil => exact Accessed.refl s
  | cons i t ih => exact (s.serveChannel_accessed ..).trans (ih _)

theorem State.makePort_accessed (s : State) (d port n : Nat) : Accessed s (s.makePort d port n) := by
  induction n generalizing s with
  | zero => exact Accessed.refl s
  | succ n ih =>
    unfold State.makePort
    split
    · exact Accessed.refl s
    · exact (s.dramCycle_accessed d).trans (ih _)

/-- A request to a port moves nothing beside the controllers and their counters. -/
theorem State.access_accessed (s : State) (n port a : Nat) (w : Bool) : Accessed s (s.access n port a w) := by
  unfold State.access
  dsimp only
  split
  · exact Accessed.refl s
  · split
    · exact ((s.makePort_accessed ..).trans (State.onBus_accessed ..)).trans (State.showPanic_accessed ..)
    · exact s.makePort_accessed ..

theorem State.accesses_accessed (s : State) (n port a count : Nat) (w : Bool) : Accessed s (s.accesses n port a count w) := by
  unfold State.accesses
  generalize List.range count = l
  induction l generalizing s with
  | nil => exact Accessed.refl s
  | cons i t ih => exact (s.access_accessed ..).trans (ih _)

theorem State.treeAccess_treed (s : State) (d level i : Nat) (w : Bool) : Treed s (s.treeAccess d level i w) :=
  (s.access_accessed ..).treed

theorem State.raiseCtr_treed (s : State) (d key : Nat) : Treed s (s.raiseCtr d key) := rfl

theorem State.putLine_treed (s : State) (d : Nat) (x : Cache) : Treed s (s.putLine d x) := rfl

/-- A counter line that the tree cache takes moves nothing beside the tree cache, its counters and the controllers. -/
theorem State.treeLine_treed (n : Nat) (s : State) (d level i : Nat) (dirty : Bool) : Treed s (s.treeLine n d level i dirty) := by
  induction n generalizing s level i dirty with
  | zero => exact Treed.refl s
  | succ n ih =>
    unfold State.treeLine
    split
    · exact Treed.refl s
    · dsimp only
      have h1 : Treed s (if (s.mapping.tree.get d).holds 2048 (ctrKey level i) = true then s
          else (s.treeLine n d (level + 1) (i / 8) false).treeAccess d level i false) := by
        split
        · exact Treed.refl s
        · exact (ih ..).trans (State.treeAccess_treed ..)
      split
      · exact h1.trans (State.putLine_treed ..)
      · exact (((h1.trans (State.putLine_treed ..)).trans (State.treeAccess_treed ..)).trans (State.raiseCtr_treed ..)).trans (ih ..)

/-- A line of a protected page that is written moves nothing beside the tree and the controllers. -/
theorem State.pageWritten_treed (s : State) (d page : Nat) (at' : Nat × Nat) : Treed s (s.pageWritten d page at') := by
  unfold State.pageWritten
  exact (((((s.access_accessed ..).treed.trans (State.treeLine_treed ..)).trans (State.raiseCtr_treed ..)).trans
    (State.access_accessed ..).treed)).trans (State.treeAccess_treed ..)

theorem State.segWritten_treed (s : State) (c t : Nat) : Treed s (s.segWritten c t) := s.pageWritten_treed ..

end Sys2Proof.Machine
end

