-- ==== Sys2Proof/Laws/Stores.lean ====
section
/-! SUPPORT. The operations that write a store keep it in its canonical form: the quire store's bytes, the label storage area, the
segments and the ways. The map's entries are written by one put, which keeps their form by Tab.wf_put. -/

namespace Sys2Proof.Machine

/-- Bytes placed in a page of the quire store keep its form. -/
theorem placeBytes_wf {t : Tab (BitVec 8)} (page o : Nat) (b : List (BitVec 8)) (h : Tab.wf 0 t = true) :
    Tab.wf 0 (placeBytes t page o b) = true := by
  induction b generalizing t o with
  | nil => exact h
  | cons x r ih => exact ih _ (Tab.wf_put _ _ h)

/-- Bytes given to consecutive keys keep the form, and stay below a bound that holds them all. -/
theorem putBytes_wf {t : Tab (BitVec 8)} (b : List (BitVec 8)) (o n : Nat) (hb : o + b.length ≤ n) (h : Tab.wf 0 t = true)
    (hn : ∀ p ∈ t, p.1 < n) :
    Tab.wf 0 ((b.zipIdx o).foldl (fun (t : Tab (BitVec 8)) (p : BitVec 8 × Nat) => t.put 0 p.2 p.1) t) = true ∧
      ∀ p ∈ (b.zipIdx o).foldl (fun (t : Tab (BitVec 8)) (p : BitVec 8 × Nat) => t.put 0 p.2 p.1) t, p.1 < n := by
  induction b generalizing t o with
  | nil => exact ⟨h, hn⟩
  | cons x r ih =>
    simp only [List.length_cons] at hb
    refine ih (t := t.put 0 o x) (o + 1) (by omega) (Tab.wf_put _ _ h) fun p hp => ?_
    unfold Tab.put at hp
    split at hp
    · exact hn p (Tab.mem_of_mem_del hp)
    · rcases Tab.mem_ins hp with rfl | hp
      · change o < n; omega
      · exact hn p hp

/-- A change of a segment keeps the segments rising. -/
theorem State.onSeg_rising (s : State) (c t : Nat) (f : Seg → Seg) (h : Tab.rising none s.mapping.segs = true) :
    Tab.rising none (s.onSeg c t f).mapping.segs = true := by
  unfold State.onSeg
  rw [State.segWritten_treed]
  exact Tab.rising_put _ _ h

/-- A way that is filled keeps the ways rising. -/
theorem State.putWay_rising (s : State) (q w : Nat) (x : Way) (h : Tab.rising none s.path.ways = true) :
    Tab.rising none (s.putWay q w x).path.ways = true := by
  rw [Tab.rising_none] at h ⊢
  exact Tab.pairwise_ins _ _ h

/-- A way that is cleared keeps the ways rising. -/
theorem State.clearWay_rising (s : State) (q w : Nat) (h : Tab.rising none s.path.ways = true) :
    Tab.rising none (s.clearWay q w).path.ways = true := by
  rw [Tab.rising_none] at h ⊢
  exact Tab.pairwise_del _ h

/-- A page write keeps the form of the quire store's bytes. -/
theorem State.pageWrite_wf (s : State) (page o : Nat) (b : List (BitVec 8)) (h : Tab.wf 0 s.qst.bytes = true) :
    Tab.wf 0 (s.pageWrite page o b).qst.bytes = true := by
  have hq : (s.pageWrite page o b).qst.bytes = placeBytes s.qst.bytes page o b := by
    unfold State.pageWrite State.pageCommit
    simp only [State.tally_qst]
    split <;> (try simp only [State.raise_qst]) <;> split <;> rfl
  exact hq ▸ placeBytes_wf page o b h

end Sys2Proof.Machine
end

