-- ==== Sys2Proof/Tests/Slice0.lean ====
section
/-! SUPPORT. Tests: the checks of `Instr.wf`, the spec's worked examples and values, and for every statement of Obligations.lean that
has hypotheses a theorem that shows states and operands which meet them, clause by clause. -/

namespace Sys2Proof.Tests

open Sys2Proof.Machine

set_option Elab.async false
set_option maxRecDepth 4000

/-! ## States and operands of the tests -/

/-- Writes to register fields: field, die, index, value. -/
def put (s : State) (l : List (Field × Nat × Nat × Nat)) : State := l.foldl (fun s x => s.wr x.1 x.2.1 x.2.2.1 x.2.2.2) s

/-- A head whose link is up, with decoder 0 over the whole of the device from address 0. -/
def headUp : Head :=
  { Head.reset with clock := true, linkUp := true, decoders := ⟨0, dpaBytes, 1, 256, 0, false, true, false⟩ :: List.replicate 3 Decoder.idle }

/-- A module that serves, with one head. -/
def srv : State :=
  put { State.reset with
    ctl := { Control.reset with mode := .m5, p12 := true, aux := true, retained := true },
    heads := ⟨headUp, headUp⟩, trst := false, pour := { State.reset.pour with volts := List.replicate 8 35000, bus := 35000 },
    sec := { State.reset.sec with sessions := [⟨0, 1⟩, ⟨2, 2⟩], keysLoaded := true } }
    ([(Reg.LNK_STATUS.CXL_MEM, 0, 0, 1), (Reg.LNK_STATUS.WIDTH, 0, 0, 16), (Reg.LNK_STATUS.RATE, 0, 0, 3),
      (Reg.CDY_DIRTY_LIMIT.BLOCKS, 0, 0, 4194304), (Reg.CDY_DIRTY_LIMIT.BLOCKS, 1, 0, 4194304),
      (Reg.CDY_DIRTY_LIMIT.CHAN_BLOCKS, 0, 0, 294912), (Reg.CDY_DIRTY_LIMIT.CHAN_BLOCKS, 1, 0, 294912),
      (Reg.LNK_BAR2_GRANT.READ_EN, 0, 0, 127), (Reg.LNK_BAR2_GRANT.WRITE_EN, 0, 0, 127),
      (Reg.POUR_ENERGY.BUS_MV, 0, 0, 35000)] ++ (List.range 18).map (fun r => (Reg.PWR_RAIL.STATE, 0, r, 2)))

/-- A state in another mode. -/
def inMode (s : State) (m : Mode) : State := { s with ctl := { s.ctl with mode := m } }

/-- A module that serves, with two heads. -/
def duo : State := put srv [(Reg.LNK_HEAD_CFG.DUAL, 0, 0, 1), (Reg.LNK_HEAD_CFG.DUAL, 1, 0, 1), (Reg.LNK_STATUS.CXL_MEM, 1, 0, 1)]

def aSheet : Sheet := ⟨1, 2, 3, 4, 0, 0⟩
/-- An entry of the LOT: a host's read of line 512 of head 0 that waits. -/
def aReader : LotEntry := ⟨0, 512, 0, 5, 0, 4, 0, false, 0, 0, 0⟩
def aPlan : Plan := ⟨3, 32, 0, 1, 2, 0, 7, false, false, true, .host, [], aSheet, [aReader]⟩
def aBlock : Block16 := { Block16.empty with valid := 1, part := 2, lines := [(0, 9)], masks := [(1, 15)] }
def aWay : Way := ⟨0, 64, true, 3, aBlock⟩
def aStaged : Staged := ⟨4, 96, aBlock, true, false, false, []⟩
def aHalf : Half := ⟨32, .copy (mkEntry 1 1 2 0), aSheet, aSheet, aSheet, aSheet⟩
def aStripe : Stripe := ⟨1, 0, 1, 2, 7, false, none, List.replicate 9 1, some aHalf, none⟩
def aRound : Round := ⟨1, 1, [], [], ⟨0, 0⟩, [], [], [], ⟨[], []⟩, false⟩
def aSteep : Steep := ⟨0, 1, none, [(0, 1), (1, 1)], false⟩
def aScan : Scan := ⟨0, 0, 4, 0, true, []⟩
def aRun : TestRun := ⟨7, 1, 1, 2, [0], []⟩
def aWalk : Walk := ⟨.unmap, 0, 9, 3, [], []⟩
def aSweep : Walk := ⟨.sweep 3 0 131, 0, 9, 3, [], []⟩
def aPoisonWalk : Walk := ⟨.poison none, 0, 9, 3, [], []⟩
def aWrite : QstWrite := ⟨257, 4, [1, 2], 6, 5, false⟩
def aReply : LeafReply := ⟨6, 0x100, 0x80, 5, 0, [], 0⟩
def aJRec : JRec := ⟨0, 1, 255, .retired 3⟩

/-- A module that serves with something in every queue: quire 32 on media, quire 64 in the Caddy, quire 96 in staging. -/
def full : State :=
  put { srv with
    path := { Path.reset with
      plans := [aPlan], nextPlan := 4, staged := [aStaged], nextStaged := 5, partials := [(64, 1)],
      ways := [(wayKey (ownerOf 64) (srv.setOf 64) 0, aWay)] },
    mapping := { Mapping.reset with
      map := [(32, mkEntry 1 1 2 0), (33, mkEntry 3 0 0 0)], mapChanged := true,
      segs := [(segKey 1 1, { Seg.shipped with state := .closed, filled := 3, live := 1 }),
        (segKey 1 2, { Seg.shipped with state := .opened, filled := 3 })],
      openPage := ⟨[aJRec], []⟩, issued := [[aJRec]], walks := [aWalk], scan := some aScan },
    media := { Media.reset with
      images := [(stripeKey 1 1 2, aStripe)], inProgram := [{ aStripe with index := 3 }],
      waiting := [(3, aHalf)], steeps := [aSteep], suspended := [0, 1024] },
    qst := { State.reset.qst with queue := [aWrite] },
    pm := { unread := [aReply], notice := some 3, pending := 4, mask := BitVec.allOnes 640, address := none } } []

/-- A start that meets nothing wrong. -/
def startEnv : StartEnv :=
  { strapMv := [], dualLow := false, railsBad := [], imageOk := true, diesBad := [], diesPass := [], medians := [], packagesBad := [],
    trainingSaved := false, slices := [], unusable := [], roundBad := false, tamper := none, listsBad := [], enginesBad := [],
    tamperRoot := false, rootsTorn := [], centering := [], ms := 1000 }

/-- A descriptor of one quire: A at 0, B at 1,024, byte 32 where the operation uses it. -/
def bulkPayload (op : Nat) : List Byte :=
  leBytes 8 op ++ leBytes 8 0 ++ leBytes 8 1024 ++ leBytes 8 (if op = 5 then 0 else 1024) ++
    leBytes 32 (if op = 3 then 8 else if op = 5 then 1 else 0) ++ leBytes 64 (if op = 1 then 5 else 0)

/-- The header of a leaf without a CRC through head 0's primary mailbox, and in a DOE session of it. -/
def inBand (p : List Byte) : LeafHdr := ⟨0, 2, 5, p.length, 0, false⟩
def secured (p : List Byte) : LeafHdr := ⟨4, 2, 5, p.length, 0, false⟩

/-- The header of a leaf with its CRC from the platform manager. -/
def byPm (row : LeafRow) (p : List Byte) : LeafHdr :=
  ⟨6, 0, 5, p.length, BitVec.ofNat 32 (crc32c (leafHeader row.opcode 0 0 5 0 p.length ++ p)), false⟩

/-- `full` with another walk in place of the unmapping walk. -/
def walking (w : Walk) : State := { full with mapping := { full.mapping with walks := [w] } }

/-- A module that serves, with a self-test run that has started its first slices, in a mode. -/
def testing (m : Mode) : State := put { inMode srv m with test := [aRun] } [(Reg.BST_RUN.SLICE, 0, 0, 0)]

/-- A bulk operation in slot 0 that another head could not have sent. -/
def anOp (op : Nat) (state : BulkState) : BulkOp := { BulkOp.free with handle := 1, op, state, total := 2, a := 0, b := 64, pattern := 5, order := 1 }

/-- A module that serves, with a bulk operation in slot 0. -/
def bulking (op : Nat) (state : BulkState) : State := { full with bulk := anOp op state :: List.replicate 15 BulkOp.free, mapping := { full.mapping with walks := [] } }

/-- A module whose sampler of die 0 counts event 5 with a period of 2. -/
def sampling (mode : Nat) : State :=
  put srv [(Reg.TLY_SAMPLE_CFG.MODE, 0, 0, mode), (Reg.TLY_SAMPLE_CFG.EVENT, 0, 0, 5), (Reg.TLY_SAMPLE_PERIOD.EVENTS, 0, 0, 2)]

/-- A module whose key slots 1 and 4095 are active, the first with a range of one unit. -/
def keyed : State :=
  put srv [(Reg.SEC_SLOT.STATE, 0, 1, 1), (Reg.SEC_SLOT.STATE, 0, 4095, 1), (Reg.SEC_RANGE.SIZE, 0, 0, 1), (Reg.SEC_RANGE.SLOT, 0, 0, 1),
    (Reg.SEC_RANGE.ENABLE, 0, 0, 1)]

/-- A module in a mode, with the other firmware slot valid. -/
def twoImages (m : Mode) : State := { inMode srv m with sec := { srv.sec with slotB := ⟨true, 2, 3⟩ } }

/-- A module in M2 that waits for a start. -/
def starting (due : Nat) : State := { srv with ctl := { srv.ctl with mode := .m2, due } }

/-- A module that serves without P12V, in M1. -/
def noP12 : State := { srv with ctl := { srv.ctl with p12 := false, mode := .m1 } }

/-- A module in a Pour whose record stands. -/
def pouring : State :=
  { inMode srv .m8 with pour := { srv.pour with running := true, record := some ⟨1, 1, 5, 0, 0, 0, 0, 0, 0, 9, ⟨0, 0⟩⟩ } }

/-- A module in Doze step 2 whose map has changed. -/
def dozing : State :=
  put { inMode srv .m6 with mapping := { srv.mapping with mapChanged := true } } [(Reg.MOD_STATUS.DOZE, 0, 0, 2)]

/-- A module in a Quiesce for its removal. -/
def quiescing : State := { inMode srv .m7 with ctl := { (inMode srv .m7).ctl with quiesce := some .removal } }

/-- `full` with its closed segment due for refresh. -/
def dueFull : State :=
  { full with mapping := { full.mapping with
      segs := [(segKey 1 1, { Seg.shipped with state := .closed, filled := 3, live := 1, due := true })] } }

/-- `full` with two programmed stripes and a channel that verifies a rebuild. -/
def verifying : State :=
  put { full with media := { full.media with
      images := [(stripeKey 1 1 1, { aStripe with index := 1 }), (stripeKey 1 1 2, aStripe)],
      repair := [(1, ⟨[(3, [])], [1], [], []⟩)] } } [(Reg.SPR_CHAN.STATE, 0, 1, 3)]

/-- A module that serves, its inlet sensor as given. -/
def inlet (x : Sensor) : State := { srv with sensors := [(sensorKey .inlet, x)] }

/-- A module that serves, every rail having read low and high this many samples in a row. -/
def rails (lo hi : Nat) : State := { srv with ctl := { srv.ctl with railRuns := List.replicate 18 (lo, hi) } }

/-- A module that serves, with a challenge given out and serial number 7. -/
def challenged (x : Nat) : State :=
  put { srv with sec := { srv.sec with challenge := some x } } [(Reg.LNK_SERIAL.SERIAL, 0, 0, 7)]

/-- `challenged` in a Pour. -/
def challengedPour : State :=
  put { challenged 0x11 with ctl := { srv.ctl with mode := .m8 }, pour := { srv.pour with running := true } } []

/-- A module that serves, with one message and one group count pending. -/
def messaging : State :=
  { srv with heads := ⟨{ headUp with msixPending := 1, aggCount := List.replicate 24 1 }, headUp⟩ }

/-- `full` with its planned read taken for the background. -/
def background : State := { full with path := { full.path with plans := [{ aPlan with purpose := .background }] } }

/-- `full` with enough staged blocks to use over half of die 0's partial-line table. -/
def stagedPart : State :=
  { full with path := { full.path with
      staged := List.replicate 1030 { aStaged with blk := { aBlock with part := BitVec.allOnes 16 } } } }

/-- The operating time's ticks from `srv`: the state after n of them. -/
def ticking : Nat → State
  | 0 => srv
  | n + 1 => match exec .optimeTick (ticking n) with | .next t => t | _ => srv

/-- A copy in bulk from quire 0 onto quire 64, of which a part lies on media. -/
def copying : State :=
  { bulking 2 .running with mapping := { (bulking 2 .running).mapping with map := [(64, mkEntry 1 1 2 0)] } }

/-- A self-test run in M3 on slice 16. -/
def testing16 : State := put { inMode srv .m3 with test := [{ aRun with left := [16] }] } [(Reg.BST_RUN.SLICE, 0, 0, 16)]

/-- A module whose vendor zone reads under password 5 after seven wrong ones. -/
def sevenWrong : State :=
  put { full with qst := { full.qst with readPw := [some 0, some 5] } } [(Reg.QST_PW.FAILS, 0, 1, 7)]

/-- Every Strainer channel busy. -/
def strBusy : State := put srv ((List.range 16).map (fun n => (Reg.STR_CFG.BUSY, 0, n, 1)))

/-- Two heads' requests for one line in one cycle. -/
def tyingRead : Instr := .memrd 0 5 4096 { PathEnv.good with tie := true }
def tyingWrite : Instr := .memwr 1 6 4096 77 false { PathEnv.good with tie := true }

/-- `duo` with the write of head 1 next in the queue, and with the read of head 0 that waits for it or has run. -/
def tying : State := { duo with pending := [tyingWrite] }
def tied (ran : Bool) : State := { duo with path := { duo.path with tied := some (tyingRead, ran) } }

/-- A module that serves, with a checkpoint round in progress. -/
def inRound : State := { srv with mapping := { srv.mapping with ckpt := some aRound } }

/-- `full` with a scan that has yet to reach quire 32. -/
def scanned : State :=
  { full with
    mapping := { full.mapping with scan := some { aScan with hi := 40 } }
    media := { full.media with images := [(stripeKey (chanOf 32) 1 2, aStripe)] } }

/-- A module whose engine 0 resets and whose engine 1 is out. -/
def enginesOut : State := put srv [(Reg.ENG_STATE.STATE, 0, 0, 1), (Reg.ENG_STATE.STATE, 1, 0, 3)]

/-- A module in M0 after a trip, with P12V. -/
def tripped : State := put pouring [(Reg.THM_STATUS.TRIP, 0, 0, 1)]

/-- A module that waits out the hold after its Pour. -/
def holding : State := { inMode srv .m8 with pour := { srv.pour with hold := true } }

/-- A module that goes down after a GPF. -/
def gpfPouring : State := put (inMode srv .m8) [(Reg.POUR_STATUS.CAUSE, 0, 0, 3)]

/-- A module with sub-bank 0 measured. -/
def measuring : State := put srv [(Reg.POUR_SUBBANK.MEASURING, 0, 0, 1)]

/-- A module with one channel lost. -/
def lostChannel : State := put srv [(Reg.SPR_CHAN.STATE, 0, 0, 4)]

/-- A head whose link waits to train. -/
def untrained : State := { srv with heads := ⟨{ headUp with linkUp := false }, headUp⟩ }

/-- A module whose head 0 has IDE streams. -/
def secureLink : State := put srv [(Reg.LNK_STATUS.IDE_MEM, 0, 0, 1), (Reg.LNK_STATUS.IDE_IO, 0, 0, 1)]

/-- A module that may descend into Doze. -/
def idling : State := put srv [(Reg.MOD_LATENCY.US, 0, 0, 5000)]

/-- A module without random numbers. -/
def noDrbg : State := put srv [(Reg.SEC_STATUS.DRBG_FAIL, 0, 0, 1)]

/-- A module whose DOE mailboxes of head 0 are in error. -/
def doeStuck : State := { srv with heads := ⟨{ headUp with doeError := ⟨true, true⟩ }, headUp⟩ }

/-- A module whose scan has ended. -/
def scanEnded : State := { srv with mapping := { srv.mapping with scan := some { aScan with running := false } } }

/-- A module whose die 0 drops the samples of its queues. -/
def dropping : State := put srv [(Reg.CQ_CMD.DROPPING, 0, 0, 1)]

/-- A module with requests of two ports queued at one channel of package 0. -/
def queued : State :=
  { srv with ports := ⟨{ srv.ports.zero with queue := [⟨2, 0, 0, false, 0⟩, ⟨0, 0, 64, true, 0⟩] }, srv.ports.one⟩ }

/-- `queued`, in a Pour. -/
def queuedPour : State :=
  put { srv with ports := ⟨{ srv.ports.zero with queue := [⟨7, 0, 0, false, 0⟩, ⟨0, 0, 64, true, 0⟩] }, srv.ports.one⟩ }
    [(Reg.DMC_MODE.POUR_EXCL, 0, 0, 1)]

/-- A module whose package 0 is at the last group of its patrol. -/
def lastGroup : State := { srv with dram := { srv.pkg 0 with patrol := patrolGroups - 1 } :: srv.dram.drop 1 }

/-- A module whose package 0 has no remap entry left. -/
def remapFull : State := put srv ((List.range 64).map (fun e => (Reg.DMC_REMAP.VALID, 0, e, 1)))

/-- `queued` long ago. -/
def queuedUrgent : State := { queued with ports := ⟨{ queued.ports.zero with cycle := 1000000 }, queued.ports.one⟩ }

/-- A short leaf from the platform manager comes in one MCTP packet, whatever size its packets have. -/
theorem adapter_pm (s : State) (row : LeafRow) (h : LeafHdr) (p : List Byte) (hm : s.ctl.mode ≠ .m0) (ht : h.transport.val = 6)
    (ha : (19 + p.length + 251) / 252 = 1) (hb : (19 + p.length + 63) / 64 = 1)
    (hf : s.mctpFull = false) : s.adapter row h p = ((s.tally 0 368 1).draw, true) := by
  have hp : s.mctp (19 + p.length) = (s.tally 0 368 1).draw := by simp [State.mctp, ha, hb, Nat.mod_one]
  simp [State.adapter, hm, ht, hp, hf]

/-! ## Well-formedness: an ill-formed term for each check is refused -/

/-- R407: the opcodes of the table are no unknown opcodes. -/
theorem test_wf_unknown_opcode :
    (Instr.leafUnknownOpcode 0x0A02 (inBand []) []).wf = false ∧ (Instr.leafUnknownOpcode 0x0A03 (inBand []) []).wf = true := by decide

/-- R407: the direction byte of POWER_REQUEST is the row's. -/
theorem test_wf_power_request :
    (Instr.powerRequestOff (inBand [1, 0, 0, 0]) [1, 0, 0, 0]).wf = false ∧
    (Instr.powerRequestOn (inBand [0, 0, 0, 0]) [0, 0, 0, 0]).wf = false := by decide

/-- R362: the operation code of a descriptor is the row's. -/
theorem test_wf_bulk :
    (Instr.zero (inBand (bulkPayload 1)) (bulkPayload 1)).wf = false ∧ (Instr.fill (inBand (bulkPayload 2)) (bulkPayload 2)).wf = false ∧
    (Instr.copy (inBand (bulkPayload 3)) (bulkPayload 3)).wf = false ∧ (Instr.check (inBand (bulkPayload 4)) (bulkPayload 4)).wf = false ∧
    (Instr.compare (inBand (bulkPayload 5)) (bulkPayload 5)).wf = false ∧
    (Instr.eraseKey (inBand (bulkPayload 0)) (bulkPayload 0)).wf = false := by decide

/-- R497: the operation byte of REAM_READ is the row's. -/
theorem test_wf_ream_read :
    (Instr.reamRead (inBand (leBytes 8 1)) (leBytes 8 1)).wf = false ∧
    (Instr.reamRewindToMark (inBand (leBytes 8 2)) (leBytes 8 2)).wf = false ∧
    (Instr.reamSetMark (inBand (leBytes 8 0)) (leBytes 8 0)).wf = false := by decide

/-- R475: a counter index lies in its bank. -/
theorem test_wf_counters :
    (Instr.tlyLiveRead ⟨0, true⟩ 0 0 384 false).wf = false ∧ (Instr.tlyCounterWrite ⟨0, true⟩ 0 1 96 false 9 0).wf = false ∧
    (Instr.tlyCounterWrap 0 2 32 1).wf = false ∧ (Instr.tlyCounterWrap 0 2 31 1).wf = true := by decide

/-- R525: a named instruction code of the test port is no BYPASS. -/
theorem test_wf_bypass : (Instr.bypass 0 0x10).wf = false ∧ (Instr.bypass 0 0xFF).wf = true := by decide

/-- An ill-formed leaf stops nothing: it is answered as what its bytes spell. -/
theorem test_ill_formed_answers : ∃ t, exec (.zero (inBand (bulkPayload 1)) (bulkPayload 1)) srv = .next t := ⟨_, rfl⟩

/-! ## Addresses (the worked examples of the spec) -/

/-- The example after R34: DPA 0x1234566C0 lies in quire 4,772,185, on channel 18, at index 149,130. -/
theorem test_quire_address :
    0x1234566C0 / 1024 = 4772185 ∧ chanOf 4772185 = 18 ∧ indexOf 4772185 = 149130 ∧ stackOf 18 = 9 ∧ dieOf 18 = 1 ∧
    quireAt 18 149130 = 4772185 := by decide +kernel

/-- The example after R264: index 1,000,000 of channel 5 is quire 32,000,025. -/
theorem test_quire_of_index : quireAt 5 1000000 = 0x1E84819 := by decide +kernel

/-- The example after R203: that quire's set and tag with 10,485,760 sets. -/
theorem test_caddy_set : caddyU 4772185 = 805455498 ∧ srv.setOf 4772185 = 8537738 := by decide +kernel

/-- The example after R27: stripe 4,095 has its parity on member 0, and member 5 holds sheet 0 of HALF 1. -/
theorem test_stripe_members : 4095 % 9 = 0 ∧ memberOfSheet 4095 1 0 = 5 := by decide

/-- The example after R264: slots 0 to 7 of stripe 3,001. -/
theorem test_data_slots : (List.range 8).map (memberOfSlot 3001) = [0, 1, 2, 3, 5, 6, 7, 8] := by decide

/-- The example after R143: 4,590 minutes is bucket A2, 71 °C is band B3, and D(A2, B3) is +2. -/
theorem test_read_references : ageBucket 4590 = 2 ∧ bandOf 71 = 3 ∧ drift 2 3 = 2 ∧ sizingLimit 3 = 10080 := by decide +kernel

/-- The example after R145: a SWEEP of +11 at 28 °C names bucket A4 and 43,200 minutes. -/
theorem test_probe_bucket : probeBucket 11 (bandOf 28) = 4 ∧ bucketEdge 4 = 43200 := by decide +kernel

/-- The example of R225: line 11 of that block lies on package 2 at physical address 54,691,980,032, in unit 4, on channel 4, bank 5,
rank 1 and row 104,316. -/
theorem test_dram_address :
    DramArea.caddy.base true + 34970580672 = 47855482560 ∧ physOf 47855482560 = 54691980032 ∧ unitOf 54691980032 = 4 ∧
    dramChannel 54691980032 = 4 ∧ dramBank 54691980032 = 5 ∧ dramRank 54691980032 = 1 ∧ dramRow 54691980032 = 104316 := by decide +kernel

/-- The example after R335: the words that the tag of a frame covers, and its initialisation vector. -/
theorem test_frame_tag_block :
    tagBlock (reverseMap 4772185 2 true ++ seqAndMasks 0x29C4E71B05 0 0) ⟨18, 21307, 2000, 7, 1902441⟩ =
      [0x59, 0xD1, 0x48, 0, 0x18, 0, 0, 0, 0x05, 0x1B, 0xE7, 0xC4, 0x29, 0, 0, 0, 0x69, 0x07, 0x1D, 0, 0, 0, 0, 0,
       0xD0, 0xB7, 0x33, 0x05, 0x12, 0x07, 0, 0] ∧
    tagIv 0x29C4E71B05 18 6 = [0x05, 0x1B, 0xE7, 0xC4, 0x29, 0, 0, 0xD2, 0, 0, 0, 0] := by decide +kernel

/-! ## Registers and the window -/

/-- The example of chapter 4: position 7 of channel 21 reads its temperature at 0x00C61390. -/
theorem test_window_med :
    placeOf 0xC61390 = .word .MED 1 0x1390 false ∧ (Reg.MED_DIE.TEMP, 57) ∈ fieldsAt .MED (0x1390 / 8) := by decide +kernel

/-- The examples of chapters 10, 12, 16 and 17: a histogram bin, a key range, a stack limit and an engine's state. -/
theorem test_window_words :
    (Reg.SPR_HIST.MIN, 139) ∈ fieldsAt .SPR (0x428 / 8) ∧ placeOf 0x88042C = .word .SPR 0 0x42C false ∧
    (Reg.SEC_RANGE.SLOT, 69) ∈ fieldsAt .SEC (0x328 / 8) ∧ placeOf 0x890328 = .word .SEC 0 0x328 false ∧
    (Reg.THM_STACK.LIMIT, 1) ∈ fieldsAt .THM (0x108 / 8) ∧ placeOf 0xCF0108 = .word .THM 1 0x108 false ∧
    (Reg.ENG_STATE.STATE, 23) ∈ fieldsAt .ENG (0x3E0 / 8) ∧ placeOf 0xD003E0 = .word .ENG 1 0x3E0 false := by decide +kernel

/-- The example of chapter 18: counter 25 of die 1 reads through the Tally region and through the die's window alike. -/
theorem test_window_tally :
    placeOf 0x1810C8 = .word .TLY 1 0x10C8 false ∧ placeOf 0xD110C8 = .word .TLY 1 0x10C8 false ∧ liveCounter (0x10C8 / 8) = some (0, 25) := by
  decide +kernel

/-- The example after R109: the write of GROUP 2 for source 389 at 0x811614. -/
theorem test_register_write :
    (match exec (.registerWrite 0 0x811614 4 ⟨2, 0⟩) srv with
      | .next t => t.rd Reg.LNK_SRC_ROUTE.GROUP 0 389
      | _ => 99) = 2 := by decide +kernel

/-- R115: a write without its grant bit changes no field and counts a violation. -/
theorem test_register_write_refused :
    (match exec (.registerWrite 0 0x811614 4 ⟨2, 0⟩) (put srv [(Reg.LNK_BAR2_GRANT.WRITE_EN, 0, 0, 0)]) with
      | .next t => (t.rd Reg.LNK_SRC_ROUTE.GROUP 0 389, t.rd Reg.LNK_BAR2_VIOL.COUNT 0 0)
      | _ => (99, 99)) = (srv.rd Reg.LNK_SRC_ROUTE.GROUP 0 389, 1) := by decide +kernel

/-! ## The host's reads and writes -/

/-- R190: a read of an unmapped quire answers zeros. -/
theorem test_memrd_unmapped :
    (match exec (.memrd 0 5 0x1234566C0 PathEnv.good) srv with | .next t => t.out | _ => []) = [.memData 0 5 (some 0)] := by decide +kernel

/-- R45: a write, then a read of its line. -/
theorem test_memwr_reads_back :
    (match exec (.memwr 0 4 0x1234566C0 77 false PathEnv.good) srv with
      | .next t => (match exec (.memrd 0 5 0x1234566C0 PathEnv.good) t with | .next u => u.out | _ => [])
      | _ => []) = [.memData 0 5 (some 77), .memDone 0 4] := by decide +kernel

/-- R207: bytes 0 and 1 of a line of an unmapped quire; its other bytes are zeros. -/
theorem test_memwrptl_zero_fills :
    (match exec (.memwrptl 0 4 0x40000 (BitVec.allOnes 512) 3 false PathEnv.good) srv with
      | .next t => (match exec (.memrd 0 5 0x40000 PathEnv.good) t with | .next u => u.out.head? | _ => none)
      | _ => none) = some (.memData 0 5 (some 0xFFFF)) := by decide +kernel

/-- R92: an address that no decoder claims is answered with no data and writes nothing. -/
theorem test_memwr_outside :
    (match exec (.memwr 0 4 dpaBytes 77 false PathEnv.good) srv with | .next t => t.path.ways | _ => [(0, aWay)]) = srv.path.ways := by
  decide +kernel

/-! ## Hold-up energy, straps and pins -/

/-- R309: a drop of 1,140 mV measures 3,473 µF; the record is capped at 3,500 µF. -/
theorem test_capacitance : capOf 1140 = 3473 ∧ capOf 1000 = 3500 := by decide

/-- The example after R312 and the table of R310: one sub-bank of 3.5 mF at 35 V holds 1,891 mJ whole, and eight select 8 GiB. -/
theorem test_energy :
    subBankEnergy 3500 35000 / 2000000000 = 1891 ∧ budgetOf 13000 = 8 ∧ budgetOf 12999 = 6 ∧ budgetOf 7499 = 2 ∧ budgetOf 4999 = 0 := by
  decide +kernel

/-- The table of R314: at 8 GiB a channel's list holds at most 294,912 entries. -/
theorem test_channel_limit : chanLimit 8 = 294912 := by decide

/-- The example of chapter 21: 0.498 V decodes as code 2. -/
theorem test_strap : strapCode 498 = some 2 := by decide +kernel

/-- R324, R313: a Pour after the loss of 12 V shows cause 1 and mode 8. -/
theorem test_p12v_loss :
    (match exec (.p12vLoss ⟨[], false⟩) srv with
      | .next t => (t.ctl.mode, t.rd Reg.POUR_STATUS.CAUSE 0 0)
      | _ => (.m0, 99)) = (.m8, 1) := by decide +kernel

/-- R528: a touch shorter than 100 ms does nothing. -/
theorem test_pad_touch :
    (match exec (.padTouchEnd 99) srv with | .next t => t.rd Reg.PIN_REMOVAL.STATE 0 0 | _ => 99) = srv.rd Reg.PIN_REMOVAL.STATE 0 0 := by
  decide +kernel

/-! ## Check values -/

/-- The bytes of "123456789". -/
def digits : List (BitVec 8) := [0x31, 0x32, 0x33, 0x34, 0x35, 0x36, 0x37, 0x38, 0x39]

/-- CRC-32C's check value: channel 0 of the Strainers and the CRC of a leaf are the same polynomial (R378, R386). -/
theorem test_crc32c :
    crc32c digits = 0xE3069283 ∧
    (srv.strCfg 0 0).final (digits.foldl (srv.strCfg 0 0).feed (srv.strCfg 0 0).init) = 0xE3069283 := by decide +kernel

/-- The example of chapter 13: the reflected ECMA-182 form over "123456789". -/
theorem test_ecma182 :
    let c : StrCfg := ⟨64, 0x42F0E1EBA9EA3693, 0xFFFFFFFFFFFFFFFF, true, true, true, true⟩
    c.final (digits.foldl c.feed c.init) = 0x995DC9BBDF1939FA := by decide +kernel

/-- AES-256: the example vector of FIPS 197, appendix C.3. -/
theorem test_aes256 :
    aes256 ((List.range 32).map (BitVec.ofNat 8)) ((List.range 16).map (fun k => BitVec.ofNat 8 (17 * k))) =
      [0x8E, 0xA2, 0xB7, 0xCA, 0x51, 0x67, 0x45, 0xBF, 0xEA, 0xFC, 0x49, 0x90, 0x4B, 0x49, 0x60, 0x89] := by decide +kernel

/-- SHAKE256 of the empty message (FIPS 202). -/
theorem test_shake256 : shake256 [] 8 = [0x46, 0xB9, 0xDD, 0x2B, 0x0B, 0xA8, 0x8D, 0x13] := by decide +kernel

/-- R256: the check value of the CRC-16 with polynomial 0x8BB7. -/
theorem test_crc16 : crc16 digits = 0xD0DB := by decide +kernel

/-! ## Leaves -/

/-- The example of chapter 14: SET_WINDOW_GRANT of 0x22 and 0x20 with TAG 0x17 answers OK. -/
theorem test_set_window_grant :
    (match exec (.setWindowGrant ⟨0, 2, 0x17, 8, 0, false⟩ [0x22, 0x20, 0, 0, 0, 0, 0, 0]) srv with
      | .next t => (t.rd Reg.LNK_BAR2_GRANT.READ_EN 0 0, t.rd Reg.LNK_BAR2_GRANT.WRITE_EN 0 0,
          t.out.map (fun o => match o with | .leaf r => (r.tag, r.status) | _ => (0, 99)))
      | _ => (99, 99, [])) = (0x22, 0x20, [(0x17, 0)]) := by decide +kernel

/-- The same leaf from head 1 answers OWNED (0x14) and leaves the grant. -/
theorem test_set_window_grant_owned :
    (match exec (.setWindowGrant ⟨2, 2, 0x17, 8, 0, false⟩ [0x22, 0x20, 0, 0, 0, 0, 0, 0]) duo with
      | .next t => (t.rd Reg.LNK_BAR2_GRANT.READ_EN 0 0, t.out.map (fun o => match o with | .leaf r => r.status | _ => 99))
      | _ => (99, [])) = (127, [0x14]) := by decide +kernel

/-- R407: another opcode answers UNKNOWN. -/
theorem test_unknown_opcode :
    (match exec (.leafUnknownOpcode 0x0A03 (inBand []) []) srv with
      | .next t => t.out.map (fun o => match o with | .leaf r => r.status | _ => 99)
      | _ => []) = [stUnknown] := by decide +kernel

/-- The example of chapter 19: ten bytes at offset 250 of operator page 12 wrap within page 268. -/
theorem test_qst_write :
    (match exec (.qstWrite (inBand ([1, 0, 12, 0, 250, 10, 0, 0] ++ leBytes 8 0 ++ leBytes 10 1))
        ([1, 0, 12, 0, 250, 10, 0, 0] ++ leBytes 8 0 ++ leBytes 10 1)) srv with
      | .next t => t.qst.queue.map (fun w => (w.page, w.offset, w.data.length))
      | _ => []) = [(268, 250, 10)] := by decide +kernel

/-! ## The queue -/

/-- Commands leave the queue first in, first out. -/
theorem test_queue :
    (match step { srv with pending := [.holdEnd, .optimeTick, .perst1Assert] } with | .next t => t.pending | _ => []) =
      [.optimeTick, .perst1Assert] := by decide +kernel

/-- A command placed in front runs next: the table gives no row bits, so no word spells a command. -/
theorem test_no_words : decodeTableWord 64 0 = none ∧ State.reset.withFetchWord 64 0 = State.reset := by decide +kernel

/-- The state after reset lists nothing in any table (the invariant of every step). -/
theorem test_reset_canonical : State.reset.canonical = true := by decide +kernel

/-! ## The hypotheses of the statements are met -/

/-- States and operands that meet the hypotheses of `StepRunsFrontCommand`, clause by clause. -/
theorem witness_StepRunsFrontCommand :
    (∃ (s : State) (c : Instr) (rest : List Instr), s.pending = c :: rest) ∧
    (∃ (s : State), s.pending = []) :=
  ⟨⟨{ srv with pending := [.holdEnd, .ckptEnd] }, .holdEnd, [.ckptEnd], by decide +kernel⟩,
    ⟨full, by decide +kernel⟩⟩

/-- A state and operands that meet the hypotheses of `StepKeepsCanonicalForm`. -/
theorem witness_StepKeepsCanonicalForm :
    ∃ (s t : State), s.canonical = true ∧ step s = .next t :=
  ⟨full, _, by decide +kernel, rfl⟩

/-- States and operands that meet the hypotheses of `ResetState`, clause by clause. -/
theorem witness_ResetState :
    (∃ (k : Nat), 1 ≤ k) ∧
    (∃ (page : Nat), 256 ≤ page) :=
  ⟨⟨1, by decide +kernel⟩,
    ⟨256, by decide +kernel⟩⟩

/-- A state and operands that meet the hypotheses of `CommandsAnswerAndKeepTheQueue`. -/
theorem witness_CommandsAnswerAndKeepTheQueue :
    ∃ (i : Instr) (s t : State), exec i s = .next t :=
  ⟨.holdEnd, srv, _, rfl⟩

/-- States and operands that meet the hypotheses of `ChannelAndIndexNameQuire`, clause by clause. -/
theorem witness_ChannelAndIndexNameQuire :
    (∃ (q : Nat), q < 2 ^ 34) ∧
    (∃ (q : Nat), q < 12884901888) ∧
    (∃ (c i : Nat), c < 32 ∧ i < 402653184) :=
  ⟨⟨0, by decide +kernel⟩,
    ⟨0, by decide +kernel⟩,
    ⟨0, 0, by decide +kernel⟩⟩

/-- States and operands that meet the hypotheses of `DramAddressesAreOneToOne`, clause by clause. -/
theorem witness_DramAddressesAreOneToOne :
    (∃ (p a : Nat), logicalOf p = some a) ∧
    (∃ (p q : Nat), p < 68719476736 ∧ q < 68719476736 ∧ p % 2048 = q % 2048 ∧ rowOfPhys p = rowOfPhys q) :=
  ⟨⟨0, 0, by decide +kernel⟩,
    ⟨0, 0, by decide +kernel⟩⟩

/-- A state and operands that meet the hypotheses of `HostReadIsAnswered`. -/
theorem witness_HostReadIsAnswered :
    ∃ (s : State) (head : Fin 2) (hpa : Nat) (env : PathEnv), s.path.tied = none ∧ env.tie = false ∧ (s.grant head).takes ⟨head, hpa,
      false, env⟩ = true ∧ clearEnv env = true :=
  ⟨srv, 0, 0, PathEnv.good, by decide +kernel⟩

/-- States and operands that meet the hypotheses of `ReadsWithoutData`, clause by clause. -/
theorem witness_ReadsWithoutData :
    (∃ (s : State) (head : Fin 2) (hpa line : Nat) (env : PathEnv), s.path.tied = none ∧ env.tie = false ∧ s.ctl.mode = .m10 ∧
      s.lineOf head hpa = some line ∧ (s.grant head).takes ⟨head, hpa, false, env⟩ = true) ∧
    (∃ (s : State) (head : Fin 2) (hpa line : Nat) (env : PathEnv), s.path.tied = none ∧ env.tie = false ∧ s.ctl.mode = .m10 ∧
      s.lineOf head hpa = some line ∧ (s.grant head).takes ⟨head, hpa, true, env⟩ = true) ∧
    (∃ (s : State) (head : Fin 2) (hpa line : Nat) (env : PathEnv), s.inService = true ∧ s.memLink head = true ∧ clearEnv env = true
      ∧ s.lineOf head hpa = some line ∧ s.chanLost (chanOf (line / 16)) = false) ∧
    (∃ (s : State) (head : Fin 2) (hpa : Nat), (s.inService = false ∨ s.memLink head = false ∨ s.lineOf head hpa = none)) :=
  ⟨⟨inMode srv .m10, 0, 0, (((inMode srv .m10).lineOf (0 : Fin 2) 0).get (by decide +kernel)), PathEnv.good, by decide +kernel⟩,
    ⟨inMode srv .m10, 0, 0, (((inMode srv .m10).lineOf (0 : Fin 2) 0).get (by decide +kernel)), PathEnv.good, by decide +kernel⟩,
    ⟨srv, 0, 0, ((srv.lineOf (0 : Fin 2) 0).get (by decide +kernel)), PathEnv.good, by decide +kernel⟩,
    ⟨srv, 1, 0, by decide +kernel⟩⟩

/-- A state and operands that meet the hypotheses of `HostWriteCompletes`. -/
theorem witness_HostWriteCompletes :
    ∃ (s : State) (head : Fin 2) (hpa : Nat) (env : PathEnv), s.path.tied = none ∧ env.tie = false ∧ (s.grant head).takes ⟨head, hpa,
      true, env⟩ = true ∧ clearEnv env = true ∧ s.ctl.writeThrough = false :=
  ⟨srv, 0, 0, PathEnv.good, by decide +kernel⟩

/-- A state and operands that meet the hypotheses of `FullWriteReadsBack`. -/
theorem witness_FullWriteReadsBack :
    ∃ (s : State) (head : Fin 2) (hpa line : Nat) (env : PathEnv), s.path.tied = none ∧ env.tie = false ∧ (s.grant head).takes ⟨head,
      hpa, true, env⟩ = true ∧ clearEnv env = true ∧ s.ctl.writeThrough = false ∧ s.ctl.readOnly = false ∧ s.ctl.mode ≠ .m10 ∧
      s.lineOf head hpa = some line ∧ s.chanLost (chanOf (line / 16)) = false ∧ s.sweepAhead (line / 16) = false ∧ (s.dirtyWays (line
      / 16)).length < 6 ∧ ((s.wayOf (line / 16)).isSome = true ∨ (s.freeWay (line / 16)).isSome = true) :=
  ⟨srv, 0, 0, ((srv.lineOf (0 : Fin 2) 0).get (by decide +kernel)), PathEnv.good, by decide +kernel⟩

/-- States and operands that meet the hypotheses of `TiesAlternate`, clause by clause. -/
theorem witness_TiesAlternate :
    (∃ (i j : Instr) (s : State) (r : Request) (rest : List Instr), requestOf i = some r ∧ s.path.tied = none ∧ s.pending = j :: rest
      ∧ r.env.tie = true ∧ s.sameCycle i j = true ∧ s.rd Reg.LOT_RR.NEXT (s.lotOf i) 0 = s.inputOf i) ∧
    (∃ (i j : Instr) (s : State) (r : Request) (rest : List Instr), requestOf i = some r ∧ s.path.tied = none ∧ s.pending = j :: rest
      ∧ r.env.tie = true ∧ s.sameCycle i j = true ∧ s.rd Reg.LOT_RR.NEXT (s.lotOf i) 0 ≠ s.inputOf i) ∧
    (∃ (i j : Instr) (s u : State) (r : Request) (ran : Bool), requestOf j = some r ∧ s.path.tied = some (i, ran) ∧ u =
      { s with path := { s.path with tied := none } } ∧ u.sameCycle i j = true) :=
  ⟨⟨tyingRead, tyingWrite, tying, ((requestOf tyingRead).get (by decide +kernel)), [], by decide +kernel⟩,
    ⟨tyingWrite, tyingRead, { duo with pending := [tyingRead] }, ((requestOf tyingWrite).get (by decide +kernel)), [],
      by decide +kernel⟩,
    ⟨(((tied true).path.tied).get (by decide +kernel)).1, tyingWrite, tied true, _, ((requestOf tyingWrite).get (by decide +kernel)),
      (((tied true).path.tied).get (by decide +kernel)).2, by decide +kernel, by decide +kernel, rfl, by decide +kernel⟩⟩

/-- States and operands that meet the hypotheses of `PlannedReadsEnd`, clause by clause. -/
theorem witness_PlannedReadsEnd :
    (∃ (s : State) (p : Plan) (bits : Fin 21), s.written p = true ∧ (p.around = false ∨ bits.val = 0)) ∧
    (∃ (s : State) (p : Plan) (member : Fin 9) (m : Nat), s.path.plans.find? (fun x => x.id == p.id && x.issued) = some p ∧ m = (if
      p.around then member.val else memberOfSheet p.stripe p.half p.sheet)) ∧
    (∃ (s : State) (p : Plan), p ∈ s.path.plans ∧ p.purpose = .background) ∧
    (∃ (s : State) (p : Plan) (deep : DeepOutcome), p ∈ s.path.plans ∧ p.purpose = .host ∧ deep ≠ .gaveUp ∧ deep ≠ .tagBad) ∧
    (∃ (s : State) (p : Plan) (deep : DeepOutcome), p ∈ s.path.plans ∧ p.purpose = .host ∧ deep = .gaveUp ∧ s.current p = true) :=
  ⟨⟨full, aPlan, 0, by decide +kernel⟩,
    ⟨full, aPlan, 0, _, by decide +kernel, rfl⟩,
    ⟨background, { aPlan with purpose := .background }, by decide +kernel⟩,
    ⟨full, aPlan, .step2, by decide +kernel⟩,
    ⟨full, aPlan, .gaveUp, by decide +kernel⟩⟩

/-- States and operands that meet the hypotheses of `EvictionsAndMergesRun`, clause by clause. -/
theorem witness_EvictionsAndMergesRun :
    (∃ (s : State), s.inService = true ∧ s.rd Reg.CDY_CFG.IDLE_MS 0 0 ≠ 0) ∧
    (∃ (s : State), s.rd Reg.CDY_CFG.IDLE_MS 0 0 = 0) ∧
    (∃ (s : State) (die : Fin 2) (q k w : Nat) (x : Way) (sheet : Sheet), s.inService = true ∧ s.partialUsed die > 16384 ∧
      s.path.partials.find? (fun p => ownerOf p.1 == die.val &&
      (match s.wayOf p.1 with | some w => w.2.blk.isPart p.2 | none => false)) = some (q, k) ∧ s.wayOf q = some (w, x) ∧ sheet = (if
      onMedia (s.entry q) then (s.halfAt q (s.entry q)).sheet (k / 4) else if entryState (s.entry q) = 0 then Sheet.zero else
      Sheet.lost)) ∧
    (∃ (s : State) (e : Staged) (sheets : List SheetOutcome), s.path.staged.find? (fun x => x.id == e.id && x.merging) = some e ∧
      s.ctl.mode ≠ .m10 ∧ sheets.contains .tagBad = false) ∧
    (∃ (s : State) (e : Staged) (sheets : List SheetOutcome), s.path.staged.find? (fun x => x.id == e.id && x.merging) = some e ∧
      s.ctl.mode ≠ .m10 ∧ sheets.contains .tagBad = true) :=
  ⟨⟨srv, by decide +kernel⟩,
    ⟨put srv [(Reg.CDY_CFG.IDLE_MS, 0, 0, 0)], by decide +kernel⟩,
    ⟨stagedPart, 0, 64, 1, 0, aWay, _, by decide +kernel, by decide +kernel, by decide +kernel, by decide +kernel, rfl⟩,
    ⟨full, aStaged, [], by decide +kernel⟩,
    ⟨full, aStaged, [.tagBad], by decide +kernel⟩⟩

/-- States and operands that meet the hypotheses of `StripesEnd`, clause by clause. -/
theorem witness_StripesEnd :
    (∃ (s : State), s.running = true) ∧
    (∃ (s : State) (c k : Nat) (h : Half), s.media.waiting.find? (3 * c + k) = some h ∧ s.mapping.walks = []) ∧
    (∃ (s : State) (channel : Fin 32) (segment : Fin 65536) (x : Stripe) (m : Fin 9), s.media.inProgram.find? (fun x => x.channel ==
      channel.val && x.segment == segment.val) = some x ∧ s.roleWorks (ceOf channel) = true ∧ s.roleWorks (meOf channel) = true ∧
      (s.programsOf x).any (fun p => p.1 == m.val) = true) ∧
    (∃ (s : State), s.ctl.mode = .m10) :=
  ⟨⟨srv, by decide +kernel⟩,
    ⟨bulking 0 .running, 0, 3, (((bulking 0 .running).media.waiting.find? (3 * 0 + 3)).get (by decide +kernel)), by decide +kernel⟩,
    ⟨full, 1, 1, { aStripe with index := 3 }, 0, by decide +kernel⟩,
    ⟨inMode srv .m10, by decide +kernel⟩⟩

/-- States and operands that meet the hypotheses of `SegmentsMoveOn`, clause by clause. -/
theorem witness_SegmentsMoveOn :
    (∃ (s : State) (channel : Fin 32) (segment : Fin 65536) (us : List Nat) (x : Steep) (on : List (Nat × Nat × Nat)) (u : State),
      s.steepAt channel segment = some x ∧ s.roleWorks (ceOf channel) = true ∧ on = (s.serving channel).filter (fun p => x.dies.any
      (fun y => y.1 == p.2.1)) ∧ u = on.foldl (fun s p => s.steepDie p.2.1 segment (us[p.1]?.getD 1500)) (s.clearSuspends channel
      segment) ∧ on.all (fun p => decide (us[p.1]?.getD 1500 ≤ 2500)) = true) ∧
    (∃ (s : State) (channel : Fin 32) (segment : Fin 65536) (us : List Nat) (x : Steep) (on : List (Nat × Nat × Nat)) (u : State),
      s.steepAt channel segment = some x ∧ s.roleWorks (ceOf channel) = true ∧ on = (s.serving channel).filter (fun p => x.dies.any
      (fun y => y.1 == p.2.1)) ∧ u = on.foldl (fun s p => s.steepDie p.2.1 segment (us[p.1]?.getD 1500)) (s.clearSuspends channel
      segment) ∧ x.member = none) ∧
    (∃ (f : Nat), f < 4096) ∧
    (∃ (s : State) (channel : Fin 32) (segment : Fin 65536), s.running = true ∧ (s.seg channel segment).state = .opened ∧ (s.seg
      channel segment).filled > 0) ∧
    (∃ (s : State) (channel : Fin 32) (segment : Fin 65536), s.running = true ∧ s.roleWorks (40 + channel / 16) = true ∧ (s.seg
      channel segment).state = .closed) ∧
    (∃ (s : State) (channel : Fin 32) (g : Nat), s.inService = true ∧ s.roleWorks (42 + channel / 16) = true ∧ s.victim channel =
      some g) ∧
    (∃ (s : State), s.inService = true ∧ s.ctl.mode = .m6 ∧ 2 ≤ s.reg Reg.MOD_STATUS.DOZE) ∧
    (∃ (s : State), s.inService = true ∧ (s.ctl.mode = .m5 ∨ s.reg Reg.MOD_STATUS.DOZE < 2)) ∧
    (∃ (s : State) (c : Nat), s.chanLost c = true) :=
  ⟨⟨full, 0, 1, [], aSteep, _, _, by decide +kernel, by decide +kernel, rfl, rfl, by decide +kernel⟩,
    ⟨full, 0, 1, [], aSteep, _, _, by decide +kernel, by decide +kernel, rfl, rfl, by decide +kernel⟩,
    ⟨0, by decide +kernel⟩,
    ⟨full, 1, 2, by decide +kernel⟩,
    ⟨full, 1, 1, by decide +kernel⟩,
    ⟨dueFull, 1, ((dueFull.victim (1 : Fin 32)).get (by decide +kernel)), by decide +kernel⟩,
    ⟨dozing, by decide +kernel⟩,
    ⟨srv, by decide +kernel⟩,
    ⟨lostChannel, 0, by decide +kernel⟩⟩

/-- States and operands that meet the hypotheses of `JournalAndRounds`, clause by clause. -/
theorem witness_JournalAndRounds :
    (∃ (s : State) (die : Fin 2), s.running = true ∧ s.mapping.openPage.get die ≠ []) ∧
    (∃ (s : State) (pg : List JRec) (rest : List (List JRec)), s.running = true ∧ s.mapping.issued = pg :: rest) ∧
    (∃ (s : State), s.inService = true ∧ s.mapping.ckpt = none ∧ s.mapping.mapChanged = true) ∧
    (∃ (s : State) (rd : Round), s.running = true ∧ s.mapping.ckpt = some rd) :=
  ⟨⟨full, 0, by decide +kernel⟩,
    ⟨full, [aJRec], [], by decide +kernel⟩,
    ⟨full, by decide +kernel⟩,
    ⟨inRound, ((inRound.mapping.ckpt).get (by decide +kernel)), by decide +kernel⟩⟩

/-- States and operands that meet the hypotheses of `ScrubbersAdvance`, clause by clause. -/
theorem witness_ScrubbersAdvance :
    (∃ (s : State) (channel : Fin 32) (segment : Fin 65536) (stripe : Fin 4096), s.inService = true ∧ s.roleWorks (40 + channel / 16)
      = true ∧ (s.seg channel segment).state.scrubbed = true ∧ s.chanLost channel = false ∧ s.media.images.find? (stripeKey channel
      segment stripe) = none) ∧
    (∃ (s : State) (channel : Fin 32) (segment : Fin 65536) (stripe : Fin 4096) (x : Stripe), s.inService = true ∧ s.roleWorks (40 +
      channel / 16) = true ∧ (s.seg channel segment).state.scrubbed = true ∧ s.chanLost channel = false ∧ s.media.images.find?
      (stripeKey channel segment stripe) = some x) ∧
    (∃ (s : State) (channel : Fin 32) (segment : Fin 65536) (stripe : Fin 4096), s.inService = true ∧ s.roleWorks (40 + channel / 16)
      = true ∧ s.chanState channel = 3 ∧ (s.repairOf channel).old.contains segment.val = true ∧ (∃ k ∈ (s.stripesOf channel
      segment).map Stripe.index, k ≠ stripe.val ∧ (s.repairOf channel).verified.contains (stripeKey channel segment k) = false)) ∧
    (∃ (s : State) (sc : Scan), s.inService = true ∧ s.mapping.scan = some sc ∧ sc.running = true ∧ s.mapping.map.all (fun p =>
      !(sc.next ≤ p.1 && p.1 < sc.hi && onMedia (s.entry p.1))) = true) ∧
    (∃ (s : State) (sc : Scan) (q : Nat) (e : BitVec 32) (x : Stripe) (u : State), s.inService = true ∧ s.mapping.scan = some sc ∧
      sc.running = true ∧ List.find? (fun (p : Nat × BitVec 32) => decide (sc.next ≤ p.1) && decide (p.1 < sc.hi) && onMedia (s.entry
      p.1)) s.mapping.map = some (q, e) ∧ u = { s with mapping := { s.mapping with scan := some { sc with next := q + 1 } } } ∧
      s.media.images.find? (stripeKey (chanOf q) (entrySegment (s.entry q)) (entryStripe (s.entry q))) = some x) ∧
    (∃ (s : State), s.running = true) :=
  ⟨⟨full, 1, 1, 0, by decide +kernel⟩,
    ⟨full, 1, 1, 2, ((full.media.images.find? (stripeKey (1 : Fin 32) (1 : Fin 65536) (2 : Fin 4096))).get (by decide +kernel)),
      by decide +kernel⟩,
    ⟨verifying, 1, 1, 0, by decide +kernel⟩,
    ⟨full, ((full.mapping.scan).get (by decide +kernel)), by decide +kernel⟩,
    ⟨scanned, ((scanned.mapping.scan).get (by decide +kernel)), 32, mkEntry 1 1 2 0, aStripe, _, by decide +kernel,
      by decide +kernel, by decide +kernel, by decide +kernel, rfl, by decide +kernel⟩,
    ⟨srv, by decide +kernel⟩⟩

/-- States and operands that meet the hypotheses of `WalksAndSweepsAdvance`, clause by clause. -/
theorem witness_WalksAndSweepsAdvance :
    (∃ (s : State) (w : Walk), s.running = true ∧ s.mapping.walks.find? (fun w => match w.kind with | .poison _ => true | _ => false)
      = some w) ∧
    (∃ (s : State) (w : Walk), s.running = true ∧ s.mapping.walks.find? (fun w => w.kind == .unmap) = some w) ∧
    (∃ (s : State) (w : Walk) (old new reason : Nat), s.running = true ∧ s.scanning = false ∧ w.kind = .sweep old new reason ∧
      s.mapping.walks.find? (fun w => match w.kind with | .sweep _ _ _ => true | _ => false) = some w) ∧
    (∃ (s : State) (w : Walk) (old new reason : Nat), w.kind = .sweep old new reason ∧ s.mapping.walks = [w] ∧ w.early = [] ∧ w.next
      + 1 < w.hi ∧ w.waits w.next = true ∧ w.waits (w.next + 1) = true ∧ s.mapping.held.find? w.next = none ∧ s.chanLost (chanOf
      w.next) = false) ∧
    (∃ (s : State) (channel : Fin 32) (n : Nat), s.running = true ∧ s.spareOf channel = some n) :=
  ⟨⟨walking aPoisonWalk, aPoisonWalk, by decide +kernel⟩,
    ⟨full, aWalk, by decide +kernel⟩,
    ⟨walking aSweep, aSweep, 3, 0, 131, by decide +kernel⟩,
    ⟨walking aSweep, aSweep, 3, 0, 131, by decide +kernel⟩,
    ⟨srv, 0, ((srv.spareOf (0 : Fin 32)).get (by decide +kernel)), by decide +kernel⟩⟩

/-- States and operands that meet the hypotheses of `DieToDieModulesDegrade`, clause by clause. -/
theorem witness_DieToDieModulesDegrade :
    (∃ (s : State) (m : Fin 4), s.d2dUp m = true ∧ (s.rd Reg.LNK_D2D_STATUS.DEGRADED 0 0).testBit m = false) ∧
    (∃ (s : State) (m : Fin 4) (retrained : Bool), s.d2dUp m = true ∧ (retrained = false ∨ (s.rd Reg.LNK_D2D_STATUS.DEGRADED 0
      0).testBit m = true)) ∧
    (∃ (s : State) (m k : Fin 4), k ≠ m ∧ (s.rd Reg.LNK_D2D_STATUS.DOWN 0 0).testBit k = false) ∧
    (∃ (s : State), s.powered = true) ∧
    (∃ (s : State), s.powered = false) :=
  ⟨⟨srv, 0, by decide +kernel⟩,
    ⟨srv, 0, false, by decide +kernel⟩,
    ⟨srv, 0, 1, by decide +kernel⟩,
    ⟨srv, by decide +kernel⟩,
    ⟨State.reset, by decide +kernel⟩⟩

/-- States and operands that meet the hypotheses of `DramUpkeepAndRepair`, clause by clause. -/
theorem witness_DramUpkeepAndRepair :
    (∃ (s : State) (n : Fin 4) (channel : Fin 8) (rank : Fin 2), s.dram.length = 4 ∧ s.dramOn = true ∧ s.pkgState n ≠ 1 ∧ s.rd
      Reg.DMC_MODE.POUR_EXCL (n / 2) 0 = 1 ∧ (s.pkg n).debt.get 0 (2 * channel.val + rank.val) < 64) ∧
    (∃ (s : State) (n : Fin 4) (channel : Fin 8) (rank : Fin 2), s.dram.length = 4 ∧ s.dramOn = true ∧ s.pkgState n ≠ 1 ∧ (s.rd
      Reg.DMC_MODE.POUR_EXCL (n / 2) 0 ≠ 1 ∨ 64 ≤ (s.pkg n).debt.get 0 (2 * channel.val + rank.val))) ∧
    (∃ (s : State) (n : Fin 4), s.dramOn = true ∧ s.pkgState n = 0 ∧ (s.pkg n).patrol + 1 = patrolGroups) ∧
    (∃ (s : State) (n : Fin 4) (drift : Nat), s.dramOn = true ∧ s.pkgState n = 0 ∧ drift ≤ 35) ∧
    (∃ (s : State) (n : Fin 4) (drift : Nat), s.dramOn = true ∧ s.pkgState n = 0 ∧ drift > 35) ∧
    (∃ (s : State) (n : Fin 4) (drift : Nat), s.dramOn = true ∧ s.pkgState n = 0 ∧ drift > 20) ∧
    (∃ (s : State) (n : Fin 4) (drift : Nat), s.dramOn = true ∧ s.pkgState n = 0 ∧ drift ≤ 5 ∧ s.dram.length = 4) ∧
    (∃ (s : State) (n : Fin 4) (channel : Fin 8) (rank : Fin 2) (bank : Fin 16) (row : Fin 131072) (ue : Bool) (units : List Nat) (e
      : Nat), s.dramOn = true ∧ s.pkgState n = 0 ∧ (ue = true ∨ units.dedup.length ≥ 3) ∧ (List.range 64).all (fun e =>
      !(s.remapValid n e && s.remapRow n e == rowKey channel rank bank row)) = true ∧ (List.range 64).find? (fun e => !s.remapValid n
      e) = some e) ∧
    (∃ (s : State) (n : Fin 4) (channel : Fin 8) (rank : Fin 2) (bank : Fin 16) (row : Fin 131072) (ue : Bool) (units : List Nat),
      s.dramOn = true ∧ s.pkgState n = 0 ∧ (ue = true ∨ units.dedup.length ≥ 3) ∧ (List.range 64).all (fun e => !(s.remapValid n e &&
      s.remapRow n e == rowKey channel rank bank row)) = true ∧ (List.range 64).find? (fun e => !s.remapValid n e) = none) ∧
    (∃ (s : State) (n : Fin 4) (bad corrected : Nat), s.inService = true ∧ s.pkgState n = 1 ∧ s.rdP Reg.DMC_PKG.ATTEMPTS n < 3 ∧ (bad
      ≠ 0 ∨ corrected > 16)) ∧
    (∃ (s : State) (n : Fin 4) (corrected : Nat), s.inService = true ∧ s.pkgState n = 1 ∧ s.rdP Reg.DMC_PKG.ATTEMPTS n < 3 ∧
      corrected ≤ 16) :=
  ⟨⟨put srv [(Reg.DMC_MODE.POUR_EXCL, 0, 0, 1)], 0, 0, 0, by decide +kernel⟩,
    ⟨srv, 0, 0, 0, by decide +kernel⟩,
    ⟨lastGroup, 0, by decide +kernel⟩,
    ⟨srv, 0, 5, by decide +kernel⟩,
    ⟨srv, 0, 36, by decide +kernel⟩,
    ⟨srv, 0, 21, by decide +kernel⟩,
    ⟨srv, 0, 5, by decide +kernel⟩,
    ⟨srv, 0, 0, 0, 0, 0, true, [], 0, by decide +kernel⟩,
    ⟨remapFull, 0, 0, 0, 0, 1, true, [], by decide +kernel⟩,
    ⟨put srv [(Reg.DMC_PKG.STATE, 0, 0, 1), (Reg.DMC_PKG.ATTEMPTS, 0, 0, 2)], 0, 1, 16, by decide +kernel⟩,
    ⟨put srv [(Reg.DMC_PKG.STATE, 0, 0, 1), (Reg.DMC_PKG.ATTEMPTS, 0, 0, 2)], 0, 16, by decide +kernel⟩⟩

/-- States and operands that meet the hypotheses of `QuiesceEnds`, clause by clause. -/
theorem witness_QuiesceEnds :
    (∃ (s : State) (w : QWork), s.ctl.mode = .m7 ∧ s.ctl.quiesce = some w ∧ s.quiet = true) ∧
    (∃ (s : State), s.fwRuns ≤ 1) :=
  ⟨⟨quiescing, ((quiescing.ctl.quiesce).get (by decide +kernel)), by decide +kernel⟩,
    ⟨srv, by decide +kernel⟩⟩

/-- States and operands that meet the hypotheses of `EnginesFaultAndReturn`, clause by clause. -/
theorem witness_EnginesFaultAndReturn :
    (∃ (s : State) (engine : Fin 48), s.enginesOn = true ∧ s.ctl.mode ≠ .m6 ∧ s.engineRuns engine = true ∧ s.rdE Reg.ENG_STATE.STATE
      engine ≠ 1) ∧
    (∃ (s : State) (e : Fin 48) (cause : Fin 8), s.rdE Reg.ENG_STATE.STATE e ≠ 3 ∧ (s.pour.running = true ∨ (cause ≠ 4 ∧ (s.recent
      (s.engFaults.get [] e)).length + 1 < max 1 (s.rd Reg.ENG_CFG.FAULT_LIMIT 0 0)))) ∧
    (∃ (s : State) (engine : Fin 48), s.enginesOn = true ∧ (s.rdE Reg.ENG_STATE.STATE engine = 1 ∨ (s.rdE Reg.ENG_STATE.STATE engine
      = 3 ∧ s.rdE Reg.ENG_STATE.ROLE engine ≠ noRole))) :=
  ⟨⟨srv, 0, by decide +kernel⟩,
    ⟨srv, 0, 0, by decide +kernel⟩,
    ⟨enginesOut, 0, by decide +kernel⟩⟩

/-- States and operands that meet the hypotheses of `PoursBegin`, clause by clause. -/
theorem witness_PoursBegin :
    (∃ (inputs : PourInputs), inputs.tagBad = false) ∧
    (∃ (s : State), s.ctl.p12 = true ∧ s.ctl.mode ∈ [.m2, .m3, .m4, .m5, .m6, .m7]) ∧
    (∃ (s : State), s.ctl.p12 = true ∧ s.ctl.mode = .m8 ∧ s.reg Reg.POUR_STATUS.CAUSE = 3) ∧
    (∃ (s : State), s.ctl.p12 = true ∧ s.ctl.mode ∈ [.m0, .m1, .m9, .m10, .m11]) ∧
    (∃ (s : State), s.reg Reg.PIN_LEVEL.PWRDIS ≠ 1 ∧ s.ctl.mode ∈ [.m2, .m3, .m4, .m5, .m6, .m7]) ∧
    (∃ (s : State) (head : Fin 2), s.hasHead head = true ∧ s.rd Reg.LNK_STATUS.CXL_MEM head 0 ≠ 0 ∧ s.ctl.mode ∈ [.m5, .m6]) ∧
    (∃ (s : State) (head : Fin 2), s.hasHead head = true ∧ s.rd Reg.LNK_STATUS.CXL_MEM head 0 ≠ 0 ∧ s.ctl.mode ∈ [.m2, .m3, .m4, .m7,
      .m8]) :=
  ⟨⟨⟨[], false⟩, by decide +kernel⟩,
    ⟨srv, by decide +kernel⟩,
    ⟨gpfPouring, by decide +kernel⟩,
    ⟨inMode srv .m10, by decide +kernel⟩,
    ⟨srv, by decide +kernel⟩,
    ⟨srv, 0, by decide +kernel⟩,
    ⟨inMode srv .m8, 0, by decide +kernel⟩⟩

/-- States and operands that meet the hypotheses of `InputsReturnAndGo`, clause by clause. -/
theorem witness_InputsReturnAndGo :
    (∃ (s : State), s.ctl.p12 = false ∧ s.ctl.mode ≠ .m0) ∧
    (∃ (s : State), s.ctl.mode ∈ [.m0, .m1, .m8, .m9, .m10, .m11]) :=
  ⟨⟨noP12, by decide +kernel⟩,
    ⟨State.reset, by decide +kernel⟩⟩

/-- States and operands that meet the hypotheses of `PoursEnd`, clause by clause. -/
theorem witness_PoursEnd :
    (∃ (s : State), s.pour.warmAfter = false) ∧
    (∃ (s : State) (cause : Nat), s.reg Reg.THM_STATUS.TRIP ≠ 1 ∧ s.ctl.afterPourOff = false ∧ s.reg Reg.MOD_REQUEST.ON_PENDING ≠ 1 ∧
      cause = 1 ∧ s.ctl.p12 = true) ∧
    (∃ (s : State) (cause d : Nat), s.reg Reg.THM_STATUS.TRIP ≠ 1 ∧ s.ctl.afterPourOff = false ∧ s.reg Reg.MOD_REQUEST.ON_PENDING ≠ 1
      ∧ cause = 1 ∧ s.ctl.p12 = false ∧ d < 2) ∧
    (∃ (s : State) (cause : Nat), s.reg Reg.THM_STATUS.TRIP ≠ 1 ∧ s.ctl.afterPourOff = false ∧ s.reg Reg.MOD_REQUEST.ON_PENDING ≠ 1 ∧
      cause ≠ 1) ∧
    (∃ (s : State) (cause : Nat), s.reg Reg.THM_STATUS.TRIP ≠ 1 ∧ s.ctl.afterPourOff = false ∧ s.reg Reg.MOD_REQUEST.ON_PENDING ≠ 1 ∧
      cause = 4) ∧
    (∃ (s : State), s.reg Reg.THM_STATUS.TRIP = 1 ∧ s.ctl.p12 = true) ∧
    (∃ (s : State) (r : PourRec), s.ctl.mode = .m8 ∧ s.pour.running = true ∧ s.pour.record = some r) ∧
    (∃ (s : State), s.ctl.mode = .m8 ∧ s.pour.hold = true) :=
  ⟨⟨srv, by decide +kernel⟩,
    ⟨srv, _, by decide +kernel, by decide +kernel, by decide +kernel, rfl, by decide +kernel⟩,
    ⟨State.reset, _, 0, by decide +kernel, by decide +kernel, by decide +kernel, rfl, by decide +kernel, by decide +kernel⟩,
    ⟨srv, 0, by decide +kernel⟩,
    ⟨srv, _, by decide +kernel, by decide +kernel, by decide +kernel, rfl⟩,
    ⟨tripped, by decide +kernel⟩,
    ⟨pouring, ((pouring.pour.record).get (by decide +kernel)), by decide +kernel⟩,
    ⟨holding, by decide +kernel⟩⟩

/-- States and operands that meet the hypotheses of `EnergyIsMeasured`, clause by clause. -/
theorem witness_EnergyIsMeasured :
    (∃ (s : State), s.running = true ∧ s.ctl.mode ≠ .m8 ∧ 34500 ≤ s.pour.bus ∧ (∀ k < 8, s.rd Reg.POUR_SUBBANK.MEASURING 0 k ≠ 1 ∧
      (s.rd Reg.POUR_SUBBANK.ISOLATED 0 k ≠ 0 ∨ 34500 ≤ s.pour.volts[k]?.getD 0)) ∧ (s.rd Reg.THM_STATUS.THROTTLE 0 0).testBit 3 =
      false) ∧
    (∃ (s : State) (drop i : Nat), i < 8 ∧ s.rd Reg.POUR_SUBBANK.MEASURING 0 i = 1 ∧ (∀ k < i, s.rd Reg.POUR_SUBBANK.MEASURING 0 k ≠
      1) ∧ 0 < drop) ∧
    (∃ (s : State) (subbank : Fin 8) (cause : Fin 4), s.running = true ∧ cause.val ≠ 0 ∧ s.rd Reg.POUR_SUBBANK.ISOLATED 0 subbank ≠ 1) :=
  ⟨⟨srv, by decide +kernel⟩,
    ⟨measuring, 1886, 0, by decide +kernel⟩,
    ⟨srv, 0, 1, by decide +kernel⟩⟩

/-- States and operands that meet the hypotheses of `PowerIsJudgedAndSwitched`, clause by clause. -/
theorem witness_PowerIsJudgedAndSwitched :
    (∃ (s : State) (r mv : Nat), r < 18 ∧ s.judged r = true ∧ s.ctl.railRuns.length = 18 ∧ (railLimits r).1 ≤ mv ∧ mv ≤ (railLimits
      r).2) ∧
    (∃ (s : State) (r mv : Nat), r < 18 ∧ s.judged r = true ∧ s.ctl.railRuns.length = 18 ∧ mv < (railLimits r).1 ∧
      (s.ctl.railRuns[r]?.getD (0, 0)).1 = 0) ∧
    (∃ (s : State) (r mv : Nat), r < 18 ∧ s.judged r = true ∧ s.ctl.railRuns.length = 18 ∧ (railLimits r).2 < mv ∧
      (s.ctl.railRuns[r]?.getD (0, 0)).2 = 0) ∧
    (∃ (s : State) (r mv : Nat), r < 18 ∧ s.judged r = true ∧ s.ctl.railRuns.length = 18 ∧ mv < (railLimits r).1 ∧
      (s.ctl.railRuns[r]?.getD (0, 0)).1 = 1) ∧
    (∃ (s : State) (r mv : Nat), r < 18 ∧ s.judged r = true ∧ s.ctl.railRuns.length = 18 ∧ (railLimits r).2 < mv ∧
      (s.ctl.railRuns[r]?.getD (0, 0)).2 = 1) ∧
    (∃ (s u : State) (mean : Nat) (low : Bool), s.running = true ∧ low = (decide (mean > 66000) || (s.ctl.lowering && decide (mean ≥
      64000))) ∧ u = { s with ctl := { s.ctl with lowering := low } }) ∧
    (∃ (cap k : Nat), cap ≤ 128 ∧ k < 16) ∧
    (∃ (s : State) (rail : Fin 6), s.powered = true ∧ s.rd Reg.PWR_RAIL.STATE 0 (phaseRail rail) ∉ [0, 6]) ∧
    (∃ (s : State), s.ctl.aux = false ∧ s.ctl.mode = .m0) ∧
    (∃ (s : State), s.ctl.aux = true ∧ s.powered = true) :=
  ⟨⟨srv, 4, 728, by decide +kernel⟩,
    ⟨srv, 4, 727, by decide +kernel⟩,
    ⟨srv, 4, 774, by decide +kernel⟩,
    ⟨rails 1 0, 4, 727, by decide +kernel⟩,
    ⟨rails 0 1, 4, 774, by decide +kernel⟩,
    ⟨srv, _, 0, _, by decide +kernel, rfl, rfl⟩,
    ⟨0, 0, by decide +kernel⟩,
    ⟨srv, 0, by decide +kernel⟩,
    ⟨State.reset, by decide +kernel⟩,
    ⟨srv, by decide +kernel⟩⟩

/-- States and operands that meet the hypotheses of `ColdStarts`, clause by clause. -/
theorem witness_ColdStarts :
    (∃ (s : State) (env : StartEnv), s.mayStartCold = true ∧ 3 ≤ (s.coldBegin env).reg Reg.MOD_LADDER.COLD_FAILS) ∧
    (∃ (s : State) (env : StartEnv), s.mayStartCold = true ∧ (s.coldBegin env).reg Reg.MOD_LADDER.COLD_FAILS < 3 ∧ railsUnsafe
      env.railsBad = true) ∧
    (∃ (s : State) (env : StartEnv), s.mayStartCold = true ∧ (s.coldBegin env).reg Reg.MOD_LADDER.COLD_FAILS < 3 ∧ railsUnsafe
      env.railsBad = false) ∧
    (∃ (s : State), s.media.inProgram = []) ∧
    (∃ (env : StartEnv), packagesGone env.packagesBad = true) ∧
    (∃ (env : StartEnv), packagesGone env.packagesBad = false ∧ env.imageOk = false) ∧
    (∃ (s : State) (slot d : Nat), slot ≤ 1 ∧ s.ctl.quiesceQueue = [] ∧ s.pour.gpf = [] ∧ d < 2) :=
  ⟨⟨put (starting 1) [(Reg.MOD_LADDER.COLD_FAILS, 0, 0, 3)], startEnv, by decide +kernel⟩,
    ⟨inMode srv .m1, { startEnv with railsBad := [3] }, by decide +kernel⟩,
    ⟨inMode srv .m1, startEnv, by decide +kernel⟩,
    ⟨srv, by decide +kernel⟩,
    ⟨{ startEnv with packagesBad := [0, 1] }, by decide +kernel⟩,
    ⟨{ startEnv with imageOk := false }, by decide +kernel⟩,
    ⟨srv, 0, 0, by decide +kernel⟩⟩

/-- States and operands that meet the hypotheses of `WarmStartsAndFailures`, clause by clause. -/
theorem witness_WarmStartsAndFailures :
    (∃ (s : State) (env : StartEnv), s.mayStartWarm = true ∧ (s.warmBegin env).reg Reg.MOD_LADDER.COLD_FAILS < 3 ∧ (s.coresUp = true
      ∨ railsUnsafe env.railsBad = false)) ∧
    (∃ (s : State) (env : StartEnv), s.mayStartWarm = true ∧ (s.warmBegin env).reg Reg.MOD_LADDER.COLD_FAILS < 3 ∧ s.coresUp = false
      ∧ railsUnsafe env.railsBad = true) ∧
    (∃ (env : StartEnv), env.centering = []) ∧
    (∃ (s : State), (s.mayStartCold = true ∨ s.mayStartWarm = true)) :=
  ⟨⟨starting 2, startEnv, by decide +kernel⟩,
    ⟨put (starting 2) [(Reg.PWR_RAIL.STATE, 0, 4, 0), (Reg.DMC_PKG.STATE, 0, 0, 1), (Reg.DMC_PKG.STATE, 0, 1, 1), (Reg.DMC_PKG.STATE,
      1, 0, 1), (Reg.DMC_PKG.STATE, 1, 1, 1)], { startEnv with railsBad := [3] }, by decide +kernel⟩,
    ⟨startEnv, by decide +kernel⟩,
    ⟨inMode srv .m1, by decide +kernel⟩⟩

/-- States and operands that meet the hypotheses of `WarmResets`, clause by clause. -/
theorem witness_WarmResets :
    (∃ (s : State), s.reg Reg.PIN_LEVEL.PERST ≠ 1 ∧ s.reg Reg.PIN_REMOVAL.STATE < 2 ∧ s.ctl.mode ∉ [.m9, .m10]) ∧
    (∃ (s : State), s.reg Reg.PIN_LEVEL.PERST1 ≠ 1 ∧ s.reg Reg.PIN_REMOVAL.STATE < 2 ∧ s.ctl.mode ∉ [.m9, .m10]) ∧
    (∃ (s : State), s.ctl.mode ∈ [.m9, .m10] ∧ s.reg Reg.PIN_REMOVAL.STATE < 2 ∧ s.reg Reg.PIN_LEVEL.PERST ≠ 1) ∧
    (∃ (s : State), s.ctl.mode ∈ [.m9, .m10] ∧ s.reg Reg.PIN_REMOVAL.STATE < 2 ∧ s.reg Reg.PIN_LEVEL.PERST1 ≠ 1 ∧ s.dual = true) ∧
    (∃ (s : State), s.ctl.mode ∈ [.m2, .m3, .m4, .m5, .m6]) :=
  ⟨⟨srv, by decide +kernel⟩,
    ⟨srv, by decide +kernel⟩,
    ⟨inMode srv .m10, by decide +kernel⟩,
    ⟨inMode duo .m9, by decide +kernel⟩,
    ⟨srv, by decide +kernel⟩⟩

/-- States and operands that meet the hypotheses of `LinkEventsResetTheHead`, clause by clause. -/
theorem witness_LinkEventsResetTheHead :
    (∃ (s : State) (head : Fin 2), s.hasHead head = true ∧ (s.heads.get head).linkUp = true) ∧
    (∃ (s : State), s.ctl.mode.linkTrains = true ∧ s.ctl.mode ≠ .m9 ∧ s.ctl.mode ≠ .m10) :=
  ⟨⟨srv, 0, by decide +kernel⟩,
    ⟨srv, by decide +kernel⟩⟩

/-- States and operands that meet the hypotheses of `LinksTrain`, clause by clause. -/
theorem witness_LinksTrain :
    (∃ (s : State) (head : Fin 2) (width : Nat) (rate : Fin 4), s.hasHead head = true ∧ (s.heads.get head).clock = true ∧
      (s.heads.get head).linkUp = false ∧ s.headHeld head = false ∧ s.physOn = true ∧ s.widthOk width = true ∧ rate.val ≠ 0) ∧
    (∃ (s : State) (head : Fin 2) (width : Nat) (rate : Fin 4), s.hasHead head = true ∧ (s.heads.get head).linkUp = true ∧ s.widthOk
      width = true ∧ rate.val ≠ 0) :=
  ⟨⟨untrained, 0, 16, 1, by decide +kernel⟩,
    ⟨srv, 0, 16, 1, by decide +kernel⟩⟩

/-- States and operands that meet the hypotheses of `FunctionsAndVectors`, clause by clause. -/
theorem witness_FunctionsAndVectors :
    (∃ (s : State) (head : Fin 2), s.hasHead head = true ∧ (s.heads.get head).linkUp = true) ∧
    (∃ (s : State) (head : Fin 2), s.ioUp head = true) ∧
    (∃ (s : State) (head : Fin 2) (group : Fin 24) (elapsed : Bool) (n : Nat), s.hasHead head = true ∧ s.granted = true ∧
      (s.heads.get head).aggCount[group.val]? = some n ∧ n ≠ 0 ∧ (elapsed = true ∨ (s.rd Reg.LNK_AGG_CTRL.COUNT head group ≠ 0 ∧ s.rd
      Reg.LNK_AGG_CTRL.COUNT head group ≤ n)) ∧ s.rd Reg.TLY_FIXED.COUNT head 373 < 281474976710655) :=
  ⟨⟨srv, 0, by decide +kernel⟩,
    ⟨srv, 0, by decide +kernel⟩,
    ⟨messaging, 0, 0, true, (((messaging.heads.get (0 : Fin 2)).aggCount[(0 : Fin 24).val]?).get (by decide +kernel)),
      by decide +kernel⟩⟩

/-- States and operands that meet the hypotheses of `DecodersAndIde`, clause by clause. -/
theorem witness_DecodersAndIde :
    (∃ (s : State) (head : Fin 2) (index : Fin 4) (old : Decoder), s.ioUp head = true ∧ (s.heads.get head).decoders[index.val]? =
      some old) ∧
    (∃ (s : State) (head : Fin 2) (session : Nat), s.ioUp head = true ∧ (s.heads.get head).doeError.get 1 = false ∧
      s.sec.sessions.any (fun x => x.transport == head.val && x.id == session) = true) ∧
    (∃ (s : State) (head : Fin 2) (mem : Bool), s.hasHead head = true ∧ (s.heads.get head).linkUp = true ∧ s.rd (if mem then
      Reg.LNK_STATUS.IDE_MEM else Reg.LNK_STATUS.IDE_IO) head 0 = 1) :=
  ⟨⟨srv, 0, 0, (((srv.heads.get (0 : Fin 2)).decoders[(0 : Fin 4).val]?).get (by decide +kernel)), by decide +kernel⟩,
    ⟨srv, 0, 1, by decide +kernel⟩,
    ⟨secureLink, 0, false, by decide +kernel⟩⟩

/-- States and operands that meet the hypotheses of `DozeDescendsAndEnds`, clause by clause. -/
theorem witness_DozeDescendsAndEnds :
    (∃ (s : State) (idleUs d : Nat), s.inService = true ∧ d = (if s.ctl.mode = .m6 then s.reg Reg.MOD_STATUS.DOZE else 0) ∧ d < 4 ∧
      (∀ k ≤ d, s.rd Reg.MOD_DOZE_CFG.DISABLE 0 k ≠ 1) ∧ exitLatency (d + 1) ≤ s.tolerance ∧ s.rd Reg.MOD_DOZE_CFG.ENTER_US 0 d ≤
      idleUs ∧ predictAtLeast (d + 1) ≤ s.prediction idleUs ∧ s.workDue = false ∧ (1 ≤ d → s.banksBusy = false) ∧ (2 ≤ d →
      s.dirtyQuires = [] ∧ s.mapping.openPage = ⟨[], []⟩ ∧ s.mapping.issued = [])) ∧
    (∃ (d : Nat), 1 ≤ d ∧ d ≤ 4) ∧
    (∃ (s : State), s.ctl.mode = .m6 ∧ 2 ≤ s.reg Reg.MOD_STATUS.DOZE ∧ s.reg Reg.MOD_STATUS.DOZE ≤ 4) :=
  ⟨⟨idling, 100000000, _, by decide +kernel, rfl, by decide +kernel, by decide +kernel, by decide +kernel, by decide +kernel,
      by decide +kernel, by decide +kernel, by decide +kernel, by decide +kernel⟩,
    ⟨1, by decide +kernel⟩,
    ⟨dozing, by decide +kernel⟩⟩

/-- States and operands that meet the hypotheses of `TimeIsKept`, clause by clause. -/
theorem witness_TimeIsKept :
    (∃ (f : Nat → State), (f 0).powered = true ∧ (∀ k, exec .optimeTick (f k) = .next (f (k + 1)))) ∧
    (∃ (s : State), s.powered = true ∧ s.rd Reg.QST_RING.SERIAL 0 0 < 4294967295) :=
  ⟨⟨ticking, by decide +kernel, fun _ => rfl⟩,
    ⟨srv, by decide +kernel⟩⟩

/-- States and operands that meet the hypotheses of `SensorsAreSampled`, clause by clause. -/
theorem witness_SensorsAreSampled :
    (∃ (s : State) (x : SensorId) (k : Sensor) (v : Int), s.sensorOn (sensorClass x) = true ∧ k = s.sensor (sensorKey x) ∧ k.broken =
      false ∧ inRange (sensorClass x) v = true ∧ s.stuck k v = false) ∧
    (∃ (s : State) (x : SensorId) (k : Sensor) (v : Int), s.sensorOn (sensorClass x) = true ∧ k = s.sensor (sensorKey x) ∧ k.broken =
      false ∧ (inRange (sensorClass x) v = false ∨ s.stuck k v = true)) ∧
    (∃ (s : State) (x : SensorId) (k : Sensor), s.sensorOn (sensorClass x) = true ∧ k = s.sensor (sensorKey x) ∧ k.broken = false ∧ 2
      ≤ k.missed) ∧
    (∃ (s : State) (x : SensorId) (k : Sensor), s.sensorOn (sensorClass x) = true ∧ k = s.sensor (sensorKey x) ∧ k.broken = false ∧
      k.missed < 2) ∧
    (∃ (s : State) (x : SensorId) (k : Sensor), s.sensorOn (sensorClass x) = true ∧ k = s.sensor (sensorKey x) ∧ k.broken = true) :=
  ⟨⟨srv, .inlet, _, 25, by decide +kernel, rfl, by decide +kernel, by decide +kernel, by decide +kernel⟩,
    ⟨srv, .inlet, _, 1000, by decide +kernel, rfl, by decide +kernel, by decide +kernel⟩,
    ⟨inlet { Sensor.initial with missed := 2 }, .inlet, _, by decide +kernel, rfl, by decide +kernel, by decide +kernel⟩,
    ⟨srv, .inlet, _, by decide +kernel, rfl, by decide +kernel, by decide +kernel⟩,
    ⟨inlet { Sensor.initial with broken := true }, .inlet, _, by decide +kernel, rfl, by decide +kernel⟩⟩

/-- States and operands that meet the hypotheses of `SpdmAnswers`, clause by clause. -/
theorem witness_SpdmAnswers :
    (∃ (s : State) (transport : Fin 3), s.spdmServed transport = true ∧ s.drbgBlocked = true) ∧
    (∃ (s : State) (transport : Fin 3) (slot : Nat), s.spdmServed transport = true ∧ slot ≠ 0) ∧
    (∃ (s : State) (transport : Fin 3) (index : Nat), s.spdmServed transport = true ∧ s.drbgBlocked = false ∧ 1 ≤ index ∧ index ≤ 8) :=
  ⟨⟨noDrbg, 0, by decide +kernel⟩,
    ⟨srv, 0, 1, by decide +kernel⟩,
    ⟨srv, 0, 1, by decide +kernel⟩⟩

/-- States and operands that meet the hypotheses of `SessionsAndDoe`, clause by clause. -/
theorem witness_SessionsAndDoe :
    (∃ (s : State) (transport : Fin 3), s.spdmServed transport = true ∧ s.ctl.mode ≠ .m10 ∧ (s.sessionsOn transport).length < 2 ∧
      s.drbgBlocked = false) ∧
    (∃ (s : State) (transport : Fin 3) (good : Bool), s.spdmServed transport = true ∧ (s.ctl.mode = .m10 ∨ 2 ≤ (s.sessionsOn
      transport).length ∨ s.drbgBlocked = true ∨ good = false)) ∧
    (∃ (s : State) (transport : Fin 3) (id : Nat), (s.sessionsOn transport).any (fun x => x.id == id) = true) ∧
    (∃ (s : State) (head : Fin 2) (bytes : Nat), s.ioUp head = true ∧ (s.heads.get head).doeError.get 0 = false ∧ bytes ≤ 65536) ∧
    (∃ (s : State) (head : Fin 2) (bytes : Nat) (inst : Fin 2) (index : Nat) (p : Nat × Nat), s.ioUp head = true ∧ (s.heads.get
      head).doeError.get inst = false ∧ bytes ≤ 65536 ∧ (doeProtocols inst)[index]? = some p) ∧
    (∃ (s : State) (head : Fin 2) (bytes : Nat) (inst : Fin 2) (index : Nat), s.ioUp head = true ∧ (s.heads.get head).doeError.get
      inst = false ∧ bytes ≤ 65536 ∧ (doeProtocols inst)[index]? = none) ∧
    (∃ (s : State) (head : Fin 2) (bytes : Nat) (inst : Fin 2), s.ioUp head = true ∧ (s.heads.get head).doeError.get inst = false ∧
      65536 < bytes) ∧
    (∃ (s : State) (head inst : Fin 2), s.ioUp head = true ∧ (s.heads.get head).doeError.get inst = true) :=
  ⟨⟨srv, 0, by decide +kernel⟩,
    ⟨srv, 0, false, by decide +kernel⟩,
    ⟨srv, 0, 1, by decide +kernel⟩,
    ⟨srv, 0, 8, by decide +kernel⟩,
    ⟨srv, 0, 8, 0, 0, (((doeProtocols (0 : Fin 2))[0]?).get (by decide +kernel)), by decide +kernel⟩,
    ⟨srv, 0, 8, 0, 2, by decide +kernel⟩,
    ⟨srv, 0, 65537, 0, by decide +kernel⟩,
    ⟨doeStuck, 0, 0, by decide +kernel⟩⟩

/-- States and operands that meet the hypotheses of `MailboxReads`, clause by clause, part 1. -/
theorem witness_MailboxReads_1 :
    (∃ (s : State) (m : Mbox), s.mailServed m 0x0002 = true) ∧
    (∃ (s : State) (m : Mbox), s.mailServed m 0x0100 = true) ∧
    (∃ (s : State) (m : Mbox), s.mailServed m 0x0102 = true) ∧
    (∃ (s : State) (m : Mbox), s.mailServed m 0x0200 = true) ∧
    (∃ (s : State) (m : Mbox), s.mailServed m 0x0300 = true) ∧
    (∃ (s : State) (m : Mbox), s.mailServed m 0x0400 = true) ∧
    (∃ (s : State) (m : Mbox), s.mailServed m 0x0401 = true) ∧
    (∃ (s : State) (m : Mbox), s.mailServed m 0x4000 = true) ∧
    (∃ (s : State) (m : Mbox), s.mailServed m 0x4100 = true) ∧
    (∃ (s : State) (m : Mbox), s.mailServed m 0x4102 = true) ∧
    (∃ (s : State) (m : Mbox), s.mailServed m 0x4200 = true) ∧
    (∃ (s : State) (m : Mbox), s.mailServed m 0x4201 = true) :=
  ⟨⟨srv, ⟨0, false, false, false⟩, by decide +kernel⟩,
    ⟨srv, ⟨0, false, false, false⟩, by decide +kernel⟩,
    ⟨srv, ⟨0, false, false, false⟩, by decide +kernel⟩,
    ⟨srv, ⟨0, false, false, false⟩, by decide +kernel⟩,
    ⟨srv, ⟨0, false, false, false⟩, by decide +kernel⟩,
    ⟨srv, ⟨0, false, false, false⟩, by decide +kernel⟩,
    ⟨srv, ⟨0, false, false, false⟩, by decide +kernel⟩,
    ⟨srv, ⟨0, false, false, false⟩, by decide +kernel⟩,
    ⟨srv, ⟨0, false, false, false⟩, by decide +kernel⟩,
    ⟨srv, ⟨0, false, false, false⟩, by decide +kernel⟩,
    ⟨srv, ⟨0, false, false, false⟩, by decide +kernel⟩,
    ⟨srv, ⟨0, false, false, false⟩, by decide +kernel⟩⟩

/-- States and operands that meet the hypotheses of `MailboxReads`, clause by clause, part 2. -/
theorem witness_MailboxReads_2 :
    (∃ (s : State) (m : Mbox), s.mailServed m 0x4203 = true) ∧
    (∃ (s : State) (m : Mbox) (dpa length : Nat), s.mailServed m 0x4300 = true ∧ inDpa dpa length = true) ∧
    (∃ (s : State) (m : Mbox) (dpa length : Nat), s.mailServed m 0x4303 = true ∧ inDpa dpa length = true) ∧
    (∃ (s : State) (m : Mbox) (x : Scan), s.mailServed m 0x4305 = true ∧ s.mapping.scan = some x ∧ x.head = m.head.val ∧ x.running =
      false) :=
  ⟨⟨srv, ⟨0, false, false, false⟩, by decide +kernel⟩,
    ⟨srv, ⟨0, false, false, false⟩, 0, 64, by decide +kernel⟩,
    ⟨srv, ⟨0, false, false, false⟩, 0, 64, by decide +kernel⟩,
    ⟨scanEnded, ⟨0, false, false, false⟩, { aScan with running := false }, by decide +kernel⟩⟩

/-- States and operands that meet the hypotheses of `MailboxSettings`, clause by clause. -/
theorem witness_MailboxSettings :
    (∃ (s : State) (m : Mbox) (log : Fin 4) (all : Bool) (handles : List Nat), s.mailServed m 0x0101 = true ∧ (all = true ∨
      handles.all (fun h => ((s.heads.get m.head).log log).recs.any (fun r => r.handle == h)) = true)) ∧
    (∃ (s : State) (m : Mbox) (modes : List (Fin 3)), s.mailServed m 0x0103 = true ∧ modes.length = 4) ∧
    (∃ (s : State) (m : Mbox), s.mailServed m 0x4202 = true) ∧
    (∃ (s : State) (m : Mbox), s.mailServed m 0x4204 = true) ∧
    (∃ (s : State) (m : Mbox) (offset : Nat) (data : List Byte), s.mailServed m 0x4103 = true ∧ offset + data.length ≤ 131072 ∧ 8 +
      data.length ≤ 131072) ∧
    (∃ (s : State) (m : Mbox), s.mailServed m 0x0301 = true) ∧
    (∃ (s : State) (m : Mbox) (dpa : Nat) (env : PathEnv), s.mailServed m 0x4302 = true ∧ dpa % 64 = 0 ∧ inDpa dpa 64 = true ∧
      s.inService = true ∧ s.chanLost (chanOf (dpa / 64 / 16)) = false ∧ clearEnv env = true ∧ s.ctl.readOnly = false ∧
      s.ctl.writeThrough = false ∧ s.sweepAhead (dpa / 1024) = false ∧ (s.dirtyWays (dpa / 1024)).length < 6 ∧ ((s.wayOf (dpa /
      1024)).isSome = true ∨ (s.freeWay (dpa / 1024)).isSome = true)) :=
  ⟨⟨srv, ⟨0, false, false, false⟩, 0, false, [], by decide +kernel⟩,
    ⟨srv, ⟨0, false, false, false⟩, [0, 1, 2, 0], by decide +kernel⟩,
    ⟨srv, ⟨0, false, false, false⟩, by decide +kernel⟩,
    ⟨srv, ⟨0, false, false, false⟩, by decide +kernel⟩,
    ⟨srv, ⟨0, false, false, false⟩, 0, [], by decide +kernel⟩,
    ⟨srv, ⟨0, false, false, false⟩, by decide +kernel⟩,
    ⟨srv, ⟨0, false, false, false⟩, 0, PathEnv.good, by decide +kernel⟩⟩

/-- States and operands that meet the hypotheses of `ImagesAndBackground`, clause by clause. -/
theorem witness_ImagesAndBackground :
    (∃ (s : State) (m : Mbox) (offset length data : Nat) (v : ImageVerdict), s.mailServed m 0x0201 = true ∧ imagePiece offset data
      length = true ∧ 128 + data ≤ 131072 ∧ (v = .partly ∨ offset + data ≠ length)) ∧
    (∃ (s : State) (m : Mbox) (offset length data svn : Nat), s.mailServed m 0x0201 = true ∧ imagePiece offset data length = true ∧
      128 + data ≤ 131072 ∧ offset + data = length ∧ s.reg Reg.SEC_FW.SVN_FUSED ≤ svn % 256) ∧
    (∃ (s : State) (m : Mbox) (offset length data : Nat) (v : ImageVerdict), s.mailServed m 0x0201 = true ∧ imagePiece offset data
      length = true ∧ 128 + data ≤ 131072 ∧ offset + data = length ∧ (v = .refused ∨ ∃ version svn, v = .good version svn ∧ svn % 256
      < s.reg Reg.SEC_FW.SVN_FUSED)) ∧
    (∃ (s : State) (m : Mbox) (dpa length : Nat), s.bgRunning m = false ∧ s.mailServed m 0x4304 = true ∧ inDpa dpa length = true ∧ (∀
      x, s.mapping.scan = some x → x.running = false)) ∧
    (∃ (s : State) (m : Mbox) (op : Nat) (c : Instr) (w : QWork), s.bgRunning m = false ∧ (op, c, w) ∈ [(0x0202, .activateFw m true,
      QWork.activateMailbox m.head), (0x4400, .sanitize m, .sanitize m.head), (0x4401, .secureErase m, .secureErase m.head)] ∧
      s.mailServed m op = true ∧ (op = 0x0202 → s.mayActivate true = true ∧ s.mustWait w = false) ∧ (op ≠ 0x0202 → s.ctl.erase = none
      ∧ s.drbgBlocked = false)) :=
  ⟨⟨srv, ⟨0, false, false, false⟩, 0, 3, 3, .partly, by decide +kernel⟩,
    ⟨srv, ⟨0, false, false, false⟩, 0, 3, 3, 0, by decide +kernel⟩,
    ⟨srv, ⟨0, false, false, false⟩, 0, 3, 3, .refused, by decide +kernel, by decide +kernel, by decide +kernel, by decide +kernel,
      .inl rfl⟩,
    ⟨srv, ⟨0, false, false, false⟩, 0, 3, by decide +kernel, by decide +kernel, by decide +kernel, by intro x h; cases h⟩,
    ⟨srv, ⟨0, false, false, false⟩, 0x4400, .sanitize ⟨0, false, false, false⟩, .sanitize 0, by decide +kernel⟩⟩

/-- States and operands that meet the hypotheses of `MailboxRefuses`, clause by clause. -/
theorem witness_MailboxRefuses :
    (∃ (s : State) (m : Mbox) (op : BitVec 16), s.ioUp m.head = true ∧ s.mailRefused m op.toNat = true) ∧
    (∃ (s : State) (m : Mbox) (op : BitVec 16), s.mailRefused m op.toNat = false ∧ op = 0x4000) ∧
    (∃ (s : State) (m : Mbox) (op : BitVec 16), s.mailRefused m op.toNat = false ∧ op = 0x4400) ∧
    (∃ (s : State) (m : Mbox) (op : BitVec 16), s.mailRefused m op.toNat = false ∧ op = 0x4102 ∧ s.mailServed m 0x4102 = true) ∧
    (∃ (s : State) (m : Mbox) (data : List Byte), s.mailServed m 0x4103 = true ∧ 131072 < 8 + data.length) ∧
    (∃ (s : State) (m : Mbox), s.ioUp m.head = true ∧ s.ctl.mode = .m10) ∧
    (∃ (s : State) (m : Mbox), s.ioUp m.head = true ∧ s.ctl.mode ≠ .m10 ∧ m.secondary = true) ∧
    (∃ (s : State) (start count : Nat), s.spdmServed 2 = true ∧ 0 < count ∧ start + count ≤ (if s.dual then 2 else 1)) :=
  ⟨⟨srv, ⟨0, false, false, false⟩, 5, by decide +kernel⟩,
    ⟨srv, ⟨0, false, false, false⟩, 0x4000, by decide +kernel⟩,
    ⟨srv, ⟨0, false, false, false⟩, 0x4400, by decide +kernel⟩,
    ⟨srv, ⟨0, false, false, false⟩, 0x4102, by decide +kernel⟩,
    ⟨srv, ⟨0, false, false, false⟩, List.replicate 131065 0, by decide +kernel⟩,
    ⟨inMode srv .m10, ⟨0, false, false, false⟩, by decide +kernel⟩,
    ⟨srv, ⟨0, true, false, false⟩, by decide +kernel⟩,
    ⟨srv, 0, 1, by decide +kernel⟩⟩

/-- States and operands that meet the hypotheses of `LeafIsTakenOrRefused`, clause by clause. -/
theorem witness_LeafIsTakenOrRefused :
    (∃ (s : State) (r : Req), r.transport < 8 ∧ (r.transport < 6 → s.ioUp r.who = true ∧ (4 ≤ r.transport → (s.heads.get
      r.who).doeError.one = false))) ∧
    (∃ (i : Instr) (s : State) (row : LeafRow) (h : LeafHdr) (p : List Byte), leafOf i = some (row, h, p) ∧ s.spelled i = i ∧
      s.arrives i row h p = true ∧ (s.takeLeaf row h p).leafGate row h p ≠ stOk) ∧
    (∃ (op : BitVec 16) (s : State) (h : LeafHdr) (p : List Byte), leafKnown op.toNat = false ∧ s.arrives (.leafUnknownOpcode op h p)
      (rowUnknown op.toNat) h p = true) ∧
    (∃ (s : State) (row : LeafRow) (h : LeafHdr), leafKnown row.opcode = true ∧ row.allows h.length.toNat = true ∧ h.length.toNat ≤
      4096 ∧ h.flags &&& 0xF1 = 0 ∧ (h.transport.val < 6 ∨ h.flags.getLsbD 1 = false) ∧ s.ctl.mode = .m10 ∧ row.inHalt = false) ∧
    (∃ (s : State) (row : LeafRow) (h : LeafHdr), leafKnown row.opcode = true ∧ row.allows h.length.toNat = true ∧ h.length.toNat ≤
      4096 ∧ h.flags &&& 0xF1 = 0 ∧ (h.transport.val < 6 ∨ h.flags.getLsbD 1 = false) ∧ s.ctl.mode ≠ .m10 ∧ s.owns row.owner
      (requesterOf h.transport.val) = false) ∧
    (∃ (s : State) (row : LeafRow) (h : LeafHdr) (p : List Byte), leafKnown row.opcode = true ∧ row.allows h.length.toNat = true ∧
      h.length.toNat ≤ 4096 ∧ h.flags &&& 0xF1 = 0 ∧ (h.transport.val < 6 ∨ h.flags.getLsbD 1 = false) ∧ s.ctl.mode ≠ .m10 ∧ s.owns
      row.owner (requesterOf h.transport.val) = true ∧ h.length.toNat ≠ p.length) ∧
    (∃ (s : State) (row : LeafRow) (h : LeafHdr) (p : List Byte), leafKnown row.opcode = true ∧ row.allows h.length.toNat = true ∧
      h.length.toNat ≤ 4096 ∧ h.flags &&& 0xF1 = 0 ∧ (h.transport.val < 6 ∨ h.flags.getLsbD 1 = false) ∧ s.ctl.mode ≠ .m10 ∧ s.owns
      row.owner (requesterOf h.transport.val) = true ∧ h.length.toNat = p.length ∧ h.flags.getLsbD 1 = false ∧ h.crc.toNat ≠ crc32c
      (leafHeader row.opcode h.flags 0 h.tag 0 h.length.toNat ++ p)) ∧
    (∃ (s : State) (row : LeafRow) (h : LeafHdr) (p : List Byte), leafKnown row.opcode = true ∧ row.allows h.length.toNat = true ∧
      h.length.toNat ≤ 4096 ∧ h.flags &&& 0xF1 = 0 ∧ (h.transport.val < 6 ∨ h.flags.getLsbD 1 = false) ∧ s.ctl.mode ≠ .m10 ∧ s.owns
      row.owner (requesterOf h.transport.val) = true ∧ h.length.toNat = p.length ∧ (h.flags.getLsbD 1 = true ∨ h.crc.toNat = crc32c
      (leafHeader row.opcode h.flags 0 h.tag 0 h.length.toNat ++ p))) :=
  ⟨⟨srv, rowIdentify.req (inBand []), by decide +kernel⟩,
    ⟨.setEventMask (inBand (leBytes 80 0)) (leBytes 80 0), srv, rowSetEventMask, inBand (leBytes 80 0), leBytes 80 0,
      by decide +kernel⟩,
    ⟨0x0A03, srv, inBand [], [], by decide +kernel⟩,
    ⟨inMode srv .m10, rowSetWallClock, inBand (leBytes 8 0), by decide +kernel⟩,
    ⟨srv, rowSetEventMask, inBand (leBytes 80 0), by decide +kernel⟩,
    ⟨srv, rowIdentify, inBand [], leBytes 8 0, by decide +kernel⟩,
    ⟨srv, rowIdentify, ⟨0, 0, 5, 0, 0, false⟩, [], by decide +kernel⟩,
    ⟨srv, rowIdentify, inBand [], [], by decide +kernel⟩⟩

/-- States and operands that meet the hypotheses of `ReadingLeavesReply`, clause by clause, part 1. -/
theorem witness_ReadingLeavesReply_1 :
    (∃ (s : State) (p : List Byte) (h : LeafHdr), s.admits (.identify h p : Instr) rowIdentify h p = true) ∧
    (∃ (s : State) (p : List Byte) (h : LeafHdr), s.admits (.getStatus h p : Instr) rowGetStatus h p = true) ∧
    (∃ (s : State) (p : List Byte) (h : LeafHdr), s.admits (.getPower h p : Instr) rowGetPower h p = true) ∧
    (∃ (s : State) (p : List Byte) (h : LeafHdr), s.admits (.getWindowGrant h p : Instr) rowGetWindowGrant h p = true) ∧
    (∃ (s : State) (p : List Byte) (h : LeafHdr), s.admits (.getUnit h p : Instr) rowGetUnit h p = true ∧ fieldAt p 1 1 = 0 ∧
      unitExists (fieldAt p 0 1) (fieldAt p 2 2) = true) ∧
    (∃ (s : State) (p : List Byte) (h : LeafHdr), s.admits (.healthReport h p : Instr) rowHealthReport h p = true) ∧
    (∃ (s : State) (p : List Byte) (h : LeafHdr), s.admits (.getMeasurements h p : Instr) rowGetMeasurements h p = true ∧ fieldAt p 0
      1 ≤ 8 ∧ fieldAt p 1 3 = 0) ∧
    (∃ (s : State) (p : List Byte) (h : LeafHdr), s.admits (.getCertificate h p : Instr) rowGetCertificate h p = true ∧ 1 ≤ fieldAt p
      4 2 ∧ fieldAt p 4 2 ≤ 4096 ∧ fieldAt p 6 2 = 0) ∧
    (∃ (s : State) (p : List Byte) (h : LeafHdr), s.admits (.keyStatus h p : Instr) rowKeyStatus h p = true ∧ fieldAt p 0 2 ≤ 4095) ∧
    (∃ (s : State) (p : List Byte) (h : LeafHdr), s.admits (.fwInfo h p : Instr) rowFwInfo h p = true) ∧
    (∃ (k : Nat) (s : State) (p : List Byte) (h : LeafHdr), k < 16 ∧ s.admits (.bulkStatus h p : Instr) rowBulkStatus h p = true ∧
      (s.takeLeaf rowBulkStatus h p).bulkOf (fieldAt p 0 2) = some k) ∧
    (∃ (x : TestRun) (s : State) (p : List Byte) (h : LeafHdr), s.admits (.selftestResult h p : Instr) rowSelftestResult h p = true ∧
      (s.takeLeaf rowSelftestResult h p).test.find? (fun y => y.handle == fieldAt p 0 2) = some x) :=
  ⟨⟨srv, [], inBand ([]), by decide +kernel⟩,
    ⟨srv, [], inBand ([]), by decide +kernel⟩,
    ⟨srv, [], inBand ([]), by decide +kernel⟩,
    ⟨srv, [], inBand ([]), by decide +kernel⟩,
    ⟨srv, [0, 0, 0, 0], inBand ([0, 0, 0, 0]), by decide +kernel⟩,
    ⟨srv, [], inBand ([]), by decide +kernel⟩,
    ⟨srv, [0, 0, 0, 0], inBand ([0, 0, 0, 0]), by decide +kernel⟩,
    ⟨srv, leBytes 4 0 ++ leBytes 2 4096 ++ leBytes 2 0, inBand (leBytes 4 0 ++ leBytes 2 4096 ++ leBytes 2 0), by decide +kernel⟩,
    ⟨srv, leBytes 2 1, inBand (leBytes 2 1), by decide +kernel⟩,
    ⟨srv, [], inBand ([]), by decide +kernel⟩,
    ⟨((((bulking 0 .running).takeLeaf rowBulkStatus (inBand (leBytes 2 1)) (leBytes 2 1)).bulkOf (fieldAt (leBytes 2 1) 0 2)).get
      (by decide +kernel)), bulking 0 .running, leBytes 2 1, inBand (leBytes 2 1), by decide +kernel⟩,
    ⟨((((testing .m5).takeLeaf rowSelftestResult (inBand (leBytes 2 7)) (leBytes 2 7)).test.find? (fun y => y.handle == fieldAt
      (leBytes 2 7) 0 2)).get (by decide +kernel)), testing .m5, leBytes 2 7, inBand (leBytes 2 7), by decide +kernel⟩⟩

/-- States and operands that meet the hypotheses of `ReadingLeavesReply`, clause by clause, part 2. -/
theorem witness_ReadingLeavesReply_2 :
    (∃ (s : State) (p : List Byte) (h : LeafHdr), s.admits (.regRead h p : Instr) rowRegRead h p = true ∧ (s.takeLeaf rowRegRead h
      p).regGate p false = none) ∧
    (∃ (bank die : Nat) (s : State) (p : List Byte) (h : LeafHdr), s.admits (.tallyRead h p : Instr) rowTallyRead h p = true ∧ bank =
      fieldAt p 0 1 ∧ bank ≤ 2 ∧ die = fieldAt p 1 1 ∧ die ≤ 1 ∧ 1 ≤ fieldAt p 4 2 ∧ fieldAt p 4 2 ≤ 768 ∧ fieldAt p 2 2 + fieldAt p
      4 2 ≤ bankSize bank ∧ (s.takeLeaf rowTallyRead h p).tallyOpen (rowTallyRead.req h).who = true) :=
  ⟨⟨srv, leBytes 4 0 ++ leBytes 2 4096 ++ leBytes 2 0, inBand (leBytes 4 0 ++ leBytes 2 4096 ++ leBytes 2 0), by decide +kernel⟩,
    ⟨_, _, srv, [0, 1, 5, 0] ++ leBytes 4 10, inBand ([0, 1, 5, 0] ++ leBytes 4 10), by decide +kernel, rfl, by decide +kernel, rfl,
      by decide +kernel, by decide +kernel, by decide +kernel, by decide +kernel, by decide +kernel⟩⟩

/-- States and operands that meet the hypotheses of `SettingLeaves`, clause by clause. -/
theorem witness_SettingLeaves :
    (∃ (s : State) (p : List Byte) (h : LeafHdr), s.admits (.setWallClock h p : Instr) rowSetWallClock h p = true) ∧
    (∃ (s : State) (p : List Byte) (h : LeafHdr), s.admits (.setEventMask h p : Instr) rowSetEventMask h p = true) ∧
    (∃ (s : State) (p : List Byte) (h : LeafHdr), s.admits (.setWindowGrant h p : Instr) rowSetWindowGrant h p = true ∧ fieldAt p 0 1
      < 128 ∧ fieldAt p 1 1 < 128 ∧ fieldAt p 1 1 &&& fieldAt p 0 1 = fieldAt p 1 1 ∧ fieldAt p 2 6 = 0) ∧
    (∃ (s : State) (p : List Byte) (h : LeafHdr), s.admits (.locate h p : Instr) rowLocate h p = true ∧ fieldAt p 0 4 ≤ 1) ∧
    (∃ (s : State) (on : Bool), ¬(s.reg Reg.PIN_LED.LOCATE = 1 ↔ on = true)) ∧
    (∃ (d : Nat) (s : State) (p : List Byte) (h : LeafHdr), s.admits (.tallySample h p : Instr) rowTallySample h p = true ∧ d =
      fieldAt p 0 1 ∧ d ≤ 1 ∧ fieldAt p 1 1 ≤ 2 ∧ sampleEventOk (fieldAt p 2 2) = true ∧ (s.takeLeaf rowTallySample h
      p).tallyWritable = true) ∧
    (∃ (z : Nat) (s : State) (p : List Byte) (h : LeafHdr), s.admits (.qstPassword h p : Instr) rowQstPassword h p = true ∧ z =
      fieldAt p 0 1 ∧ z < 2 ∧ fieldAt p 1 1 ≤ 1 ∧ fieldAt p 2 6 = 0 ∧ (s.takeLeaf rowQstPassword h p).lockedOut z = false ∧ admits
      ((s.takeLeaf rowQstPassword h p).password z true) (fieldAt p 8 8) = true) ∧
    (∃ (s : State) (z y : Nat), s.canonical = true ∧ z < 2 ∧ y ≠ z) ∧
    (∃ (s : State) (p : List Byte) (h : LeafHdr), s.admits (.tallyConfig h p : Instr) rowTallyConfig h p = true ∧ fieldAt p 0 1 ≤ 1 ∧
      fieldAt p 1 1 = 0 ∧ p.length = 4 + 16 * fieldAt p 2 2 ∧ (∀ k < fieldAt p 2 2, fieldAt p (8 + 16 * k) 4 = 0) ∧ (∀ e ∈
      tallyEntries p, e.1 % 8 = 0 ∧ e.1 < 65536) ∧ (s.takeLeaf rowTallyConfig h p).tallyWritable = true) ∧
    (∃ (s : State) (p : List Byte) (h : LeafHdr), s.admits (.regWrite h p : Instr) rowRegWrite h p = true ∧ (s.takeLeaf rowRegWrite h
      p).regGate p true = none) :=
  ⟨⟨srv, leBytes 8 0, inBand (leBytes 8 0), by decide +kernel⟩,
    ⟨inMode srv .m1, leBytes 80 3, byPm rowSetEventMask (leBytes 80 3), by decide +kernel⟩,
    ⟨srv, leBytes 8 0, inBand (leBytes 8 0), by decide +kernel⟩,
    ⟨srv, [0, 0, 0, 0], inBand ([0, 0, 0, 0]), by decide +kernel⟩,
    ⟨srv, true, by decide +kernel⟩,
    ⟨_, srv, leBytes 8 0, inBand (leBytes 8 0), by decide +kernel, rfl, by decide +kernel, by decide +kernel, by decide +kernel,
      by decide +kernel⟩,
    ⟨_, srv, [1, 1, 0, 0, 0, 0, 0, 0] ++ leBytes 8 0 ++ leBytes 8 77, inBand ([1, 1, 0, 0, 0, 0, 0, 0] ++ leBytes 8 0 ++ leBytes 8
      77), by decide +kernel, rfl, by decide +kernel, by decide +kernel, by decide +kernel, by decide +kernel, by decide +kernel⟩,
    ⟨srv, 0, 1, by decide +kernel⟩,
    ⟨srv, [0, 0, 0, 0], inBand ([0, 0, 0, 0]), by decide +kernel⟩,
    ⟨srv, leBytes 4 0x830000 ++ leBytes 4 1 ++ leBytes 8 5, inBand (leBytes 4 0x830000 ++ leBytes 4 1 ++ leBytes 8 5),
      by decide +kernel⟩⟩

/-- States and operands that meet the hypotheses of `SystemLeaves`, clause by clause, part 1. -/
theorem witness_SystemLeaves_1 :
    (∃ (s : State) (p : List Byte) (h : LeafHdr), s.admits (.setLatencyTolerance h p : Instr) rowSetLatencyTolerance h p = true) ∧
    (∃ (s : State) (p : List Byte) (h : LeafHdr), s.admits (.powerRequestOff h p : Instr) rowPowerRequest h p = true ∧ fieldAt p 0 4
      = 0 ∧ (s.takeLeaf rowPowerRequest h p).ctl.mode ∈ [.m2, .m3, .m4, .m5, .m6]) ∧
    (∃ (s : State) (p : List Byte) (h : LeafHdr), s.admits (.powerRequestOff h p : Instr) rowPowerRequest h p = true ∧ fieldAt p 0 4
      = 0 ∧ (s.takeLeaf rowPowerRequest h p).ctl.mode = .m9) ∧
    (∃ (s : State) (p : List Byte) (h : LeafHdr), s.admits (.powerRequestOff h p : Instr) rowPowerRequest h p = true ∧ fieldAt p 0 4
      = 0 ∧ (s.takeLeaf rowPowerRequest h p).ctl.mode = .m1) ∧
    (∃ (s : State), s.reg Reg.MOD_REQUEST.ON_PENDING = 0 ∧ s.ctl.afterPourOff = false) ∧
    (∃ (s : State) (p : List Byte) (h : LeafHdr), s.admits (.powerRequestOn h p : Instr) rowPowerRequest h p = true ∧ fieldAt p 0 4 =
      1 ∧ (s.takeLeaf rowPowerRequest h p).ctl.mode ∈ [.m2, .m3, .m4, .m5, .m6]) ∧
    (∃ (s : State) (p : List Byte) (h : LeafHdr), s.admits (.powerRequestOn h p : Instr) rowPowerRequest h p = true ∧ fieldAt p 0 4 =
      1 ∧ (s.takeLeaf rowPowerRequest h p).ctl.mode = .m9) ∧
    (∃ (s : State) (p : List Byte) (h : LeafHdr), s.admits (.powerRequestOn h p : Instr) rowPowerRequest h p = true ∧ fieldAt p 0 4 =
      1 ∧ (s.takeLeaf rowPowerRequest h p).ctl.mode = .m1 ∧ (s.takeLeaf rowPowerRequest h p).ctl.p12 = true ∧ (s.takeLeaf
      rowPowerRequest h p).reg Reg.PIN_LEVEL.PWRDIS = 0) ∧
    (∃ (s : State) (p : List Byte) (h : LeafHdr), s.admits (.powerRequestOn h p : Instr) rowPowerRequest h p = true ∧ fieldAt p 0 4 =
      1 ∧ (s.takeLeaf rowPowerRequest h p).ctl.mode = .m8 ∧ (s.takeLeaf rowPowerRequest h p).reg Reg.POUR_STATUS.CAUSE ≠ 3) ∧
    (∃ (s : State) (p : List Byte) (h : LeafHdr), s.admits (.warmReset h p : Instr) rowWarmReset h p = true ∧ (s.takeLeaf
      rowWarmReset h p).ctl.mode ∈ [.m2, .m3, .m4, .m5, .m6]) ∧
    (∃ (s : State) (p : List Byte) (h : LeafHdr), s.admits (.warmReset h p : Instr) rowWarmReset h p = true ∧ (s.takeLeaf
      rowWarmReset h p).ctl.mode = .m9) ∧
    (∃ (s : State) (p : List Byte) (h : LeafHdr), s.admits (.warmReset h p : Instr) rowWarmReset h p = true ∧ (s.takeLeaf
      rowWarmReset h p).ctl.mode = .m1) :=
  ⟨⟨srv, [0, 0, 0, 0], inBand ([0, 0, 0, 0]), by decide +kernel⟩,
    ⟨srv, [0, 0, 0, 0], inBand ([0, 0, 0, 0]), by decide +kernel⟩,
    ⟨inMode srv .m9, [0, 0, 0, 0], byPm rowPowerRequest ([0, 0, 0, 0]),
      by unfold State.admits State.arrives State.takeLeaf; rw [adapter_pm (inMode srv .m9) rowPowerRequest (byPm rowPowerRequest ([0, 0, 0, 0])) ([0, 0, 0, 0]) (by decide +kernel) rfl rfl rfl (by decide +kernel)]; decide +kernel⟩,
    ⟨inMode srv .m1, [0, 0, 0, 0], byPm rowPowerRequest ([0, 0, 0, 0]), by decide +kernel⟩,
    ⟨srv, by decide +kernel⟩,
    ⟨srv, [1, 0, 0, 0], inBand ([1, 0, 0, 0]), by decide +kernel⟩,
    ⟨inMode srv .m9, [1, 0, 0, 0], byPm rowPowerRequest ([1, 0, 0, 0]),
      by unfold State.admits State.arrives State.takeLeaf; rw [adapter_pm (inMode srv .m9) rowPowerRequest (byPm rowPowerRequest ([1, 0, 0, 0])) ([1, 0, 0, 0]) (by decide +kernel) rfl rfl rfl (by decide +kernel)]; decide +kernel⟩,
    ⟨inMode srv .m1, [1, 0, 0, 0], byPm rowPowerRequest ([1, 0, 0, 0]), by decide +kernel⟩,
    ⟨inMode srv .m8, [1, 0, 0, 0], inBand ([1, 0, 0, 0]), by decide +kernel⟩,
    ⟨srv, [], inBand ([]), by decide +kernel⟩,
    ⟨inMode srv .m9, [], byPm rowWarmReset ([]),
      by unfold State.admits State.arrives State.takeLeaf; rw [adapter_pm (inMode srv .m9) rowWarmReset (byPm rowWarmReset ([])) ([]) (by decide +kernel) rfl rfl rfl (by decide +kernel)]; decide +kernel⟩,
    ⟨inMode srv .m1, [], byPm rowWarmReset ([]), by decide +kernel⟩⟩

/-- States and operands that meet the hypotheses of `SystemLeaves`, clause by clause, part 2. -/
theorem witness_SystemLeaves_2 :
    (∃ (s : State) (p : List Byte) (h : LeafHdr), s.admits (.unitOut h p : Instr) rowUnitOut h p = true ∧ fieldAt p 1 1 ≤ 1 ∧ fieldAt
      p 0 1 ≤ 2 ∧ unitExists (fieldAt p 0 1) (fieldAt p 2 2) = true ∧ ((s.takeLeaf rowUnitOut h p).unitOut (fieldAt p 0 1) (fieldAt p
      2 2) (fieldAt p 1 1 == 1)).isSome = true) ∧
    (∃ (pass : Nat) (s : State) (p : List Byte) (h : LeafHdr), s.admits ( .unitReturn h p pass : Instr) rowUnitReturn h p = true ∧
      fieldAt p 1 1 = 0 ∧ fieldAt p 0 1 ≤ 2 ∧ unitExists (fieldAt p 0 1) (fieldAt p 2 2) = true ∧ (s.takeLeaf rowUnitReturn h
      p).runningTest = none) ∧
    (∃ (s : State) (p : List Byte) (h : LeafHdr), s.admits (.removalRequest h p : Instr) rowRemovalRequest h p = true ∧ (s.takeLeaf
      rowRemovalRequest h p).ctl.mode ∈ [.m5, .m6] ∧ (s.takeLeaf rowRemovalRequest h p).reg Reg.PIN_REMOVAL.STATE < 2) ∧
    (∃ (s : State), s.ctl.mode ∈ [.m5, .m6]) :=
  ⟨⟨srv, [0, 0, 0, 0], inBand ([0, 0, 0, 0]), by decide +kernel⟩,
    ⟨0, srv, [0, 0, 0, 0], inBand ([0, 0, 0, 0]), by decide +kernel⟩,
    ⟨srv, [], inBand ([]), by decide +kernel⟩,
    ⟨srv, by decide +kernel⟩⟩

/-- States and operands that meet the hypotheses of `KeySlots`, clause by clause. -/
theorem witness_KeySlots :
    (∃ (k : Nat) (s : State) (p : List Byte) (h : LeafHdr), s.admits (.keyProvision h p : Instr) rowKeyProvision h p = true ∧ k =
      fieldAt p 0 2 ∧ 1 ≤ k ∧ k ≤ 4095 ∧ fieldAt p 2 1 < 4 ∧ fieldAt p 3 5 = 0 ∧ (s.takeLeaf rowKeyProvision h p).slotState k ≠ 1 ∧
      (s.takeLeaf rowKeyProvision h p).slotState k ≠ 2 ∧ ((fieldAt p 2 1).testBit 0 = true → fieldAt p 8 32 = 0 ∧ (s.takeLeaf
      rowKeyProvision h p).drbgBlocked = false)) ∧
    (∃ (k st owner j : Nat), k < 4096 ∧ st < 4 ∧ owner < 4 ∧ j < 4096 ∧ j ≠ k) ∧
    (∃ (s : State) (p : List Byte) (h : LeafHdr), s.admits (.keyProvision h p : Instr) rowKeyProvision h p = true ∧ 1 ≤ fieldAt p 0 2
      ∧ fieldAt p 0 2 ≤ 4095 ∧ fieldAt p 2 1 = 0 ∧ fieldAt p 3 5 = 0 ∧ ((s.takeLeaf rowKeyProvision h p).slotState (fieldAt p 0 2) =
      1 ∨ (s.takeLeaf rowKeyProvision h p).slotState (fieldAt p 0 2) = 2)) ∧
    (∃ (k : Nat) (s : State) (p : List Byte) (h : LeafHdr), s.admits (.keyDestroy h p : Instr) rowKeyDestroy h p = true ∧ k = fieldAt
      p 0 2 ∧ 1 ≤ k ∧ k ≤ 4095 ∧ (s.takeLeaf rowKeyDestroy h p).slotState k ≠ 0 ∧ (s.takeLeaf rowKeyDestroy h p).mayDestroy k
      (rowKeyDestroy.req h).who = true ∧ (s.takeLeaf rowKeyDestroy h p).destroying k = false) ∧
    (∃ (s : State) (d : Destroy), 1 ≤ d.slot ∧ d.slot < 4096 ∧ d.bulk = none ∧ s.sweeping d.slot = false ∧ s.destroying d.slot =
      false ∧ s.sec.destroys.all (fun x => x.slot != d.slot) = true ∧ s.slotRegions d.slot = []) ∧
    (∃ (s : State) (d : Destroy) (g : Nat × Nat × Nat × Nat), 1 ≤ d.slot ∧ d.slot < 4096 ∧ d.bulk = none ∧ s.sweeping d.slot = false
      ∧ s.destroying d.slot = false ∧ s.sec.destroys.all (fun x => x.slot != d.slot) = true ∧ s.slotRegions d.slot ≠ [] ∧ g ∈
      s.slotRegions d.slot) ∧
    (∃ (i : Nat) (s : State) (p : List Byte) (h : LeafHdr), s.admits (.rangeWrite h p : Instr) rowRangeWrite h p = true ∧ i = 64 *
      (rowRangeWrite.req h).who + fieldAt p 0 1 ∧ fieldAt p 0 1 ≤ 63 ∧ fieldAt p 1 1 ≤ 1 ∧ (fieldAt p 1 1 = 1 → (s.takeLeaf
      rowRangeWrite h p).rangeRefused (rowRangeWrite.req h).who i (fieldAt p 2 2) (fieldAt p 4 2) (fieldAt p 6 2) = stOk)) ∧
    (∃ (i base size slot : Nat), i < 128 ∧ base < 65536 ∧ size < 65536 ∧ slot < 4096) ∧
    (∃ (s : State), s.running = true) :=
  ⟨⟨_, srv, leBytes 2 2 ++ leBytes 38 0, secured (leBytes 2 2 ++ leBytes 38 0), by decide +kernel, rfl, by decide +kernel,
      by decide +kernel, by decide +kernel, by decide +kernel, by decide +kernel, by decide +kernel, by decide +kernel⟩,
    ⟨0, 0, 0, 1, by decide +kernel⟩,
    ⟨keyed, leBytes 2 1 ++ leBytes 38 0, secured (leBytes 2 1 ++ leBytes 38 0), by decide +kernel⟩,
    ⟨_, keyed, leBytes 2 1, secured (leBytes 2 1), by decide +kernel, rfl, by decide +kernel, by decide +kernel, by decide +kernel,
      by decide +kernel, by decide +kernel⟩,
    ⟨srv, ⟨3, 4, 5, true, 0x0501, none⟩, by decide +kernel⟩,
    ⟨keyed, ⟨1, 4, 5, true, 0x0501, none⟩, (0, 1, 1, 0), by decide +kernel⟩,
    ⟨_, srv, leBytes 8 0, secured (leBytes 8 0), by decide +kernel, rfl, by decide +kernel, by decide +kernel, by decide +kernel⟩,
    ⟨0, 0, 0, 0, by decide +kernel⟩,
    ⟨srv, by decide +kernel⟩⟩

/-- States and operands that meet the hypotheses of `ImagesAndTokens`, clause by clause. -/
theorem witness_ImagesAndTokens :
    (∃ (s : State) (p : List Byte) (h : LeafHdr), s.admits (.scanChallenge h p : Instr) rowScanChallenge h p = true ∧ (s.takeLeaf
      rowScanChallenge h p).drbgBlocked = false) ∧
    (∃ (signed : Bool) (s : State) (p : List Byte) (h : LeafHdr), s.admits ( .scanUnlock h p signed : Instr) rowScanUnlock h p = true
      ∧ (s.takeLeaf rowScanUnlock h p).tokenGood p signed = true ∧ (s.takeLeaf rowScanUnlock h p).drbgBlocked = false ∧ (s.takeLeaf
      rowScanUnlock h p).pour.running = false) ∧
    (∃ (signed : Bool) (s : State) (p : List Byte) (h : LeafHdr), s.admits ( .scanUnlock h p signed : Instr) rowScanUnlock h p = true
      ∧ (s.takeLeaf rowScanUnlock h p).tokenGood p signed = true ∧ (s.takeLeaf rowScanUnlock h p).drbgBlocked = false ∧ (s.takeLeaf
      rowScanUnlock h p).pour.running = true) ∧
    (∃ (signed : Bool) (s : State) (p : List Byte) (h : LeafHdr), s.admits ( .scanUnlock h p signed : Instr) rowScanUnlock h p = true
      ∧ (s.takeLeaf rowScanUnlock h p).tokenGood p signed = false) ∧
    (∃ (v : ImageVerdict) (s : State) (p : List Byte) (h : LeafHdr), s.admits ( .fwTransfer h p v : Instr) rowFwTransfer h p = true ∧
      imagePiece (fieldAt p 0 4) (p.length - 8) (fieldAt p 4 4) = true ∧ ((s.takeLeaf rowFwTransfer h p).takeImage (fieldAt p 0 4)
      (p.length - 8) (fieldAt p 4 4) v).2 = false) ∧
    (∃ (v : ImageVerdict) (s : State) (p : List Byte) (h : LeafHdr), s.admits ( .fwTransfer h p v : Instr) rowFwTransfer h p = true ∧
      imagePiece (fieldAt p 0 4) (p.length - 8) (fieldAt p 4 4) = true ∧ ((s.takeLeaf rowFwTransfer h p).takeImage (fieldAt p 0 4)
      (p.length - 8) (fieldAt p 4 4) v).2 = true) ∧
    (∃ (s : State) (offset n length : Nat) (v : ImageVerdict), (s.takeImage offset n length v).2 = true) ∧
    (∃ (s : State) (offset n length : Nat), s.imageFollows offset length = true ∧ offset + n < length) ∧
    (∃ (s : State) (offset n length svn : Nat), s.imageFollows offset length = true ∧ length ≤ offset + n ∧
      s.reg Reg.SEC_FW.SVN_FUSED ≤ svn % 256) ∧
    (∃ (verified : Bool) (s : State) (p : List Byte) (h : LeafHdr), s.admits ( .fwActivate h p verified : Instr) rowFwActivate h p =
      true ∧ (s.takeLeaf rowFwActivate h p).mayActivate verified = false) ∧
    (∃ (verified : Bool) (s : State) (p : List Byte) (h : LeafHdr), s.admits ( .fwActivate h p verified : Instr) rowFwActivate h p =
      true ∧ (s.takeLeaf rowFwActivate h p).mayActivate verified = true ∧ (s.takeLeaf rowFwActivate h p).ctl.mode ≠ .m9) ∧
    (∃ (verified : Bool) (s : State) (p : List Byte) (h : LeafHdr), s.admits ( .fwActivate h p verified : Instr) rowFwActivate h p =
      true ∧ (s.takeLeaf rowFwActivate h p).mayActivate verified = true ∧ (s.takeLeaf rowFwActivate h p).ctl.mode = .m9) ∧
    (∃ (s : State), s.ctl.mode = .m5 ∧ s.mapping.walks = []) ∧
    (∃ (s : State) (p : List Byte) (h : LeafHdr), s.admits (.svnCommit h p : Instr) rowSvnCommit h p = true ∧ ((s.takeLeaf
      rowSvnCommit h p).fwSlot (1 - (s.takeLeaf rowSvnCommit h p).fwRuns)).valid = true ∧ (s.takeLeaf rowSvnCommit h p).reg
      Reg.SEC_FW.SVN_RUNNING ≤ ((s.takeLeaf rowSvnCommit h p).fwSlot (1 - (s.takeLeaf rowSvnCommit h p).fwRuns)).svn) :=
  ⟨⟨srv, [], inBand ([]), by decide +kernel⟩,
    ⟨true, challenged 0x11, leBytes 4 1 ++ leBytes 8 7 ++ leBytes 134 0x11, inBand (leBytes 4 1 ++ leBytes 8 7 ++ leBytes 134 0x11),
      by decide +kernel⟩,
    ⟨true, challengedPour, leBytes 4 1 ++ leBytes 8 7 ++ leBytes 134 0x11, inBand (leBytes 4 1 ++ leBytes 8 7 ++ leBytes 134 0x11),
      by decide +kernel⟩,
    ⟨true, srv, List.replicate 146 0, inBand (List.replicate 146 0), by decide +kernel⟩,
    ⟨.partly, srv, leBytes 4 0 ++ leBytes 4 100 ++ [1, 2, 3], inBand (leBytes 4 0 ++ leBytes 4 100 ++ [1, 2, 3]), by decide +kernel⟩,
    ⟨.refused, srv, leBytes 4 0 ++ leBytes 4 3 ++ [1, 2, 3], inBand (leBytes 4 0 ++ leBytes 4 3 ++ [1, 2, 3]), by decide +kernel⟩,
    ⟨srv, 0, 0, 0, .refused, by decide +kernel⟩,
    ⟨srv, 0, 8, 16, by decide +kernel⟩,
    ⟨srv, 0, 8, 8, 0, by decide +kernel⟩,
    ⟨true, srv, [], inBand ([]), by decide +kernel⟩,
    ⟨true, twoImages .m5, [], inBand ([]), by decide +kernel⟩,
    ⟨true, twoImages .m9, [], byPm rowFwActivate ([]),
      by unfold State.admits State.arrives State.takeLeaf; rw [adapter_pm (twoImages .m9) rowFwActivate (byPm rowFwActivate ([])) ([]) (by decide +kernel) rfl rfl rfl (by decide +kernel)]; decide +kernel⟩,
    ⟨srv, by decide +kernel⟩,
    ⟨twoImages .m5, [], inBand ([]), by decide +kernel⟩⟩

/-- States and operands that meet the hypotheses of `BulkOperations`, clause by clause. -/
theorem witness_BulkOperations :
    (∃ (leaf : LeafHdr → List Byte → Instr) (op : Nat), (op = 0 ∧ leaf = .zero) ∨ (op = 1 ∧ leaf = .fill) ∨ (op = 2 ∧ leaf = .copy) ∨
      (op = 3 ∧ leaf = .check) ∨ (op = 4 ∧ leaf = .compare)) ∧
    (∃ (k : Nat) (s : State) (p : List Byte) (h : LeafHdr), s.admits (.eraseKey h p : Instr) rowBulkStart h p = true ∧ descOp p = 5 ∧
      securedTransport (rowBulkStart.req h).transport = true ∧ descBad p = false ∧ (s.takeLeaf rowBulkStart h p).mayDestroy (fieldAt
      p 32 2) (rowBulkStart.req h).who = true ∧ (s.takeLeaf rowBulkStart h p).slotState (fieldAt p 32 2) ≠ 0 ∧ (s.takeLeaf
      rowBulkStart h p).destroying (fieldAt p 32 2) = false ∧ (s.takeLeaf rowBulkStart h p).bulkSlot = some k) ∧
    (∃ (k : Nat) (s : State) (p : List Byte) (h : LeafHdr), s.admits (.bulkAbort h p : Instr) rowBulkAbort h p = true ∧ (s.takeLeaf
      rowBulkAbort h p).bulkOf (fieldAt p 0 2) = some k ∧ ((rowBulkAbort.req h).who = ((s.takeLeaf rowBulkAbort h p).bulkAt k).origin
      ∨ (rowBulkAbort.req h).who = 2 ∨ (rowBulkAbort.req h).who = (s.takeLeaf rowBulkAbort h p).primary) ∧ ((s.takeLeaf rowBulkAbort
      h p).bulkAt k).state ≠ .ended ∧ ((s.takeLeaf rowBulkAbort h p).bulkAt k).op ≠ 5) ∧
    (∃ (s : State) (k j : Nat), s.canonical = true ∧ k < 16 ∧ j ≠ k) ∧
    (∃ (s : State) (k : Fin 16), let b := s.bulkAt k.val; s.inService = true ∧ (s.bulkAt k.val).state = .running ∧ b.op = 5) ∧
    (∃ (s : State) (k : Fin 16), let b := s.bulkAt k.val; s.inService = true ∧ (s.bulkAt k.val).state = .running ∧ b.op ≠ 5 ∧
      b.zeroing = true) ∧
    (∃ (s : State) (k : Fin 16), let b := s.bulkAt k.val; s.inService = true ∧ (s.bulkAt k.val).state = .running ∧ b.op ≠ 5 ∧ b.zeroing = false ∧
      b.sent = true) ∧
    (∃ (s : State) (k : Fin 16), let b := s.bulkAt k.val; s.inService = true ∧ (s.bulkAt k.val).state = .running ∧ b.zeroing = false ∧ b.sent = false
      ∧ b.op = 1) ∧
    (∃ (s : State) (k : Fin 16) (sheets : List SheetOutcome), let b := s.bulkAt k.val; let oa : Nat → SheetOutcome := (fun n =>
      sheets[n]?.getD .good); let qb := b.b + b.done; s.inService = true ∧ (s.bulkAt k.val).state = .running ∧ b.zeroing = false ∧ b.sent = false ∧
      b.op = 2 ∧ (s.chanLost (chanOf qb) = true ∨ s.tagFails qb oa = none)) ∧
    (∃ (s : State) (k : Fin 16) (sheets : List SheetOutcome), let b := s.bulkAt k.val; let oa : Nat → SheetOutcome := (fun n =>
      sheets[n]?.getD .good); let qa := b.a + b.done; s.inService = true ∧ (s.bulkAt k.val).state = .running ∧ b.zeroing = false ∧ b.sent = false ∧
      b.op = 3 ∧ (s.chanLost (chanOf qa) = true ∨ s.tagFails qa oa = none)) ∧
    (∃ (s : State) (k : Fin 16) (sheets : List SheetOutcome), let b := s.bulkAt k.val; let oa : Nat → SheetOutcome := (fun n =>
      sheets[n]?.getD .good); let ob : Nat → SheetOutcome := (fun n => sheets[4 + n]?.getD .good); let qa := b.a + b.done; let qb :=
      b.b + b.done; s.inService = true ∧ (s.bulkAt k.val).state = .running ∧ b.zeroing = false ∧ b.sent = false ∧ b.op = 4 ∧ (s.chanLost (chanOf qa) =
      true ∨ s.tagFails qa oa = none) ∧ (s.chanLost (chanOf qb) = true ∨ s.tagFails qb ob = none)) ∧
    (∃ (s : State) (k : Fin 16) (sheets : List SheetOutcome) (n : Nat), let b := s.bulkAt k.val; let oa : Nat → SheetOutcome := (fun
      n => sheets[n]?.getD .good); let qb := b.b + b.done; s.inService = true ∧ (s.bulkAt k.val).state = .running ∧ b.zeroing = false ∧ b.sent = false
      ∧ b.op = 2 ∧ s.chanLost (chanOf qb) = false ∧ s.tagFails qb oa = some n) ∧
    (∃ (s : State) (k q : Nat), s.canonical = true ∧ k < 16 ∧ s.wtWaits q = true) ∧
    (∃ (s : State) (k q : Nat), s.canonical = true ∧ k < 16 ∧ s.wtWaits q = false) :=
  ⟨⟨.zero, 0, .inl ⟨rfl, rfl⟩⟩,
    ⟨(((keyed.takeLeaf rowBulkStart (secured (bulkPayload 5)) (bulkPayload 5)).bulkSlot).get (by decide +kernel)), keyed, bulkPayload
      5, secured (bulkPayload 5), by decide +kernel⟩,
    ⟨((((bulking 0 .running).takeLeaf rowBulkAbort (inBand (leBytes 2 1)) (leBytes 2 1)).bulkOf (fieldAt (leBytes 2 1) 0 2)).get
      (by decide +kernel)), bulking 0 .running, leBytes 2 1, inBand (leBytes 2 1), by decide +kernel⟩,
    ⟨srv, 0, 1, by decide +kernel⟩,
    ⟨bulking 5 .running, 0, by decide +kernel⟩,
    ⟨bulking 0 .running, 0, by decide +kernel⟩,
    ⟨{ bulking 1 .running with bulk := { anOp 1 .running with sent := true } :: List.replicate 15 BulkOp.free }, 0, by decide +kernel⟩,
    ⟨bulking 1 .running, 0, by decide +kernel⟩,
    ⟨bulking 2 .running, 0, [], by decide +kernel⟩,
    ⟨bulking 3 .running, 0, [], by decide +kernel⟩,
    ⟨bulking 4 .running, 0, [], by decide +kernel⟩,
    ⟨copying, 0, [.tagBad], 0, by decide +kernel⟩,
    ⟨{ srv with path := { srv.path with staged := [⟨0, 5, Block16.empty, false, false, true, []⟩] } }, 0, 5, by decide +kernel⟩,
    ⟨srv, 0, 5, by decide +kernel⟩⟩

/-- States and operands that meet the hypotheses of `SelfTestSlices`, clause by clause. -/
theorem witness_SelfTestSlices :
    (∃ (mask : Nat) (l : List Nat) (s : State) (p : List Byte) (h : LeafHdr), s.admits (.selftestRun h p : Instr) rowSelftestRun h p
      = true ∧ mask = fieldAt p 0 8 ∧ l = (List.range 33).filter (fun k => mask.testBit k) ∧ l ≠ [] ∧ mask < 2 ^ 33 ∧ (s.takeLeaf
      rowSelftestRun h p).runningTest = none ∧ ((s.takeLeaf rowSelftestRun h p).ctl.mode = .m9 ∨ ((s.takeLeaf rowSelftestRun h
      p).ctl.mode ∈ [.m5, .m6] ∧ ∀ k ∈ safeSlices, k ∉ l))) ∧
    (∃ (s : State) (r : SliceResult) (run : TestRun), s.runningTest = some run ∧ s.enginesOn = true ∧ s.slicesNow.contains
      r.slice.val = true ∧ s.held = [] ∧ s.ctl.mode ≠ .m3 ∧ r.units = []) ∧
    (∃ (s : State) (r : SliceResult) (run : TestRun), s.runningTest = some run ∧ s.enginesOn = true ∧ s.slicesNow.contains
      r.slice.val = true ∧ s.ctl.mode = .m3 ∧ (s.endSlice run r).2 = 3) ∧
    (∃ (s : State) (k : Fin 33) (run : TestRun), s.runningTest = some run ∧ s.ctl.mode = .m3 ∧ s.slicesNow.contains k.val = true) :=
  ⟨⟨1, [0], srv, leBytes 8 1, inBand (leBytes 8 1), by decide +kernel⟩,
    ⟨testing .m5, ⟨0, [], false, 10, 20⟩, (((testing .m5).runningTest).get (by decide +kernel)), by decide +kernel⟩,
    ⟨testing16, ⟨16, [], true, 10, 20⟩, ((testing16.runningTest).get (by decide +kernel)), by decide +kernel⟩,
    ⟨testing .m3, 0, (((testing .m3).runningTest).get (by decide +kernel)), by decide +kernel⟩⟩

/-- States and operands that meet the hypotheses of `ReamAndStore`, clause by clause, part 1. -/
theorem witness_ReamAndStore_1 :
    (∃ (k : Nat) (s : State) (p : List Byte) (h : LeafHdr), s.admits (.reamRead h p : Instr) rowReamRead h p = true ∧ k = readerOf
      (rowReamRead.req h).who ∧ fieldAt p 0 1 = 0 ∧ fieldAt p 1 3 = 0 ∧ 1 ≤ fieldAt p 4 4 ∧ fieldAt p 4 4 ≤ 65536) ∧
    (∃ (k : Nat) (s : State) (p : List Byte) (h : LeafHdr), s.admits (.reamRewindToMark h p : Instr) rowReamRead h p = true ∧ k =
      readerOf (rowReamRead.req h).who ∧ fieldAt p 0 1 = 1 ∧ fieldAt p 1 3 = 0) ∧
    (∃ (k : Nat) (s : State) (p : List Byte) (h : LeafHdr), s.admits (.reamSetMark h p : Instr) rowReamRead h p = true ∧ k = readerOf
      (rowReamRead.req h).who ∧ fieldAt p 0 1 = 2 ∧ fieldAt p 1 3 = 0) ∧
    (∃ (s : State) (u : Nat), u < 2 ∧ s.mirrored = false) ∧
    (∃ (s : State) (u : Nat), u < 2 ∧ s.mirrored = true) ∧
    (∃ (s : State) (u : Nat), u < 2 ∧ s.rd Reg.REAM_GAP.GAP 0 u = 0) ∧
    (∃ (s : State), s.running = true ∧ s.ctl.mode ≠ .m2) ∧
    (∃ (s : State) (p : List Byte) (h : LeafHdr), s.admits (.qstRead h p : Instr) rowQstRead h p = true ∧ qstFieldsOk p = true ∧
      fieldAt p 0 1 = 2 ∧ sealedPage (qstPage p) = false) ∧
    (∃ (s : State) (p : List Byte) (h : LeafHdr), s.admits (.qstRead h p : Instr) rowQstRead h p = true ∧ qstFieldsOk p = true ∧
      fieldAt p 0 1 = 2 ∧ sealedPage (qstPage p) = true) ∧
    (∃ (s : State) (p : List Byte) (h : LeafHdr), s.admits (.qstWrite h p : Instr) rowQstWrite h p = true ∧ qstFieldsOk p = true ∧
      fieldAt p 0 1 = 2 ∧ fieldAt p 5 2 = (p.drop 16).length) ∧
    (∃ (z : Nat) (s : State) (p : List Byte) (h : LeafHdr), z < 2 ∧ s.admits (.qstRead h p : Instr) rowQstRead h p = true ∧
      qstFieldsOk p = true ∧ fieldAt p 0 1 = z ∧ (s.takeLeaf rowQstRead h p).lockedOut z = false ∧ admits ((s.takeLeaf rowQstRead h
      p).password z false) (fieldAt p 8 8) = true) ∧
    (∃ (z : Nat) (s : State) (p : List Byte) (h : LeafHdr), z < 2 ∧ s.admits (.qstRead h p : Instr) rowQstRead h p = true ∧
      qstFieldsOk p = true ∧ fieldAt p 0 1 = z ∧ (s.takeLeaf rowQstRead h p).lockedOut z = false ∧ admits ((s.takeLeaf rowQstRead h
      p).password z false) (fieldAt p 8 8) = false) :=
  ⟨⟨_, srv, leBytes 4 0 ++ leBytes 2 4096 ++ leBytes 2 0, inBand (leBytes 4 0 ++ leBytes 2 4096 ++ leBytes 2 0), by decide +kernel,
      rfl, by decide +kernel, by decide +kernel, by decide +kernel, by decide +kernel⟩,
    ⟨_, srv, leBytes 8 1, inBand (leBytes 8 1), by decide +kernel, rfl, by decide +kernel, by decide +kernel⟩,
    ⟨_, srv, leBytes 8 2, inBand (leBytes 8 2), by decide +kernel, rfl, by decide +kernel, by decide +kernel⟩,
    ⟨srv, 0, by decide +kernel⟩,
    ⟨inMode srv .m9, 0, by decide +kernel⟩,
    ⟨srv, 0, by decide +kernel⟩,
    ⟨srv, by decide +kernel⟩,
    ⟨srv, [2, 0, 128, 12, 0, 0, 1, 0] ++ leBytes 8 0, inBand ([2, 0, 128, 12, 0, 0, 1, 0] ++ leBytes 8 0), by decide +kernel⟩,
    ⟨srv, [2, 0, 0, 0, 0, 0, 1, 0] ++ leBytes 8 0, inBand ([2, 0, 0, 0, 0, 0, 1, 0] ++ leBytes 8 0), by decide +kernel⟩,
    ⟨srv, [2, 0, 0, 1, 0, 1, 0, 0] ++ leBytes 8 0 ++ [9], inBand ([2, 0, 0, 1, 0, 1, 0, 0] ++ leBytes 8 0 ++ [9]), by decide +kernel⟩,
    ⟨_, srv, [0, 0, 0, 0, 0, 0, 1, 0] ++ leBytes 8 0, inBand ([0, 0, 0, 0, 0, 0, 1, 0] ++ leBytes 8 0), by decide +kernel,
      by decide +kernel, by decide +kernel, rfl, by decide +kernel, by decide +kernel⟩,
    ⟨_, sevenWrong, [1, 0, 0, 0, 0, 0, 1, 0] ++ leBytes 8 0, inBand ([1, 0, 0, 0, 0, 0, 1, 0] ++ leBytes 8 0), by decide +kernel,
      by decide +kernel, by decide +kernel, rfl, by decide +kernel, by decide +kernel⟩⟩

/-- States and operands that meet the hypotheses of `ReamAndStore`, clause by clause, part 2. -/
theorem witness_ReamAndStore_2 :
    (∃ (z : Nat) (s : State) (p : List Byte) (h : LeafHdr), z < 2 ∧ s.admits (.qstRead h p : Instr) rowQstRead h p = true ∧
      qstFieldsOk p = true ∧ fieldAt p 0 1 = z ∧ (s.takeLeaf rowQstRead h p).lockedOut z = true) ∧
    (∃ (z : Nat) (s : State) (p : List Byte) (h : LeafHdr), z < 2 ∧ s.admits (.qstWrite h p : Instr) rowQstWrite h p = true ∧
      qstFieldsOk p = true ∧ fieldAt p 0 1 = z ∧ fieldAt p 5 2 = (p.drop 16).length ∧ (s.takeLeaf rowQstWrite h p).lockedOut z =
      false ∧ admits ((s.takeLeaf rowQstWrite h p).password z true) (fieldAt p 8 8) = true) ∧
    (∃ (z : Nat) (s : State), z < 2 ∧ s.rd Reg.QST_PW.FAILS 0 z = 7) ∧
    (∃ (s u : State) (plane : Fin 4) (w : QstWrite), s.planeWrite plane.val = some w ∧ u =
      { s with qst := { s.qst with queue := dropFirst (fun x => x.page % 4 == plane.val) s.qst.queue } }) ∧
    (∃ (b : List Byte), b.length ≤ 256) :=
  ⟨⟨_, put sevenWrong [(Reg.QST_STATUS.LOCKOUT, 0, 0, 2)], [1, 0, 0, 0, 0, 0, 1, 0] ++ leBytes 8 0, inBand ([1, 0, 0, 0, 0, 0, 1, 0]
      ++ leBytes 8 0), by decide +kernel, by decide +kernel, by decide +kernel, rfl, by decide +kernel⟩,
    ⟨_, srv, [1, 0, 0, 0, 0, 1, 0, 0] ++ leBytes 8 0 ++ [9], inBand ([1, 0, 0, 0, 0, 1, 0, 0] ++ leBytes 8 0 ++ [9]),
      by decide +kernel, by decide +kernel, by decide +kernel, rfl, by decide +kernel, by decide +kernel, by decide +kernel⟩,
    ⟨1, sevenWrong, by decide +kernel⟩,
    ⟨full, _, 1, aWrite, by decide +kernel, rfl⟩,
    ⟨[], by decide +kernel⟩⟩

/-- States and operands that meet the hypotheses of `WindowOpensByGrant`, clause by clause. -/
theorem witness_WindowOpensByGrant :
    (∃ (s : State) (h : Fin 2) (off size : Nat), s.ioUp h.val = true ∧ s.barOpens h.val off size false = true) ∧
    (∃ (s : State) (h : Fin 2) (off size : Nat), s.ioUp h.val = true ∧ s.barOpens h.val off size false = false) ∧
    (∃ (s : State) (h : Fin 2) (off size : Nat), s.ioUp h.val = true ∧ s.barOpens h.val off size true = true) ∧
    (∃ (s : State) (h : Fin 2) (off size : Nat), s.ioUp h.val = true ∧ s.barOpens h.val off size true = false) ∧
    (∃ (s : State) (h off size : Nat), (h ≠ s.primary ∨ (size ≠ 4 ∧ size ≠ 8) ∨ off % size ≠ 0 ∨ regionOf off = none)) ∧
    (∃ (off : Nat), placeOf off = .empty) ∧
    (∃ (f : Field) (d : Nat), d < 2 ∧ (d = 0 ∨ f.scope ≠ .die0) ∧ 0 < f.width ∧ f.acc = .rw) ∧
    (∃ (s : State) (f : Field) (d i : Nat), d < 2 ∧ (d = 0 ∨ f.scope ≠ .die0) ∧ 0 < f.width ∧ f.acc = .rw1c ∧ f.width = 1 ∧ s.rd f d
      i < 2) ∧
    (∃ (f : Field) (d : Nat), d < 2 ∧ (d = 0 ∨ f.scope ≠ .die0) ∧ 0 < f.width ∧ f.acc = .ro) ∧
    (∃ (off bits d o : Nat) (b : Block) (copy : Bool) (f : Field) (i : Nat), placeOf off = .word b d o copy ∧ (f, i) ∈ fieldsAt b (o
      / 8) ∧ f.acc = .rw1c ∧ f.width = 1 ∧ (d = 0 ∨ f.scope ≠ .die0) ∧ bits.testBit (f.bit i % 64) = true) :=
  ⟨⟨srv, 0, 0, 4, by decide +kernel⟩,
    ⟨srv, 0, 0x500000, 4, by decide +kernel⟩,
    ⟨srv, 0, 0, 4, by decide +kernel⟩,
    ⟨srv, 0, 0x500000, 4, by decide +kernel⟩,
    ⟨srv, 0, 0x500000, 4, by decide +kernel⟩,
    ⟨0x500000, by decide +kernel⟩,
    ⟨Reg.CDY_CFG.IDLE_MS, 0, by decide +kernel⟩,
    ⟨srv, Reg.LNK_SRC_ROUTE.ASSERTED, 0, 0, by decide +kernel⟩,
    ⟨Reg.MED_DIE.TEMP, 0, by decide +kernel⟩,
    ⟨0x811000, 2 ^ 64 - 1, 0, 0x1000, .LNK, false, Reg.LNK_SRC_ROUTE.ASSERTED, 0, by decide +kernel⟩⟩

/-- States and operands that meet the hypotheses of `StrainerComputesCrc`, clause by clause. -/
theorem witness_StrainerComputesCrc :
    (∃ (c : StrCfg), 3 ≤ c.width) ∧
    (∃ (n : Nat), 1 ≤ n ∧ n < 16) :=
  ⟨⟨⟨16, 0x1021, 0xFFFF, false, false, false, false⟩, by decide +kernel⟩,
    ⟨1, by decide +kernel⟩⟩

/-- States and operands that meet the hypotheses of `WindowCommands`, clause by clause. -/
theorem witness_WindowCommands :
    (∃ (s : State) (w : BarWho) (die : Fin 2) (n : Fin 16), (∀ o size, o = 0x28 ∨ o = 0x38 → size = 4 ∨ size = 8 → s.barOpens
      w.head.val (strOffset w die.val (64 * n.val + o)) size true = true) ∧ s.ioUp w.head.val = true ∧ n.val < 4) ∧
    (∃ (s : State) (w : BarWho) (die : Fin 2) (n : Fin 16), (∀ o size, o = 0x28 ∨ o = 0x38 → size = 4 ∨ size = 8 → s.barOpens
      w.head.val (strOffset w die.val (64 * n.val + o)) size true = true) ∧ s.ioUp w.head.val = true ∧ 4 ≤ n.val ∧ s.strBusy die.val
      n.val = true) ∧
    (∃ (s : State) (w : BarWho) (die : Fin 2) (n : Fin 16), (∀ o size, o = 0x28 ∨ o = 0x38 → size = 4 ∨ size = 8 → s.barOpens
      w.head.val (strOffset w die.val (64 * n.val + o)) size true = true) ∧ s.ioUp w.head.val = true ∧ 4 ≤ n.val ∧ s.strBusy die.val
      n.val = false) ∧
    (∃ (s : State) (w : BarWho) (die : Fin 2) (bank : Fin 3) (i : Nat) (wide : Bool), i < bankCounters bank ∧ s.ioUp w.head.val =
      true ∧ s.barOpens w.head.val (tlyOffset w die.val (liveOffset bank.val i)) (if wide then 8 else 4) false = true) ∧
    (∃ (s : State) (w : BarWho) (die : Fin 2) (bank : Fin 3) (i : Nat) (wide : Bool), i < bankCounters bank ∧ s.ioUp w.head.val =
      true ∧ s.barOpens w.head.val (tlyOffset w die.val (liveOffset bank.val i)) (if wide then 8 else 4) true = true) ∧
    (∃ (s : State) (w : BarWho) (die : Fin 2), s.ioUp w.head.val = true ∧ s.barOpens w.head.val (tlyOffset w die.val 0x28) 4 true =
      true) ∧
    (∃ (s : State) (w : BarWho), s.ioUp w.head.val = true ∧ s.barOpens w.head.val (reamOffset w 0x78) 8 true = true) ∧
    (∃ (s : State) (w : BarWho) (u : Fin 2), s.ioUp w.head.val = true ∧ s.barOpens w.head.val (reamOffset w (0x60 + 8 * u.val)) 8
      true = true) ∧
    (∃ (s : State) (w : BarWho), s.ioUp w.head.val = true ∧ w.head.val ≠ s.primary) :=
  ⟨⟨srv, ⟨0, true⟩, 0, 0, by rintro o size (rfl | rfl) (rfl | rfl) <;> decide +kernel, by decide +kernel, by decide +kernel⟩,
    ⟨strBusy, ⟨0, true⟩, 0, 4, by rintro o size (rfl | rfl) (rfl | rfl) <;> decide +kernel, by decide +kernel, by decide +kernel,
      by decide +kernel⟩,
    ⟨srv, ⟨0, true⟩, 0, 4, by rintro o size (rfl | rfl) (rfl | rfl) <;> decide +kernel, by decide +kernel, by decide +kernel,
      by decide +kernel⟩,
    ⟨srv, ⟨0, true⟩, 0, 0, 0, false, by decide +kernel⟩,
    ⟨srv, ⟨0, true⟩, 0, 0, 0, false, by decide +kernel⟩,
    ⟨srv, ⟨0, true⟩, 0, by decide +kernel⟩,
    ⟨srv, ⟨0, true⟩, by decide +kernel⟩,
    ⟨srv, ⟨0, true⟩, 0, by decide +kernel⟩,
    ⟨duo, ⟨1, true⟩, by decide +kernel⟩⟩

/-- States and operands that meet the hypotheses of `TallyCountsAndSamples`, clause by clause. -/
theorem witness_TallyCountsAndSamples :
    (∃ (s : State) (die : Fin 2) (bank : Fin 3) (i n : Nat), i < bankCounters bank ∧ 0 < n ∧ s.tlyCounts die.val bank.val i = true) ∧
    (∃ (s : State) (die : Fin 2) (n : Nat), s.sampling die.val = true ∧ s.tlyCount.get die.val + n < s.samplePeriod die.val) ∧
    (∃ (s : State) (die : Fin 2) (n : Nat) (f : SampleFields), s.sampling die.val = true ∧ s.samplePeriod die.val ≤ s.tlyCount.get
      die.val + n ∧ s.sampleMode die.val = 1 ∧ f.busy = false ∧ s.rd Reg.TLY_SAMPLE_WR.INDEX die.val 0 < 8192 ∧ s.rd
      Reg.TLY_SAMPLE_STAT.UNREAD die.val 0 < 8191) ∧
    (∃ (s : State) (die : Fin 2) (n : Nat) (f : SampleFields), s.sampling die.val = true ∧ s.samplePeriod die.val ≤ s.tlyCount.get
      die.val + n ∧ s.sampleMode die.val = 1 ∧ f.busy = true) ∧
    (∃ (s : State) (die : Fin 2) (n : Nat), s.sampling die.val = true ∧ s.samplePeriod die.val ≤ s.tlyCount.get die.val + n ∧
      s.sampleMode die.val = 2 ∧ s.rd Reg.TLY_SKID.VALID die.val 0 = 0) ∧
    (∃ (s : State) (p : List Byte) (h : LeafHdr), s.admits (.tallyRead h p : Instr) rowTallyRead h p = true ∧ fieldAt p 0 1 ≤ 2 ∧
      fieldAt p 1 1 ≤ 1 ∧ 1 ≤ fieldAt p 4 2 ∧ fieldAt p 4 2 ≤ 768 ∧ fieldAt p 2 2 + fieldAt p 4 2 ≤ bankSize (fieldAt p 0 1) ∧
      (s.takeLeaf rowTallyRead h p).tallyOpen (rowTallyRead.req h).who = false) :=
  ⟨⟨srv, 0, 0, 100, 1, by decide +kernel⟩,
    ⟨sampling 1, 0, 1, by decide +kernel⟩,
    ⟨sampling 1, 0, 2, ⟨0, 0, 0, 0, 0, false⟩, by decide +kernel⟩,
    ⟨sampling 1, 0, 2, ⟨0, 0, 0, 0, 0, true⟩, by decide +kernel⟩,
    ⟨sampling 2, 0, 2, by decide +kernel⟩,
    ⟨put srv [(Reg.LNK_BAR2_GRANT.READ_EN, 0, 0, 0)], [0, 1, 5, 0] ++ leBytes 4 10, inBand ([0, 1, 5, 0] ++ leBytes 4 10),
      by decide +kernel⟩⟩

/-- States and operands that meet the hypotheses of `ManagerAndPadAct`, clause by clause. -/
theorem witness_ManagerAndPadAct :
    (∃ (s : State), s.powered = true ∧ s.pm.pending ≠ 0) ∧
    (∃ (s : State) (b : BitVec 640), s.pm.notice = some b) ∧
    (∃ (s : State) (x : LeafReply) (l : List LeafReply), s.pm.unread = x :: l) ∧
    (∃ (s : State), s.pm.unread = [] ∧ s.pm.notice = none) ∧
    (∃ (s : State) (d : Fin 2) (n : Nat), s.running = true ∧ 0 < n ∧ s.rd Reg.CQ_CMD.DROPPING d.val 0 ≠ 1) ∧
    (∃ (s : State) (d : Fin 2), s.running = true ∧ s.rd Reg.CQ_CMD.DROPPING d.val 0 = 1) ∧
    (∃ (s : State) (ms : Nat), s.powered = true ∧ ms < 100) ∧
    (∃ (s : State) (ms : Nat), s.powered = true ∧ 100 ≤ ms ∧ s.padIgnored = true) ∧
    (∃ (s : State) (ms : Nat), s.powered = true ∧ 100 ≤ ms ∧ ms < 2000 ∧ s.padIgnored = false) ∧
    (∃ (s : State), (s.ctl.mode = .m5 ∨ s.ctl.mode = .m6) ∧ s.padIgnored = false ∧ s.reg Reg.PIN_REMOVAL.STATE = 0) ∧
    (∃ (s : State), s.reg Reg.PIN_REMOVAL.STATE = 1) ∧
    (∃ (s : State), s.reg Reg.PIN_REMOVAL.STATE ≠ 1) :=
  ⟨⟨full, by decide +kernel⟩,
    ⟨full, ((full.pm.notice).get (by decide +kernel)), by decide +kernel⟩,
    ⟨full, aReply, [], by decide +kernel⟩,
    ⟨srv, by decide +kernel⟩,
    ⟨srv, 0, 1, by decide +kernel⟩,
    ⟨dropping, 0, by decide +kernel⟩,
    ⟨srv, 99, by decide +kernel⟩,
    ⟨inMode srv .m8, 100, by decide +kernel⟩,
    ⟨srv, 100, by decide +kernel⟩,
    ⟨srv, by decide +kernel⟩,
    ⟨put srv [(Reg.PIN_REMOVAL.STATE, 0, 0, 1)], by decide +kernel⟩,
    ⟨srv, by decide +kernel⟩⟩

/-- States and operands that meet the hypotheses of `TestPortAnswers`, clause by clause. -/
theorem witness_TestPortAnswers :
    (∃ (s : State) (d : Fin 2) (code : BitVec 8), s.tapUp d.val = true ∧ (Instr.bypass d code).wf = true) ∧
    (∃ (s : State) (d : Fin 2) (code : BitVec 8), s.tapUp d.val = false ∧ (Instr.bypass d code).wf = true) ∧
    (∃ (s : State) (d : Fin 2) (x : MemTarget), s.tapUp d.val = true ∧ (x = .secret ∨ (∃ l, x = .dpa l ∧ (dpaBytes ≤ l * 64 ∨
      s.effSlot (l / 16) ≠ 0)))) ∧
    (∃ (s : State) (d : Fin 2) (l : Nat), s.tapUp d.val = true ∧ l * 64 < dpaBytes ∧ s.effSlot (l / 16) = 0 ∧ s.dataUp = true ∧
      s.chanLost (chanOf (l / 16)) = false ∧ s.ctl.readOnly = false) ∧
    (∃ (s : State) (d : Fin 2) (l : Nat), s.tapUp d.val = true ∧ l * 64 < dpaBytes ∧ s.effSlot (l / 16) = 0 ∧ s.dataUp = true ∧
      s.chanLost (chanOf (l / 16)) = true) :=
  ⟨⟨srv, 0, 0xFF, by decide +kernel⟩,
    ⟨State.reset, 0, 0xFF, by decide +kernel⟩,
    ⟨srv, 0, .secret, by decide +kernel, .inl rfl⟩,
    ⟨srv, 0, 0, by decide +kernel⟩,
    ⟨put srv [(Reg.SPR_CHAN.STATE, 0, 0, 4)], 0, 0, by decide +kernel⟩⟩

/-- States and operands that meet the hypotheses of `ControllersServeInOrder`, clause by clause. -/
theorem witness_ControllersServeInOrder :
    (∃ (s : State) (d k ch : Nat) (r : DramReq) (t : Nat × Nat), s.arbitrate d k ch = some (r, t) ∧ s.rd Reg.DMC_MODE.POUR_EXCL d 0 =
      1) ∧
    (∃ (s : State) (d k ch : Nat) (r : DramReq) (t : Nat × Nat), s.arbitrate d k ch = some (r, t) ∧ s.rd Reg.DMC_MODE.POUR_EXCL d 0 ≠
      1 ∧ (∃ x ∈ s.servable d k ch, x.port ≤ 1 ∧ s.urgencyOf d x = 3)) ∧
    (∃ (s : State) (d k ch : Nat), (s.servable d k ch ≠ [] ∧ ∀ r ∈ s.servable d k ch, r.port ≤ 7) ∧ (s.rd Reg.DMC_MODE.POUR_EXCL d 0
      = 1 ∨ ∀ r ∈ s.servable d k ch, r.port ≠ 7)) ∧
    (∃ (s : State) (n port : Nat), n < 4 ∧ s.dramOn = true ∧ (s.bus (n / 2)).count port < s.rd Reg.DMC_PORT.DEPTH (n / 2) port) ∧
    (∃ (m k : Nat), m < 9 ∧ k < 320) :=
  ⟨⟨queuedPour, 0, 0, 0, ((queuedPour.arbitrate 0 0 0).get (by decide +kernel)).1, ((queuedPour.arbitrate 0 0 0).get
      (by decide +kernel)).2, by decide +kernel⟩,
    ⟨queuedUrgent, 0, 0, 0, ((queuedUrgent.arbitrate 0 0 0).get (by decide +kernel)).1, ((queuedUrgent.arbitrate 0 0 0).get
      (by decide +kernel)).2, by decide +kernel⟩,
    ⟨queued, 0, 0, 0, by decide +kernel⟩,
    ⟨srv, 0, 0, by decide +kernel⟩,
    ⟨0, 0, by decide +kernel⟩⟩

end Sys2Proof.Tests
end

section
/-! SUPPORT. Which registers the shared operations move. -/

namespace Sys2Proof.Machine

/-- A reflexive and transitive relation that every step of a fold keeps holds between the fold's start and its end. -/
theorem foldl_related {σ α : Type} {R : σ → σ → Prop} (refl : ∀ s, R s s) (trans : ∀ {s t u}, R s t → R t u → R s u)
    {f : σ → α → σ} (hf : ∀ s a, R s (f s a)) (l : List α) (s : σ) : R s (l.foldl f s) := by
  induction l generalizing s with
  | nil => exact refl s
  | cons a l ih => exact trans (hf s a) (ih _)

/-! ## Register frames -/

/-- From s to t no register field moves but `l` and `bookFields`: what `State.regsBut` says, for any field with reset kinds of four bits. -/
structure State.movesOnly (s t : State) (l : List Field) : Prop where
  reads : ∀ f : Field, f.kinds < 16 → (l ++ bookFields).all (fun g => g.num != f.num) = true → ∀ d i, t.rd f d i = s.rd f d i

/-- The reset kinds of every field of the tables are four bits (R14). -/
theorem kinds_lt_of_mem_fieldsOf {b : Block} {f : Field} (hf : f ∈ fieldsOf b) : f.kinds < 16 := by
  have h : ∀ b, (fieldsOf b).all (fun f => decide (f.kinds < 16)) = true := by
    intro b; cases b <;> decide +kernel
  exact of_decide_eq_true (List.all_eq_true.mp (h b) f hf)

section
variable {s t u : State} {l : List Field}

theorem State.movesOnly.regsBut (h : s.movesOnly t l) : s.regsBut t l :=
  fun _ f hf => h.reads f (kinds_lt_of_mem_fieldsOf hf)

theorem State.movesOnly.refl : s.movesOnly s l := ⟨fun _ _ _ _ _ => rfl⟩

theorem State.movesOnly.trans (h1 : s.movesOnly t l) (h2 : t.movesOnly u l) : s.movesOnly u l :=
  ⟨fun f hk hl d i => (h2.reads f hk hl d i).trans (h1.reads f hk hl d i)⟩

/-- An update of the state that leaves the register table. -/
theorem State.movesOnly.of_regs (h : s.movesOnly t l) (hr : u.regs = t.regs) : s.movesOnly u l :=
  h.trans ⟨fun f _ _ d i => State.rd_congr hr f d i⟩

theorem State.movesOnly.foldl {α : Type} {f : State → α → State} (hf : ∀ (s : State) (a : α), s.movesOnly (f s a) l) (r : List α)
    (s : State) : s.movesOnly (r.foldl f s) l :=
  foldl_related (R := fun s t => s.movesOnly t l) (fun _ => .refl) .trans hf r s

theorem State.movesOnly.wr {f : Field} {d i v : Nat} (h : s.movesOnly t l) (hk : f.kinds < 16) (hf : f ∈ l ++ bookFields) :
    s.movesOnly (t.wr f d i v) l := by
  refine h.trans ⟨fun g hg hl e j => ?_⟩
  have hn : f.num ≠ g.num := by simpa using List.all_eq_true.mp hl f hf
  exact t.rd_wr_ne hg hk hn.symm d i v e j

theorem State.movesOnly.setReg {f : Field} {v : Nat} (h : s.movesOnly t l) (hk : f.kinds < 16) (hf : f ∈ l ++ bookFields) :
    s.movesOnly (t.setReg f v) l :=
  h.wr hk hf

theorem State.movesOnly.bump {f : Field} {d i n : Nat} (h : s.movesOnly t l) (hk : f.kinds < 16) (hf : f ∈ l ++ bookFields) :
    s.movesOnly (t.bump f d i n) l :=
  h.wr hk hf

theorem State.movesOnly.peak {f : Field} {d i v : Nat} (h : s.movesOnly t l) (hk : f.kinds < 16) (hf : f ∈ l ++ bookFields) :
    s.movesOnly (t.peak f d i v) l :=
  h.wr hk hf

/-- A write of one of the fields that any command may move. -/
theorem State.movesOnly.wrBook {f : Field} {d i v : Nat} (h : s.movesOnly t l) (hk : f.kinds < 16) (hf : f ∈ bookFields) :
    s.movesOnly (t.wr f d i v) l :=
  h.wr hk (List.mem_append_right _ hf)

theorem State.movesOnly.raiseAt (h : s.movesOnly t l) (hd n : Nat) : s.movesOnly (t.raiseAt hd n) l := by
  have asserted : s.movesOnly (t.wr Reg.LNK_SRC_ROUTE.ASSERTED hd n 1) l := h.wrBook (by decide) (by decide)
  unfold State.raiseAt
  dsimp only
  split
  · exact asserted
  · exact .of_regs (.wrBook asserted (by decide) (by decide)) (State.onHead_regs ..)

theorem State.movesOnly.assertSource (h : s.movesOnly t l) (n : Nat) : s.movesOnly (t.assertSource n) l := by
  unfold State.assertSource
  refine .of_regs ?_ (State.notify_regs ..)
  split
  · exact (h.raiseAt 0 n).raiseAt 1 n
  · exact h.raiseAt 0 n

theorem State.movesOnly.tally (h : s.movesOnly t l) (d i n : Nat) : s.movesOnly (t.tally d i n) l := by
  unfold State.tally
  split
  · exact h
  · dsimp only
    split
    · exact .wrBook h (by decide) (by decide)
    · exact .assertSource (.wrBook (.wrBook h (by decide) (by decide)) (by decide) (by decide)) _

theorem State.movesOnly.raise (h : s.movesOnly t l) (n : Nat) : s.movesOnly (t.raise n) l := (h.assertSource n).tally ..

theorem State.movesOnly.msix (h : s.movesOnly t l) (hd v : Nat) : s.movesOnly (t.msix hd v) l := by
  unfold State.msix
  split
  · exact h.of_regs (State.onHead_regs ..)
  · exact .tally (h.of_regs (State.send_regs ..)) ..

theorem State.movesOnly.eventAt (h : s.movesOnly t l) (hd log : Nat) (ty : EvType) (c : EvCause) (vs : List Nat) :
    s.movesOnly (t.eventAt hd log ty c vs) l := by
  unfold State.eventAt
  dsimp only
  split
  · exact .msix (h.of_regs (State.onHead_regs ..)) ..
  · exact h.of_regs (State.onHead_regs ..)

theorem State.movesOnly.event (h : s.movesOnly t l) (log : Nat) (ty : EvType) (c : EvCause) (vs : List Nat) :
    s.movesOnly (t.event log ty c vs) l := by
  unfold State.event
  dsimp only
  split
  · exact (h.eventAt 0 log ty c vs).eventAt 1 log ty c vs
  · exact h.eventAt 0 log ty c vs

end

/-! ## The Ream and the quire store -/

theorem State.pageCommit_movesOnly (s : State) (page : Nat) : s.movesOnly (s.pageCommit page) reamFields := by
  unfold State.pageCommit
  extract_lets n x s1 s2 s3
  have h2 : s.movesOnly s2 reamFields := .bump (t := s1) (.of_regs .refl rfl) (by decide) (by decide)
  have h3 : s.movesOnly s3 reamFields := by
    simp only [s3]
    split
    · exact .setReg (.setReg h2 (by decide) (by decide)) (by decide) (by decide)
    · exact h2
  clear_value s3
  refine .tally ?_ ..
  split
  · exact h3.raise 622
  · exact h3

theorem State.pageWrite_movesOnly (s : State) (page o : Nat) (b : List (BitVec 8)) :
    s.movesOnly (s.pageWrite page o b) reamFields := by
  unfold State.pageWrite
  refine .trans ?_ (State.pageCommit_movesOnly ..)
  exact .of_regs .refl rfl

theorem State.gapAt_movesOnly (s : State) (u : Nat) (kept gone : List ReamRec) : s.movesOnly (s.gapAt u kept gone) reamFields := by
  unfold State.gapAt
  dsimp only
  split
  · exact .refl
  · refine .raise (.wr (.wr (.bump (.wr .refl ?_ ?_) ?_ ?_) ?_ ?_) ?_ ?_) 620 <;> decide

theorem State.reamLog_movesOnly (s : State) (r : ReamRec) : s.movesOnly (s.reamLog r) reamFields := by
  unfold State.reamLog
  extract_lets used p x s1
  have h1 : s.movesOnly s1 reamFields := by
    simp only [s1]
    split
    · exact .refl
    · refine .trans (.trans ?_ (State.gapAt_movesOnly ..)) (State.gapAt_movesOnly ..)
      exact .of_regs .refl rfl
  clear_value s1
  split
  · exact h1.of_regs rfl
  · exact .raise (.bump h1 (by decide) (by decide)) 621

theorem State.reamMirror_movesOnly (s : State) (r : ReamRec) : s.movesOnly (s.reamMirror r) reamFields := by
  unfold State.reamMirror
  extract_lets m x s1 s2
  have h1 : s.movesOnly s1 reamFields := .of_regs .refl rfl
  have h2 : s.movesOnly s2 reamFields := by
    simp only [s2]
    split
    · exact .bump h1 (by decide) (by decide)
    · exact h1
  clear_value s2
  exact h2.trans (s2.pageWrite_movesOnly ..)

theorem State.reamPlace_movesOnly (s : State) (r : ReamRec) : s.movesOnly (s.reamPlace r) reamFields := by
  unfold State.reamPlace
  extract_lets x s1 crit b y s2
  have h1 : s.movesOnly s1 reamFields := .of_regs .refl rfl
  clear_value s1
  have h2 : s.movesOnly s2 reamFields := by
    have logged := h1.trans (s1.reamLog_movesOnly r)
    simp only [s2]
    split
    · split
      · exact h1.trans (s1.reamMirror_movesOnly r)
      · exact h1.of_regs rfl
    · split
      · exact logged
      · split
        · exact logged.trans (State.reamMirror_movesOnly _ r)
        · exact logged
  clear_value s2
  refine .tally ?_ ..
  split
  · exact h2.raise 619
  · exact h2

/-- A Ream record moves, of the registers, those of the Ream and of the pages that its mirror writes. -/
theorem State.reamAs_movesOnly (s : State) (rate : Bool) (origin sev cls : Nat) (p : List Nat) :
    s.movesOnly (s.reamAs rate origin sev cls p) reamFields := by
  unfold State.reamAs
  split
  · exact .refl
  · split
    · extract_lets old new
      exact .bump (.of_regs .refl rfl) (by decide) (by decide)
    · extract_lets x s1
      have h1 : s.movesOnly s1 reamFields := by
        simp only [s1]
        split
        · exact .of_regs .refl rfl
        · exact .refl
      exact h1.trans (s1.reamPlace_movesOnly _)

theorem State.log_movesOnly (s : State) (sev cls : Nat) (p : List Nat) : s.movesOnly (s.log sev cls p) reamFields :=
  s.reamAs_movesOnly ..

end Sys2Proof.Machine
end

section
/-! SUPPORT. Channels and within-channel indices (R33, R34). -/

namespace Sys2Proof.Machine

theorem fold5_lt (n : Nat) : fold5 n < 32 := by
  have group : ∀ a, a % 32 < 2 ^ 5 := fun a => Nat.mod_lt a (by decide)
  unfold fold5
  repeat' apply Nat.xor_lt_two_pow (n := 5)
  all_goals exact group _

/-- A number's groups are those of the number above its lowest group, and the lowest one. -/
theorem fold5_mul_add {i r : Nat} (hi : i < 2 ^ 30) (hr : r < 32) : fold5 (i * 32 + r) = r ^^^ fold5 i := by
  have low : (i * 32 + r) % 32 = r := by omega
  have up : ∀ k, (i * 32 + r) / (32 * k) = i / k := fun k => by
    rw [← Nat.div_div_eq_div_mul]; congr 1; omega
  have top : i / 1073741824 = 0 := Nat.div_eq_of_lt hi
  unfold fold5
  rw [low, top, up 1, up 32, up 1024, up 32768, up 1048576, up 33554432]
  simp [Nat.xor_assoc]

/-- R33 read backwards: the lowest group of a quire follows from its channel and its index. -/
theorem mod_32_eq_chanOf_xor {q : Nat} (hq : q < 2 ^ 34) : q % 32 = chanOf q ^^^ fold5 (q / 32) := by
  have h := fold5_mul_add (i := q / 32) (by omega) (Nat.mod_lt q (by decide : 32 > 0))
  rw [Nat.div_add_mod'] at h
  rw [chanOf, h, Nat.xor_xor_cancel_right]

/-- R34: the quire that channel and index name. -/
theorem quireAt_chanOf_indexOf {q : Nat} (hq : q < 2 ^ 34) : quireAt (chanOf q) (indexOf q) = q := by
  rw [quireAt, indexOf, ← mod_32_eq_chanOf_xor hq, Nat.div_add_mod']

/-- The part of a quire's number below its index is one group. -/
theorem xor_fold5_lt {c : Nat} (hc : c < 32) (i : Nat) : c ^^^ fold5 i < 32 :=
  Nat.xor_lt_two_pow (n := 5) hc (fold5_lt i)

theorem chanOf_quireAt {c i : Nat} (hc : c < 32) (hi : i < 2 ^ 30) : chanOf (quireAt c i) = c := by
  rw [chanOf, quireAt, fold5_mul_add hi (xor_fold5_lt hc i), Nat.xor_xor_cancel_right]

theorem indexOf_quireAt {c : Nat} (hc : c < 32) (i : Nat) : indexOf (quireAt c i) = i := by
  have h := xor_fold5_lt hc i
  unfold indexOf quireAt
  omega

theorem quireAt_lt {c i : Nat} (hc : c < 32) (hi : i < quiresPerChannel) : quireAt c i < quireCount := by
  have h := xor_fold5_lt hc i
  unfold quireAt
  unfold quiresPerChannel at hi
  unfold quireCount
  omega

/-- Settles O5: each group of the bit vector is the quotient and remainder that `fold5` takes. -/
theorem channelOfQuire : Obligations.ChannelOfQuire := by
  intro q
  have hq : q.toNat < 2 ^ 34 := q.isLt
  have top : q.toNat / 1073741824 % 32 = q.toNat / 1073741824 % 16 % 32 := by omega
  simp [chanOf, fold5, top, Nat.shiftRight_eq_div_pow]

/-- Settles O6: the lowest group of a quire and its channel give each other, whatever the groups above. -/
theorem channelAndIndexNameQuire : Obligations.ChannelAndIndexNameQuire :=
  ⟨fun q hq => ⟨fold5_lt q, mod_32_eq_chanOf_xor hq, quireAt_chanOf_indexOf hq⟩,
   fun q hq => Nat.div_lt_of_lt_mul hq,
   fun c hc i hi => ⟨quireAt_lt hc hi, chanOf_quireAt hc (by omega), indexOf_quireAt hc i⟩⟩

end Sys2Proof.Machine
end

section
/-! SUPPORT. Bits of a field, Degraded, and what a link that retrains moves. -/

namespace Sys2Proof.Machine

/-! ## Bits of a field -/

/-- A power of two added where its bit is clear sets that bit and no other. -/
theorem testBit_add_two_pow {v n : Nat} (h : v.testBit n = false) (k : Nat) :
    (v + 2 ^ n).testBit k = (decide (k = n) || v.testBit k) := by
  induction n generalizing v k with
  | zero =>
    have even : v % 2 = 0 := by simpa using h
    cases k with
    | zero => simp; omega
    | succ k => simp only [Nat.testBit_succ, show (v + 2 ^ 0) / 2 = v / 2 by omega]; simp
  | succ n ih =>
    rw [Nat.testBit_succ] at h
    cases k with
    | zero => simp; omega
    | succ k =>
      have half : (v + 2 ^ (n + 1)) / 2 = v / 2 + 2 ^ n := by omega
      rw [Nat.testBit_succ, half, ih h, Nat.testBit_succ]
      simp

theorem testBit_setBit (v n : Nat) (b : Bool) (k : Nat) : (setBit v n b).testBit k = if k = n then b else v.testBit k := by
  unfold setBit
  split
  · next h => split <;> simp_all
  · next h =>
    cases b with
    | true =>
      have clear : v.testBit n = false := by simpa using h
      simp only [if_true, testBit_add_two_pow clear]
      split <;> simp_all
    | false =>
      have set : v.testBit n = true := by simpa using h
      obtain ⟨w, rfl⟩ := Nat.exists_eq_add_of_le (Nat.ge_two_pow_of_testBit set)
      have clear : w.testBit n = false := by simpa [Nat.testBit_two_pow_add_eq] using set
      rw [if_neg (by decide), Nat.add_sub_cancel_left, Nat.add_comm, testBit_add_two_pow clear]
      split <;> simp_all

/-! ## Degraded (R299) -/

/-- What Degraded's recomputation leaves: its flag and the acknowledgement of its alert, registers and reports. -/
theorem State.settle_frame (s : State) : s.settle = { s with
    regs := s.settle.regs, heads := s.settle.heads, pm := s.settle.pm, out := s.settle.out
    ctl := { s.ctl with degraded := s.degradedCause, acked := s.settle.ctl.acked } } := by
  unfold State.settle
  extract_lets d x s1
  split
  · next h => simp only [← show d = s.degradedCause from rfl, h]; rfl
  · split
    · rw [State.event_reported s1]; rfl
    · rw [State.event_reported s1]; rfl

theorem State.movesOnly.settle {s t : State} {l : List Field} (h : s.movesOnly t l) (hl : Reg.LNK_MODE.DEGRADED ∈ l) :
    s.movesOnly t.settle l := by
  unfold State.settle
  extract_lets d x s1
  have shown : s.movesOnly s1 l :=
    .of_regs (.setReg (h.of_regs rfl) (by decide) (List.mem_append_left _ hl)) rfl
  clear_value s1
  split
  · exact h
  · split <;> exact shown.event ..

/-! ## Links -/

/-- t is s but for its registers, what the heads hold, messages sent, what the platform manager is to be told, and the free value. -/
def Linked (s t : State) : Prop :=
  t = { s with regs := t.regs, heads := t.heads, pm := t.pm, out := t.out, free := t.free }

theorem Linked.refl (s : State) : Linked s s := rfl

theorem Linked.trans {s t u : State} (h1 : Linked s t) (h2 : Linked t u) : Linked s u := by
  unfold Linked at *; rw [h2, h1]

theorem Reported.linked {s t : State} (h : Reported s t) : Linked s t := by
  unfold Reported at h; unfold Linked; rw [h]

theorem Counted.linked {s t : State} (h : Counted s t) : Linked s t := h.reported.linked

theorem State.measureLanes_linked (s : State) (h width : Nat) : Linked s (s.measureLanes h width) := by
  unfold State.measureLanes
  refine Linked.trans ?_ (show Linked _ (State.draw _) from rfl)
  exact foldl_related Linked.refl Linked.trans (fun t i => ((t.wr_counted ..).trans (State.wr_counted ..)).linked) _ s

theorem State.memActiveAt_counted (s : State) (h : Nat) (on : Bool) : Counted s (s.memActiveAt h on) := by
  unfold State.memActiveAt
  extract_lets v
  split
  · exact Counted.refl s
  · exact (s.wr_counted ..).trans (State.raise_counted _ _)

theorem State.setLink_reported (s : State) (h width rate : Nat) : Reported s (s.setLink h width rate) := by
  unfold State.setLink
  extract_lets changed mem was s1 s2 s3 s4
  have h2 : Counted s s2 := by
    simp only [s2]
    split
    · exact Counted.trans (t := s1) rfl (State.onHead_counted ..)
    · rfl
  have h3 : Counted s s3 := by
    simp only [s3]
    split
    · exact h2
    · exact h2.trans (State.raise_counted ..)
  have h4 : Counted s s4 := h3.trans (State.memActiveAt_counted ..)
  clear_value s4
  split
  · exact h4.reported
  · exact h4.reported.trans (State.event_reported ..)

/-- A retrain moves nothing beside registers, what the heads hold, messages and indications, and the open value it draws. -/
theorem State.retrainHead_linked (s : State) (h width rate : Nat) : Linked s (s.retrainHead h width rate) := by
  unfold State.retrainHead
  extract_lets changed s1 s2
  have h1 : Linked s s1 := ((s.bump_counted ..).linked.trans (State.measureLanes_linked ..)).trans (State.raise_counted ..).linked
  clear_value s1
  refine Linked.trans ?_ (State.msix_reported ..).linked
  simp only [s2]
  split
  · exact (h1.trans (s1.setLink_reported ..).linked).trans (State.raise_counted ..).linked
  · exact h1

/-- The registers that a link's retrain moves (R83, R95, R119). -/
def linkFields : List Field :=
  [Reg.LNK_STATUS.WIDTH, Reg.LNK_STATUS.RATE, Reg.LNK_STATUS.CXL_MEM, Reg.LNK_STATUS.MEM_ACTIVE, Reg.LNK_RETRAIN_CNT.COUNT,
   Reg.LNK_LANE_STATUS.MARGIN, Reg.LNK_LANE_STATUS.REVERSED]

theorem State.measureLanes_movesOnly (s : State) (h width : Nat) : s.movesOnly (s.measureLanes h width) linkFields := by
  unfold State.measureLanes
  refine .of_regs ?_ (State.draw_regs _)
  exact .foldl (fun t i => .wr (.wr .refl (by decide) (by decide)) (by decide) (by decide)) _ s

theorem State.memActiveAt_movesOnly (s : State) (h : Nat) (on : Bool) : s.movesOnly (s.memActiveAt h on) linkFields := by
  unfold State.memActiveAt
  extract_lets v
  split
  · exact .refl
  · exact .raise (.wr .refl (by decide) (by decide)) _

theorem State.setLink_movesOnly (s : State) (h width rate : Nat) : s.movesOnly (s.setLink h width rate) linkFields := by
  unfold State.setLink
  extract_lets changed mem was s1 s2 s3 s4
  have h1 : s.movesOnly s1 linkFields := by
    refine .wr (.wr (.wr .refl ?_ ?_) ?_ ?_) ?_ ?_ <;> decide
  have h2 : s.movesOnly s2 linkFields := by
    simp only [s2]
    split
    · exact h1.of_regs rfl
    · exact h1
  have h3 : s.movesOnly s3 linkFields := by
    simp only [s3]
    split
    · exact h2
    · exact h2.raise _
  have h4 : s.movesOnly s4 linkFields := h3.trans (State.memActiveAt_movesOnly ..)
  clear_value s4
  split
  · exact h4
  · exact h4.event ..

theorem State.retrainHead_movesOnly (s : State) (h width rate : Nat) : s.movesOnly (s.retrainHead h width rate) linkFields := by
  unfold State.retrainHead
  extract_lets changed s1 s2
  have h1 : s.movesOnly s1 linkFields := by
    refine .raise (.trans ?_ (State.measureLanes_movesOnly ..)) _
    exact .bump .refl (by decide) (by decide)
  clear_value s1
  refine .msix ?_ ..
  simp only [s2]
  split
  · exact .raise (h1.trans (s1.setLink_movesOnly ..)) _
  · exact h1

end Sys2Proof.Machine
end

section
/-! SUPPORT. Die-to-die modules (R37, R293). -/

namespace Sys2Proof.Machine

/-- What die 0 shows of a field once the bit of a module has been set in both dies' copies. -/
theorem State.rd_setD2d (s : State) {f : Field} (hs : f.scope = .each) (m : Nat) (on : Bool) :
    (s.setD2d f m on).rd f 0 0 = setBit (s.rd f 0 0) m on % 2 ^ f.width := by
  unfold State.setD2d
  rw [State.wrBit, State.rd_wr_die _ f hs 0 0 _ (by decide), State.wrBit, State.rd_wr_self]

/-- Each module's bit after one module's has been set. -/
theorem State.testBit_rd_setD2d (s : State) {f : Field} (hs : f.scope = .each) (m : Nat) (on : Bool) {k : Nat} (hk : k < f.width) :
    ((s.setD2d f m on).rd f 0 0).testBit k = if k = m then on else (s.rd f 0 0).testBit k := by
  rw [s.rd_setD2d hs, Nat.testBit_mod_two_pow, testBit_setBit]
  simp [hk]

theorem State.movesOnly.setD2d {s t : State} {l : List Field} {f : Field} (h : s.movesOnly t l) (m : Nat) (on : Bool)
    (hk : f.kinds < 16) (hf : f ∈ l ++ bookFields) : s.movesOnly (t.setD2d f m on) l := by
  unfold State.setD2d State.wrBit
  exact .wr (.wr h hk hf) hk hf

/-- The state in which a module is shown down, before what follows from it. -/
def State.d2dMarked (s : State) (m : Nat) : State :=
  ((s.setD2d Reg.LNK_D2D_STATUS.DOWN m true).setD2d Reg.LNK_D2D_STATUS.DEGRADED m false).settle

theorem State.testBit_down_d2dMarked (s : State) (m : Nat) {k : Nat} (hk : k < 4) :
    ((s.d2dMarked m).rd Reg.LNK_D2D_STATUS.DOWN 0 0).testBit k =
      if k = m then true else (s.rd Reg.LNK_D2D_STATUS.DOWN 0 0).testBit k := by
  have kept : (s.setD2d Reg.LNK_D2D_STATUS.DOWN m true).movesOnly (s.d2dMarked m)
      [Reg.LNK_D2D_STATUS.DEGRADED, Reg.LNK_MODE.DEGRADED] :=
    .settle (.setD2d .refl m false (by decide) (by decide)) (by decide)
  rw [kept.reads _ (by decide) (by decide), s.testBit_rd_setD2d rfl m true hk]

/-- A module that is down is a cause of Degraded (R299). -/
theorem State.degradedCause_of_down {s : State} (h : s.rd Reg.LNK_D2D_STATUS.DOWN 0 0 ≠ 0) : s.degradedCause = true := by
  simp [State.degradedCause, h]

theorem State.d2dMarked_degraded (s : State) {m : Nat} (hm : m < 4) : (s.d2dMarked m).ctl.degraded = true := by
  unfold State.d2dMarked
  rw [State.settle_frame]
  refine State.degradedCause_of_down fun h => ?_
  have kept : (s.setD2d Reg.LNK_D2D_STATUS.DOWN m true).movesOnly
      ((s.setD2d Reg.LNK_D2D_STATUS.DOWN m true).setD2d Reg.LNK_D2D_STATUS.DEGRADED m false) [Reg.LNK_D2D_STATUS.DEGRADED] :=
    .setD2d .refl m false (by decide) (by decide)
  have bit := s.testBit_rd_setD2d (f := Reg.LNK_D2D_STATUS.DOWN) rfl m true hm
  rw [kept.reads _ (by decide) (by decide)] at h
  simp [h] at bit

/-- With another module up, all that follows from a module's going down is what its pair's loss makes of the links. -/
theorem State.d2dDown_of_other_up (s : State) (m k : Fin 4) (inputs : PourInputs)
    (hk : ((s.d2dMarked m).rd Reg.LNK_D2D_STATUS.DOWN 0 0).testBit k = false) :
    Linked (s.d2dMarked m) (s.d2dDown m inputs) ∧ (s.d2dMarked m).movesOnly (s.d2dDown m inputs) linkFields := by
  have notAll : ¬ (∀ j < 4, ((s.d2dMarked m).rd Reg.LNK_D2D_STATUS.DOWN 0 0).testBit j = true) := fun h => by
    simp [h k k.isLt] at hk
  unfold State.d2dDown
  extract_lets s1 down s2
  split
  · next all =>
    simp only [Bool.and_eq_true] at all
    obtain ⟨⟨⟨h0, h1⟩, h2⟩, h3⟩ := all
    exact absurd (fun j hj => by interval_cases j <;> assumption) notAll
  · have linked : Linked s1 s2 := (State.event_reported ..).linked
    have kept : s1.movesOnly s2 linkFields := .event .refl ..
    split
    · split
      · exact ⟨linked.trans (State.retrainHead_linked ..), kept.trans (State.retrainHead_movesOnly ..)⟩
      · exact ⟨linked, kept⟩
    · exact ⟨Linked.refl _, .refl⟩

/-- What the loss of a module leaves with another module up (R293). -/
theorem State.d2dDown_serves_on (s : State) (m k : Fin 4) (inputs : PourInputs) (hkm : k ≠ m)
    (hk : (s.rd Reg.LNK_D2D_STATUS.DOWN 0 0).testBit k = false) :
    ((s.d2dDown m inputs).rd Reg.LNK_D2D_STATUS.DOWN 0 0).testBit m = true ∧ (s.d2dDown m inputs).ctl.degraded = true ∧
      (s.d2dDown m inputs).ctl.mode = s.ctl.mode ∧ (s.d2dDown m inputs).path = s.path := by
  have up : ((s.d2dMarked m).rd Reg.LNK_D2D_STATUS.DOWN 0 0).testBit k = false := by
    rw [s.testBit_down_d2dMarked m k.isLt, if_neg (Fin.val_ne_of_ne hkm), hk]
  obtain ⟨linked, kept⟩ := s.d2dDown_of_other_up m k inputs up
  refine ⟨?_, ?_, ?_, ?_⟩
  · rw [kept.reads _ (by decide) (by decide), s.testBit_down_d2dMarked m m.isLt, if_pos rfl]
  · rw [linked]; exact s.d2dMarked_degraded m.isLt
  · rw [linked]; dsimp only; rw [State.d2dMarked, State.settle_frame]; rfl
  · rw [linked]; dsimp only; rw [State.d2dMarked, State.settle_frame]; rfl

/-- A module that loses its first lane is shown at x8, and nothing else of what it serves moves (R37). -/
theorem execD2dLaneFail_first (s : State) (m : Fin 4) (inputs : PourInputs) (hu : s.d2dUp m = true)
    (hd : (s.rd Reg.LNK_D2D_STATUS.DEGRADED 0 0).testBit m = false) :
    exec (.d2dLaneFail m true inputs) s = .next (s.setD2d Reg.LNK_D2D_STATUS.DEGRADED m true).settle := by
  change execD2dLaneFail m true inputs s = _
  simp [execD2dLaneFail, hu, hd]

/-- A module at x8, and one whose retrain fails, goes down (R293). -/
theorem execD2dLaneFail_down (s : State) (m : Fin 4) (retrained : Bool) (inputs : PourInputs) (hu : s.d2dUp m = true)
    (hd : retrained = false ∨ (s.rd Reg.LNK_D2D_STATUS.DEGRADED 0 0).testBit m = true) :
    exec (.d2dLaneFail m retrained inputs) s = .next (s.d2dDown m inputs) := by
  change execD2dLaneFail m retrained inputs s = _
  rcases hd with hd | hd <;> simp [execD2dLaneFail, hu, hd]

theorem execD2dModuleDown_of_up (s : State) (m : Fin 4) (inputs : PourInputs) (hu : s.d2dUp m = true) :
    exec (.d2dModuleDown m inputs) s = .next (s.d2dDown m inputs) := by
  change execD2dModuleDown m inputs s = _
  simp [execD2dModuleDown, hu]

theorem exec_strapChangeWhilePowered (s : State) (sampled present : Nat) :
    exec (.strapChangeWhilePowered sampled present) s =
      .next (if s.powered then s.log 3 0x403 [sampled, present] else s) := rfl

/-- Settles O20: the lane's bit and the module's bit are set in both dies' copies, and what follows moves neither. -/
theorem dieToDieModulesDegrade : Obligations.DieToDieModulesDegrade := by
  refine ⟨fun s m inputs hu hd => ?_, execD2dLaneFail_down, execD2dModuleDown_of_up, State.d2dDown_serves_on,
    fun s sampled present => ⟨fun hp => ?_, fun hp => ?_, ?_⟩⟩
  · refine ⟨_, execD2dLaneFail_first s m inputs hu hd, fun k hk => ?_, ?_, ?_, ?_, ?_⟩
    · rw [(State.movesOnly.settle (l := [Reg.LNK_MODE.DEGRADED]) .refl (by decide)).reads _ (by decide) (by decide),
        s.testBit_rd_setD2d rfl m true hk]
      by_cases h : k = m <;> simp [h]
    · exact (State.movesOnly.settle (l := [Reg.LNK_D2D_STATUS.DEGRADED, Reg.LNK_MODE.DEGRADED])
        (.setD2d .refl m true (by decide) (by decide)) (by decide)).reads _ (by decide) (by decide) 0 0
    all_goals rw [State.settle_frame]; rfl
  · rw [exec_strapChangeWhilePowered, if_pos hp]
  · rw [exec_strapChangeWhilePowered, hp]; rfl
  · exact ⟨_, rfl, s.log_recorded .., (s.log_movesOnly ..).regsBut⟩

end Sys2Proof.Machine
end

section
/-! SUPPORT. What the LPDDR5X controllers move when time passes (log entry 91). -/

namespace Sys2Proof.Machine

/-- The registers that the controllers move: a port's panic entries and longest latency, and a copied row's end (R228, R233, R247). -/
def dramFields : List Field := [Reg.DMC_PORT.PANIC_ENTRIES, Reg.DMC_PORT.LAT_MAX_NS, Reg.DMC_REMAP.COPY_DONE]

theorem State.showPanic_movesOnly (s : State) (d port : Nat) : s.movesOnly (s.showPanic d port) dramFields := by
  unfold State.showPanic
  split
  · exact .refl
  · extract_lets was now s1
    have h1 : s.movesOnly s1 dramFields := .of_regs .refl rfl
    clear_value s1
    split
    · exact .refl
    · split
      · exact .bump h1 (by decide) (by decide)
      · exact h1

theorem State.serveReq_movesOnly (s : State) (d : Nat) (r : DramReq) (turn : Nat × Nat) :
    s.movesOnly (s.serveReq d r turn) dramFields := by
  unfold State.serveReq
  extract_lets n hit chk ns target s1 s2 s3 s4
  have h2 : s.movesOnly s2 dramFields := by
    have h1 : s.movesOnly s1 dramFields := .of_regs .refl rfl
    simp only [s2]
    split
    · exact h1.of_regs rfl
    · exact h1
  clear_value s2
  have h4 : s.movesOnly s4 dramFields := (((((h2.tally ..).tally ..).tally ..).tally ..).tally ..).tally ..
  clear_value s4
  refine .trans ?_ (State.showPanic_movesOnly ..)
  exact .peak h4 (by decide) (by decide)

theorem State.serveChannel_movesOnly (s : State) (d k ch : Nat) : s.movesOnly (s.serveChannel d k ch) dramFields := by
  unfold State.serveChannel
  split
  · refine .tally ?_ ..
    exact .of_regs .refl rfl
  · split
    · exact s.serveReq_movesOnly ..
    · exact .refl

theorem State.dramCycle_movesOnly (s : State) (d : Nat) : s.movesOnly (s.dramCycle d) dramFields := by
  unfold State.dramCycle
  extract_lets s1
  have h1 : s.movesOnly s1 dramFields := .foldl (fun t i => t.serveChannel_movesOnly ..) _ s
  exact h1.of_regs rfl

theorem State.drainPorts_movesOnly (s : State) (d : Nat) : s.movesOnly (s.drainPorts d) dramFields :=
  .foldl (fun t _ => t.dramCycle_movesOnly d) _ s

theorem State.copyUnit_movesOnly (s : State) (n : Nat) : s.movesOnly (s.copyUnit n) dramFields := by
  unfold State.copyUnit
  split
  · exact .refl
  · extract_lets i from_ ch bus s1
    have h1 : s.movesOnly s1 dramFields := by
      refine .tally ?_ ..
      exact .of_regs .refl rfl
    clear_value s1
    split
    · exact h1.of_regs rfl
    · refine .wr ?_ (by decide) (by decide)
      exact h1.of_regs rfl

theorem State.finishCopy_movesOnly (s : State) (n : Nat) : s.movesOnly (s.finishCopy n) dramFields :=
  .foldl (fun t _ => t.copyUnit_movesOnly n) _ s

theorem State.dramSettle_movesOnly (s : State) : s.movesOnly s.dramSettle dramFields := by
  unfold State.dramSettle
  extract_lets s1
  have h1 : s.movesOnly s1 dramFields := .foldl (fun t n => t.finishCopy_movesOnly n) _ s
  clear_value s1
  split
  · exact .refl
  · exact (h1.trans (s1.drainPorts_movesOnly 0)).trans (State.drainPorts_movesOnly _ 1)

theorem State.copyUnit_accessed (s : State) (n : Nat) : Accessed s (s.copyUnit n) := by
  unfold State.copyUnit
  split
  · exact Accessed.refl s
  · extract_lets i from_ ch bus s1
    have h1 : Accessed s s1 := (s.onBus_accessed ..).trans (State.tallyP_accessed ..)
    clear_value s1
    split
    · exact h1.trans (State.onPkg_accessed ..)
    · exact (h1.trans (State.onPkg_accessed ..)).trans (State.wr_counted ..).accessed

/-- The controllers serve all that waits, and nothing moves beside them and what they count. -/
theorem State.dramSettle_accessed (s : State) : Accessed s s.dramSettle := by
  have copies : ∀ (t : State) (n : Nat), Accessed t (t.finishCopy n) := fun t n =>
    foldl_related Accessed.refl Accessed.trans (fun u _ => u.copyUnit_accessed n) _ t
  have drains : ∀ (t : State) (d : Nat), Accessed t (t.drainPorts d) := fun t d =>
    foldl_related Accessed.refl Accessed.trans (fun u _ => u.dramCycle_accessed d) _ t
  unfold State.dramSettle
  split
  · exact Accessed.refl s
  · exact ((foldl_related Accessed.refl Accessed.trans copies _ s).trans (drains _ 0)).trans (drains _ 1)

theorem State.dramSettle_of_off {s : State} (h : s.dramOn = false) : s.dramSettle = s := by simp [State.dramSettle, h]

end Sys2Proof.Machine
end

section
/-! SUPPORT. The operating time's ticks (R40). -/

namespace Sys2Proof.Machine

/-- What a tick adds to the operating time, before the controllers' 30 µs. -/
def State.ticked (s : State) : State :=
  let s1 : State := { s with ctl := { s.ctl with opAcc := (s.ctl.opAcc + 1000) % 32768 } }
  if s.ctl.opAcc + 1000 ≥ 32768 then s1.setReg Reg.LNK_OPTIME.MS (s.ms + 1) else s1

theorem exec_optimeTick {s : State} (hp : s.powered = true) : exec .optimeTick s = .next s.ticked.dramSettle := by
  change execOptimeTick s = _
  simp [execOptimeTick, State.ticked, hp]

theorem State.ticked_frame (s : State) :
    s.ticked = { s with regs := s.ticked.regs, ctl := { s.ctl with opAcc := (s.ctl.opAcc + 1000) % 32768 } } := by
  unfold State.ticked
  dsimp only
  split <;> rfl

theorem State.ticked_movesOnly (s : State) : s.movesOnly s.ticked [Reg.LNK_OPTIME.MS] := by
  unfold State.ticked
  extract_lets x s1
  have h1 : s.movesOnly s1 [Reg.LNK_OPTIME.MS] := .of_regs .refl rfl
  clear_value s1
  split
  · exact .setReg h1 (by decide) (by decide)
  · exact h1

theorem State.ticked_ms (s : State) :
    s.ticked.ms % 281474976710656 = (s.ms + (if 32768 ≤ s.ctl.opAcc + 1000 then 1 else 0)) % 281474976710656 := by
  unfold State.ticked
  extract_lets x s1
  split
  · rw [State.ms, State.reg_setReg_self]; exact Nat.mod_mod ..
  · rfl

theorem State.ticked_dramOn (s : State) : s.ticked.dramOn = s.dramOn := by
  unfold State.dramOn
  rw [s.ticked_movesOnly.reads _ (by decide) (by decide), s.ticked_frame]

/-- What a tick of a powered module leaves in the operating time's accumulator and counter. -/
theorem State.tick_ctl (s : State) :
    s.ticked.dramSettle.ctl = { s.ctl with opAcc := (s.ctl.opAcc + 1000) % 32768 } := by
  rw [s.ticked.dramSettle_accessed]
  dsimp only
  rw [s.ticked_frame]

theorem State.tick_ms (s : State) : s.ticked.dramSettle.ms % 281474976710656 =
    (s.ms + (if 32768 ≤ s.ctl.opAcc + 1000 then 1 else 0)) % 281474976710656 := by
  rw [State.ms, State.reg, s.ticked.dramSettle_movesOnly.reads _ (by decide) (by decide)]
  exact s.ticked_ms

/-- With the DRAM off a tick moves the operating time and nothing else. -/
theorem State.ticked_booked (s : State) : s.booked { s.ticked with ctl := s.ctl } [Reg.LNK_OPTIME.MS] := by
  have heads : s.ticked.heads = s.heads := by rw [s.ticked_frame]
  have pm : s.ticked.pm = s.pm := by rw [s.ticked_frame]
  have regs : s.movesOnly { s.ticked with ctl := s.ctl } [Reg.LNK_OPTIME.MS] :=
    s.ticked_movesOnly.of_regs (by dsimp only)
  refine ⟨?_, fun h => ?_, ?_, regs.regsBut⟩
  · unfold State.counted; rw [s.ticked_frame]
  · rw [Head.sameBut]; dsimp only; rw [heads]
  · rw [State.samePm]; dsimp only; rw [pm]

/-- A tick carries into the milliseconds of the ticks before it where their remainder overflows. -/
theorem ticks_carry (a n : ℕ) : (a + 1000 * (n + 1)) / 32768 =
    (a + 1000 * n) / 32768 + if 32768 ≤ (a + 1000 * n) % 32768 + 1000 then 1 else 0 := by
  split <;> omega

/-- After its first tick a module that stays powered has gained 1,000 to each tick, a millisecond to each 32,768. -/
theorem ticks_gain {f : ℕ → State} (hp : (f 0).powered = true) (hf : ∀ k, exec .optimeTick (f k) = .next (f (k + 1))) (n : ℕ) :
    (f (n + 1)).ctl.opAcc = ((f 1).ctl.opAcc + 1000 * n) % 32768 ∧
    (f (n + 1)).ms % 281474976710656 = ((f 1).ms + ((f 1).ctl.opAcc + 1000 * n) / 32768) % 281474976710656 := by
  have next : ∀ k, (f k).powered = true → f (k + 1) = (f k).ticked.dramSettle := fun k hk =>
    Host.Outcome.next.inj ((hf k).symm.trans (exec_optimeTick hk))
  have powered : ∀ k, (f k).powered = true := fun k => by
    induction k with
    | zero => exact hp
    | succ k ih => rw [State.powered, next k ih, State.tick_ctl]; exact ih
  have acc : ∀ k, (f (k + 1)).ctl.opAcc = ((f k).ctl.opAcc + 1000) % 32768 := fun k => by
    rw [next k (powered k), State.tick_ctl]
  have ms : ∀ k, (f (k + 1)).ms % 281474976710656 =
      ((f k).ms + (if 32768 ≤ (f k).ctl.opAcc + 1000 then 1 else 0)) % 281474976710656 := fun k => by
    rw [next k (powered k), State.tick_ms]
  induction n with
  | zero =>
    have first : (f 1).ctl.opAcc < 32768 := by
      rw [acc 0]; exact Nat.mod_lt _ (by decide)
    rw [Nat.zero_add, Nat.mul_zero, Nat.add_zero, Nat.mod_eq_of_lt first, Nat.div_eq_of_lt first]
    exact ⟨rfl, rfl⟩
  | succ n ih =>
    obtain ⟨ihAcc, ihMs⟩ := ih
    constructor
    · rw [acc (n + 1), ihAcc, Nat.mod_add_mod, Nat.add_assoc, Nat.mul_succ]
    · rw [ms (n + 1), ihAcc, Nat.add_mod, ihMs, ← Nat.add_mod, ticks_carry, Nat.add_assoc]

end Sys2Proof.Machine
end

section
/-! SUPPORT. What the quire store's rings give back (R507, R508). -/

namespace Sys2Proof.Machine

/-! ## Bytes placed in a page -/

/-- Bytes placed in a page leave every other page. -/
theorem get_placeBytes_ne_page (t : Tab (BitVec 8)) {p q : Nat} (h : q ≠ p) (o i : Nat) (b : List (BitVec 8)) :
    (placeBytes t p o b).get 0 (q * 256 + i % 256) = t.get 0 (q * 256 + i % 256) := by
  induction b generalizing t o with
  | nil => rfl
  | cons x r ih => rw [placeBytes, ih, Tab.get_put_ne _ _ _ _ (by omega)]

/-- Bytes placed in a page up to its end leave the page before them. -/
theorem get_placeBytes_lt (t : Tab (BitVec 8)) (p : Nat) {o i : Nat} {b : List (BitVec 8)} (hb : o + b.length ≤ 256) (hi : i < o) :
    (placeBytes t p o b).get 0 (p * 256 + i % 256) = t.get 0 (p * 256 + i % 256) := by
  induction b generalizing t o with
  | nil => rfl
  | cons x r ih =>
    simp only [List.length_cons] at hb
    rw [placeBytes, ih _ (by omega) (by omega), Tab.get_put_ne _ _ _ _ (by omega)]

/-- Bytes placed in a page up to its end are what the page then holds. -/
theorem get_placeBytes (t : Tab (BitVec 8)) (p : Nat) {o : Nat} {b : List (BitVec 8)} (hb : o + b.length ≤ 256) {k : Nat}
    (hk : k < b.length) :
    (placeBytes t p o b).get 0 (p * 256 + (o + k) % 256) = b[k] ^^^ shippedByte (p * 256 + (o + k) % 256) := by
  induction b generalizing t o k with
  | nil => exact absurd hk (Nat.not_lt_zero k)
  | cons x r ih =>
    simp only [List.length_cons] at hb hk
    cases k with
    | zero =>
      simp only [placeBytes, Nat.add_zero]
      rw [get_placeBytes_lt _ _ (by omega) (by omega), Tab.get_put_self]
      rfl
    | succ k =>
      have rest := ih (t.put 0 (p * 256 + o % 256) (x ^^^ shippedByte (p * 256 + o % 256))) (o := o + 1) (k := k) (by omega) (by omega)
      rw [Nat.add_assoc, Nat.add_comm 1 k] at rest
      exact rest

theorem State.pageWrite_bytes (s : State) (page o : Nat) (b : List (BitVec 8)) :
    (s.pageWrite page o b).qst.bytes = placeBytes s.qst.bytes page o b := by
  unfold State.pageWrite State.pageCommit
  extract_lets s0 n x s1 s2 s3
  have h3 : s3.qst.bytes = placeBytes s.qst.bytes page o b := by
    simp only [s3]
    split <;> rfl
  rw [State.tally_qst]
  split
  · rw [State.raise_qst, h3]
  · exact h3

/-- A page write leaves what every other page reads. -/
theorem State.qstByte_pageWrite_ne (s : State) {p q : Nat} (h : q ≠ p) (o i : Nat) (b : List (BitVec 8)) :
    (s.pageWrite p o b).qstByte q i = s.qstByte q i := by
  rw [State.qstByte, State.pageWrite_bytes, get_placeBytes_ne_page _ h, State.qstByte]

/-! ## Numbers as bytes -/

@[simp] theorem length_leBytes (n v : Nat) : (leBytes n v).length = n := by simp [leBytes]

theorem leBytes_succ (n v : Nat) : leBytes (n + 1) v = BitVec.ofNat 8 v :: leBytes n (v / 256) := by
  have shift : ∀ k, v >>> (8 * (k + 1)) = (v / 256) >>> (8 * k) := fun k => by
    rw [Nat.mul_succ, Nat.add_comm, Nat.shiftRight_add, Nat.shiftRight_eq_div_pow v 8]
  simp [leBytes, List.range_succ_eq_map, shift]

/-- A number's low bytes read back as the number modulo their range. -/
theorem leNat_leBytes (n v : Nat) : leNat (leBytes n v) = v % 256 ^ n := by
  induction n generalizing v with
  | zero => simp [leBytes, leNat, Nat.mod_one]
  | succ n ih =>
    rw [leBytes_succ, leNat, ih, BitVec.toNat_ofNat, show 256 ^ (n + 1) = 256 * 256 ^ n from Nat.pow_succ', Nat.mod_mul]

/-! ## Slots -/

/-- The slot that the next write of a ring takes (R507). -/
def State.nextSlot (s : State) (ring : Nat) : Nat :=
  if s.rd Reg.QST_RING.SERIAL 0 ring = 0 then 0 else (s.rd Reg.QST_RING.NEWEST 0 ring + 1) % (ringOf ring).2

theorem State.nextSlot_lt (s : State) (ring : Nat) : s.nextSlot ring < 128 := by
  have slots : 0 < (ringOf ring).2 ∧ (ringOf ring).2 ≤ 128 := by
    unfold ringOf; split <;> decide
  unfold State.nextSlot
  split
  · decide
  · exact Nat.lt_of_lt_of_le (Nat.mod_lt _ slots.1) slots.2

theorem State.rd_serial_slotWrite (s : State) (ring value : Nat) :
    (s.slotWrite ring value).rd Reg.QST_RING.SERIAL 0 ring = (s.rd Reg.QST_RING.SERIAL 0 ring + 1) % 4294967296 := by
  unfold State.slotWrite
  extract_lets serial slot body at0 x s1
  rw [State.bump, State.rd_wr_ne _ (by decide) (by decide) (by decide), State.rd_wr_ne _ (by decide) (by decide) (by decide),
    State.rd_wr_self]
  exact Nat.mod_mod ..

theorem State.rd_newest_slotWrite (s : State) (ring value : Nat) :
    (s.slotWrite ring value).rd Reg.QST_RING.NEWEST 0 ring = s.nextSlot ring := by
  unfold State.slotWrite
  extract_lets serial slot body at0 x s1
  rw [State.bump, State.rd_wr_ne _ (by decide) (by decide) (by decide), State.rd_wr_self]
  exact Nat.mod_eq_of_lt (s.nextSlot_lt ring)

/-- A slot write places the value's eight bytes, and eight more, at the slot. -/
theorem State.slotWrite_bytes (s : State) (ring value : Nat) :
    ∃ rest : List (BitVec 8), rest.length = 8 ∧ (s.slotWrite ring value).qst.bytes = placeBytes s.qst.bytes
      (((ringOf ring).1 * 256 + s.nextSlot ring * 16) / 256) (((ringOf ring).1 * 256 + s.nextSlot ring * 16) % 256)
      (leBytes 8 value ++ rest) := by
  unfold State.slotWrite
  extract_lets serial slot body at0 x s1
  exact ⟨leBytes 4 serial ++ leBytes 4 (crc32c body), by simp, by rw [← List.append_assoc]; rfl⟩

/-- The first eight bytes of the newest slot are the value that was written to it (R507). -/
theorem State.qstByte_slotWrite (s : State) (ring value : Nat) {k : Nat} (hk : k < 8) :
    (s.slotWrite ring value).qstByte ((ringOf ring).1 + s.nextSlot ring / 16) (16 * (s.nextSlot ring % 16) + k) =
      (leBytes 8 value)[k]'(by simpa using hk) := by
  obtain ⟨rest, length, placed⟩ := s.slotWrite_bytes ring value
  have page : ((ringOf ring).1 * 256 + s.nextSlot ring * 16) / 256 = (ringOf ring).1 + s.nextSlot ring / 16 := by omega
  have offset : ((ringOf ring).1 * 256 + s.nextSlot ring * 16) % 256 = 16 * (s.nextSlot ring % 16) := by omega
  rw [State.qstByte, placed, page, offset, get_placeBytes _ _ (by simp [length]; omega) (by simp; omega),
    List.getElem_append_left (by simpa using hk), BitVec.xor_assoc, BitVec.xor_self, BitVec.xor_zero]

end Sys2Proof.Machine
end

section
/-! SUPPORT. The save of the operating time (R507, R508). -/

namespace Sys2Proof.Machine

/-- Pages of the module's own, written one after another. -/
def State.pagesWritten (s : State) (first : Nat) (content : Nat → List (BitVec 8)) (n : Nat) : State :=
  (List.range n).foldl (fun t p => t.pageWrite (first + p) 0 (content p)) s

theorem State.pagesWritten_recorded (s : State) (first : Nat) (content : Nat → List (BitVec 8)) (n : Nat) :
    Recorded s (s.pagesWritten first content n) :=
  foldl_related Recorded.refl Recorded.trans (fun t _ => t.pageWrite_recorded ..) _ s

theorem State.pagesWritten_movesOnly (s : State) (first : Nat) (content : Nat → List (BitVec 8)) (n : Nat) :
    s.movesOnly (s.pagesWritten first content n) reamFields :=
  .foldl (fun t _ => t.pageWrite_movesOnly ..) _ s

theorem State.qstByte_pagesWritten (s : State) {first n q : Nat} (content : Nat → List (BitVec 8)) (h : first + n ≤ q) (i : Nat) :
    (s.pagesWritten first content n).qstByte q i = s.qstByte q i := by
  induction n with
  | zero => rfl
  | succ n ih =>
    rw [State.pagesWritten, List.range_succ, List.foldl_append]
    exact (State.qstByte_pageWrite_ne _ (by omega) ..).trans (ih (by omega))

/-- The first page of the older image of the histograms (R302, R504). -/
def State.olderImage (s : State) : Nat := if s.qst.serials.get 0 5064 ≤ s.qst.serials.get 0 5067 then 5064 else 5067

/-- A powered module's save: a slot of the operating-time ring, and the pages of the histograms' older image. -/
def State.timeSaved (s : State) : State := (s.slotWrite 0 s.ms).pagesWritten s.olderImage s.histBytes 3

theorem exec_optimeSave {s : State} (hp : s.powered = true) : exec .optimeSave s = .next s.timeSaved := by
  change execOptimeSave s = _
  unfold execOptimeSave
  rw [if_neg (by simp [hp])]
  rfl

theorem State.timeSaved_recorded (s : State) : Recorded s s.timeSaved :=
  (s.slotWrite_recorded ..).trans (State.pagesWritten_recorded ..)

theorem State.rd_serial_timeSaved (s : State) :
    s.timeSaved.rd Reg.QST_RING.SERIAL 0 0 = (s.rd Reg.QST_RING.SERIAL 0 0 + 1) % 4294967296 := by
  rw [State.timeSaved, (State.pagesWritten_movesOnly ..).reads _ (by decide) (by decide), State.rd_serial_slotWrite]

theorem State.rd_newest_timeSaved (s : State) : s.timeSaved.rd Reg.QST_RING.NEWEST 0 0 = s.nextSlot 0 := by
  rw [State.timeSaved, (State.pagesWritten_movesOnly ..).reads _ (by decide) (by decide), State.rd_newest_slotWrite]

/-- The newest slot of the operating-time ring holds the operating time at the save: the histograms' pages lie before the ring. -/
theorem State.slotBytes_timeSaved (s : State) :
    (List.range 8).map (fun k => s.timeSaved.qstByte (5070 + s.nextSlot 0 / 16) (16 * (s.nextSlot 0 % 16) + k)) = leBytes 8 s.ms := by
  have image : s.olderImage + 3 ≤ 5070 := by
    unfold State.olderImage; split <;> decide
  refine List.ext_getElem (by simp) fun k hk _ => ?_
  rw [List.getElem_map, List.getElem_range, State.timeSaved, State.qstByte_pagesWritten _ _ (by omega)]
  exact s.qstByte_slotWrite 0 s.ms (by simpa using hk)

/-- What a save puts into the ring is what the module resumes from, while the ring's serial numbers last (R508). -/
theorem State.timeFromRing_timeSaved (s : State) (hs : s.rd Reg.QST_RING.SERIAL 0 0 < 4294967295) :
    s.timeSaved.timeFromRing.ms = s.ms % 281474976710656 := by
  have serial : s.timeSaved.rd Reg.QST_RING.SERIAL 0 0 ≠ 0 := by
    rw [s.rd_serial_timeSaved]; omega
  rw [State.timeFromRing, if_neg serial, State.ms, State.reg_setReg_self, s.rd_newest_timeSaved, s.slotBytes_timeSaved, leNat_leBytes]
  exact Nat.mod_mod_of_dvd _ (by decide)

end Sys2Proof.Machine
end

section
/-! SUPPORT. The minute's histograms (R302). -/

namespace Sys2Proof.Machine

/-- A fold whose keys all leave what is read leaves it. -/
theorem foldl_read_eq {σ κ β : Type} {step : σ → κ → σ} {read : σ → β} {l : List κ}
    (h : ∀ a ∈ l, ∀ t, read (step t a) = read t) (s : σ) : read (l.foldl step s) = read s := by
  induction l generalizing s with
  | nil => rfl
  | cons a r ih =>
    exact (ih (fun b hb => h b (List.mem_cons_of_mem a hb)) _).trans (h a List.mem_cons_self s)

/-- A fold over distinct keys, of which only one moves what is read, moves it once. -/
theorem foldl_read_of_nodup {σ κ β : Type} {step : σ → κ → σ} {read : σ → β} {g : β → β} {c : κ} {l : List κ}
    (own : ∀ t, read (step t c) = g (read t)) (other : ∀ a ∈ l, a ≠ c → ∀ t, read (step t a) = read t) (hl : l.Nodup)
    (hc : c ∈ l) (s : σ) : read (l.foldl step s) = g (read s) := by
  induction l generalizing s with
  | nil => exact absurd hc List.not_mem_nil
  | cons a r ih =>
    obtain ⟨ha, hr⟩ := List.nodup_cons.mp hl
    have rest : ∀ b ∈ r, b ≠ c → ∀ t, read (step t b) = read t := fun b hb => other b (List.mem_cons_of_mem a hb)
    rw [List.foldl_cons]
    by_cases h : a = c
    · subst h
      rw [foldl_read_eq (fun b hb => rest b hb (ne_of_mem_of_not_mem hb ha)), own]
    · rw [ih rest hr ((List.mem_cons.mp hc).resolve_left (Ne.symm h)), other a List.mem_cons_self h]

/-- The bin of a class's highest value (R302). -/
def histBin (c : Nat) (v : Int) : Nat := ((histEdges c).filter (fun e => e ≤ v)).length

theorem histBin_lt (c : Nat) (v : Int) : histBin c v < 8 := by
  have edges : (histEdges c).length ≤ 7 := by
    unfold histEdges
    repeat' split
    all_goals decide
  exact Nat.lt_succ_of_le ((List.length_filter_le ..).trans edges)

/-- A class's minute is counted, with what the classes read in it. -/
def State.countMinute (minute : Tab Int) (t : State) (c : Nat) : State :=
  match minute.find? c with
  | none => t
  | some v =>
    let t1 := t.bump Reg.SPR_HIST.MIN 0 (8 * c + histBin c v) 1
    if (minute.find? (100 + c)).isSome then t1.bump Reg.SPR_HIST.MIN 0 (8 * c + 7) 1 else t1

theorem State.rd_bump_self (s : State) (f : Field) (d i n : Nat) :
    (s.bump f d i n).rd f d i = min (s.rd f d i + n) (2 ^ f.width - 1) := by
  rw [State.bump, State.rd_wr_self]
  exact Nat.mod_eq_of_lt (Nat.lt_of_le_of_lt (Nat.min_le_right ..) (Nat.sub_lt (Nat.two_pow_pos _) Nat.one_pos))

theorem State.rd_bump_index (s : State) (f : Field) (d e n : Nat) {i j : Nat} (hi : i < 1048576) (hj : j < 1048576) (h : j ≠ i) :
    (s.bump f d i n).rd f e j = s.rd f e j :=
  s.rd_wr_index f d e _ hi hj h

theorem State.countMinute_none {minute : Tab Int} {c : Nat} (h : minute.find? c = none) (t : State) : t.countMinute minute c = t := by
  unfold State.countMinute; rw [h]

theorem State.countMinute_some {minute : Tab Int} {c : Nat} {v : Int} (h : minute.find? c = some v)
    (hs : minute.find? (100 + c) = none) (t : State) :
    t.countMinute minute c = t.bump Reg.SPR_HIST.MIN 0 (8 * c + histBin c v) 1 := by
  unfold State.countMinute; simp [h, hs]

/-- The minute of one class leaves the bins of the others. -/
theorem State.rd_countMinute_ne (minute : Tab Int) (t : State) {c c' b : Nat} (hc : c < 24) (hc' : c' < 24) (h : c' ≠ c) (hb : b < 8) :
    (t.countMinute minute c').rd Reg.SPR_HIST.MIN 0 (8 * c + b) = t.rd Reg.SPR_HIST.MIN 0 (8 * c + b) := by
  have bin : ∀ (u : State) (k : Nat), k < 8 →
      (u.bump Reg.SPR_HIST.MIN 0 (8 * c' + k) 1).rd Reg.SPR_HIST.MIN 0 (8 * c + b) = u.rd Reg.SPR_HIST.MIN 0 (8 * c + b) :=
    fun u k hk => u.rd_bump_index _ _ _ _ (by omega) (by omega) (by omega)
  unfold State.countMinute
  split
  · rfl
  · next v _ =>
    dsimp only
    split
    · rw [bin _ 7 (by decide), bin _ _ (histBin_lt c' v)]
    · exact bin _ _ (histBin_lt c' v)

theorem State.countMinute_counts (minute : Tab Int) (t : State) (c : Nat) :
    t.countMinute minute c = { t with regs := (t.countMinute minute c).regs } ∧
      t.movesOnly (t.countMinute minute c) [Reg.SPR_HIST.MIN] := by
  unfold State.countMinute
  split
  · exact ⟨rfl, .refl⟩
  · dsimp only
    split
    · exact ⟨rfl, .bump (.bump .refl (by decide) (by decide)) (by decide) (by decide)⟩
    · exact ⟨rfl, .bump .refl (by decide) (by decide)⟩

/-- The histograms once every class's minute has been counted. -/
def State.minuteCounted (s : State) : State := (List.range 24).foldl (State.countMinute s.minute) s

theorem exec_minuteTick {s : State} (hp : s.powered = true) :
    exec .minuteTick s = .next { s.minuteCounted with minute := [] } := by
  change execMinuteTick s = _
  unfold execMinuteTick
  rw [if_neg (by simp [hp])]
  rfl

theorem State.minuteCounted_frame (s : State) : s.minuteCounted = { s with regs := s.minuteCounted.regs } :=
  foldl_related (R := fun s t : State => t = { s with regs := t.regs }) (fun _ => rfl) (fun h1 h2 => by rw [h2, h1])
    (fun t c => (t.countMinute_counts s.minute c).1) _ s

theorem State.minuteCounted_movesOnly (s : State) : s.movesOnly s.minuteCounted [Reg.SPR_HIST.MIN] :=
  .foldl (fun t c => (t.countMinute_counts s.minute c).2) _ s

/-- A bin moves by its own class's minute alone. -/
theorem State.rd_minuteCounted (s : State) {c b : Nat} {g : Nat → Nat} (hc : c < 24) (hb : b < 8)
    (own : ∀ t : State, (t.countMinute s.minute c).rd Reg.SPR_HIST.MIN 0 (8 * c + b) = g (t.rd Reg.SPR_HIST.MIN 0 (8 * c + b))) :
    s.minuteCounted.rd Reg.SPR_HIST.MIN 0 (8 * c + b) = g (s.rd Reg.SPR_HIST.MIN 0 (8 * c + b)) :=
  foldl_read_of_nodup (read := fun t : State => t.rd Reg.SPR_HIST.MIN 0 (8 * c + b)) own
    (fun _ ha h t => State.rd_countMinute_ne s.minute t hc (List.mem_range.mp ha) h hb)
    List.nodup_range (List.mem_range.mpr hc) s

/-- A class that read a value, none of it substituted, counts in that value's bin. -/
theorem State.rd_minuteCounted_some (s : State) {c b : Nat} {v : Int} (hc : c < 24) (hb : b < 8) (hv : s.minute.find? c = some v)
    (hs : s.minute.find? (100 + c) = none) :
    s.minuteCounted.rd Reg.SPR_HIST.MIN 0 (8 * c + b) = if b = histBin c v
      then min (s.rd Reg.SPR_HIST.MIN 0 (8 * c + b) + 1) 4294967295 else s.rd Reg.SPR_HIST.MIN 0 (8 * c + b) := by
  refine s.rd_minuteCounted (g := fun n => if b = histBin c v then min (n + 1) 4294967295 else n) hc hb fun t => ?_
  rw [State.countMinute_some hv hs]
  split
  · next h => rw [← h, State.rd_bump_self]; rfl
  · next h =>
    have bin := histBin_lt c v
    exact t.rd_bump_index _ _ _ _ (by omega) (by omega) (by omega)

/-- A class that read nothing counts in no bin. -/
theorem State.rd_minuteCounted_none (s : State) {c b : Nat} (hc : c < 24) (hb : b < 8) (hv : s.minute.find? c = none) :
    s.minuteCounted.rd Reg.SPR_HIST.MIN 0 (8 * c + b) = s.rd Reg.SPR_HIST.MIN 0 (8 * c + b) :=
  s.rd_minuteCounted (g := id) hc hb fun t => by rw [State.countMinute_none hv, id]

/-- Settles O37: ticks carry into the milliseconds, a save is read back from its slot, and each class counts in bins of its own. -/
theorem timeIsKept : Obligations.TimeIsKept := by
  refine ⟨⟨fun s hp => ⟨_, exec_optimeTick hp, s.tick_ctl, s.tick_ms, ?_, fun hd => ?_⟩, fun f n hp hf => ticks_gain hp hf n⟩,
    fun s hp hs => ⟨_, exec_optimeSave hp, ?_, s.timeFromRing_timeSaved hs, by rw [s.timeSaved_recorded],
      by rw [s.timeSaved_recorded], by rw [s.timeSaved_recorded]⟩,
    fun s hp => ⟨_, exec_minuteTick hp, rfl, ?_, ?_, ?_, ?_⟩⟩
  · rw [s.ticked.dramSettle_accessed]
    dsimp only
    rw [s.ticked_frame]
  · rw [State.dramSettle_of_off (s.ticked_dramOn.trans hd)]
    exact s.ticked_booked
  · rw [s.rd_serial_timeSaved]; omega
  · rw [s.minuteCounted_frame]
  · exact (s.minuteCounted_movesOnly.of_regs rfl).regsBut
  · exact fun c hc v hv hs b hb => s.rd_minuteCounted_some hc hb hv hs
  · exact fun c hc hv b hb => s.rd_minuteCounted_none hc hb hv

end Sys2Proof.Machine
end

section
/-! SUPPORT. The module as shipped. -/
namespace Sys2Proof.Machine

/-- A register of the module as shipped reads the value that it is shipped with. -/
theorem State.rd_reset (f : Field) (d i : Nat) : State.reset.rd f d i = f.dflt d i := rfl

/-- No span and no listed entry: a quire of the module as shipped has STATE 0 (R57). -/
theorem State.entry_reset (q : Nat) : State.reset.entry q = 0 := rfl

theorem Head.get_reset (h : Nat) : State.reset.heads.get h = Head.reset := by
  simp [State.reset, Two.get]

/-- Slot 0 is shipped ACTIVE, and the field's table lists no other slot. -/
theorem State.slotState_reset (k : Nat) : State.reset.slotState k = if k = 0 then 1 else 0 := by
  rw [State.slotState, State.rd_reset]
  cases k <;> rfl

/-- Beyond the vendor zone a byte is shipped zero (R504). -/
theorem shippedByte_of_le {k : Nat} (h : 65536 ≤ k) : shippedByte k = 0 := if_neg (Nat.not_lt.mpr h)

theorem State.qstByte_reset {page : Nat} (h : 256 ≤ page) (o : Nat) : State.reset.qstByte page o = 0 := by
  rw [State.qstByte, shippedByte_of_le (by omega)]
  exact BitVec.xor_zero

theorem State.canonical_reset : State.reset.canonical = true := by decide

/-- Settles O3: the shipped state has empty stores, and each register field its shipped value. -/
theorem resetState : Obligations.ResetState :=
  ⟨⟨rfl, rfl, State.entry_reset, fun h => by rw [Head.get_reset]; exact ⟨rfl, rfl⟩,
    State.slotState_reset 0, fun k hk => by rw [State.slotState_reset, if_neg (by omega)], fun _ o h => State.qstByte_reset h o⟩,
    State.canonical_reset⟩

end Sys2Proof.Machine
end

section
/-! SUPPORT. Requests at the LOT, and two of one line in one cycle (R184, R186). -/

namespace Sys2Proof.Machine

/-- The three commands that carry a request. -/
theorem requestOf_eq_some {i : Instr} {r : Request} (h : requestOf i = some r) :
    (∃ hd tag a e, i = .memrd hd tag a e) ∨ (∃ hd tag a data p e, i = .memwr hd tag a data p e) ∨
      ∃ hd tag a data be p e, i = .memwrptl hd tag a data be p e := by
  unfold requestOf at h
  split at h
  · exact .inl ⟨_, _, _, _, rfl⟩
  · exact .inr (.inl ⟨_, _, _, _, _, _, rfl⟩)
  · exact .inr (.inr ⟨_, _, _, _, _, _, _, rfl⟩)
  · exact absurd h (by simp)

/-- Every request arrives at the LOT. -/
theorem exec_request {i : Instr} {r : Request} (h : requestOf i = some r) (s : State) : exec i s = .next (s.arrive i) := by
  obtain ⟨hd, tag, a, e, rfl⟩ | ⟨hd, tag, a, data, p, e, rfl⟩ | ⟨hd, tag, a, data, be, p, e, rfl⟩ := requestOf_eq_some h <;> rfl

section
variable {s : State} {i j : Instr} {r : Request}

/-- A request that ties with nothing is let in by itself. -/
theorem State.arrive_alone (hr : requestOf i = some r) (ht : s.path.tied = none) (he : r.env.tie = false) :
    s.arrive i = s.letIn i false := by
  cases hp : s.pending <;> simp [State.arrive, hr, ht, he, hp]

/-- The first request of a tie is let in, or waits, as the round-robin pointer says. -/
theorem State.arrive_first (hr : requestOf i = some r) (ht : s.path.tied = none) {rest : List Instr} (hp : s.pending = j :: rest)
    (he : r.env.tie = true) (hs : s.sameCycle i j = true) :
    s.arrive i =
      if s.rd Reg.LOT_RR.NEXT (s.lotOf i) 0 = s.inputOf i then
        { (s.passTie i).letIn i false with path := { ((s.passTie i).letIn i false).path with tied := some (i, true) } }
      else { s with path := { s.path with tied := some (i, false) } } := by
  simp [State.arrive, hr, ht, hp, he, hs]

/-- The second request of a tie is let in behind the first one, or before it where that has waited. -/
theorem State.arrive_second {ran : Bool} (ht : s.path.tied = some (i, ran)) {u : State}
    (hu : u = { s with path := { s.path with tied := none } }) (hs : u.sameCycle i j = true) :
    s.arrive j = if ran then (u.forwards i j).letIn j true else (((u.passTie j).letIn j false).forwards j i).letIn i true := by
  subst hu
  simp [State.arrive, ht, hs]

end

/-- A tie passes the pointer to the other input (R55). -/
theorem State.rd_passTie (s : State) (i : Instr) : (s.passTie i).rd Reg.LOT_RR.NEXT (s.lotOf i) 0 = 1 - s.inputOf i := by
  rw [State.passTie, State.rd_wr_self]
  exact Nat.mod_eq_of_lt (Nat.lt_succ_of_le (Nat.sub_le ..))

theorem State.passTie_movesOnly (s : State) (i : Instr) : s.movesOnly (s.passTie i) [Reg.LOT_RR.NEXT] :=
  .wr .refl (by decide) (by decide)

/-- Settles O12: each command of the tie runs its branch of the arrival, and the pointer is one register. -/
theorem tiesAlternate : Obligations.TiesAlternate := by
  refine ⟨fun i j s r rest hr ht hp he hs => ?_, fun i j s u r ran hr ht hu hs => ?_, fun i s => ?_⟩
  · rw [exec_request hr, State.arrive_first hr ht hp he hs]
    exact ⟨fun h => ⟨_, by rw [if_pos h], rfl⟩, fun h => by rw [if_neg h]⟩
  · rw [exec_request hr, State.arrive_second ht hu hs]
  · exact ⟨s.rd_passTie i, (s.passTie_movesOnly i).regsBut, rfl⟩

end Sys2Proof.Machine
end

section
/-! SUPPORT. What serving a read moves (R184 to R206): beside counters and indications the controllers, the caches of metadata lines, the
ages of ways, planned reads and suspensions, and no line's data. -/

namespace Sys2Proof.Machine

/-! ## Registers -/

theorem State.movesOnly.mono {s t : State} {l m : List Field} (h : s.movesOnly t l) (hlm : l ⊆ m) : s.movesOnly t m :=
  ⟨fun f hk hf => h.reads f hk (List.all_eq_true.mpr fun g hg => List.all_eq_true.mp hf g
    ((List.mem_append.mp hg).elim (fun h => List.mem_append_left _ (hlm h)) (List.mem_append_right _)))⟩

theorem State.makePort_movesOnly (s : State) (d port n : Nat) : s.movesOnly (s.makePort d port n) dramFields := by
  induction n generalizing s with
  | zero => exact .refl
  | succ n ih =>
    unfold State.makePort
    split
    · exact .refl
    · exact (s.dramCycle_movesOnly d).trans (ih _)

theorem State.access_movesOnly (s : State) (n port a : Nat) (w : Bool) : s.movesOnly (s.access n port a w) dramFields := by
  unfold State.access
  extract_lets d s1 r
  have h1 : s.movesOnly s1 dramFields := s.makePort_movesOnly ..
  clear_value s1
  split
  · exact .refl
  · split
    · refine .trans ?_ (State.showPanic_movesOnly ..)
      exact h1.of_regs rfl
    · exact h1

theorem State.accesses_movesOnly (s : State) (n port a count : Nat) (w : Bool) :
    s.movesOnly (s.accesses n port a count w) dramFields :=
  .foldl (fun t _ => t.access_movesOnly ..) _ s

theorem State.treeLine_movesOnly (n : Nat) (s : State) (d level i : Nat) (dirty : Bool) :
    s.movesOnly (s.treeLine n d level i dirty) dramFields := by
  induction n generalizing s level i dirty with
  | zero => exact .refl
  | succ n ih =>
    unfold State.treeLine
    split
    · exact .refl
    · extract_lets key s1 s2
      have h1 : s.movesOnly s1 dramFields := by
        simp only [s1]
        split
        · exact .refl
        · exact (ih ..).trans (State.access_movesOnly ..)
      have h2 : s.movesOnly s2 dramFields := h1.of_regs rfl
      clear_value s2
      split
      · exact h2
      · refine .trans ?_ (ih ..)
        exact .of_regs (h2.trans (s2.access_movesOnly ..)) rfl

theorem State.pageWritten_movesOnly (s : State) (d page : Nat) (at' : Nat × Nat) :
    s.movesOnly (s.pageWritten d page at') dramFields := by
  unfold State.pageWritten
  extract_lets s1
  refine .trans ?_ (State.access_movesOnly ..)
  refine .trans ?_ (State.access_movesOnly ..)
  exact .of_regs ((s.access_movesOnly ..).trans (State.treeLine_movesOnly ..)) rfl

/-- The registers that serving a read moves beside `bookFields`: the controllers', and counts of its lookups, hazards, suspensions and
withheld credits (R185, R190, R193, R203, R270). -/
def readFields : List Field :=
  dramFields ++ [Reg.CDY_STAT_TAGC_MISS.COUNT, Reg.PRT_META.MIRROR_USED, Reg.PRT_META.MAP_REDERIVED, Reg.CDY_STAT_READ_HIT.COUNT,
    Reg.CDY_STAT_READ_UNMAPPED.COUNT, Reg.CDY_STAT_READ_MISS.COUNT, Reg.LOT_KETTLE.SUSPENDS, Reg.LOT_KETTLE.AROUND,
    Reg.MED_CHAN.SUSP_REFUSED, Reg.LOT_HAZARD.COUNT, Reg.LOT_CREDIT.WITHHELD]

theorem State.movesOnly.toRead {s t : State} (h : s.movesOnly t dramFields) : s.movesOnly t readFields :=
  h.mono (List.subset_append_left ..)

end Sys2Proof.Machine
end

section
/-! SUPPORT. What keeps every line where it lies: the terms of the lookup (R190, R204). -/

namespace Sys2Proof.Machine

/-- A way but for its AGE. -/
def Way.unaged (x : Way) : Way := { x with age := 0 }

/-- From s to t no line's newest data has moved: ways but for their ages, staging, and the map as requests read it. -/
structure State.keepsLines (s t : State) : Prop where
  ways : ∀ k, (t.path.ways.find? k).map Way.unaged = (s.path.ways.find? k).map Way.unaged
  staged : t.path.staged = s.path.staged
  sets : ∀ q, t.setOf q = s.setOf q
  entries : ∀ q, t.entry q = s.entry q

/-- The sets of a quire follow from the states of the packages alone (R201). -/
theorem State.movesOnly.setOf {s t : State} {l : List Field} (h : s.movesOnly t l)
    (hl : (l ++ bookFields).all (fun g => g.num != Reg.DMC_PKG.STATE.num) = true) (q : Nat) : t.setOf q = s.setOf q := by
  unfold State.setOf State.sets
  rw [h.reads _ (by decide) hl, h.reads _ (by decide) hl]

section
variable {s t : State}

theorem State.keepsLines.waysOf (h : s.keepsLines t) (q : Nat) :
    (t.waysOf q).map (Prod.map id Way.unaged) = (s.waysOf q).map (Prod.map id Way.unaged) := by
  have way : ∀ w k : Nat, ((t.path.ways.find? k).map fun x => (w, x.unaged)) = (s.path.ways.find? k).map fun x => (w, x.unaged) :=
    fun w k => by simpa [Function.comp_def] using congrArg (Option.map fun x => (w, x)) (h.ways k)
  simp only [State.waysOf, List.map_filterMap, Option.map_map, Function.comp_def, Prod.map, id, h.sets, way]

theorem State.keepsLines.wayOf (h : s.keepsLines t) (q : Nat) :
    (t.wayOf q).map (Prod.map id Way.unaged) = (s.wayOf q).map (Prod.map id Way.unaged) := by
  have found : ∀ u : State, (u.wayOf q).map (Prod.map id Way.unaged) =
      ((u.waysOf q).map (Prod.map id Way.unaged)).find? (fun p => p.2.quire == q) := fun u => by
    rw [List.find?_map]; rfl
  rw [found, found, h.waysOf]

theorem State.keepsLines.wayOf_isNone (h : s.keepsLines t) (q : Nat) : (t.wayOf q).isNone = (s.wayOf q).isNone := by
  simpa using congrArg Option.isNone (h.wayOf q)

theorem State.keepsLines.stagedOf (h : s.keepsLines t) (q : Nat) : t.stagedOf q = s.stagedOf q := by
  rw [State.stagedOf, State.stagedOf, h.staged]

theorem State.keepsLines.wayBlock (h : s.keepsLines t) (q : Nat) :
    (t.wayOf q).map (fun p => p.2.blk) = (s.wayOf q).map (fun p => p.2.blk) := by
  have := congrArg (Option.map fun p : Nat × Way => p.2.blk) (h.wayOf q)
  rw [Option.map_map, Option.map_map] at this
  exact this

/-- What a lookup finds of line k of a quire with these blocks, the first one first, and this map entry (R204). -/
def foundIn (blocks : List Block16) (k : Nat) (e : BitVec 32) : Found :=
  match blocks.find? (fun b => b.isValid k) with
  | some b => .caddy (b.lines.get 0 k) (b.isPoison k)
  | none =>
    match entryState e with
    | 0 => .zeros
    | 1 | 2 => .media
    | _ => .poison

theorem State.find_eq_foundIn (u : State) (line : Nat) :
    u.find line = foundIn (((u.wayOf (line / 16)).map (fun p => p.2.blk)).toList ++ (u.stagedOf (line / 16)).map (fun e => e.blk))
      (line % 16) (u.entry (line / 16)) := by
  unfold State.find
  dsimp only
  cases u.wayOf (line / 16) <;> rfl

/-- A lookup reads of the way its block, the staging entries and the map entry. -/
theorem State.keepsLines.find (h : s.keepsLines t) (line : Nat) : t.find line = s.find line := by
  rw [State.find_eq_foundIn, State.find_eq_foundIn, h.wayBlock, h.stagedOf, h.entries]

end

/-- The way that holds a quire is listed at its key. -/
theorem State.find?_of_wayOf {s : State} {q : Nat} {p : Nat × Way} (h : s.wayOf q = some p) :
    s.path.ways.find? (wayKey (ownerOf q) (s.setOf q) p.1) = some p.2 := by
  obtain ⟨w, -, found⟩ := List.mem_filterMap.mp (List.mem_of_find?_eq_some h)
  obtain ⟨x, listed, rfl⟩ := Option.map_eq_some_iff.mp found
  exact listed

end Sys2Proof.Machine
end

section
/-! SUPPORT. What a head holds through counters and indications, and the credits that a head is given and uses (R87, R188). -/

namespace Sys2Proof.Machine

/-! ## Heads -/

theorem Head.sameBut.trans {a b c : Head} (h1 : a.sameBut b) (h2 : b.sameBut c) : a.sameBut c := by
  unfold Head.sameBut at *; rw [h2, h1]

section
variable {s t u : State}

theorem State.sameHeads.of_heads (h : t.heads = s.heads) : s.sameHeads t := fun k => by rw [h]; rfl

theorem State.sameHeads.trans (h1 : s.sameHeads t) (h2 : t.sameHeads u) : s.sameHeads u := fun k => (h1 k).trans (h2 k)

/-- The lines that a head's decoders map are those that the head's decoders alone say. -/
theorem State.sameHeads.lineOf (h : s.sameHeads t) (hd hpa : Nat) : t.lineOf hd hpa = s.lineOf hd hpa := by
  rw [State.lineOf, h hd]; rfl

end

theorem State.onHead_sameHeads (s : State) (h : Nat) {f : Head → Head} (hf : ∀ a : Head, a.sameBut (f a)) :
    s.sameHeads (s.onHead h f) := fun k => by
  have same : ∀ a : Head, a.sameBut a := fun _ => rfl
  unfold State.onHead Two.modify Two.get
  split <;> split
  · exact hf _
  · exact same _
  · exact same _
  · exact hf _

theorem State.raiseAt_sameHeads (s : State) (h src : Nat) : s.sameHeads (s.raiseAt h src) := by
  unfold State.raiseAt
  dsimp only
  split
  · exact .of_heads rfl
  · refine .trans (.of_heads rfl) (State.onHead_sameHeads _ h fun a => ?_)
    split <;> rfl

theorem State.assertSource_sameHeads (s : State) (src : Nat) : s.sameHeads (s.assertSource src) := by
  unfold State.assertSource
  refine .trans ?_ (.of_heads rfl)
  split
  · exact (s.raiseAt_sameHeads 0 src).trans (State.raiseAt_sameHeads _ 1 src)
  · exact s.raiseAt_sameHeads 0 src

theorem State.tally_sameHeads (s : State) (d i n : Nat) : s.sameHeads (s.tally d i n) := by
  unfold State.tally
  split
  · exact .of_heads rfl
  · dsimp only
    split
    · exact .of_heads rfl
    · exact .trans (.of_heads rfl) (State.assertSource_sameHeads _ _)

/-! ## Credits -/

/-- From s to t nothing has moved but the hosts' credits, and counters and indications. -/
structure State.credited (s t : State) : Prop where
  frame : t = { s with
    regs := t.regs, heads := t.heads, pm := t.pm, path := { s.path with credits := t.path.credits } }
  heads : s.sameHeads t
  moves : s.movesOnly t []

section
variable {s t u : State}

theorem State.credited.refl (s : State) : s.credited s := ⟨rfl, .of_heads rfl, .refl⟩

theorem State.credited.trans (h1 : s.credited t) (h2 : t.credited u) : s.credited u :=
  ⟨by rw [h2.frame, h1.frame], h1.heads.trans h2.heads, h1.moves.trans h2.moves⟩

theorem State.credited.keepsLines (h : s.credited t) : s.keepsLines t where
  ways k := by rw [h.frame]
  staged := by rw [h.frame]
  sets q := h.moves.setOf (by decide) q
  entries q := by rw [h.frame]; rfl

theorem State.credited.chanLost (h : s.credited t) (c : Nat) : t.chanLost c = s.chanLost c := by
  unfold State.chanLost State.chanState State.rdC
  rw [h.moves.reads _ (by decide) (by decide)]

end

theorem State.tally_credited (s : State) (d i n : Nat) : s.credited (s.tally d i n) :=
  ⟨by rw [s.tally_counted d i n], s.tally_sameHeads _ _ _, .tally .refl ..⟩

theorem State.useCredit_credited (s : State) (h : Nat) (w : Bool) : s.credited (s.useCredit h w) :=
  ⟨rfl, .of_heads rfl, .of_regs .refl rfl⟩

theorem State.grant_credited (s : State) (h : Nat) : s.credited (s.grant h) := by
  unfold State.grant
  split
  · exact .refl s
  · extract_lets mine other total rd left wr x s1
    have given : s.credited s1 := ⟨rfl, .of_heads rfl, .of_regs .refl rfl⟩
    clear_value s1
    exact (given.trans (s1.tally_credited ..)).trans (State.tally_credited ..)

/-- A request uses one of the credits that its head holds. -/
theorem State.useCredit_rd (s : State) (h : Nat) (hc : (s.path.credits.get h).rd ≠ 0) :
    ((s.useCredit h false).path.credits.get h).rd + 1 = (s.path.credits.get h).rd := by
  have used : (s.useCredit h false).path.credits.get h = { s.path.credits.get h with rd := (s.path.credits.get h).rd - 1 } := by
    unfold State.useCredit Two.modify Two.get
    split <;> rfl
  rw [used]
  exact Nat.succ_pred_eq_of_ne_zero hc

/-! ## Requests that tie with nothing -/

section
variable {s : State} {head : Fin 2} {tag : BitVec 16} {hpa : Nat} {env : PathEnv}

/-- A request that has its credit is admitted (R184, R198). -/
theorem exec_memrd_taken (ht : s.path.tied = none) (he : env.tie = false) (hr : (s.grant head).takes ⟨head, hpa, false, env⟩ = true) :
    exec (.memrd head tag hpa env) s = .next ((s.grant head).admitRead head tag hpa env false) := by
  rw [exec_request rfl, State.arrive_alone rfl ht he]
  simp [State.letIn, requestOf, hr]

theorem exec_memwr_taken {data : Line} {poison : Bool} (ht : s.path.tied = none) (he : env.tie = false)
    (hr : (s.grant head).takes ⟨head, hpa, true, env⟩ = true) :
    exec (.memwr head tag hpa data poison env) s =
      .next ((s.grant head).admitWrite head tag hpa data (BitVec.allOnes 64) true poison env false) := by
  rw [exec_request rfl, State.arrive_alone rfl ht he]
  simp [State.letIn, requestOf, hr]

theorem exec_memwrptl_taken {data : Line} {be : ByteEnables} {poison : Bool} (ht : s.path.tied = none) (he : env.tie = false)
    (hr : (s.grant head).takes ⟨head, hpa, true, env⟩ = true) :
    exec (.memwrptl head tag hpa data be poison env) s =
      .next ((s.grant head).admitWrite head tag hpa data be false poison env false) := by
  rw [exec_request rfl, State.arrive_alone rfl ht he]
  simp [State.letIn, requestOf, hr]

/-- A read that the module takes has a credit. -/
theorem State.rd_ne_zero_of_takes (hr : s.takes ⟨head, hpa, false, env⟩ = true) : (s.path.credits.get head).rd ≠ 0 := by
  simp [State.takes] at hr
  exact hr.2

end

end Sys2Proof.Machine
end

section
/-! SUPPORT. What a request of a host does to a line's lookup, and what it sends (R184 to R206). -/

namespace Sys2Proof.Machine

/-- From s to t the messages `l` have been sent, newest first, and nothing has moved but counters and indications, the time of the last
request, the controllers, the caches of metadata lines, the ages of ways, planned reads, and the banks' suspensions. -/
structure State.answers (s t : State) (l : List Out) : Prop where
  frame : t = { s with
    regs := t.regs, heads := t.heads, pm := t.pm, out := l ++ s.out, ports := t.ports, dram := t.dram
    ctl := { s.ctl with lastMem := t.ctl.lastMem }
    path := { s.path with ways := t.path.ways, plans := t.path.plans, nextPlan := t.path.nextPlan, tagCache := t.path.tagCache }
    mapping := { s.mapping with cache := t.mapping.cache, tree := t.mapping.tree, ctrs := t.mapping.ctrs }
    media := { s.media with status := t.media.status, suspended := t.media.suspended, suspends := t.media.suspends } }
  ways : ∀ k, (t.path.ways.find? k).map Way.unaged = (s.path.ways.find? k).map Way.unaged
  moves : s.movesOnly t readFields

section
variable {s t u : State} {l m : List Out}

theorem State.answers.refl (s : State) : s.answers s [] := ⟨rfl, fun _ => rfl, .refl⟩

theorem State.answers.trans (h1 : s.answers t l) (h2 : t.answers u m) : s.answers u (m ++ l) where
  frame := by rw [h2.frame, h1.frame, List.append_assoc]
  ways k := (h2.ways k).trans (h1.ways k)
  moves := h1.moves.trans h2.moves

/-- A change that sends nothing, after another change. -/
theorem State.answers.then (h1 : s.answers t l) (h2 : t.answers u []) : s.answers u l := h1.trans h2

/-- A change, after one that sends nothing. -/
theorem State.answers.after (h1 : s.answers t []) (h2 : t.answers u l) : s.answers u l := by
  simpa using h1.trans h2

theorem State.answers.keepsLines (h : s.answers t l) : s.keepsLines t where
  ways := h.ways
  staged := by rw [h.frame]
  sets q := h.moves.setOf (by decide) q
  entries q := by rw [h.frame]; rfl

theorem State.answers.chanLost (h : s.answers t l) (c : Nat) : t.chanLost c = s.chanLost c := by
  unfold State.chanLost State.chanState State.rdC
  rw [h.moves.reads _ (by decide) (by decide)]

theorem Treed.answers (h : Treed s t) (hm : s.movesOnly t readFields) : s.answers t [] :=
  ⟨by unfold Treed at h; rw [h]; rfl, fun k => by unfold Treed at h; rw [h], hm⟩

theorem Counted.answers (h : Counted s t) (hm : s.movesOnly t readFields) : s.answers t [] := h.accessed.treed.answers hm

theorem State.answers.foldl {α : Type} {f : State → α → State} (hf : ∀ (s : State) (a : α), s.answers (f s a) []) (r : List α)
    (s : State) : s.answers (r.foldl f s) [] :=
  foldl_related (R := fun s t => s.answers t []) .refl .trans hf r s

end

/-! ## Counters, ports and caches -/

theorem State.tally_answers (s : State) (d i n : Nat) : s.answers (s.tally d i n) [] :=
  (s.tally_counted ..).answers (.tally .refl ..)

theorem State.bump_answers (s : State) {f : Field} (d i n : Nat) (hk : f.kinds < 16) (hf : f ∈ readFields ++ bookFields) :
    s.answers (s.bump f d i n) [] :=
  (s.bump_counted ..).answers (.bump .refl hk hf)

theorem State.send_answers (s : State) (o : Out) : s.answers (s.send o) [o] := ⟨rfl, fun _ => rfl, .of_regs .refl rfl⟩

theorem State.access_answers (s : State) (n port a : Nat) (w : Bool) : s.answers (s.access n port a w) [] :=
  (s.access_accessed ..).treed.answers (s.access_movesOnly ..).toRead

theorem State.blockAccess_answers (s : State) (q w port k count : Nat) (write : Bool) :
    s.answers (s.blockAccess q w port k count write) [] :=
  (s.accesses_accessed ..).treed.answers (s.accesses_movesOnly ..).toRead

theorem State.mapWritten_answers (s : State) (d line : Nat) : s.answers (s.mapWritten d line) [] :=
  (s.pageWritten_treed ..).answers (s.pageWritten_movesOnly ..).toRead

theorem State.tagTouch_answers (s : State) (q : Nat) : s.answers (s.tagTouch q) [] := by
  unfold State.tagTouch
  extract_lets d x y s1
  have touched : s.answers s1 [] := by
    refine .then ?_ (State.tally_answers ..)
    exact ⟨rfl, fun _ => rfl, .of_regs .refl rfl⟩
  clear_value s1
  split
  · exact touched
  · refine .then (.then (touched.then ?_) (State.tally_answers ..)) (State.access_answers ..)
    exact s1.bump_answers _ _ _ (by decide) (by decide)

theorem State.mapTouch_answers (s : State) (q : Nat) (dirty : Bool) : s.answers (s.mapTouch q dirty) [] := by
  unfold State.mapTouch
  extract_lets d x hit y s1 s2 s3
  have touched : s.answers s2 [] := by
    refine .then (.then (t := s1) ?_ (State.tally_answers ..)) (State.tally_answers ..)
    exact ⟨rfl, fun _ => rfl, .of_regs .refl rfl⟩
  clear_value s2
  split
  · exact touched
  · refine .then ?_ (State.access_answers ..)
    simp only [s3]
    split
    · exact touched.then (s2.mapWritten_answers ..)
    · exact touched

/-- Where no metadata line is lost and no data is bad, what a request meets leaves every line where it lies (R190, R203, R270). -/
theorem State.meets_answers (s : State) (line : Nat) {env : PathEnv} (read : Bool) (he : clearEnv env = true) :
    s.answers (s.meets line env read) [] := by
  simp only [clearEnv, Bool.and_eq_true, bne_iff_ne, Bool.not_eq_true'] at he
  obtain ⟨⟨mapKept, tagsKept⟩, dataGood⟩ := he
  unfold State.meets
  extract_lets q d s1 s2 s3
  have h1 : s.answers s1 [] := (s.tagTouch_answers q).then (State.mapTouch_answers ..)
  clear_value s1
  have h2 : s.answers s2 [] := by
    simp only [s2]
    cases htags : env.tags with
    | good => exact h1
    | mirror => exact h1.then (s1.bump_answers _ _ _ (by decide) (by decide))
    | lost => exact absurd htags tagsKept
  clear_value s2
  have h3 : s.answers s3 [] := by
    simp only [s3]
    cases hmap : env.map with
    | good => exact h2
    | restored =>
      dsimp only
      split <;> exact h2.then (s2.bump_answers _ _ _ (by decide) (by decide))
    | lost => exact absurd hmap mapKept
  rw [if_neg (by simp [dataGood])]
  exact h3

/-! ## Admission and responses -/

theorem State.request_answers (s : State) (event h line : Nat) : s.answers (s.request event h line) [] := by
  unfold State.request
  extract_lets d x s1
  have h1 : s.answers s1 [] := by
    refine .then ?_ (State.tally_answers ..)
    exact ⟨rfl, fun _ => rfl, .of_regs .refl rfl⟩
  clear_value s1
  split
  · exact h1
  · exact (h1.then (s1.tally_answers ..)).then (State.tally_answers ..)

theorem State.takeIn_answers (s : State) (line : Nat) (behind : Bool) : s.answers (s.takeIn line behind) [] := by
  unfold State.takeIn
  extract_lets d
  split
  · exact .then (s.bump_answers _ _ _ (by decide) (by decide)) (State.tally_answers ..)
  · exact .refl s

theorem State.withheld_answers (s : State) (d : Nat) (write : Bool) : s.answers (s.withheld d write) [] := by
  unfold State.withheld
  split
  · exact .then (s.bump_answers _ _ _ (by decide) (by decide)) (State.tally_answers ..)
  · split
    · exact s.tally_answers ..
    · exact .refl s

theorem State.sendRead_answers (s : State) (d h : Nat) (tag : BitVec 16) (data : Option (BitVec 512)) :
    s.answers (s.sendRead d h tag data) [.memData h tag data] :=
  (s.send_answers _).then (State.tally_answers ..)

/-! ## Planned reads -/

theorem State.bankStatus_answers (s : State) (n t : Nat) (x : MediaStatus) : s.answers (s.bankStatus n t x) [] :=
  ⟨rfl, fun _ => rfl, .of_regs .refl rfl⟩

theorem State.kettle_answers (s : State) (c t f m : Nat) (late : Bool) : s.answers (s.kettle c t f m late).1 [] := by
  unfold State.kettle
  split
  · exact .refl s
  · extract_lets key x suspend
    have suspended : ∀ limit, s.answers (suspend limit).1 [] := fun limit => by
      simp only [suspend]
      split
      · exact .refl s
      · split
        · refine .then (.then (t := { s with media := _ }) ?_ (State.bump_answers _ _ _ _ (by decide) (by decide)))
            (State.tally_answers ..)
          exact ⟨rfl, fun _ => rfl, .of_regs .refl rfl⟩
        · exact .then ((s.bankStatus_answers ..).then (State.bump_answers _ _ _ _ (by decide) (by decide)))
            (State.tally_answers ..)
    clear_value suspend
    split
    · exact .refl s
    · exact .refl s
    · exact suspended 8
    · exact suspended 64

/-- Planned reads may change as they like: no line lies in them. -/
theorem State.plans_answers (s : State) (l : List Plan) (n : Nat) :
    s.answers { s with path := { s.path with plans := l, nextPlan := n } } [] :=
  ⟨rfl, fun _ => rfl, .of_regs .refl rfl⟩

theorem State.issuePlan_answers (s : State) (p : Plan) : s.answers (s.issuePlan p) [] := by
  unfold State.issuePlan
  extract_lets c m k s1 set
  have found : s.answers k.1 [] := by
    simp only [k]
    split
    · exact s.kettle_answers ..
    · exact .refl s
  clear_value k
  have counted : s.answers s1 [] := by
    simp only [s1]
    split
    · split
      · exact ((found.then (State.bump_answers _ _ _ _ (by decide) (by decide))).then (State.tally_answers ..)).then
          (State.tally_answers ..)
      · exact (found.then (State.tally_answers ..)).then (State.tally_answers ..)
    · exact found.then (State.tally_answers ..)
  clear_value s1
  exact iteInduction (motive := fun t => s.answers t []) (fun _ => .refl s) (fun _ => counted.then (s1.plans_answers _ _))

theorem State.plan_answers (s : State) (q sheet : Nat) (purpose : Purpose) (late : Bool) (rs : List LotEntry) :
    s.answers (s.plan q sheet purpose late rs) [] := by
  unfold State.plan
  exact .then (s.plans_answers _ _) (State.issuePlan_answers ..)

theorem State.stage5_answers (s : State) (late : Bool) (r : LotEntry) : s.answers (s.stage5 late r) [] := by
  unfold State.stage5
  extract_lets q n x s1 blk
  split
  · exact s.plans_answers _ _
  · have planned : s.answers s1 [] := s.plan_answers ..
    clear_value s1
    split
    · exact planned.then (.foldl (fun t _ => t.plan_answers ..) _ s1)
    · exact planned

end Sys2Proof.Machine
end

section
/-! SUPPORT. The plans that a read leaves, and where its answer comes from (R187, R190, R191, R204). -/

namespace Sys2Proof.Machine

/-! ## Lists of which one element changes -/

theorem map_modifyFirst {α β : Type} {p : α → Bool} {f : α → α} {g : α → β} (h : ∀ a, g (f a) = g a) (l : List α) :
    (modifyFirst p f l).map g = l.map g := by
  induction l with
  | nil => rfl
  | cons a l ih =>
    unfold modifyFirst
    split
    · simp [h]
    · simp [ih]

theorem exists_mem_modifyFirst {α : Type} {p : α → Bool} (f : α → α) {l : List α} (h : l.any p = true) :
    ∃ a ∈ l, p a = true ∧ f a ∈ modifyFirst p f l := by
  induction l with
  | nil => simp at h
  | cons a l ih =>
    unfold modifyFirst
    by_cases ha : p a = true
    · exact ⟨a, by simp, ha, by simp [ha]⟩
    · obtain ⟨b, hb, hpb, hfb⟩ := ih (by simpa [ha] using h)
      exact ⟨b, by simp [hb], hpb, by simp [ha, hfb]⟩

/-! ## Plans -/

/-- A plan but for how it is issued. -/
def Plan.unissued (p : Plan) : Plan := { p with around := false, issued := false, reads := [] }

/-- The plans of a state but for how they are issued. -/
def State.planned (s : State) : List Plan := s.path.plans.map Plan.unissued

theorem State.kettle_path (s : State) (c t f m : Nat) (late : Bool) : (s.kettle c t f m late).1.path = s.path := by
  unfold State.kettle
  extract_lets key x suspend
  have suspended : ∀ limit, (suspend limit).1.path = s.path := fun limit => by
    simp only [suspend]
    split
    · rfl
    · split
      · exact State.tally_path ..
      · exact State.tally_path ..
  clear_value suspend
  repeat' split
  · rfl
  · rfl
  · rfl
  · exact suspended 8
  · exact suspended 64

theorem State.issuePlan_planned (s : State) (p : Plan) : (s.issuePlan p).planned = s.planned := by
  unfold State.issuePlan
  extract_lets c m k s1 set
  have found : k.1.path = s.path := by
    simp only [k]
    split
    · exact s.kettle_path ..
    · rfl
  clear_value k
  have counted : s1.path = s.path := by
    simp only [s1]
    split
    · split <;> simp [State.tallyC, State.bumpC, found]
    · simp [State.tallyC, found]
  clear_value s1
  refine iteInduction (motive := fun t : State => t.planned = s.planned) (fun _ => rfl) (fun _ => ?_)
  rw [State.planned, State.planned, ← counted]
  exact map_modifyFirst (f := set) (fun _ => rfl) _

/-- A frame read is planned behind those that are planned already. -/
theorem State.plan_planned (s : State) (q sheet : Nat) (purpose : Purpose) (late : Bool) (rs : List LotEntry) :
    ∃ p : Plan, p.id = s.path.nextPlan ∧ p.purpose = purpose ∧ p.quire = q ∧ p.sheet = sheet ∧ p.readers = rs ∧
      (s.plan q sheet purpose late rs).planned = s.planned ++ [p.unissued] := by
  unfold State.plan
  extract_lets e seq p
  refine ⟨p, rfl, rfl, rfl, rfl, rfl, ?_⟩
  rw [State.issuePlan_planned]
  simp [State.planned]

/-- A plan that has been made stands, issued or not. -/
theorem State.exists_plan {s : State} {p : Plan} (h : p.unissued ∈ s.planned) :
    ∃ x ∈ s.path.plans,
      x.id = p.id ∧ x.purpose = p.purpose ∧ x.quire = p.quire ∧ x.sheet = p.sheet ∧ x.readers = p.readers := by
  obtain ⟨x, listed, same⟩ := List.mem_map.mp h
  have kept : ∀ {β : Type} (g : Plan → β), g x.unissued = g p.unissued := fun g => congrArg g same
  exact ⟨x, listed, kept Plan.id, kept Plan.purpose, kept Plan.quire, kept Plan.sheet, kept Plan.readers⟩

/-- Planning adds one plan, and it is for the sheet that was asked for. -/
theorem State.plan_adds (s : State) (q sheet : Nat) (purpose : Purpose) (late : Bool) (rs : List LotEntry) :
    (s.plan q sheet purpose late rs).path.plans.length = s.path.plans.length + 1 ∧
      ∃ p ∈ (s.plan q sheet purpose late rs).path.plans,
        p.id = s.path.nextPlan ∧ p.purpose = purpose ∧ p.quire = q ∧ p.sheet = sheet ∧ p.readers = rs := by
  obtain ⟨p, id, rfl, rfl, rfl, rfl, planned⟩ := s.plan_planned q sheet purpose late rs
  rw [← id]
  exact ⟨by simpa [State.planned] using congrArg List.length planned, State.exists_plan (by simp [planned])⟩

/-- A read of a line goes to a planned read of its frame, whose answer it waits for (R187, R191). -/
theorem State.stage5_reader (s : State) (late : Bool) (r : LotEntry) :
    ∃ p ∈ (s.stage5 late r).path.plans, r ∈ p.readers := by
  unfold State.stage5
  extract_lets q n x s1 blk
  split
  · next attached =>
    obtain ⟨p, -, -, joined⟩ := exists_mem_modifyFirst (fun p : Plan => { p with readers := p.readers ++ [r] }) attached
    exact ⟨_, joined, by simp⟩
  · obtain ⟨p, -, -, -, -, readers, planned⟩ := s.plan_planned q n .host late [r]
    have made : p.unissued ∈ s1.planned := by simp [s1, planned]
    have filled : ∀ (t : State) (l : List Nat), t.planned <+: (l.foldl (fun s m => s.plan q m .background false []) t).planned :=
      fun t l => foldl_related (R := fun t u : State => t.planned <+: u.planned) (fun _ => List.prefix_rfl) List.IsPrefix.trans
        (fun t m => by
          obtain ⟨p, -, -, -, -, -, planned⟩ := t.plan_planned q m .background false []
          exact planned ▸ List.prefix_append ..) l t
    have waits : ∀ t : State, s1.planned <+: t.planned → ∃ p ∈ t.path.plans, r ∈ p.readers := fun t h => by
      obtain ⟨x, listed, -, -, -, -, same⟩ := State.exists_plan (h.subset made)
      exact ⟨x, listed, by simp [same, readers]⟩
    clear_value s1
    split
    · exact waits _ (filled ..)
    · exact waits _ List.prefix_rfl

/-! ## Where a read is answered from -/

/-- What a read is answered with at once, where its line has been found: nothing where it lies on media (R190, R204). -/
def Found.answer (h : Nat) (tag : BitVec 16) : Found → List Out
  | .caddy data bad => [.memData h tag (if bad then none else some data)]
  | .zeros => [.memData h tag (some 0)]
  | .poison => [.memData h tag none]
  | .media => []

/-- A way that is read is the one used last. -/
theorem State.putWay_answers {s : State} {q : Nat} {p : Nat × Way} (h : s.wayOf q = some p) :
    s.answers (s.putWay q p.1 { p.2 with age := 0 }) [] where
  frame := rfl
  ways k := by
    unfold State.putWay
    dsimp only
    by_cases hk : k = wayKey (ownerOf q) (s.setOf q) p.1
    · rw [hk, Tab.find?_ins_self, State.find?_of_wayOf h]
      rfl
    · rw [Tab.find?_ins_ne _ _ hk]
  moves := .of_regs .refl rfl

theorem State.readAt_answers (s : State) (line : Nat) (env : PathEnv) (h : Nat) (tag : BitVec 16) :
    s.answers (s.readAt line env h tag) ((s.find line).answer h tag) := by
  unfold State.readAt
  extract_lets q d s1 x
  have used : s.answers s1 [] := by
    simp only [s1]
    split
    · next p found => exact (State.putWay_answers found).then (State.blockAccess_answers ..)
    · exact .refl s
  clear_value s1
  cases s.find line with
  | caddy data poison =>
    refine .after (.then (used.then ?_) (State.tally_answers ..)) (State.sendRead_answers ..)
    exact s1.bump_answers _ _ _ (by decide) (by decide)
  | zeros =>
    refine .after (.then ?_ (State.tally_answers ..)) (State.sendRead_answers ..)
    exact s.bump_answers _ _ _ (by decide) (by decide)
  | poison => exact s.sendRead_answers ..
  | media =>
    refine .then (.then ?_ (State.tally_answers ..)) (State.stage5_answers ..)
    exact s.bump_answers _ _ _ (by decide) (by decide)

/-- A read of a line on media waits for a planned read. -/
theorem State.readAt_reader {s : State} {line : Nat} (hf : s.find line = .media) (env : PathEnv) (h : Nat) (tag : BitVec 16) :
    ∃ p ∈ (s.readAt line env h tag).path.plans, ∃ r ∈ p.readers, r.head = h ∧ r.tag = tag ∧ r.line = line := by
  unfold State.readAt
  extract_lets q d
  rw [hf]
  obtain ⟨p, planned, reads⟩ := State.stage5_reader (((s.bump Reg.CDY_STAT_READ_MISS.COUNT d 0 1).tally d 199 1)) env.late
    (s.entryOf line h tag 0 2 false env.cycle (s.partBytes line).2 (s.partBytes line).1)
  exact ⟨p, planned, _, reads, rfl, rfl, rfl⟩

/-- What a read of a line is answered with at once: poison in Halt and on a lost channel, and else as its line is found. -/
def State.lineAnswer (s : State) (line h : Nat) (tag : BitVec 16) : List Out :=
  if s.ctl.mode = .m10 ∨ s.chanLost (chanOf (line / 16)) = true then [.memData h tag none] else (s.find line).answer h tag

/-- What a read is answered with at once: poison where no decoder maps it (R92), and else as its line is. -/
def State.readAnswer (s : State) (h hpa : Nat) (tag : BitVec 16) : List Out :=
  match s.lineOf h hpa with
  | none => [.memData h tag none]
  | some line => s.lineAnswer line h tag

section
variable {s : State} {line : Nat} {env : PathEnv} {behind : Bool} {h : Nat} {tag : BitVec 16}

/-- In Halt and on a lost channel a read is answered with poison (R73, R287). -/
theorem State.readLine_poison (hp : s.ctl.mode = .m10 ∨ s.chanLost (chanOf (line / 16)) = true) :
    s.readLine line env behind h tag = (s.takeIn line behind).sendRead (ownerOf (line / 16)) h tag none := by
  unfold State.readLine
  exact if_pos hp

theorem State.readLine_serves (hm : s.ctl.mode ≠ .m10) (hc : s.chanLost (chanOf (line / 16)) = false) (he : clearEnv env = true) :
    s.readLine line env behind h tag = ((s.takeIn line behind).meets line env true).readAt line env h tag := by
  have mapKept : env.map ≠ .lost := by
    simp only [clearEnv, Bool.and_eq_true, bne_iff_ne] at he
    exact he.1.1
  unfold State.readLine
  simp [hm, hc, mapKept]

theorem State.readLine_answers (he : clearEnv env = true) :
    s.answers (s.readLine line env behind h tag) (s.lineAnswer line h tag) := by
  unfold State.lineAnswer
  split
  · next hp =>
    rw [State.readLine_poison hp]
    exact (s.takeIn_answers ..).after (State.sendRead_answers ..)
  · next hp =>
    obtain ⟨serving, notLost⟩ := not_or.mp hp
    rw [State.readLine_serves serving (by simpa using notLost) he]
    have met := (s.takeIn_answers line behind).then (State.meets_answers _ line true he)
    rw [← met.keepsLines.find]
    exact met.after (State.readAt_answers ..)

theorem State.readLine_reader (hm : s.ctl.mode ≠ .m10) (hc : s.chanLost (chanOf (line / 16)) = false) (he : clearEnv env = true)
    (hf : s.find line = .media) :
    ∃ p ∈ (s.readLine line env behind h tag).path.plans, ∃ r ∈ p.readers, r.head = h ∧ r.tag = tag ∧ r.line = line := by
  have met := (s.takeIn_answers line behind).then (State.meets_answers _ line true he)
  rw [State.readLine_serves hm hc he]
  exact State.readAt_reader ((met.keepsLines.find line).trans hf) ..

end

end Sys2Proof.Machine
end

section
/-! SUPPORT. Reads and writes of the host, and speculative reads (R73, R92, R184, R190, R198). -/

namespace Sys2Proof.Machine

/-! ## A read with its credit -/

/-! ## What a request moves but for its line -/

theorem State.request_frame (s : State) (event h line : Nat) : s.request event h line = { s with
    regs := (s.request event h line).regs, heads := (s.request event h line).heads, pm := (s.request event h line).pm
    ctl := { s.ctl with lastMem := some s.ms } } := by
  unfold State.request
  extract_lets d x s1
  have h1 : Counted { s with ctl := { s.ctl with lastMem := some s.ms } } s1 := State.tally_counted ..
  clear_value s1
  split
  · exact h1
  · exact (h1.trans (s1.tally_counted ..)).trans (State.tally_counted ..)

theorem State.takeIn_counted (s : State) (line : Nat) (behind : Bool) : Counted s (s.takeIn line behind) := by
  unfold State.takeIn
  extract_lets d
  split
  · exact (s.bump_counted ..).trans (State.tally_counted ..)
  · exact Counted.refl s

theorem State.withheld_counted (s : State) (d : Nat) (write : Bool) : Counted s (s.withheld d write) := by
  unfold State.withheld
  split
  · exact (s.bump_counted ..).trans (State.tally_counted ..)
  · split
    · exact s.tally_counted ..
    · exact Counted.refl s

section
variable {s t : State} {h hpa line : Nat} {tag : BitVec 16} {env : PathEnv} {behind : Bool}

/-- A line's answer depends on where it lies, the mode and the channel's state, and on no counter or credit. -/
theorem State.credited.lineAnswer (hc : s.credited t) : t.lineAnswer line h tag = s.lineAnswer line h tag := by
  have mode : t.ctl = s.ctl := by rw [hc.frame]
  simp only [State.lineAnswer, hc.chanLost, hc.keepsLines.find, mode]

theorem State.credited.readAnswer (hc : s.credited t) : t.readAnswer h hpa tag = s.readAnswer h hpa tag := by
  simp only [State.readAnswer, hc.heads.lineOf, hc.lineAnswer]

theorem State.answers.lineAnswer {l : List Out} (ha : s.answers t l) : t.lineAnswer line h tag = s.lineAnswer line h tag := by
  have mode : t.ctl.mode = s.ctl.mode := by rw [ha.frame]
  simp only [State.lineAnswer, ha.chanLost, ha.keepsLines.find, mode]

theorem State.admitRead_unmapped (hl : s.lineOf h hpa = none) :
    s.admitRead h tag hpa env behind = (s.useCredit h false).send (.memData h tag none) := by
  have : (s.useCredit h false).lineOf h hpa = none := hl
  simp only [State.admitRead, this]

theorem State.admitRead_mapped (hl : s.lineOf h hpa = some line) :
    s.admitRead h tag hpa env behind =
      (((s.useCredit h false).request 192 h line).readLine line env behind h tag).withheld (ownerOf (line / 16)) false := by
  have : (s.useCredit h false).lineOf h hpa = some line := hl
  simp only [State.admitRead, this]

theorem State.admitRead_answers (he : clearEnv env = true) :
    (s.useCredit h false).answers (s.admitRead h tag hpa env behind) (s.readAnswer h hpa tag) := by
  unfold State.readAnswer
  cases hl : s.lineOf h hpa with
  | none =>
    rw [State.admitRead_unmapped hl]
    exact State.send_answers ..
  | some line =>
    have arrived := (s.useCredit h false).request_answers 192 h line
    have same : ((s.useCredit h false).request 192 h line).lineAnswer line h tag = s.lineAnswer line h tag :=
      arrived.lineAnswer.trans (s.useCredit_credited h false).lineAnswer
    rw [State.admitRead_mapped hl]
    dsimp only
    rw [← same]
    exact (arrived.after (State.readLine_answers he)).then (State.withheld_answers _ _ _)

theorem State.admitRead_reader (hl : s.lineOf h hpa = some line) (hm : s.ctl.mode ≠ .m10)
    (hc : s.chanLost (chanOf (line / 16)) = false) (he : clearEnv env = true) (hf : s.find line = .media) :
    ∃ p ∈ (s.admitRead h tag hpa env behind).path.plans, ∃ r ∈ p.readers, r.head = h ∧ r.tag = tag ∧ r.line = line := by
  have used := s.useCredit_credited h false
  have arrived := (s.useCredit h false).request_answers 192 h line
  rw [State.admitRead_mapped hl, State.withheld_counted]
  dsimp only
  refine State.readLine_reader ?_ ?_ he ?_
  · rw [State.request_frame]; exact hm
  · rw [arrived.chanLost, used.chanLost, hc]
  · rw [arrived.keepsLines.find, used.keepsLines.find, hf]

end

/-! ## Halt (R73) -/

/-- From s to t the message `o` has been sent, and nothing else has moved but counters and indications, credits, and the time of the last
request. -/
def State.discards (s t : State) (o : Out) : Prop :=
  t = { s with
    regs := t.regs, heads := t.heads, pm := t.pm, out := o :: s.out, ctl := { s.ctl with lastMem := t.ctl.lastMem }
    path := { s.path with credits := t.path.credits } }

section
variable {s : State} {h hpa line : Nat} {tag : BitVec 16} {env : PathEnv} {behind : Bool}

/-- A request that is answered at once, with nothing but a message. -/
theorem State.discards_of {u v : State} {write : Bool} {event : Nat} {o : Out}
    (hv : v = { u with regs := v.regs, heads := v.heads, pm := v.pm, out := o :: u.out })
    (hu : Counted ((s.useCredit h write).request event h line) u) : s.discards (v.withheld (ownerOf (line / 16)) write) o := by
  unfold State.discards
  rw [State.withheld_counted, hv, hu, State.request_frame]
  rfl

theorem State.admitRead_halted (hm : s.ctl.mode = .m10) (hl : s.lineOf h hpa = some line) :
    s.discards (s.admitRead h tag hpa env behind) (.memData h tag none) := by
  have halted : ((s.useCredit h false).request 192 h line).ctl.mode = .m10 := by rw [State.request_frame]; exact hm
  rw [State.admitRead_mapped hl, State.readLine_poison (.inl halted)]
  refine State.discards_of (h := h) (event := 192) ?_ (State.takeIn_counted _ line behind)
  unfold State.sendRead
  rw [State.tally_counted]
  rfl

theorem State.admitWrite_mapped {data : BitVec 512} {be : BitVec 64} {full poison : Bool} (hl : s.lineOf h hpa = some line) :
    s.admitWrite h tag hpa data be full poison env behind =
      (((s.useCredit h true).request (if full then 193 else 194) h line).writeDpa line data be full poison env behind h tag).withheld
        (ownerOf (line / 16)) true := by
  have : (s.useCredit h true).lineOf h hpa = some line := hl
  simp only [State.admitWrite, this]

theorem State.admitWrite_halted {data : BitVec 512} {be : BitVec 64} {full poison : Bool} (hm : s.ctl.mode = .m10)
    (hl : s.lineOf h hpa = some line) :
    s.discards (s.admitWrite h tag hpa data be full poison env behind) (.memDone h tag) := by
  have halted : ((s.useCredit h true).request (if full then 193 else 194) h line).ctl.mode = .m10 := by
    rw [State.request_frame]; exact hm
  rw [State.admitWrite_mapped hl]
  unfold State.writeDpa
  rw [if_pos (.inl halted)]
  refine State.discards_of (h := h) (event := if full then 193 else 194) ?_ (State.takeIn_counted _ line behind)
  rw [State.tally_counted, State.tally_counted (State.send ..)]
  rfl

/-- A discarded request that had to be given its credit first. -/
theorem State.credited.discards {t u : State} {o : Out} (hc : s.credited t) (hd : t.discards u o) :
    u.out = o :: s.out ∧ u.path = { s.path with credits := u.path.credits } ∧ u.mapping = s.mapping ∧ u.media = s.media := by
  refine ⟨?_, ?_, ?_, ?_⟩ <;> rw [hd, hc.frame]

end

/-! ## Speculative reads (R184) -/

theorem State.tagTouch_path (s : State) (q : Nat) :
    (s.tagTouch q).path = { s.path with tagCache := (s.tagTouch q).path.tagCache } := by
  unfold State.tagTouch
  extract_lets d x y s1
  have touched : s1.path = { s.path with tagCache := s1.path.tagCache } := by
    simp only [s1, State.tally_path, y]
  clear_value s1
  split
  · exact touched
  · rw [State.access_accessed, State.tally_path, State.bump_path]
    exact touched

theorem State.mapTouch_path (s : State) (q : Nat) (dirty : Bool) : (s.mapTouch q dirty).path = s.path := by
  unfold State.mapTouch
  extract_lets d x hit y s1 s2 s3
  have touched : s2.path = s.path := by simp only [s2, State.tally_path, s1]
  clear_value s2
  split
  · exact touched
  · rw [State.access_accessed]
    simp only [s3]
    split
    · rw [State.mapWritten, State.pageWritten_treed]; exact touched
    · exact touched

/-- What a request meets plans no read. -/
theorem State.meets_path (s : State) (line : Nat) {env : PathEnv} (read : Bool) (he : clearEnv env = true) :
    (s.meets line env read).path = { s.path with tagCache := (s.tagTouch (line / 16)).path.tagCache } := by
  simp only [clearEnv, Bool.and_eq_true, bne_iff_ne, Bool.not_eq_true'] at he
  obtain ⟨⟨mapKept, tagsKept⟩, dataGood⟩ := he
  unfold State.meets
  extract_lets q d s1 s2 s3
  have h1 : s1.path = { s.path with tagCache := (s.tagTouch (line / 16)).path.tagCache } := by
    simp only [s1, State.mapTouch_path, q]
    exact s.tagTouch_path _
  clear_value s1
  have h2 : s2.path = s1.path := by
    simp only [s2]
    cases htags : env.tags with
    | good => rfl
    | mirror => rfl
    | lost => exact absurd htags tagsKept
  clear_value s2
  have h3 : s3.path = s2.path := by
    simp only [s3]
    cases hmap : env.map with
    | good => rfl
    | restored => dsimp only; split <;> rfl
    | lost => exact absurd hmap mapKept
  rw [if_neg (by simp [dataGood]), h3, h2, h1]

section
variable {s : State} {head : Fin 2} {hpa line : Nat} {env : PathEnv}

/-- The state in which a speculative read has looked its line up. -/
def State.speculates (s : State) (h line : Nat) (env : PathEnv) : State := (s.request 195 h line).meets line env false

theorem State.speculates_answers (he : clearEnv env = true) (h : Nat) : s.answers (s.speculates h line env) [] :=
  (s.request_answers ..).then (State.meets_answers _ _ _ he)

theorem State.speculates_path (he : clearEnv env = true) (h : Nat) :
    (s.speculates h line env).path =
      { s.path with tagCache := ((s.request 195 h line).tagTouch (line / 16)).path.tagCache } := by
  rw [State.speculates, State.meets_path _ _ _ he, State.request_frame]

/-- A speculative read queues a background read of its sheet where its quire lies on media alone (R184). -/
theorem exec_memspecrd_mapped (hs : s.inService = true) (hl : s.memLink head = true) (he : clearEnv env = true)
    (hm : s.lineOf head hpa = some line) (hc : s.chanLost (chanOf (line / 16)) = false) :
    exec (.memspecrd head hpa env) s = .next
      (if (s.wayOf (line / 16)).isNone && (s.stagedOf (line / 16)).isEmpty && onMedia (s.entry (line / 16)) then
        (s.speculates head line env).plan (line / 16) (line % 16 / 4) .background false []
      else s.speculates head line env) := by
  have kept := (s.speculates_answers (line := line) he head).keepsLines
  change execMemspecrd head hpa env s = _
  rw [← kept.wayOf_isNone, ← kept.stagedOf, ← kept.entries]
  simp [execMemspecrd, hs, hl, hm, hc, State.speculates]

theorem exec_memspecrd_unserved (h : s.inService = false ∨ s.memLink head = false ∨ s.lineOf head hpa = none) :
    exec (.memspecrd head hpa env) s = .next s := by
  change execMemspecrd head hpa env s = _
  rcases h with h | h | h <;> simp [execMemspecrd, h]

end

/-! ## The statements -/

/-- What a request that was given its credit and then served leaves. -/
theorem State.credited.served {s u t : State} {l : List Out} (hc : s.credited u) (ha : u.answers t l) :
    t.mapping.map = s.mapping.map ∧ t.media.images = s.media.images ∧ t.qst = s.qst ∧ t.lsa = s.lsa ∧ t.sec = s.sec ∧
      t.bulk = s.bulk ∧ t.ctl = { s.ctl with lastMem := t.ctl.lastMem } ∧ t.path.credits = u.path.credits ∧ t.out = l ++ s.out := by
  refine ⟨?_, ?_, ?_, ?_, ?_, ?_, ?_, ?_, ?_⟩ <;> rw [ha.frame] <;> dsimp only <;> rw [hc.frame]

/-- Settles O8: what a read is answered with follows from where its line lies, and serving it moves no line. -/
theorem hostReadIsAnswered : Obligations.HostReadIsAnswered := by
  intro s head tag hpa env ht htie hr he
  have granted := s.grant_credited head
  have given := granted.trans (State.useCredit_credited _ head false)
  have served : ((s.grant head).useCredit head false).answers ((s.grant head).admitRead head tag hpa env false)
      (s.readAnswer head hpa tag) := granted.readAnswer ▸ State.admitRead_answers he
  obtain ⟨map, images, qst, lsa, sec, bulk, ctl, credits, out⟩ := given.served served
  refine ⟨_, exec_memrd_taken ht htie hr, rfl, fun l => (served.keepsLines.find l).trans (given.keepsLines.find l), map, images, qst,
    lsa, sec, bulk, ctl, ?_, fun hl => ?_, fun line hl hc => ?_, fun line hl hc hm => ?_⟩
  · rw [credits]
    exact State.useCredit_rd _ _ (State.rd_ne_zero_of_takes hr)
  · simpa [State.readAnswer, hl] using out
  · simpa [State.readAnswer, hl, State.lineAnswer, hc] using out
  · have found : ((s.grant head).admitRead head tag hpa env false).out = (s.find line).answer head tag ++ s.out := by
      simpa [State.readAnswer, hl, State.lineAnswer, hc, hm] using out
    cases hf : s.find line with
    | caddy data poison => rw [hf] at found; exact found
    | zeros => rw [hf] at found; exact found
    | poison => rw [hf] at found; exact found
    | media =>
      rw [hf] at found
      refine ⟨found, State.admitRead_reader (line := line) ?_ ?_ ?_ he ?_⟩
      · rw [granted.heads.lineOf, hl]
      · rw [granted.frame]; exact hm
      · rw [granted.chanLost, hc]
      · rw [granted.keepsLines.find, hf]

/-- Settles O9: Halt answers without a lookup, and a speculative read plans at most a background read. -/
theorem readsWithoutData : Obligations.ReadsWithoutData := by
  refine ⟨fun s head tag hpa line data be poison env ht htie hm hl => ?_, fun s head hpa line env hs hlink he hl hc => ?_,
    fun s head hpa env h => exec_memspecrd_unserved h⟩
  · have granted := s.grant_credited head
    have halted : (s.grant head).ctl.mode = .m10 := by rw [granted.frame]; exact hm
    have mapped : (s.grant head).lineOf head hpa = some line := by rw [granted.heads.lineOf, hl]
    exact ⟨fun hr => ⟨_, exec_memrd_taken ht htie hr, granted.discards (State.admitRead_halted halted mapped)⟩,
      fun hr => ⟨⟨_, exec_memwr_taken ht htie hr, granted.discards (State.admitWrite_halted halted mapped)⟩,
        ⟨_, exec_memwrptl_taken ht htie hr, granted.discards (State.admitWrite_halted halted mapped)⟩⟩⟩
  · have met := s.speculates_answers (line := line) he head
    have path := s.speculates_path (line := line) he head
    have plans : (s.speculates head line env).path.plans = s.path.plans := by rw [path]
    have next : (s.speculates head line env).path.nextPlan = s.path.nextPlan := by rw [path]
    rw [exec_memspecrd_mapped hs hlink he hl hc]
    refine ⟨_, rfl, ?_⟩
    by_cases missed : ((s.wayOf (line / 16)).isNone && (s.stagedOf (line / 16)).isEmpty && onMedia (s.entry (line / 16))) = true
    · have planned := met.then (State.plan_answers _ (line / 16) (line % 16 / 4) .background false [])
      obtain ⟨map, images, -, -, -, -, -, -, out⟩ := (State.credited.refl s).served planned
      obtain ⟨length, plan⟩ := (s.speculates head line env).plan_adds (line / 16) (line % 16 / 4) .background false []
      rw [plans] at length
      rw [next] at plan
      rw [if_pos missed, if_pos missed]
      exact ⟨out, planned.keepsLines.find, map, images, length, plan⟩
    · obtain ⟨map, images, -, -, -, -, -, -, out⟩ := (State.credited.refl s).served met
      rw [if_neg missed, if_neg missed]
      exact ⟨out, met.keepsLines.find, map, images, plans⟩

end Sys2Proof.Machine
end

section
/-! SUPPORT. Messages beside counters and indications, and mailbox commands that reach their effect (R98, R99, R106, R108). -/

namespace Sys2Proof.Machine

/-! ## Messages -/

/-- From s to t the messages `os` have been sent beside interrupt vectors, newest first, and beside the heads and what the platform manager
is to be told nothing has moved but registers of `l` and `bookFields`. -/
structure State.tells (s t : State) (l : List Field) (os : List Out) : Prop where
  frame : t = { s with regs := t.regs, heads := t.heads, pm := t.pm, out := t.out }
  manager : s.samePm t
  moves : s.movesOnly t l
  messages : t.out.filter (fun x => !x.isVector) = os ++ s.out.filter (fun x => !x.isVector)

section
variable {s t u : State} {l : List Field} {os ps : List Out}

theorem State.tells.refl : s.tells s l [] := ⟨rfl, rfl, .refl, rfl⟩

theorem State.tells.trans (h1 : s.tells t l os) (h2 : t.tells u l ps) : s.tells u l (ps ++ os) where
  frame := by rw [h2.frame, h1.frame]
  manager := by
    have h1 := h1.manager
    have h2 := h2.manager
    unfold State.samePm at *
    rw [h2, h1]
  moves := h1.moves.trans h2.moves
  messages := by rw [h2.messages, h1.messages, List.append_assoc]

/-- A change that sends nothing but vectors, after another change. -/
theorem State.tells.then (h1 : s.tells t l os) (h2 : t.tells u l []) : s.tells u l os := h1.trans h2

/-- A change, after one that sends nothing but vectors. -/
theorem State.tells.after (h1 : s.tells t l []) (h2 : t.tells u l ps) : s.tells u l ps := by
  simpa using h1.trans h2

theorem State.tells.foldl {α : Type} {f : State → α → State} (hf : ∀ (s : State) (a : α), s.tells (f s a) l []) (r : List α)
    (s : State) : s.tells (r.foldl f s) l [] :=
  foldl_related (R := fun s t => s.tells t l []) (fun _ => .refl) .then hf r s

theorem State.tells.reported (h : s.tells t l os) : Reported s t := h.frame

theorem State.tells.says {o : Out} (h : s.tells t l [o]) : s.says t o := h.messages

theorem State.tells.sent {o : Out} (h : s.tells t [] [o]) (hh : s.sameHeads t) : s.sent t o :=
  ⟨h.says, h.frame, hh, h.manager, h.moves.regsBut⟩

theorem State.tells.booked (h : s.tells t l os) (hh : s.sameHeads t) (ho : t.out = s.out) : s.booked t l := by
  refine ⟨?_, hh, h.manager, h.moves.regsBut⟩
  unfold State.counted
  conv_lhs => rw [h.frame, ho]

/-- Counters and indications, of which the platform manager is told no more than what waits for it. -/
theorem Counted.tells (h : Counted s t) (hp : s.samePm t) (hm : s.movesOnly t l) : s.tells t l [] :=
  ⟨h.reported, hp, hm, by rw [show t.out = s.out by rw [h]]; rfl⟩

end

section
variable (s : State) {l : List Field}

theorem State.onHead_tells (h : Nat) (f : Head → Head) : s.tells (s.onHead h f) l [] := ⟨rfl, rfl, .of_regs .refl rfl, rfl⟩

theorem State.wr_tells {f : Field} (d i v : Nat) (hk : f.kinds < 16) (hf : f ∈ l ++ bookFields) : s.tells (s.wr f d i v) l [] :=
  ⟨rfl, rfl, .wr .refl hk hf, rfl⟩

theorem State.bump_tells {f : Field} (d i n : Nat) (hk : f.kinds < 16) (hf : f ∈ l ++ bookFields) : s.tells (s.bump f d i n) l [] :=
  s.wr_tells d i _ hk hf

theorem State.notify_tells (n : Nat) : s.tells (s.notify n) l [] := ⟨rfl, rfl, .of_regs .refl rfl, rfl⟩

theorem State.raiseAt_tells (h n : Nat) : s.tells (s.raiseAt h n) l [] := by
  refine (s.raiseAt_counted h n).tells ?_ (.raiseAt .refl ..)
  unfold State.raiseAt State.samePm
  dsimp only
  split <;> rfl

theorem State.assertSource_tells (n : Nat) : s.tells (s.assertSource n) l [] := by
  unfold State.assertSource
  refine .then ?_ (State.notify_tells ..)
  split
  · exact (s.raiseAt_tells 0 n).then (State.raiseAt_tells _ 1 n)
  · exact s.raiseAt_tells 0 n

theorem State.tally_tells (d i n : Nat) : s.tells (s.tally d i n) l [] := by
  have book : ∀ f ∈ bookFields, f ∈ l ++ bookFields := fun f => List.mem_append_right _
  unfold State.tally
  split
  · exact .refl
  · dsimp only
    have counted : ∀ v, s.tells (s.wr Reg.TLY_FIXED.COUNT d i v) l [] := fun v => s.wr_tells d i v (by decide) (book _ (by decide))
    split
    · exact counted _
    · exact ((counted _).then (State.wr_tells _ _ _ _ (by decide) (book _ (by decide)))).then (State.assertSource_tells ..)

theorem State.raise_tells (n : Nat) : s.tells (s.raise n) l [] := (s.assertSource_tells n).then (State.tally_tells ..)

theorem State.send_tells {o : Out} (ho : o.isVector = false) : s.tells (s.send o) l [o] :=
  ⟨rfl, rfl, .of_regs .refl rfl, by rw [State.send, List.filter_cons]; simp [ho]⟩

theorem State.sendVector_tells (h v : Nat) : s.tells (s.send (.msix h v)) l [] := ⟨rfl, rfl, .of_regs .refl rfl, rfl⟩

theorem State.msix_tells (h v : Nat) : s.tells (s.msix h v) l [] := by
  unfold State.msix
  split
  · exact s.onHead_tells ..
  · exact (s.sendVector_tells h v).then (State.tally_tells ..)

theorem State.raise_sameHeads (n : Nat) : s.sameHeads (s.raise n) := (s.assertSource_sameHeads n).trans (State.tally_sameHeads _ _ _ _)

theorem State.msix_sameHeads (h v : Nat) : s.sameHeads (s.msix h v) := by
  unfold State.msix
  split
  · exact s.onHead_sameHeads h fun _ => rfl
  · exact .trans (.of_heads rfl) (State.tally_sameHeads _ _ _ _)

theorem State.doorbell_tells (h : Nat) (second : Bool) : s.tells (s.doorbell h second) l [] := by
  unfold State.doorbell
  generalize (if second then 1 else 0) = n
  split
  · exact s.msix_tells ..
  · exact .refl

theorem State.doorbell_sameHeads (h : Nat) (second : Bool) : s.sameHeads (s.doorbell h second) := by
  unfold State.doorbell
  generalize (if second then 1 else 0) = n
  split
  · exact s.msix_sameHeads h n
  · exact .of_heads rfl

theorem State.mailSay_tells (m : Mbox) (op rc : Nat) (b : Body) :
    s.tells (s.mailSay m op rc b) l [.mailbox m.head m.secondary op rc b] :=
  (s.send_tells rfl).then (State.doorbell_tells ..)

theorem State.mailSay_sameHeads (m : Mbox) (op rc : Nat) (b : Body) : s.sameHeads (s.mailSay m op rc b) :=
  .trans (.of_heads rfl) (State.doorbell_sameHeads _ _ _)

end

/-! ## What heads hold -/

@[simp] theorem Two.get_modify_self {α : Type} (p : Two α) (n : Nat) (f : α → α) : (p.modify n f).get n = f (p.get n) := by
  unfold Two.modify Two.get
  split <;> rfl

/-- The other head, or the other die, keeps its value. -/
theorem Two.get_modify_ne {α : Type} (p : Two α) {n k : Nat} (f : α → α) (h : (k = 0) ≠ (n = 0)) : (p.modify n f).get k = p.get k := by
  unfold Two.modify Two.get
  split <;> split <;> simp_all

theorem Two.get_modify {α : Type} (p : Two α) (n k : Nat) (f : α → α) :
    (p.modify n f).get k = if k = 0 ↔ n = 0 then f (p.get k) else p.get k := by
  unfold Two.modify Two.get
  split <;> split <;> simp_all

@[simp] theorem State.onHead_heads_self (s : State) (h : Nat) (f : Head → Head) : (s.onHead h f).heads.get h = f (s.heads.get h) :=
  Two.get_modify_self ..

/-! ## Mailbox commands (R98) -/

/-- The head takes the interrupt enables that a mailbox command comes with (R98). -/
def Head.takeMail (hd : Head) (m : Mbox) : Head :=
  { hd with
    dbInt := hd.dbInt.modify (bnat m.secondary) (fun _ => m.dbInt), bgInt := hd.bgInt.modify (bnat m.secondary) (fun _ => m.bgInt) }

/-- A mailbox command has arrived, with its interrupt enables (R98). -/
def State.mailTaken (s : State) (m : Mbox) : State := (s.tally m.head 366 1).onHead m.head (fun hd => hd.takeMail m)

/-- What a head holds beside its groups' counts, its vectors' pending bits and its mailboxes' interrupt enables. -/
def Head.mailKeeps (a b : Head) : Prop :=
  b = { a with aggCount := b.aggCount, msixPending := b.msixPending, dbInt := b.dbInt, bgInt := b.bgInt }

theorem Head.sameBut.mailKeeps {a b : Head} (h : a.sameBut b) : a.mailKeeps b := by
  unfold Head.sameBut at h; unfold Head.mailKeeps; rw [h]

theorem Head.mailKeeps.trans {a b c : Head} (h1 : a.mailKeeps b) (h2 : b.mailKeeps c) : a.mailKeeps c := by
  unfold Head.mailKeeps at *; rw [h2, h1]

section
variable (s : State) (m : Mbox)

theorem State.mailTaken_tells : s.tells (s.mailTaken m) [] [] := (s.tally_tells ..).then (State.onHead_tells ..)

theorem State.mailTaken_keeps (h : Nat) : (s.heads.get h).mailKeeps ((s.mailTaken m).heads.get h) := by
  refine (s.tally_sameHeads m.head 366 1 h).mailKeeps.trans ?_
  unfold State.mailTaken State.onHead
  dsimp only
  rw [Two.get_modify]
  split <;> rfl

/-- A command that its mailbox serves has its effect once it has been taken (R98, R99, R114). -/
theorem State.mail_served {op : Nat} (hs : s.mailServed m op = true) (f : State → State) : s.mail m op f = f (s.mailTaken m) := by
  simp only [State.mailServed, State.mailRefused, Bool.and_eq_true, Bool.or_eq_true, Bool.not_eq_true', Bool.or_eq_false_iff] at hs
  obtain ⟨⟨up, halt⟩, ⟨_, second⟩, first⟩ := hs
  unfold State.mail
  rw [up, second, first]
  have served : ¬ (s.ctl.mode = .m10 ∧ ¬ haltCommands.contains op = true) := by
    rintro ⟨hm, hc⟩
    rcases halt with h | h
    · simp [hm] at h
    · exact hc h
  simp only [served, Bool.not_true, Bool.false_eq_true, if_false]
  rfl

/-- An answer to a command that has been taken, and has moved nothing else. -/
theorem State.mailSay_mailed (op rc : Nat) (b : Body) : s.mailed ((s.mailTaken m).mailSay m op rc b) m op rc b := by
  have told := (s.mailTaken_tells m).after (State.mailSay_tells (s.mailTaken m) m op rc b)
  refine ⟨told.says, told.frame, fun h => ?_, told.manager, told.moves.regsBut⟩
  exact (s.mailTaken_keeps m h).trans (State.mailSay_sameHeads _ m op rc b h).mailKeeps

/-- A register that no command moves reads as before once a mailbox command has been taken. -/
theorem State.mailTaken_rd {f : Field} (hk : f.kinds < 16) (hf : bookFields.all (fun g => g.num != f.num) = true) (d i : Nat) :
    (s.mailTaken m).rd f d i = s.rd f d i :=
  (s.mailTaken_tells m).moves.reads f hk hf d i

/-- The state as it stands with a command taken, but for what the module's own indications move. -/
theorem State.mailTaken_frame : s.mailTaken m = { s with
    regs := (s.mailTaken m).regs, heads := (s.mailTaken m).heads, pm := (s.mailTaken m).pm, out := (s.mailTaken m).out } :=
  (s.mailTaken_tells m).frame

end

end Sys2Proof.Machine
end

section
/-! SUPPORT. The mailbox commands that read (R99 to R106, R303). -/

namespace Sys2Proof.Machine

/-! ## What a command that has been taken leaves -/

section
variable (s : State) (m : Mbox)

@[simp] theorem State.mailTaken_ctl : (s.mailTaken m).ctl = s.ctl := by rw [s.mailTaken_frame m]
@[simp] theorem State.mailTaken_sec : (s.mailTaken m).sec = s.sec := by rw [s.mailTaken_frame m]
@[simp] theorem State.mailTaken_mapping : (s.mailTaken m).mapping = s.mapping := by rw [s.mailTaken_frame m]
@[simp] theorem State.mailTaken_lsa : (s.mailTaken m).lsa = s.lsa := by rw [s.mailTaken_frame m]
@[simp] theorem State.mailTaken_ream : (s.mailTaken m).ream = s.ream := by rw [s.mailTaken_frame m]
@[simp] theorem State.mailTaken_sensors : (s.mailTaken m).sensors = s.sensors := by rw [s.mailTaken_frame m]
@[simp] theorem State.mailTaken_free : (s.mailTaken m).free = s.free := by rw [s.mailTaken_frame m]

@[simp] theorem State.mailTaken_background (h : Nat) : ((s.mailTaken m).heads.get h).background = (s.heads.get h).background := by
  rw [s.mailTaken_keeps m h]

@[simp] theorem State.mailTaken_policy (h : Nat) : ((s.mailTaken m).heads.get h).policy = (s.heads.get h).policy := by
  rw [s.mailTaken_keeps m h]

@[simp] theorem State.mailTaken_alerts (h : Nat) : ((s.mailTaken m).heads.get h).alerts = (s.heads.get h).alerts := by
  rw [s.mailTaken_keeps m h]

@[simp] theorem State.mailTaken_shutdownState (h : Nat) :
    ((s.mailTaken m).heads.get h).shutdownState = (s.heads.get h).shutdownState := by
  rw [s.mailTaken_keeps m h]

@[simp] theorem State.mailTaken_log (h k : Nat) : ((s.mailTaken m).heads.get h).log k = (s.heads.get h).log k := by
  rw [s.mailTaken_keeps m h]; rfl

@[simp] theorem State.mailTaken_wallMs : (s.mailTaken m).wallMs = s.wallMs := by
  simp only [State.wallMs, State.mailTaken_ream, State.ms, State.reg]
  rw [s.mailTaken_rd m (by decide) (by decide)]

@[simp] theorem State.mailTaken_bgPercent (b : Background) : (s.mailTaken m).bgPercent b = s.bgPercent b := by
  simp only [State.bgPercent, State.mailTaken_mapping]

@[simp] theorem State.mailTaken_hottest (l : List Nat) : (s.mailTaken m).hottest l = s.hottest l := by
  unfold State.hottest
  rw [s.mailTaken_sensors m]

/-- The values of Get Health Info are those of registers that a command does not move (R303). -/
@[simp] theorem State.mailTaken_healthInfo : (s.mailTaken m).healthInfo = s.healthInfo := by
  have same : ∀ f : Field, f.kinds < 16 → bookFields.all (fun g => g.num != f.num) = true → ∀ d i,
      (s.mailTaken m).rd f d i = s.rd f d i := fun f hk hf => s.mailTaken_rd m hk hf
  simp (disch := decide) only [State.healthInfo, State.lifeUsed, State.sumOf, State.chansIn, State.chanState, State.rdC, State.ms,
    State.reg, State.mailTaken_ctl, State.mailTaken_hottest, same]
  rfl

theorem effectsBytes_length : effectsBytes.length = 116 := by decide

variable {s m}

/-- A served command that answers, and changes nothing else. -/
theorem State.mail_answered {op rc : Nat} {b : Body} {f : State → State} (hs : s.mailServed m op = true)
    (hf : f (s.mailTaken m) = (s.mailTaken m).mailSay m op rc b) : ∃ t, (.next (s.mail m op f) : Res) = .next t ∧ s.mailed t m op rc b :=
  ⟨_, congrArg _ ((s.mail_served m hs f).trans hf), s.mailSay_mailed m op rc b⟩

/-- A served command that answers with success and values. -/
theorem State.mail_values {op : Nat} {g : State → List Nat} (hs : s.mailServed m op = true) (hg : g (s.mailTaken m) = g s) :
    ∃ t, (.next (s.mail m op (fun u => u.mailOk m op (g u))) : Res) = .next t ∧ s.mailed t m op 0 (.values (g s)) :=
  State.mail_answered hs (hg ▸ rfl)

/-- GET_FW_INFO's values are of registers that a command does not move. -/
theorem exec_getFwInfo_served (hs : s.mailServed m 0x0200 = true) :
    ∃ t, exec (.getFwInfo m) s = .next t ∧ s.mailed t m 0x0200 0 (.values
      [2, s.fwRuns + 1, s.reg Reg.MOD_LADDER.BOOT_SLOT + 1, 1, s.sec.slotA.version, s.sec.slotB.version]) := by
  refine State.mail_values hs (g := fun u =>
    [2, u.fwRuns + 1, u.reg Reg.MOD_LADDER.BOOT_SLOT + 1, 1, u.sec.slotA.version, u.sec.slotB.version]) ?_
  simp only [State.fwRuns, State.reg, State.mailTaken_sec]
  rw [s.mailTaken_rd m (by decide) (by decide), s.mailTaken_rd m (by decide) (by decide)]

theorem exec_getLog_served (hs : s.mailServed m 0x0401 = true) (effects : Bool) (offset length : Nat) :
    ∃ t, exec (.getLog m effects offset length) s = .next t ∧
      (if effects = true ∧ offset + length ≤ 116
        then s.mailed t m 0x0401 0 (.bytes ((effectsBytes.drop offset).take length))
        else s.mailed t m 0x0401 rcInvalid (.values [])) := by
  split
  · next h => exact State.mail_answered hs (if_neg (by simp [effectsBytes_length, h]))
  · next h =>
    refine State.mail_answered hs (if_pos ?_)
    rcases not_and_or.mp h with h | h
    · simp [h]
    · simp [effectsBytes_length, Nat.lt_of_not_le h]

theorem exec_getLsa_served (hs : s.mailServed m 0x4102 = true) (offset length : Nat) :
    ∃ t, exec (.getLsa m offset length) s = .next t ∧
      (if offset + length ≤ 131072
        then s.mailed t m 0x4102 0 (.bytes ((List.range length).map (fun k => s.lsa.get 0 (offset + k))))
        else s.mailed t m 0x4102 rcInvalid (.values [])) := by
  split
  · next h =>
    exact State.mail_answered hs ((if_neg (Nat.not_lt.mpr h)).trans (by rw [s.mailTaken_lsa]; rfl))
  · next h => exact State.mail_answered hs (if_pos (Nat.lt_of_not_le h))

theorem exec_getPoisonList_served (hs : s.mailServed m 0x4300 = true) {dpa length : Nat} (hd : inDpa dpa length = true) :
    ∃ t, exec (.getPoisonList m dpa length) s = .next t ∧ s.mailed t m 0x4300 0 (.values (
      let l := s.mapping.poison.clip (linesOf dpa length).1 (linesOf dpa length).2
      [bnat (l.length > 2048), bnat s.mapping.poison.overflow, s.mapping.poison.overflowMs] ++ runValues (l.take 2048))) := by
  refine State.mail_answered hs ?_
  simp only [hd, Bool.not_true, Bool.false_eq_true, if_false, s.mailTaken_mapping]
  rfl

/-- What a scan of a range would take is the open value at the counter. -/
theorem exec_getScanMediaCapabilities_served (hs : s.mailServed m 0x4303 = true) {dpa length : Nat} (hd : inDpa dpa length = true) :
    ∃ t, exec (.getScanMediaCapabilities m dpa length) s = .next t ∧ t.free = s.free + 1 ∧
      s.mailed { t with free := s.free } m 0x4303 0 (.values [s.open?]) := by
  have answered := s.mailSay_mailed m 0x4303 0 (.values [s.open?])
  have free : ((s.mailTaken m).mailSay m 0x4303 0 (.values [s.open?])).free = s.free := by rw [answered.2.1]
  refine ⟨((s.mailTaken m).mailSay m 0x4303 0 (.values [s.open?])).draw, ?_, congrArg (· + 1) free, ?_⟩
  · refine congrArg Host.Outcome.next ((s.mail_served m hs _).trans ?_)
    simp only [hd, Bool.not_true, Bool.false_eq_true, if_false, State.open?, s.mailTaken_free]
    rfl
  · rw [← free]; exact answered

theorem exec_getScanMediaResults_served (hs : s.mailServed m 0x4305 = true) {x : Scan} (hx : s.mapping.scan = some x)
    (hh : x.head = m.head.val) (hr : x.running = false) :
    ∃ t, exec (.getScanMediaResults m) s = .next t ∧ s.mailed t m 0x4305 0 (.values (runValues x.found)) := by
  refine State.mail_answered hs ?_
  rw [s.mailTaken_mapping, hx]
  exact if_pos ⟨hh, hr⟩

end

/-- Settles O41: a command that has been taken moves only counters and interrupt enables, and each answer is read from the rest. -/
theorem mailboxReads : Obligations.MailboxReads := fun s m =>
  ⟨fun hs => State.mail_values hs (g := fun u => let b := (u.heads.get m.head).background.get (bnat m.secondary)
      [b.opcode, bnat b.running, u.bgPercent b, b.rc]) (by simp),
   fun hs log => State.mail_answered hs (by rw [s.mailTaken_log]; rfl),
   fun hs => State.mail_values hs (g := fun u => (u.heads.get m.head).policy) (by simp),
   exec_getFwInfo_served,
   fun hs => State.mail_values hs (g := fun u => [u.wallMs.getD 0]) (by simp),
   fun hs => State.mail_answered hs (by rw [effectsBytes_length]; rfl),
   exec_getLog_served,
   fun hs => State.mail_answered hs rfl,
   fun hs => State.mail_answered hs rfl,
   exec_getLsa_served,
   fun hs => State.mail_values hs (g := State.healthInfo) (by simp),
   fun hs => State.mail_values hs (g := fun u => (u.heads.get m.head).alerts) (by simp),
   fun hs => State.mail_values hs (g := fun u => [(u.heads.get m.head).shutdownState, u.ctl.dirtyShutdowns]) (by simp),
   fun hs _ _ hd => exec_getPoisonList_served hs hd,
   fun hs _ _ hd => exec_getScanMediaCapabilities_served hs hd,
   fun hs _ hx hh hr => exec_getScanMediaResults_served hs hx hh hr⟩

end Sys2Proof.Machine
end

section
/-! SUPPORT. What a mailbox refuses, and the platform manager's fabric commands (R98, R99, R114). -/

namespace Sys2Proof.Machine

section
variable {s : State} {m : Mbox} {op : Nat}

/-- A command that arrives at a mailbox whose head's CXL.io serves is taken, and refused in the order of R114, R98 and R99. -/
theorem State.mail_up (hu : s.ioUp m.head = true) (f : State → State) : s.mail m op f =
    if s.ctl.mode = .m10 ∧ ¬ haltCommands.contains op = true then (s.mailTaken m).mailRc m op rcMediaDisabled
    else if (m.secondary && writeCommands.contains op) = true then (s.mailTaken m).mailRc m op rcUnsupported
    else if (primaryCommands.contains op && m.head.val != s.primary) = true then (s.mailTaken m).mailRc m op rcUnsupported
    else f (s.mailTaken m) := by
  unfold State.mail
  rw [hu]
  rfl

/-- In Halt a mailbox answers Media Disabled but for the commands of R114. -/
theorem State.mail_halted (hu : s.ioUp m.head = true) (hm : s.ctl.mode = .m10) (hc : op ∉ haltCommands) (f : State → State) :
    s.mail m op f = (s.mailTaken m).mailRc m op rcMediaDisabled := by
  rw [State.mail_up hu, if_pos ⟨hm, by simpa using hc⟩]

/-- A command that its mailbox does not support answers Unsupported outside Halt. -/
theorem State.mail_unsupported (hu : s.ioUp m.head = true) (hm : ¬ (s.ctl.mode = .m10 ∧ op ∉ haltCommands)) {f : State → State}
    (hf : (m.secondary && writeCommands.contains op) = true ∨ (primaryCommands.contains op && m.head.val != s.primary) = true ∨
      f (s.mailTaken m) = (s.mailTaken m).mailRc m op rcUnsupported) :
    s.mail m op f = (s.mailTaken m).mailRc m op rcUnsupported := by
  rw [State.mail_up hu, if_neg (by simpa using hm)]
  split
  · rfl
  · next second =>
    split
    · rfl
    · next first => exact (hf.resolve_left second).resolve_left first

theorem State.mail_refused (hu : s.ioUp m.head = true) :
    s.mail m op (fun u => u.mailRc m op rcUnsupported) = (s.mailTaken m).mailRc m op
      (if s.ctl.mode = .m10 ∧ op ∉ haltCommands then rcMediaDisabled else rcUnsupported) := by
  split
  · next h => exact State.mail_halted hu h.1 h.2 _
  · next h => exact State.mail_unsupported hu h (.inr (.inr rfl))

theorem exec_mailboxUnsupported_refused {o : BitVec 16} (h : s.mailRefused m o.toNat = true) :
    exec (.mailboxUnsupported m o) s = .next (s.mail m o.toNat (fun u => u.mailRc m o.toNat rcUnsupported)) := by
  change execMailboxUnsupported m o s = _
  rw [execMailboxUnsupported, if_pos h]

/-- A command whose payload does not fit its mailbox (log entry 10). -/
theorem exec_setLsa_long {offset : Nat} {data : List Byte} (hs : s.mailServed m 0x4103 = true) (hl : 131072 < 8 + data.length) :
    exec (.setLsa m offset data) s = .next ((s.mailTaken m).mailRc m 0x4103 rcLength) :=
  congrArg Host.Outcome.next ((s.mail_served m hs _).trans (if_pos hl))

end

section
variable {s : State}

theorem State.fabric_served (hs : s.spdmServed 2 = true) (f : State → State) : s.fabric f = f s := if_pos hs

theorem exec_getHeadInfo_served {start count : Nat} (hs : s.spdmServed 2 = true) (hc : 0 < count)
    (hn : start + count ≤ (if s.dual then 2 else 1)) :
    exec (.getHeadInfo start count) s = .next (s.send (.fabric 0x5501 0 (.values ((List.range count).flatMap (fun k =>
      [start + k, s.rd Reg.LNK_STATUS.WIDTH (start + k) 0, s.rd Reg.LNK_STATUS.RATE (start + k) 0,
       bnat (s.heads.get (start + k)).linkUp]))))) := by
  refine congrArg Host.Outcome.next ((State.fabric_served hs _).trans (if_neg ?_))
  rintro (h | h)
  · exact hc.ne' h
  · exact Nat.not_lt.mpr hn h

end

/-- Settles O44: what is refused is answered by its return code alone, in the order in which the mailbox judges a command. -/
theorem mailboxRefuses : Obligations.MailboxRefuses := by
  refine ⟨fun s m op hu hr => ?_, fun s m op hr => ⟨?_, ?_, ?_⟩, fun s m offset data hs hl => ?_, fun s m hu hm => ?_,
    fun s m offset data hu hm hsec => ?_, fun s hs => ?_, fun s start count hs hc hn => ?_⟩
  · exact ⟨_, exec_mailboxUnsupported_refused hr, by rw [State.mail_refused hu]; exact s.mailSay_mailed ..⟩
  · rintro rfl
    exact if_neg (by simpa using hr)
  · rintro rfl
    exact if_neg (by simpa using hr)
  · rintro rfl hs
    refine ⟨_, (if_neg (by simpa using hr)).trans (congrArg Host.Outcome.next (s.mail_served m hs _)), s.mailSay_mailed ..⟩
  · exact ⟨_, exec_setLsa_long hs hl, s.mailSay_mailed ..⟩
  · exact ⟨_, congrArg Host.Outcome.next (State.mail_halted hu hm (by decide) _), s.mailSay_mailed ..⟩
  · refine ⟨_, congrArg Host.Outcome.next (State.mail_unsupported hu (fun h => hm h.1) (.inl ?_)), s.mailSay_mailed ..⟩
    rw [hsec]; decide
  · exact ⟨_, congrArg Host.Outcome.next (State.fabric_served hs _), (s.send_tells rfl).sent (.of_heads rfl)⟩
  · exact ⟨_, exec_getHeadInfo_served hs hc hn, (s.send_tells rfl).sent (.of_heads rfl)⟩

end Sys2Proof.Machine
end

section
/-! SUPPORT. The mailbox commands that set (R99, R103, R104, R106, R495). -/

namespace Sys2Proof.Machine

/-! ## The wall clock (R495) -/

section
variable (s : State)

theorem State.reamLog_wall (r : ReamRec) : (s.reamLog r).ream.wall = s.ream.wall := by
  unfold State.reamLog
  extract_lets used p x s1
  have h1 : s1.ream.wall = s.ream.wall := by
    simp only [s1]
    split
    · rfl
    · rw [State.gapAt_counted, State.gapAt_counted]
  clear_value s1
  split
  · exact h1
  · rw [State.raise_ream, State.bump_ream, h1]

theorem State.pageWrite_ream (page o : Nat) (b : List (BitVec 8)) : (s.pageWrite page o b).ream = s.ream := by
  unfold State.pageWrite State.pageCommit
  simp only [State.tally_ream]
  split <;> (try simp only [State.raise_ream]) <;> split <;> rfl

theorem State.reamMirror_wall (r : ReamRec) : (s.reamMirror r).ream.wall = s.ream.wall := by
  unfold State.reamMirror
  extract_lets m x s1 s2
  have h1 : s1.ream.wall = s.ream.wall := rfl
  clear_value s1
  have h2 : s2.ream.wall = s.ream.wall := by
    simp only [s2]
    split
    · rw [State.bump_ream, h1]
    · exact h1
  clear_value s2
  rw [State.pageWrite_ream, h2]

theorem State.reamPlace_wall (r : ReamRec) : (s.reamPlace r).ream.wall = s.ream.wall := by
  unfold State.reamPlace
  extract_lets x s1 crit b y s2
  have h2 : s2.ream.wall = s.ream.wall := by
    simp only [s2]
    split
    · split
      · exact s1.reamMirror_wall r
      · rfl
    · split
      · exact s1.reamLog_wall r
      · split
        · exact (State.reamMirror_wall _ r).trans (s1.reamLog_wall r)
        · exact s1.reamLog_wall r
  clear_value s2
  rw [State.tally_ream]
  split
  · rw [State.raise_ream, h2]
  · exact h2

/-- A Ream record leaves the wall clock. -/
theorem State.log_wall (sev cls : Nat) (p : List Nat) : (s.log sev cls p).ream.wall = s.ream.wall := by
  unfold State.log State.reamAs
  split
  · rfl
  · split
    · rfl
    · extract_lets x s1
      refine (s1.reamPlace_wall _).trans ?_
      simp only [s1]
      split <;> rfl

/-- What the wall clock reads follows from its setting and the operating time. -/
theorem State.wallMs_congr {t : State} (hw : t.ream.wall = s.ream.wall) (hm : t.ms = s.ms) : t.wallMs = s.wallMs := by
  rw [State.wallMs, State.wallMs, hw, hm]

theorem State.setWall_wallMs (ms : BitVec 64) (who : Nat) : (s.setWall ms.toNat who).wallMs = some ms.toNat := by
  unfold State.setWall
  dsimp only
  rw [State.wallMs_congr _ (State.log_wall ..) ((State.log_movesOnly ..).reads _ (by decide) (by decide) 0 0)]
  change some ((ms.toNat + (s.ms - s.ms)) % 18446744073709551616) = _
  rw [Nat.sub_self, Nat.add_zero, Nat.mod_eq_of_lt ms.isLt]

theorem State.setWall_recorded (ms who : Nat) : Recorded s (s.setWall ms who) :=
  (s.ream_recorded _).trans (State.log_recorded ..)

end

/-! ## The label storage area (R103) -/

/-- Bytes given to consecutive keys are read from there, and every other key reads as before. -/
theorem get_putBytes (b : List (BitVec 8)) (o : Nat) (t : Tab (BitVec 8)) (k : Nat) :
    Tab.get ((b.zipIdx o).foldl (fun (t : Tab (BitVec 8)) (p : BitVec 8 × Nat) => t.put 0 p.2 p.1) t) 0 k =
      if o ≤ k ∧ k < o + b.length then b[k - o]?.getD 0 else t.get 0 k := by
  induction b generalizing o t with
  | nil => rw [if_neg (by simp only [List.length_nil]; omega)]; rfl
  | cons x r ih =>
    rw [List.zipIdx_cons, List.foldl_cons, ih]
    simp only [List.length_cons]
    rcases Nat.lt_trichotomy k o with h | rfl | h
    · rw [if_neg (by omega), if_neg (by omega), Tab.get_put_ne _ _ _ _ (by omega)]
    · rw [if_neg (by omega), if_pos (by omega), Tab.get_put_self, Nat.sub_self]
      rfl
    · rw [Tab.get_put_ne _ _ _ _ (by omega), show k - o = k - (o + 1) + 1 by omega, List.getElem?_cons_succ]
      exact if_congr (by omega) rfl rfl

/-! ## What a head is given -/

/-- An event log that is replaced, and the other three. -/
theorem Head.log_setLog (hd : Head) (l : EvLog) {n k : Nat} (hn : n < 4) (hk : k < 4) :
    (hd.setLog n l).log k = if k = n then l else hd.log k := by
  interval_cases n <;> interval_cases k <;> rfl

theorem Head.sameBut.log {a b : Head} (h : a.sameBut b) (k : Nat) : b.log k = a.log k := by
  rw [h]; rfl

section
variable {s : State} {m : Mbox} {op : Nat}

/-- A served command that gives its head a value, and is answered with success. -/
def State.mailSet (s : State) (m : Mbox) (op : Nat) (f : Head → Head) : State :=
  ((s.mailTaken m).onHead m.head f).mailRc m op rcSuccess

theorem State.mailSet_tells (f : Head → Head) :
    s.tells (s.mailSet m op f) [] [.mailbox m.head m.secondary op 0 (.values [])] :=
  ((s.mailTaken_tells m).then (State.onHead_tells ..)).after (State.mailSay_tells ..)

/-- The head holds what it was given, but for its groups' counts and its vectors' pending bits. -/
theorem State.mailSet_head (f : Head → Head) :
    (f ((s.mailTaken m).heads.get m.head)).sameBut ((s.mailSet m op f).heads.get m.head) := by
  have kept := State.mailSay_sameHeads ((s.mailTaken m).onHead m.head f) m op rcSuccess (.values []) m.head
  rwa [State.onHead_heads_self] at kept

/-- A served command that gives its head a value: its answer, what the head holds, and what moves. -/
theorem State.mail_set {f : Head → Head} {g : State → State} (hs : s.mailServed m op = true)
    (hg : g (s.mailTaken m) = s.mailSet m op f) : ∃ t, (.next (s.mail m op g) : Res) = .next t ∧
      (f ((s.mailTaken m).heads.get m.head)).sameBut (t.heads.get m.head) ∧
      s.says t (.mailbox m.head m.secondary op 0 (.values [])) ∧
      t = { s with regs := t.regs, heads := t.heads, pm := t.pm, out := t.out } ∧ s.regsBut t [] :=
  ⟨_, congrArg _ ((s.mail_served m hs g).trans hg), State.mailSet_head f, (State.mailSet_tells f).says, (State.mailSet_tells f).frame,
    (State.mailSet_tells f).moves.regsBut⟩

theorem exec_clearEventRecords_served (hs : s.mailServed m 0x0101 = true) (log : Fin 4) (all : Bool) (handles : List Nat)
    (hh : all = true ∨ handles.all (fun h => ((s.heads.get m.head).log log).recs.any (fun r => r.handle == h)) = true) :
    ∃ t, exec (.clearEventRecords m log all handles) s = .next t ∧
      s.says t (.mailbox m.head m.secondary 0x0101 0 (.values [])) ∧
      ((t.heads.get m.head).log log).recs = (if all then [] else
        ((s.heads.get m.head).log log).recs.filter (fun r => !handles.contains r.handle)) ∧
      ((t.heads.get m.head).log log).overflow = false ∧
      (∀ k < 4, k ≠ log.val → (t.heads.get m.head).log k = (s.heads.get m.head).log k) ∧
      t = { s with regs := t.regs, heads := t.heads, pm := t.pm, out := t.out } ∧ s.regsBut t [] := by
  have known : (!all && handles.any (fun h => !((s.heads.get m.head).log log).recs.any (fun r => r.handle == h))) ≠ true := by
    rcases hh with rfl | hh
    · simp
    · rw [List.all_eq_not_any_not] at hh
      simp only [Bool.not_eq_true'] at hh
      simp [hh]
  obtain ⟨t, ran, head, sent, frame, moves⟩ := State.mail_set hs
    (f := fun hd => hd.setLog log (((s.heads.get m.head).log log).clear all handles)) (g := fun u =>
      let l := (u.heads.get m.head).log log
      if !all && handles.any (fun h => !l.recs.any (fun r => r.handle == h)) then u.mailRc m 0x0101 rcHandle
      else (u.onHead m.head (fun hd => hd.setLog log (l.clear all handles))).mailRc m 0x0101 rcSuccess)
    (by dsimp only; rw [s.mailTaken_log, if_neg known]; rfl)
  have cleared := head.log log
  rw [Head.log_setLog _ _ log.isLt log.isLt, if_pos rfl] at cleared
  refine ⟨t, ran, sent, by rw [cleared]; rfl, by rw [cleared]; rfl, fun k hk hne => ?_, frame, moves⟩
  rw [head.log k, Head.log_setLog _ _ log.isLt hk, if_neg hne, s.mailTaken_log]

/-- SET_LSA: the area reads what it has been given, and the answer moves nothing else. -/
theorem exec_setLsa_served (hs : s.mailServed m 0x4103 = true) {offset : Nat} {data : List Byte}
    (ho : offset + data.length ≤ 131072) (hl : 8 + data.length ≤ 131072) :
    ∃ t, exec (.setLsa m offset data) s = .next t ∧
      (∀ k, t.lsa.get 0 k = if offset ≤ k ∧ k < offset + data.length then data[k - offset]?.getD 0 else s.lsa.get 0 k) ∧
      s.mailed { t with lsa := s.lsa } m 0x4103 0 (.values []) := by
  let u : State := { s.mailTaken m with
    lsa := (data.zipIdx offset).foldl (fun (t : Tab (BitVec 8)) (p : BitVec 8 × Nat) => t.put 0 p.2 p.1) (s.mailTaken m).lsa }
  have told : u.tells (u.mailRc m 0x4103 0) [] [.mailbox m.head m.secondary 0x4103 0 (.values [])] := u.mailSay_tells ..
  have heads := u.mailSay_sameHeads m 0x4103 0 (.values [])
  have lsa : (u.mailRc m 0x4103 0).lsa = u.lsa := by rw [told.frame]
  have back : (s.mailTaken m).tells { u.mailRc m 0x4103 0 with lsa := s.lsa } []
      [.mailbox m.head m.secondary 0x4103 0 (.values [])] :=
    ⟨by conv_lhs => rw [told.frame, ← s.mailTaken_lsa m], told.manager,
      (State.movesOnly.of_regs .refl rfl : (s.mailTaken m).movesOnly u []).trans (told.moves.of_regs rfl), told.messages⟩
  have all := (s.mailTaken_tells m).after back
  refine ⟨u.mailRc m 0x4103 0, ?_, fun k => ?_, all.says, all.frame, fun h => ?_, all.manager, all.moves.regsBut⟩
  · exact congrArg Host.Outcome.next ((s.mail_served m hs _).trans
      ((if_neg (Nat.not_lt.mpr hl)).trans (if_neg (Nat.not_lt.mpr ho))))
  · rw [lsa, get_putBytes, s.mailTaken_lsa]
  · exact (s.mailTaken_keeps m h).trans (heads h).mailKeeps

theorem exec_setTimestamp_served (hs : s.mailServed m 0x0301 = true) (ms : BitVec 64) :
    ∃ t, exec (.setTimestamp m ms) s = .next t ∧
      t.wallMs = some ms.toNat ∧ s.says t (.mailbox m.head m.secondary 0x0301 0 (.values [])) ∧
      t.ctl = s.ctl ∧ t.path = s.path ∧ t.mapping = s.mapping ∧ t.lsa = s.lsa ∧ t.sec = s.sec := by
  let u := (s.mailTaken m).setWall ms.toNat m.head
  have set : u = _ := (s.mailTaken m).setWall_recorded ms.toNat m.head
  have told : u.tells (u.mailRc m 0x0301 0) [] [.mailbox m.head m.secondary 0x0301 0 (.values [])] := u.mailSay_tells ..
  have taken := s.mailTaken_tells m
  refine ⟨u.mailRc m 0x0301 0, congrArg Host.Outcome.next (s.mail_served m hs _), ?_, ?_, ?_⟩
  · rw [State.wallMs_congr u (by rw [told.frame]) (told.moves.reads _ (by decide) (by decide) 0 0)]
    exact State.setWall_wallMs ..
  · refine told.messages.trans ?_
    rw [show u.out = (s.mailTaken m).out by rw [set], taken.messages]
    rfl
  · rw [told.frame]
    dsimp only
    rw [set]
    dsimp only
    rw [taken.frame]
    exact ⟨rfl, rfl, rfl, rfl, rfl⟩

end

end Sys2Proof.Machine
end

section
/-! SUPPORT. A line written whole is what the next lookup of it finds (R61, R198, R204, R205). -/

namespace Sys2Proof.Machine

/-! ## The way of a quire -/

/-- The first listed element that satisfies P, of those that `g` lists by number. -/
theorem find?_filterMap_range {α : Type} (g : Nat → Option α) (P : α → Bool) (n w : Nat) (x : α) :
    ((List.range n).filterMap (fun k => (g k).map (fun y => (k, y)))).find? (fun p => P p.2) = some (w, x) ↔
      w < n ∧ g w = some x ∧ P x = true ∧ ∀ k < w, ∀ y, g k = some y → P y = false := by
  rw [List.find?_filterMap, Option.bind_eq_some_iff]
  simp only [List.find?_range_eq_some, Option.map_eq_some_iff, Prod.mk.injEq, List.mem_range, Option.any_map]
  constructor
  · rintro ⟨k, ⟨listed, hk, before⟩, y, hy, rfl, rfl⟩
    refine ⟨hk, hy, by simpa [hy] using listed, fun j hj z hz => ?_⟩
    simpa [hz] using before j hj
  · rintro ⟨hw, hx, hp, before⟩
    refine ⟨w, ⟨by simpa [hx] using hp, hw, fun j hj => ?_⟩, x, hx, rfl, rfl⟩
    cases hz : g j with
    | none => rfl
    | some z => simpa using before j hj z hz

theorem State.wayOf_eq_some (s : State) (q w : Nat) (x : Way) : s.wayOf q = some (w, x) ↔
    w < 8 ∧ s.path.ways.find? (wayKey (ownerOf q) (s.setOf q) w) = some x ∧ x.quire = q ∧
      ∀ k < w, ∀ y, s.path.ways.find? (wayKey (ownerOf q) (s.setOf q) k) = some y → y.quire ≠ q := by
  unfold State.wayOf State.waysOf
  rw [find?_filterMap_range (fun k => s.path.ways.find? (wayKey (ownerOf q) (s.setOf q) k)) (fun y => y.quire == q)]
  simp

theorem wayKey_ne {d set v w : Nat} (h : v ≠ w) : wayKey d set v ≠ wayKey d set w := by
  unfold wayKey; omega

/-- The ways of a set and what is read of them follow from the list of ways and the sets in force. -/
theorem State.waysOf_congr {s t : State} (hw : t.path.ways = s.path.ways) (hs : ∀ q, t.setOf q = s.setOf q) (q : Nat) :
    t.waysOf q = s.waysOf q := by
  unfold State.waysOf; rw [hw, hs]

section
variable {s : State} {q w : Nat} {x y : Way}

/-- A way that its quire holds, given new contents. -/
theorem State.wayOf_putWay_held (h : s.wayOf q = some (w, x)) (hy : y.quire = q) : (s.putWay q w y).wayOf q = some (w, y) := by
  obtain ⟨hw, -, -, before⟩ := (s.wayOf_eq_some q w x).mp h
  refine (State.wayOf_eq_some ..).mpr ⟨hw, Tab.find?_ins_self .., hy, fun k hk z hz => ?_⟩
  exact before k hk z ((Tab.find?_ins_ne _ _ (wayKey_ne hk.ne)).symm.trans hz)

/-- A quire without a way is given one. -/
theorem State.wayOf_putWay_new (h : s.wayOf q = none) (hw : w < 8) (hy : y.quire = q) : (s.putWay q w y).wayOf q = some (w, y) := by
  refine (State.wayOf_eq_some ..).mpr ⟨hw, Tab.find?_ins_self .., hy, fun k hk z hz hq => ?_⟩
  have listed : s.path.ways.find? (wayKey (ownerOf q) (s.setOf q) k) = some z :=
    (Tab.find?_ins_ne _ _ (wayKey_ne hk.ne)).symm.trans hz
  have mem : (k, z) ∈ s.waysOf q :=
    List.mem_filterMap.mpr ⟨k, List.mem_range.mpr (hk.trans hw), Option.map_eq_some_iff.mpr ⟨z, listed, rfl⟩⟩
  exact absurd (List.find?_eq_none.mp h _ mem) (by simp [hq])

theorem oldestWay_mem {l : List (Nat × Way)} {p : Nat × Way} (h : oldestWay l = some p) : p ∈ l := by
  induction l generalizing p with
  | nil => cases h
  | cons a r ih =>
    unfold oldestWay at h
    cases hr : oldestWay r with
    | none =>
      rw [hr] at h
      exact Option.some.inj h ▸ List.mem_cons_self
    | some b =>
      rw [hr] at h
      dsimp only at h
      split at h
      · exact Option.some.inj h ▸ List.mem_cons_of_mem a (ih hr)
      · exact Option.some.inj h ▸ List.mem_cons_self

/-- A set has eight ways. -/
theorem State.freeWay_lt (h : s.freeWay q = some w) : w < 8 := by
  unfold State.freeWay at h
  dsimp only at h
  split at h
  · next v absent =>
    cases h
    exact List.mem_range.mp (List.mem_of_find?_eq_some absent)
  · obtain ⟨p, oldest, rfl⟩ := Option.map_eq_some_iff.mp h
    obtain ⟨k, hk, listed⟩ := List.mem_filterMap.mp (List.mem_filter.mp (oldestWay_mem oldest)).1
    obtain ⟨z, -, rfl⟩ := Option.map_eq_some_iff.mp listed
    exact List.mem_range.mp hk

theorem State.freeWay_congr {t : State} (hw : t.waysOf q = s.waysOf q) (hp : t.path.plans = s.path.plans) : t.freeWay q = s.freeWay q := by
  unfold State.freeWay State.pinned
  rw [hw, hp]

/-- A set with a way for a write of its quire: nothing is evicted (R205, R212). -/
def State.roomFor (s : State) (q : Nat) : Prop :=
  (s.dirtyWays q).length < 6 ∧ ((s.wayOf q).isSome = true ∨ (s.freeWay q).isSome = true)

theorem State.roomFor_congr {t : State} (hw : t.waysOf q = s.waysOf q) (hp : t.path.plans = s.path.plans) (h : s.roomFor q) :
    t.roomFor q := by
  unfold State.roomFor State.dirtyWays State.wayOf at *
  rwa [hw, State.freeWay_congr hw hp]

/-- The way that a write is given where its set has room: only the write's counter moves, and the way becomes the quire's own. -/
theorem State.wayForWrite_of_room (h : s.roomFor q) (ns : Nat) : ∃ f v y, s.wayForWrite q ns = (s.bump f (ownerOf q) 0 1, v, y) ∧
    ∀ z : Way, z.quire = y.quire → ((s.bump f (ownerOf q) 0 1).putWay q v z).wayOf q = some (v, z) := by
  obtain ⟨few, room⟩ := h
  unfold State.wayForWrite
  cases found : s.wayOf q with
  | some p =>
    refine ⟨Reg.CDY_STAT_WRITE_HIT.COUNT, p.1, p.2, ?_, fun z hz => ?_⟩
    · dsimp only
      rw [if_neg (by simp [few])]
    · have sets : (s.bump Reg.CDY_STAT_WRITE_HIT.COUNT (ownerOf q) 0 1).setOf q = s.setOf q :=
        (State.movesOnly.bump (l := [Reg.CDY_STAT_WRITE_HIT.COUNT]) .refl (by decide) (by decide)).setOf (by decide) q
      have kept : (s.bump Reg.CDY_STAT_WRITE_HIT.COUNT (ownerOf q) 0 1).wayOf q = some (p.1, p.2) := by
        rw [← found]; unfold State.wayOf State.waysOf; rw [sets]; rfl
      exact State.wayOf_putWay_held kept (hz.trans ((s.wayOf_eq_some q p.1 p.2).mp found).2.2.1)
  | none =>
    have free : (s.freeWay q).isSome = true := by simpa [found] using room
    obtain ⟨v, hv⟩ := Option.isSome_iff_exists.mp free
    have sets : (s.bump Reg.CDY_STAT_WRITE_ALLOC.COUNT (ownerOf q) 0 1).setOf q = s.setOf q :=
      (State.movesOnly.bump (l := [Reg.CDY_STAT_WRITE_ALLOC.COUNT]) .refl (by decide) (by decide)).setOf (by decide) q
    have ways : (s.bump Reg.CDY_STAT_WRITE_ALLOC.COUNT (ownerOf q) 0 1).waysOf q = s.waysOf q := by
      unfold State.waysOf; rw [sets]; rfl
    have kept : (s.bump Reg.CDY_STAT_WRITE_ALLOC.COUNT (ownerOf q) 0 1).wayOf q = none := by
      rw [State.wayOf, ways]; exact found
    refine ⟨Reg.CDY_STAT_WRITE_ALLOC.COUNT, v,
      (s.bump Reg.CDY_STAT_WRITE_ALLOC.COUNT (ownerOf q) 0 1).newWay q 0 ((s.stagedBlock q).getD Block16.empty), ?_, fun z hz =>
      State.wayOf_putWay_new kept (State.freeWay_lt hv) (hz.trans rfl)⟩
    dsimp only
    rw [if_neg (by simp [few, hv]), State.freeWay_congr ways rfl, hv]
    rfl

end

/-! ## What a write moves beside its way -/

/-- The registers that a write moves beside its way's counter: the controllers', and its channel's eviction (R213). -/
def lineFields : List Field := Reg.CDY_CHAN_DIRTY.EVICTING :: dramFields

/-- From s to t nothing has moved that a lookup reads, nor the media, the label storage area or the map, but as a write goes on once its
line is in its way. -/
structure State.wrote (s t : State) : Prop where
  frame : t = { s with
    regs := t.regs, heads := t.heads, pm := t.pm, ports := t.ports, dram := t.dram
    path := { s.path with partials := t.path.partials }
    mapping := { s.mapping with poison := t.mapping.poison, tree := t.mapping.tree, ctrs := t.mapping.ctrs } }
  moves : s.movesOnly t lineFields

section
variable {s t u : State}

theorem State.wrote.refl (s : State) : s.wrote s := ⟨rfl, .refl⟩

theorem State.wrote.trans (h1 : s.wrote t) (h2 : t.wrote u) : s.wrote u :=
  ⟨by rw [h2.frame, h1.frame], h1.moves.trans h2.moves⟩

theorem Treed.wrote (h : Treed s t) (hm : s.movesOnly t dramFields) : s.wrote t :=
  ⟨by unfold Treed at h; rw [h], hm.mono (List.subset_cons_self ..)⟩

theorem State.wrote.keepsLines (h : s.wrote t) : s.keepsLines t where
  ways k := by rw [h.frame]
  staged := by rw [h.frame]
  sets q := h.moves.setOf (by decide) q
  entries q := by rw [h.frame]; rfl

end

section
variable (s : State)

theorem State.tally_wrote (d i n : Nat) : s.wrote (s.tally d i n) :=
  (s.tally_counted d i n).accessed.treed.wrote (.tally .refl ..)

theorem State.blockAccess_wrote (q w port k count : Nat) (write : Bool) : s.wrote (s.blockAccess q w port k count write) :=
  (s.accesses_accessed ..).treed.wrote (s.accesses_movesOnly ..)

theorem State.evicting_wrote (c : Nat) : s.wrote (s.evicting c) :=
  ⟨rfl, .wr .refl (by decide) (by decide)⟩

/-- A full write that is not poisoned takes its line out of the poison index (R61). -/
theorem State.indexWrite_wrote (line : Nat) (host : Bool) : s.wrote (s.indexWrite line true false host) :=
  ⟨rfl, .of_regs .refl rfl⟩

theorem State.takePartial_wrote (q k : Nat) : s.wrote (s.takePartial q k) := ⟨rfl, .of_regs .refl rfl⟩

end

/-! ## A whole line -/

theorem bit16_getLsbD {k : Nat} (hk : k < 16) (m : BitVec 16) (b : Bool) : (bit16 m k b).getLsbD k = b := by
  unfold bit16
  cases b <;> simp [hk]

/-- A line that a block is given, as a lookup finds it. -/
theorem foundIn_setLine (b : Block16) {k : Nat} (hk : k < 16) (data : BitVec 512) (poison : Bool) (l : List Block16) (e : BitVec 32) :
    foundIn (b.setLine k data poison :: l) k e = .caddy data poison := by
  have valid : (b.setLine k data poison).isValid k = true := bit16_getLsbD hk ..
  have poisoned : (b.setLine k data poison).isPoison k = poison := bit16_getLsbD hk ..
  have held : (b.setLine k data poison).lines.get 0 k = data := Tab.get_put_self ..
  rw [foundIn, List.find?_cons, valid]
  simp only [held, poisoned]

/-- A whole line written where its set has room: what goes on is a state in which its quire's way holds it. -/
theorem State.writeLine_whole {s : State} {line : Nat} (hr : s.roomFor (line / 16)) (hw : s.ctl.writeThrough = false)
    (ha : s.sweepAhead (line / 16) = false) (data : BitVec 512) (be : BitVec 64) (host : Bool) (ns : Nat) :
    ∃ (f : Field) (v : Nat) (b : Block16) (z : Way), z.blk = b.setLine (line % 16) data false ∧
      ((s.bump f (ownerOf (line / 16)) 0 1).putWay (line / 16) v z).wayOf (line / 16) = some (v, z) ∧
      ((s.bump f (ownerOf (line / 16)) 0 1).putWay (line / 16) v z).wrote (s.writeLine line data be true false host ns none) := by
  obtain ⟨f, v, y, given, owns⟩ := State.wayForWrite_of_room hr ns
  unfold State.writeLine
  extract_lets q k s' p blk taken wt d x s0 s1 s2 s3 s4
  have hs' : s' = s := if_neg (by simp only [q, ha]; decide)
  have hp : p = (s.bump f (ownerOf q) 0 1, v, y) := by simp only [p, hs']; exact given
  have hwt : wt = false := by simp only [wt, hs']; exact hw
  have h0 : State.wrote (p.1.putWay q p.2.1 { p.2.2 with dirty := p.2.2.dirty || !wt, age := 0, blk := blk }) s0 :=
    State.blockAccess_wrote ..
  have h1 : s0.wrote s1 := (s0.tally_wrote ..).trans ((State.tally_wrote ..).trans (State.tally_wrote ..))
  have h2 : s1.wrote s2 := by
    simp only [s2]
    split
    · exact s1.takePartial_wrote q k
    · exact .refl s1
  have h3 : s2.wrote s3 := s2.indexWrite_wrote line host
  have h4 : s4 = s3 := by simp only [s4, hwt]; rfl
  refine ⟨f, v, y.blk, { y with dirty := y.dirty || !wt, age := 0, blk := blk }, ?_, owns _ rfl, ?_⟩
  · simp only [blk, hp]; rfl
  · rw [h4]
    simp only [hp] at h0
    exact (((h0.trans h1).trans h2).trans h3).trans (s3.evicting_wrote _)

end Sys2Proof.Machine
end

section
/-! SUPPORT. Clear Poison as a write of its data (R61). -/

namespace Sys2Proof.Machine

theorem State.tagTouch_media (s : State) (q : Nat) : (s.tagTouch q).media = s.media := by
  unfold State.tagTouch
  extract_lets d x y s1
  have touched : s1.media = s.media := by simp only [s1, State.tally_media, y]
  clear_value s1
  split
  · exact touched
  · rw [State.access_accessed, State.tally_media, State.bump_media, touched]

theorem State.mapTouch_media (s : State) (q : Nat) (dirty : Bool) : (s.mapTouch q dirty).media = s.media := by
  unfold State.mapTouch
  extract_lets d x hit y s1 s2 s3
  have touched : s2.media = s.media := by simp only [s2, State.tally_media, s1]
  clear_value s2
  split
  · exact touched
  · rw [State.access_accessed]
    simp only [s3]
    split
    · rw [State.mapWritten, State.pageWritten_treed]; exact touched
    · exact touched

/-- What a request meets runs nothing on the media. -/
theorem State.meets_media (s : State) (line : Nat) {env : PathEnv} (read : Bool) (he : clearEnv env = true) :
    (s.meets line env read).media = s.media := by
  simp only [clearEnv, Bool.and_eq_true, bne_iff_ne, Bool.not_eq_true'] at he
  obtain ⟨⟨mapKept, tagsKept⟩, dataGood⟩ := he
  unfold State.meets
  extract_lets q d s1 s2 s3
  have h1 : s1.media = s.media := by simp only [s1, State.mapTouch_media, State.tagTouch_media]
  clear_value s1
  have h2 : s2.media = s1.media := by
    simp only [s2]
    cases htags : env.tags with
    | good => rfl
    | mirror => rfl
    | lost => exact absurd htags tagsKept
  clear_value s2
  have h3 : s3.media = s2.media := by
    simp only [s3]
    cases hmap : env.map with
    | good => rfl
    | restored => dsimp only; split <;> rfl
    | lost => exact absurd hmap mapKept
  rw [if_neg (by simp [dataGood]), h3, h2, h1]

/-- The ways of a quire's set, once a request has met its line. -/
theorem State.meets_waysOf (s : State) (line : Nat) {env : PathEnv} (read : Bool) (he : clearEnv env = true) (q : Nat) :
    (s.meets line env read).waysOf q = s.waysOf q :=
  State.waysOf_congr (by rw [s.meets_path line read he]) (s.meets_answers line read he).keepsLines.sets q

section
variable {s t u : State} {l : List Field} {os : List Out}

/-- Counters, indications and messages leave every line where it lies. -/
theorem State.tells.keepsLines (h : s.tells t [] os) : s.keepsLines t where
  ways k := by rw [h.frame]
  staged := by rw [h.frame]
  sets q := h.moves.setOf (by decide) q
  entries q := by rw [h.frame]; rfl

/-- Where room is and no walk comes follows from the ways, the plans and the walks. -/
theorem State.tells.roomFor (h : s.tells t [] os) {q : Nat} (hr : s.roomFor q) : t.roomFor q :=
  State.roomFor_congr (State.waysOf_congr (by rw [h.frame]) h.keepsLines.sets q) (by rw [h.frame]) hr

end

/-- A whole line written where its set has room: the next lookup finds it, and beside it nothing moves that lines, media or messages show. -/
theorem State.writeLine_found {s : State} {line : Nat} (hr : s.roomFor (line / 16)) (hw : s.ctl.writeThrough = false)
    (ha : s.sweepAhead (line / 16) = false) (data : BitVec 512) (be : BitVec 64) (host : Bool) (ns : Nat) :
    ∃ t, s.writeLine line data be true false host ns none = t ∧ t.find line = .caddy data false ∧ t.out = s.out ∧
      t.media = s.media ∧ t.lsa = s.lsa ∧ t.mapping.map = s.mapping.map := by
  obtain ⟨f, v, b, z, block, owns, goes⟩ := State.writeLine_whole hr hw ha data be host ns
  refine ⟨_, rfl, ?_, ?_⟩
  · rw [goes.keepsLines.find, State.find_eq_foundIn, owns]
    simp only [Option.map_some, Option.toList_some, List.singleton_append, block]
    exact foundIn_setLine b (Nat.mod_lt line (by decide)) data false _ _
  · rw [goes.frame]
    exact ⟨rfl, rfl, rfl, rfl⟩

section
variable {s : State} {m : Mbox}

theorem exec_clearPoison_served {dpa : Nat} (data : Line) {env : PathEnv} (hs : s.mailServed m 0x4302 = true) (ha : dpa % 64 = 0)
    (hd : inDpa dpa 64 = true) (hi : s.inService = true) (hc : s.chanLost (chanOf (dpa / 64 / 16)) = false)
    (hr : s.ctl.readOnly = false) :
    exec (.clearPoison m dpa data env) s = .next ((((s.mailTaken m).meets (dpa / 64) env false).writeLine (dpa / 64) data
      (BitVec.allOnes 64) true false false 0 none).mailRc m 0x4302 0) := by
  have service : (s.mailTaken m).inService = true := by
    rw [← hi, State.inService, State.inService, State.scanning, State.scanning, State.reg, State.reg,
      s.mailTaken_rd m (by decide) (by decide), s.mailTaken_ctl]
  have lost : (s.mailTaken m).chanLost (chanOf (dpa / 64 / 16)) = false := by
    rw [← hc, State.chanLost, State.chanLost, State.chanState, State.chanState, State.rdC, State.rdC,
      s.mailTaken_rd m (by decide) (by decide)]
  refine congrArg Host.Outcome.next ((s.mail_served m hs _).trans ?_)
  simp only [ha, hd, service, lost, s.mailTaken_ctl, hr]
  rfl

/-- Clear Poison acts as a write of its data (R61). -/
theorem exec_clearPoison_writes {dpa : Nat} (data : Line) {env : PathEnv} (hs : s.mailServed m 0x4302 = true) (ha : dpa % 64 = 0)
    (hd : inDpa dpa 64 = true) (hi : s.inService = true) (hc : s.chanLost (chanOf (dpa / 64 / 16)) = false)
    (he : clearEnv env = true) (hr : s.ctl.readOnly = false) (hw : s.ctl.writeThrough = false)
    (hsweep : s.sweepAhead (dpa / 64 / 16) = false) (room : s.roomFor (dpa / 64 / 16)) :
    ∃ t, exec (.clearPoison m dpa data env) s = .next t ∧ t.find (dpa / 64) = .caddy data false ∧
      s.says t (.mailbox m.head m.secondary 0x4302 0 (.values [])) ∧ t.media = s.media ∧ t.lsa = s.lsa ∧
      t.mapping.map = s.mapping.map := by
  have taken := s.mailTaken_tells m
  have met := (s.mailTaken m).meets_answers (dpa / 64) false he
  have plans : ((s.mailTaken m).meets (dpa / 64) env false).path.plans = (s.mailTaken m).path.plans := by
    rw [State.meets_path _ _ _ he]
  have roomy := State.roomFor_congr ((s.mailTaken m).meets_waysOf (dpa / 64) false he (dpa / 64 / 16)) plans (taken.roomFor room)
  obtain ⟨w, written, found, out, media, lsa, map⟩ := State.writeLine_found roomy (by rw [met.frame, s.mailTaken_ctl]; exact hw)
    (by rw [met.frame, ← hsweep, taken.frame]; rfl) data (BitVec.allOnes 64) false 0
  have told : w.tells (w.mailRc m 0x4302 0) [] [.mailbox m.head m.secondary 0x4302 0 (.values [])] := w.mailSay_tells ..
  refine ⟨w.mailRc m 0x4302 0, ?_, ?_, ?_, ?_⟩
  · rw [exec_clearPoison_served data hs ha hd hi hc hr, written]
  · rw [told.keepsLines.find, found]
  · refine told.messages.trans ?_
    rw [out, met.frame]
    exact congrArg _ taken.messages
  · rw [told.frame]
    dsimp only
    rw [media, lsa, map, State.meets_media _ _ _ he, met.frame, s.mailTaken_lsa, s.mailTaken_mapping, taken.frame]
    exact ⟨rfl, rfl, rfl⟩

end

/-- Settles O42: a command that has been taken changes what it names and is answered; a cleared line lies whole in its quire's way. -/
theorem mailboxSettings : Obligations.MailboxSettings := by
  refine ⟨fun s m => ⟨exec_clearEventRecords_served, fun hs modes hl => ?_, fun hs values => ?_, fun hs state => ?_,
    fun hs _ _ ho hl => exec_setLsa_served hs ho hl, exec_setTimestamp_served⟩,
    fun s m dpa data env hs ha hd hi hc he hr hw hsweep few room => ?_⟩
  · obtain ⟨t, ran, head, rest⟩ := State.mail_set hs (f := fun hd => { hd with policy := modes.map Fin.val })
      (g := fun u => if modes.length ≠ 4 then u.mailRc m 0x0103 rcInvalid
        else (u.onHead m.head (fun hd => { hd with policy := modes.map Fin.val })).mailRc m 0x0103 rcSuccess) (if_neg (by simp [hl]))
    exact ⟨t, ran, by rw [head], rest⟩
  · obtain ⟨t, ran, head, rest⟩ := State.mail_set hs (f := fun hd => { hd with alerts := values })
      (g := fun u => (u.onHead m.head (fun hd => { hd with alerts := values })).mailRc m 0x4202 rcSuccess) rfl
    exact ⟨t, ran, by rw [head], rest⟩
  · obtain ⟨t, ran, head, rest⟩ := State.mail_set hs (f := fun hd => { hd with shutdownState := state.toNat })
      (g := fun u => (u.onHead m.head (fun hd => { hd with shutdownState := state.toNat })).mailRc m 0x4204 rcSuccess) rfl
    exact ⟨t, ran, by rw [head], rest⟩
  · have quire : dpa / 64 / 16 = dpa / 1024 := Nat.div_div_eq_div_mul ..
    exact exec_clearPoison_writes data hs ha hd hi hc he hr hw (quire ▸ hsweep) (quire ▸ ⟨few, room⟩)

end Sys2Proof.Machine
end

section
/-! SUPPORT. Training, retrains and replays (R82 to R86, R119): what a link shows, and what its head keeps. -/

namespace Sys2Proof.Machine

/-! ## What a head keeps through indications and event records -/

/-- Whatever a head holds but its groups' counts, its vectors' pending bits, its event logs, its CDAT's number and its link's power state. -/
def Head.keepsUse (a b : Head) : Prop :=
  b = { a with
    aggCount := b.aggCount, msixPending := b.msixPending, info := b.info, warn := b.warn, fail := b.fail, fatal := b.fatal
    cdatSeq := b.cdatSeq, l1 := b.l1 }

/-- Both heads keep what `Head.keepsUse` names. -/
structure State.keepsUse (s t : State) : Prop where
  heads : ∀ k, (s.heads.get k).keepsUse (t.heads.get k)

theorem Head.keepsUse.trans {a b c : Head} (h1 : a.keepsUse b) (h2 : b.keepsUse c) : a.keepsUse c := by
  unfold Head.keepsUse at *; rw [h2, h1]

theorem Head.sameBut.keepsUse {a b : Head} (h : a.sameBut b) : a.keepsUse b := by
  unfold Head.sameBut at h; unfold Head.keepsUse; rw [h]

theorem Head.setLog_keepsUse (hd : Head) (n : Nat) (l : EvLog) : hd.keepsUse (hd.setLog n l) := by
  unfold Head.setLog
  split <;> rfl

section
variable {s t u : State}

theorem State.keepsUse.of_heads (h : t.heads = s.heads) : s.keepsUse t := ⟨fun k => by rw [h]; rfl⟩

theorem State.keepsUse.trans (h1 : s.keepsUse t) (h2 : t.keepsUse u) : s.keepsUse u :=
  ⟨fun k => (h1.heads k).trans (h2.heads k)⟩

theorem State.sameHeads.keepsUse (h : s.sameHeads t) : s.keepsUse t := ⟨fun k => (h k).keepsUse⟩

theorem State.keepsUse.foldl {α : Type} {f : State → α → State} (hf : ∀ (s : State) (a : α), s.keepsUse (f s a)) (r : List α)
    (s : State) : s.keepsUse (r.foldl f s) :=
  foldl_related (R := State.keepsUse) (fun _ => .of_heads rfl) .trans hf r s

theorem State.keepsUse.decoders (h : s.keepsUse t) (k : Nat) : (t.heads.get k).decoders = (s.heads.get k).decoders := by
  rw [h.heads k]

theorem State.keepsUse.linkUp (h : s.keepsUse t) (k : Nat) : (t.heads.get k).linkUp = (s.heads.get k).linkUp := by
  rw [h.heads k]

end

section
variable (s : State)

theorem State.onHead_keepsUse (h : Nat) {f : Head → Head} (hf : ∀ a : Head, a.keepsUse (f a)) : s.keepsUse (s.onHead h f) where
  heads k := by
    unfold State.onHead
    dsimp only
    rw [Two.get_modify]
    split
    · exact hf _
    · rfl

theorem State.eventAt_keepsUse (h log : Nat) (ty : EvType) (c : EvCause) (vs : List Nat) : s.keepsUse (s.eventAt h log ty c vs) := by
  have logged := s.onHead_keepsUse h fun hd => hd.setLog_keepsUse log ((hd.log log).add ty c vs s.ms)
  unfold State.eventAt
  dsimp only
  split
  · exact logged.trans (State.msix_sameHeads _ _ _).keepsUse
  · exact logged

theorem State.event_keepsUse (log : Nat) (ty : EvType) (c : EvCause) (vs : List Nat) : s.keepsUse (s.event log ty c vs) := by
  unfold State.event
  dsimp only
  split
  · exact (s.eventAt_keepsUse 0 log ty c vs).trans (State.eventAt_keepsUse _ 1 log ty c vs)
  · exact s.eventAt_keepsUse 0 log ty c vs

theorem State.raiseH_sameHeads (h k : Nat) : s.sameHeads (s.raiseH h k) := s.raise_sameHeads _

theorem State.memActiveAt_sameHeads (h : Nat) (on : Bool) : s.sameHeads (s.memActiveAt h on) := by
  unfold State.memActiveAt
  extract_lets v
  split
  · exact .of_heads rfl
  · have shown : s.sameHeads (s.wr Reg.LNK_STATUS.MEM_ACTIVE h 0 v) := .of_heads rfl
    exact shown.trans (State.raise_sameHeads _ _)

/-! ## A head's width and rate (R83) -/

/-- The state in which a head shows its width and rate, and CXL.mem where they carry it (R83). -/
def State.showLink (s : State) (h width rate : Nat) : State :=
  ((s.wr Reg.LNK_STATUS.WIDTH h 0 width).wr Reg.LNK_STATUS.RATE h 0 rate).wr Reg.LNK_STATUS.CXL_MEM h 0
    (if memWidth width rate then 1 else 0)

/-- What follows a head's new width and rate: of the registers, its Memory_Active. -/
theorem State.setLink_follows (h width rate : Nat) :
    (s.showLink h width rate).movesOnly (s.setLink h width rate) [Reg.LNK_STATUS.MEM_ACTIVE] ∧ s.keepsUse (s.setLink h width rate) := by
  unfold State.setLink
  extract_lets changed mem was s1 s2 s3 s4
  have h1 : s.keepsUse s1 := .of_heads rfl
  have h2 : s1.movesOnly s2 [Reg.LNK_STATUS.MEM_ACTIVE] ∧ s1.keepsUse s2 := by
    simp only [s2]
    split
    · exact ⟨.of_regs .refl rfl, s1.onHead_keepsUse h fun _ => rfl⟩
    · exact ⟨.refl, .of_heads rfl⟩
  have h3 : s2.movesOnly s3 [Reg.LNK_STATUS.MEM_ACTIVE] ∧ s2.keepsUse s3 := by
    simp only [s3]
    split
    · exact ⟨.refl, .of_heads rfl⟩
    · exact ⟨.raise .refl _, (s2.raiseH_sameHeads h 4).keepsUse⟩
  have h4 : s3.movesOnly s4 [Reg.LNK_STATUS.MEM_ACTIVE] ∧ s3.keepsUse s4 := by
    refine ⟨?_, (s3.memActiveAt_sameHeads _ _).keepsUse⟩
    simp only [s4, State.memActiveAt]
    generalize (if (s3.ctl.mode.active && _) = true then 1 else 0) = v
    split
    · exact .refl
    · exact .raise (.wr .refl (by decide) (by decide)) _
  have moves := (h2.1.trans h3.1).trans h4.1
  have keeps := ((h1.trans h2.2).trans h3.2).trans h4.2
  split
  · exact ⟨moves, keeps⟩
  · exact ⟨moves.event .., keeps.trans (State.event_keepsUse ..)⟩

/-- A register beside those of a link's state keeps its value. -/
theorem State.setLink_rd {f : Field} (hk : f.kinds < 16)
    (hf : ([Reg.LNK_STATUS.WIDTH, Reg.LNK_STATUS.RATE, Reg.LNK_STATUS.CXL_MEM, Reg.LNK_STATUS.MEM_ACTIVE] ++ bookFields).all
      (fun g => g.num != f.num) = true) (h width rate d i : Nat) : (s.setLink h width rate).rd f d i = s.rd f d i := by
  have shown : s.movesOnly (s.setLink h width rate)
      [Reg.LNK_STATUS.WIDTH, Reg.LNK_STATUS.RATE, Reg.LNK_STATUS.CXL_MEM, Reg.LNK_STATUS.MEM_ACTIVE] := by
    refine .trans ?_ ((s.setLink_follows h width rate).1.mono (by decide))
    exact .wr (.wr (.wr .refl (by decide) (by decide)) (by decide) (by decide)) (by decide) (by decide)
  exact shown.reads f hk hf d i

variable {s}

theorem State.setLink_width {h width rate : Nat} (hw : width < 32) :
    (s.setLink h width rate).rd Reg.LNK_STATUS.WIDTH h 0 = width := by
  rw [(s.setLink_follows h width rate).1.reads _ (by decide) (by decide), State.showLink, State.rd_wr_ne _ (by decide) (by decide) (by decide),
    State.rd_wr_ne _ (by decide) (by decide) (by decide), State.rd_wr_self]
  exact Nat.mod_eq_of_lt hw

theorem State.setLink_rate {h width rate : Nat} (hr : rate < 4) : (s.setLink h width rate).rd Reg.LNK_STATUS.RATE h 0 = rate := by
  rw [(s.setLink_follows h width rate).1.reads _ (by decide) (by decide), State.showLink, State.rd_wr_ne _ (by decide) (by decide) (by decide),
    State.rd_wr_self]
  exact Nat.mod_eq_of_lt hr

theorem State.setLink_mem (h width rate : Nat) :
    (s.setLink h width rate).rd Reg.LNK_STATUS.CXL_MEM h 0 = if width ≥ 4 ∧ 2 ≤ rate then 1 else 0 := by
  rw [(s.setLink_follows h width rate).1.reads _ (by decide) (by decide), State.showLink, State.rd_wr_self]
  simp only [memWidth, Bool.and_eq_true, decide_eq_true_eq, ge_iff_le]
  split <;> rfl

theorem State.widthOk_lt {width : Nat} (h : s.widthOk width = true) : width < 32 := by
  simp [State.widthOk] at h
  omega

end

/-! ## Training (R82) -/

section
variable (s : State)

/-- The lanes' margins and reversals are open: their registers move, and one open value is drawn. -/
theorem State.measureLanes_frame (h width : Nat) :
    s.measureLanes h width = { s with regs := (s.measureLanes h width).regs, free := s.free + 1 } := by
  have fold : ∀ (f : State → Nat → State), (∀ t l, f t l = { t with regs := (f t l).regs }) → ∀ (r : List Nat) (t : State),
      r.foldl f t = { t with regs := (r.foldl f t).regs } := fun f hf r t =>
    foldl_related (R := fun t u => u = { t with regs := u.regs }) (fun _ => rfl) (fun h1 h2 => by rw [h2, h1]) hf r t
  unfold State.measureLanes State.draw
  dsimp only
  rw [fold _ (fun _ _ => rfl)]

theorem State.measureLanes_moves (h width : Nat) :
    s.movesOnly (s.measureLanes h width) [Reg.LNK_LANE_STATUS.MARGIN, Reg.LNK_LANE_STATUS.REVERSED] := by
  unfold State.measureLanes
  refine .of_regs ?_ (State.draw_regs _)
  exact .foldl (fun t i => .wr (.wr .refl (by decide) (by decide)) (by decide) (by decide)) _ s

/-- The state of a head that trains: its link is up, its lanes are measured and its training's source is raised. -/
def State.trains (s : State) (h width : Nat) : State := ((s.onHead h (fun hd => { hd with linkUp := true })).measureLanes h width).raiseH h 0

theorem State.trains_linked (h width : Nat) : Linked s (s.trains h width) ∧ (s.trains h width).free = s.free + 1 := by
  refine ⟨(Linked.trans ?_ (State.raise_counted _ _).linked), ?_⟩
  · exact Linked.trans (s.onHead_counted ..).linked (State.measureLanes_linked ..)
  · rw [State.trains, State.raiseH, State.raise_free, State.measureLanes_frame]
    rfl

theorem State.trains_head (h width : Nat) : ((s.trains h width).heads.get h).linkUp = true ∧
    ((s.trains h width).heads.get h).decoders = (s.heads.get h).decoders := by
  have raised := ((s.onHead h (fun hd => { hd with linkUp := true })).measureLanes h width).raiseH_sameHeads h 0 h
  rw [State.trains, raised, State.measureLanes_frame]
  dsimp only
  rw [State.onHead_heads_self]
  exact ⟨rfl, rfl⟩

variable {s}

/-- A head's new width and rate with vector 7, after what has drawn one open value. -/
theorem Linked.toLink {u : State} (hl : Linked s u) (hf : u.free = s.free + 1) (h width rate v : Nat) :
    (u.setLink h width rate).msix h v = { s with
      regs := ((u.setLink h width rate).msix h v).regs, heads := ((u.setLink h width rate).msix h v).heads
      pm := ((u.setLink h width rate).msix h v).pm, out := ((u.setLink h width rate).msix h v).out, free := s.free + 1 } := by
  have all := hl.trans ((u.setLink_reported h width rate).trans (State.msix_reported _ h v)).linked
  have free : ((u.setLink h width rate).msix h v).free = s.free + 1 := by
    rw [State.msix_free, u.setLink_reported h width rate, hf]
  rw [← free]
  exact all

theorem exec_linkTrained_up {head : Fin 2} {width : Nat} {rate : Fin 4} (hh : s.hasHead head = true)
    (hc : (s.heads.get head).clock = true) (hl : (s.heads.get head).linkUp = false) (hp : s.headHeld head = false)
    (hy : s.physOn = true) (hw : s.widthOk width = true) (hr : rate.val ≠ 0) :
    exec (.linkTrained head width rate) s = .next (((s.trains head width).setLink head width rate).msix head 7) := by
  refine congrArg Host.Outcome.next (if_neg ?_)
  simp [hh, hc, hl, hp, hy, hw, hr]

/-! ## Retrains (R86) -/

/-- A retrain: it is counted, its lanes are measured, and its source is raised. -/
def State.retrains (s : State) (h width : Nat) : State := ((s.bump Reg.LNK_RETRAIN_CNT.COUNT h 0 1).measureLanes h width).raiseH h 2

theorem exec_linkRetrain_up {head : Fin 2} {width : Nat} {rate : Fin 4} (hh : s.hasHead head = true)
    (hl : (s.heads.get head).linkUp = true) (hw : s.widthOk width = true) (hr : rate.val ≠ 0) :
    exec (.linkRetrain head width rate) s = .next (s.retrainHead head width rate) := by
  refine congrArg Host.Outcome.next (if_neg ?_)
  simp [hh, hl, hw, hr]

/-- What a retrain that has begun has moved of its head's link: its count. -/
theorem State.retrains_shows (h width : Nat) :
    (s.retrains h width).rd Reg.LNK_RETRAIN_CNT.COUNT h 0 = min (s.rd Reg.LNK_RETRAIN_CNT.COUNT h 0 + 1) 4294967295 ∧
    (s.retrains h width).rd Reg.LNK_STATUS.WIDTH h 0 = s.rd Reg.LNK_STATUS.WIDTH h 0 ∧
    (s.retrains h width).rd Reg.LNK_STATUS.RATE h 0 = s.rd Reg.LNK_STATUS.RATE h 0 ∧
    s.keepsUse (s.retrains h width) ∧ (s.retrains h width).free = s.free + 1 := by
  have moves : (s.bump Reg.LNK_RETRAIN_CNT.COUNT h 0 1).movesOnly (s.retrains h width)
      [Reg.LNK_LANE_STATUS.MARGIN, Reg.LNK_LANE_STATUS.REVERSED] := .raise (State.measureLanes_moves ..) _
  refine ⟨?_, ?_, ?_, ?_, ?_⟩
  · rw [moves.reads _ (by decide) (by decide), State.rd_bump_self]
    rfl
  · rw [moves.reads _ (by decide) (by decide), State.bump, State.rd_wr_ne _ (by decide) (by decide) (by decide)]
  · rw [moves.reads _ (by decide) (by decide), State.bump, State.rd_wr_ne _ (by decide) (by decide) (by decide)]
  · refine .trans (.of_heads ?_) (State.raiseH_sameHeads _ h 2).keepsUse
    rw [State.measureLanes_frame]
    rfl
  · rw [State.retrains, State.raiseH, State.raise_free, State.measureLanes_frame]
    rfl

theorem State.retrainHead_shows {h width rate : Nat} (hw : width < 32) (hr : rate < 4) :
    (s.retrainHead h width rate).rd Reg.LNK_STATUS.WIDTH h 0 = width ∧
    (s.retrainHead h width rate).rd Reg.LNK_STATUS.RATE h 0 = rate ∧
    (s.retrainHead h width rate).rd Reg.LNK_RETRAIN_CNT.COUNT h 0 = min (s.rd Reg.LNK_RETRAIN_CNT.COUNT h 0 + 1) 4294967295 ∧
    s.keepsUse (s.retrainHead h width rate) ∧ (s.retrainHead h width rate).free = s.free + 1 := by
  unfold State.retrainHead
  extract_lets changed s1 s2
  obtain ⟨count, same, rateSame, keeps, free⟩ := s.retrains_shows h width
  have h2 : s2.rd Reg.LNK_STATUS.WIDTH h 0 = width ∧ s2.rd Reg.LNK_STATUS.RATE h 0 = rate ∧
      s2.rd Reg.LNK_RETRAIN_CNT.COUNT h 0 = s1.rd Reg.LNK_RETRAIN_CNT.COUNT h 0 ∧ s1.keepsUse s2 ∧ s2.free = s1.free := by
    simp only [s2]
    split
    · have raised : (s1.setLink h width rate).movesOnly ((s1.setLink h width rate).raiseH h 3) [] := .raise .refl _
      refine ⟨?_, ?_, ?_, (s1.setLink_follows h width rate).2.trans (State.raiseH_sameHeads _ h 3).keepsUse, ?_⟩
      · rw [raised.reads _ (by decide) (by decide), State.setLink_width hw]
      · rw [raised.reads _ (by decide) (by decide), State.setLink_rate hr]
      · rw [raised.reads _ (by decide) (by decide), s1.setLink_rd (by decide) (by decide)]
      · rw [State.raiseH, State.raise_free, s1.setLink_reported h width rate]
    · next unchanged =>
      simp only [changed, Bool.or_eq_true, bne_iff_ne, not_or, not_not] at unchanged
      exact ⟨same.trans unchanged.1, rateSame.trans unchanged.2, rfl, .of_heads rfl, rfl⟩
  clear_value s2
  obtain ⟨width2, rate2, count2, keeps2, free2⟩ := h2
  have sent : s2.movesOnly (s2.msix h 7) [] := .msix .refl ..
  refine ⟨?_, ?_, ?_, (keeps.trans keeps2).trans (State.msix_sameHeads _ _ _).keepsUse, ?_⟩
  · rw [sent.reads _ (by decide) (by decide), width2]
  · rw [sent.reads _ (by decide) (by decide), rate2]
  · rw [sent.reads _ (by decide) (by decide), count2]; exact count
  · rw [State.msix_free, free2]; exact free

end

/-! ## Flit replays (R119) -/

/-- Two steps that agree where an invariant of one of them holds lead to the same end. -/
theorem foldl_congr_of_invariant {σ α : Type} {f g : σ → α → σ} {I : σ → Prop} (hI : ∀ t a, I t → I (g t a))
    (hfg : ∀ t a, I t → f t a = g t a) (l : List α) {s : σ} (hs : I s) : l.foldl f s = l.foldl g s := by
  induction l generalizing s with
  | nil => rfl
  | cons a l ih => rw [List.foldl_cons, List.foldl_cons, hfg s a hs]; exact ih (hI s a hs)

section
variable (s : State)

/-- The corrected errors of a head's lanes are counted. -/
def State.countLanes (s : State) (h lanes : Nat) (corrected : List Nat) : State :=
  (List.range lanes).foldl (fun (t : State) l =>
    t.bump Reg.LNK_LANE_STATUS.ERRORS (s.laneOf h l).1 (s.laneOf h l).2 (corrected[l]?.getD 0)) s

theorem State.movesOnly.laneOf {t : State} {l : List Field} (hm : s.movesOnly t l)
    (hl : (l ++ bookFields).all (fun g => g.num != Reg.LNK_HEAD_CFG.DUAL.num) = true) (h k : Nat) : t.laneOf h k = s.laneOf h k := by
  unfold State.laneOf State.dual
  rw [hm.reads _ (by decide) hl]

/-- Each lane lies where the head's configuration says, whatever has been counted. -/
theorem State.countLanes_eq (h lanes : Nat) (corrected : List Nat) :
    (List.range lanes).foldl (fun (t : State) l =>
      t.bump Reg.LNK_LANE_STATUS.ERRORS (t.laneOf h l).1 (t.laneOf h l).2 (corrected[l]?.getD 0)) s = s.countLanes h lanes corrected :=
  foldl_congr_of_invariant (I := fun t => s.movesOnly t [Reg.LNK_LANE_STATUS.ERRORS])
    (fun _ _ ht => .bump ht (by decide) (by decide)) (fun t l ht => by rw [ht.laneOf _ (by decide)]) _ .refl

/-- Two lanes of a head count apart (R35). -/
theorem State.rd_bump_lane (t : State) {h k l : Nat} (n : Nat) (hk : k < 16) (hl : l < 16) (hne : k ≠ l) :
    (t.bump Reg.LNK_LANE_STATUS.ERRORS (s.laneOf h k).1 (s.laneOf h k).2 n).rd Reg.LNK_LANE_STATUS.ERRORS (s.laneOf h l).1
      (s.laneOf h l).2 = t.rd Reg.LNK_LANE_STATUS.ERRORS (s.laneOf h l).1 (s.laneOf h l).2 := by
  unfold State.laneOf
  split
  · exact t.rd_bump_index _ _ _ _ (by dsimp only; omega) (by dsimp only; omega) hne.symm
  · by_cases hi : l % 8 = k % 8
    · exact t.rd_wr_die _ rfl _ _ _ (by dsimp only; omega)
    · exact t.rd_bump_index _ _ _ _ (by dsimp only; omega) (by dsimp only; omega) hi

theorem State.countLanes_rd {h lanes l : Nat} (corrected : List Nat) (hn : lanes ≤ 16) (hl : l < lanes) :
    (s.countLanes h lanes corrected).rd Reg.LNK_LANE_STATUS.ERRORS (s.laneOf h l).1 (s.laneOf h l).2 =
      min (s.rd Reg.LNK_LANE_STATUS.ERRORS (s.laneOf h l).1 (s.laneOf h l).2 + corrected[l]?.getD 0) 65535 :=
  foldl_read_of_nodup (read := fun t : State => t.rd Reg.LNK_LANE_STATUS.ERRORS (s.laneOf h l).1 (s.laneOf h l).2)
    (g := fun v => min (v + corrected[l]?.getD 0) 65535) (c := l) (fun t => t.rd_bump_self ..)
    (fun _ hk hne t => s.rd_bump_lane t _ ((List.mem_range.mp hk).trans_le hn) (hl.trans_le hn) hne) List.nodup_range
    (List.mem_range.mpr hl) s

theorem State.countLanes_tells (h lanes : Nat) (corrected : List Nat) :
    s.tells (s.countLanes h lanes corrected) [Reg.LNK_LANE_STATUS.ERRORS] [] :=
  .foldl (fun t _ => t.bump_tells _ _ _ (by decide) (by decide)) _ s

theorem State.countLanes_frame (h lanes : Nat) (corrected : List Nat) :
    s.countLanes h lanes corrected = { s with regs := (s.countLanes h lanes corrected).regs } :=
  foldl_related (R := fun t u : State => u = { t with regs := u.regs }) (fun _ => rfl) (fun h1 h2 => by rw [h2, h1])
    (fun _ _ => rfl) _ s

variable {s}

/-- A replay moves the lanes' errors beside counters and sources. -/
theorem exec_flitReplay_up {head : Fin 2} {corrected : List Nat} (hh : s.hasHead head = true)
    (hl : (s.heads.get head).linkUp = true) :
    ∃ t, exec (.flitReplay head corrected) s = .next t ∧
      (s.countLanes head (if s.dual then 8 else 16) corrected).tells t [] [] ∧
      (s.countLanes head (if s.dual then 8 else 16) corrected).sameHeads t ∧
      t.out = (s.countLanes head (if s.dual then 8 else 16) corrected).out := by
  refine ⟨_, congrArg Host.Outcome.next (if_neg (by simp [hh, hl])), ?_⟩
  extract_lets s1 s2
  have counted : s1 = s.countLanes head (if s.dual then 8 else 16) corrected := s.countLanes_eq ..
  rw [← counted]
  clear_value s1
  have told : s1.tells s2 [] [] :=
    ((s1.raise_tells _).then (State.tally_tells ..)).then (State.tally_tells ..)
  have heads : s1.sameHeads s2 :=
    ((s1.raiseH_sameHeads _ _).trans (State.tally_sameHeads _ _ _ _)).trans (State.tally_sameHeads _ _ _ _)
  have out : s2.out = s1.out := by
    simp only [s2]
    rw [State.tally_out, State.tally_out, State.raiseH, State.raise_out]
  exact iteInduction (motive := fun t => s1.tells t [] [] ∧ s1.sameHeads t ∧ t.out = s1.out)
    (fun _ => ⟨told.then (State.raise_tells ..), heads.trans (State.raiseH_sameHeads _ _ _), by rw [State.raiseH, State.raise_out, out]⟩)
    (fun _ => ⟨told, heads, out⟩)

end

/-- Settles O33: a link's width, rate and count are written once, and all that follows moves none of them. -/
theorem linksTrain : Obligations.LinksTrain := by
  refine ⟨fun s head width rate hh hc hl hp hy hw hr => ?_, fun s head width rate hh hl hw hr => ?_, fun s head corrected hh hl => ?_⟩
  · obtain ⟨linked, free⟩ := s.trains_linked head width
    obtain ⟨up, decoders⟩ := s.trains_head head width
    have sent : ((s.trains head width).setLink head width rate).movesOnly
        (((s.trains head width).setLink head width rate).msix head 7) [] := .msix .refl ..
    have keeps := ((s.trains head width).setLink_follows head width rate).2.trans (State.msix_sameHeads _ head 7).keepsUse
    refine ⟨_, exec_linkTrained_up hh hc hl hp hy hw hr, (keeps.linkUp head).trans up, ?_, ?_, ?_, (keeps.decoders head).trans decoders,
      linked.toLink free ..⟩
    · rw [sent.reads _ (by decide) (by decide), State.setLink_width (State.widthOk_lt hw)]
    · rw [sent.reads _ (by decide) (by decide), State.setLink_rate rate.isLt]
    · rw [sent.reads _ (by decide) (by decide), State.setLink_mem]
  · obtain ⟨width', rate', count, keeps, free⟩ := State.retrainHead_shows (s := s) (h := head) (State.widthOk_lt hw) rate.isLt
    refine ⟨_, exec_linkRetrain_up hh hl hw hr, (keeps.linkUp head).trans hl, width', rate', count, keeps.decoders head, ?_⟩
    rw [← free]
    exact s.retrainHead_linked head width rate
  · obtain ⟨t, ran, told, heads, out⟩ := exec_flitReplay_up (corrected := corrected) hh hl
    have frame := s.countLanes_frame head (if s.dual then 8 else 16) corrected
    refine ⟨t, ran, fun l hlt => ?_, ?_⟩
    · rw [told.moves.reads _ (by decide) (by decide), s.countLanes_rd corrected (by split <;> decide) hlt]
    · have all := (s.countLanes_tells head (if s.dual then 8 else 16) corrected).then
        ⟨told.frame, told.manager, told.moves.mono (List.nil_subset _), told.messages⟩
      exact all.booked (.trans (.of_heads (by rw [frame])) heads) (by rw [out, frame])

end Sys2Proof.Machine
end

section
/-! SUPPORT. Vectors that are sent once they may be, and groups (R85, R90, R108). -/

namespace Sys2Proof.Machine

/-! ## A fold that meets one key -/

/-- A fold over a list that names c: what every other step keeps until then holds at c, and what c's step brings about every step keeps. -/
theorem foldl_reaches {σ κ : Type} {step : σ → κ → σ} {I Q : σ → Prop} {c : κ} {l : List κ}
    (keep : ∀ t, ∀ a ∈ l, a ≠ c → I t → I (step t a)) (own : ∀ t, I t → Q (step t c)) (after : ∀ t, ∀ a ∈ l, Q t → Q (step t a))
    (hc : c ∈ l) {s : σ} (hs : I s) : Q (l.foldl step s) := by
  have holds : ∀ r ⊆ l, ∀ t, Q t → Q (r.foldl step t) := fun r hr => by
    induction r with
    | nil => exact fun _ h => h
    | cons a r ih =>
      exact fun t h => ih (fun _ hb => hr (List.mem_cons_of_mem _ hb)) _ (after t a (hr List.mem_cons_self) h)
  suffices reach : ∀ r ⊆ l, c ∈ r → ∀ s, I s → Q (r.foldl step s) from reach l (List.Subset.refl _) hc s hs
  intro r hr hc s hs
  induction r generalizing s with
  | nil => exact absurd hc List.not_mem_nil
  | cons a r ih =>
    have rest : r ⊆ l := fun _ hb => hr (List.mem_cons_of_mem _ hb)
    rw [List.foldl_cons]
    by_cases h : a = c
    · exact holds r rest _ (h ▸ own s hs)
    · exact ih rest ((List.mem_cons.mp hc).resolve_left (Ne.symm h)) _ (keep s a (hr List.mem_cons_self) h hs)

/-! ## Pending bits -/

/-- Both heads hold what they held but for counts and pending bits, and the pending bit of a vector that is not masked stays. -/
structure State.pendsMasked (s t : State) : Prop where
  heads : s.sameHeads t
  pending : ∀ k v, (s.heads.get k).msixMasked.getLsbD v = false →
    (t.heads.get k).msixPending.getLsbD v = (s.heads.get k).msixPending.getLsbD v

section
variable {s t u : State}

theorem State.sameHeads.masked (h : s.sameHeads t) (k : Nat) : (t.heads.get k).msixMasked = (s.heads.get k).msixMasked := by rw [h k]

theorem State.sameHeads.d3hot (h : s.sameHeads t) (k : Nat) : (t.heads.get k).d3hot = (s.heads.get k).d3hot := by rw [h k]

theorem State.pendsMasked.of_heads (h : t.heads = s.heads) : s.pendsMasked t := ⟨.of_heads h, fun _ _ _ => by rw [h]⟩

theorem State.pendsMasked.trans (h1 : s.pendsMasked t) (h2 : t.pendsMasked u) : s.pendsMasked u where
  heads := h1.heads.trans h2.heads
  pending k v hv := (h2.pending k v (by rw [h1.heads.masked]; exact hv)).trans (h1.pending k v hv)

theorem Head.pend_getLsbD (hd : Head) {v w : Nat} (h : v ≠ w) : (hd.pend w).msixPending.getLsbD v = hd.msixPending.getLsbD v := by
  unfold Head.pend
  simp only [BitVec.getLsbD_or, BitVec.getLsbD_shiftLeft]
  simp only [BitVec.getLsbD_one]
  by_cases hv : v < w
  · simp [hv]
  · simp [show v - w ≠ 0 by omega]

theorem Head.pend_self (hd : Head) {v : Nat} (h : v < 32) : (hd.pend v).msixPending.getLsbD v = true := by
  unfold Head.pend
  simp [h]

end

section
variable (s : State)

theorem State.raiseAt_pendsMasked (h n : Nat) : s.pendsMasked (s.raiseAt h n) := by
  refine ⟨s.raiseAt_sameHeads h n, fun k v hv => ?_⟩
  unfold State.raiseAt
  dsimp only
  split
  · rfl
  · next g _ =>
    rw [State.onHead, Two.get_modify]
    split
    · dsimp only [State.wr_heads]
      refine iteInduction (motive := fun hd : Head => hd.msixPending.getLsbD v = _) (fun masked => ?_) (fun _ => rfl)
      refine Head.pend_getLsbD _ fun hvg => ?_
      subst hvg
      exact absurd (hv.symm.trans masked) (by decide)
    · rfl

theorem State.assertSource_pendsMasked (n : Nat) : s.pendsMasked (s.assertSource n) := by
  unfold State.assertSource
  extract_lets s1
  have raised : s.pendsMasked (if s.dual then s1.raiseAt 1 n else s1) := by
    split
    · exact (s.raiseAt_pendsMasked 0 n).trans (s1.raiseAt_pendsMasked 1 n)
    · exact s.raiseAt_pendsMasked 0 n
  exact raised.trans (.of_heads rfl)

theorem State.tally_pendsMasked (d i n : Nat) : s.pendsMasked (s.tally d i n) := by
  unfold State.tally
  split
  · exact .of_heads rfl
  · dsimp only
    split
    · exact .of_heads rfl
    · have marked : s.pendsMasked ((s.wr Reg.TLY_FIXED.COUNT d i (s.rd Reg.TLY_FIXED.COUNT d i + n)).wrBit Reg.TLY_OVF_FIXED.BITS d
          (i / 64) (i % 64) true) := .of_heads rfl
      exact marked.trans (State.assertSource_pendsMasked ..)

/-! ## Pending vectors (R108) -/

/-- The head's own part of a pending vector's message: its pending bit, and its group's count. -/
def Head.sendsVector (v : Nat) (hd : Head) : Head :=
  { hd with
    msixPending := hd.msixPending &&& ~~~ (1#32 <<< v), aggCount := if v < 8 then hd.aggCount else hd.aggCount.set (v - 8) 0 }

theorem Head.sendsVector_pending (hd : Head) {v w : Nat} (hw : w < 32) :
    (hd.sendsVector v).msixPending.getLsbD w = (hd.msixPending.getLsbD w && decide (w ≠ v)) := by
  unfold Head.sendsVector
  simp only [BitVec.getLsbD_and, BitVec.getLsbD_not, BitVec.getLsbD_shiftLeft, BitVec.getLsbD_one, hw]
  by_cases h : w = v
  · simp [h]
  · by_cases hlt : w < v
    · simp [hlt, h]
    · simp [h, show w - v ≠ 0 by omega]

/-- What a vector's message moves: of the registers its group's mark, and of what both heads hold counts and pending bits. -/
theorem State.sendVector_does (h v : Nat) : Reported s (s.sendVector h v) ∧ s.movesOnly (s.sendVector h v) [] ∧
    (s.onHead h (Head.sendsVector v)).pendsMasked (s.sendVector h v) ∧ (s.sendVector h v).out = .msix h v :: s.out := by
  unfold State.sendVector
  extract_lets s1 s2
  have h2 : s2 = { s1 with regs := s2.regs } ∧ s1.movesOnly s2 [] := by
    simp only [s2]
    split
    · exact ⟨rfl, .refl⟩
    · exact ⟨rfl, .wrBook .refl (by decide) (by decide)⟩
  clear_value s2
  obtain ⟨frame, moves⟩ := h2
  refine ⟨?_, ?_, ?_, ?_⟩
  · refine Reported.trans (?_ : Reported s (s2.send (.msix h v))) (State.tally_counted ..).reported
    rw [frame]; rfl
  · have sent : s.movesOnly (s2.send (.msix h v)) [] :=
      .of_regs (t := s2) ((State.movesOnly.of_regs .refl rfl : s.movesOnly s1 []).trans moves) rfl
    exact sent.tally ..
  · refine .trans (.of_heads (t := s2.send (.msix h v)) ?_) (State.tally_pendsMasked ..)
    rw [frame]; rfl
  · rw [State.tally_out, frame]; rfl

theorem State.sendVector_sameHeads (h v : Nat) : s.sameHeads (s.sendVector h v) :=
  (s.onHead_sameHeads h (f := Head.sendsVector v) fun _ => rfl).trans (s.sendVector_does h v).2.2.1.heads

/-- The pending bit of a vector that is not masked, once another one, or its own, has been sent. -/
theorem State.sendVector_pending (h v : Nat) {w : Nat} (hw : w < 32) (hm : (s.heads.get h).msixMasked.getLsbD w = false) :
    ((s.sendVector h v).heads.get h).msixPending.getLsbD w = ((s.heads.get h).msixPending.getLsbD w && decide (w ≠ v)) := by
  rw [(s.sendVector_does h v).2.2.1.pending h w (by rw [State.onHead_heads_self]; exact hm), State.onHead_heads_self]
  exact Head.sendsVector_pending _ hw

/-- One step of sending what is pending: nothing, or a vector's message. -/
theorem State.sendPending_frame (h : Nat) :
    Reported s (s.sendPending h) ∧ s.movesOnly (s.sendPending h) [] ∧ s.sameHeads (s.sendPending h) := by
  unfold State.sendPending
  refine foldl_related (R := fun s t => Reported s t ∧ s.movesOnly t [] ∧ s.sameHeads t) (fun s => ⟨.refl s, .refl, .of_heads rfl⟩)
    (fun h1 h2 => ⟨h1.1.trans h2.1, h1.2.1.trans h2.2.1, h1.2.2.trans h2.2.2⟩) (fun t v => ?_) _ s
  split
  · exact ⟨(t.sendVector_does h v).1, (t.sendVector_does h v).2.1, t.sendVector_sameHeads h v⟩
  · exact ⟨.refl t, .refl, .of_heads rfl⟩

/-- Sending vectors gives and takes no grant (R117). -/
theorem State.movesOnly.granted {s t : State} (h : s.movesOnly t []) : t.granted = s.granted := by
  unfold State.granted State.primary State.dual
  simp (disch := decide) only [h.reads]

variable {s}

/-- A pending vector that may be sent is sent, and is pending no more (R85, R108). -/
theorem State.sendPending_sends {h v : Nat} (hv : v < 32) (hp : (s.heads.get h).msixPending.getLsbD v = true)
    (hm : s.maySend h v = true) :
    .msix h v ∈ (s.sendPending h).out ∧ ((s.sendPending h).heads.get h).msixPending.getLsbD v = false := by
  have may : ∀ {t u : State}, t.sameHeads u → t.movesOnly u [] → u.maySend h v = t.maySend h v := fun hh hr => by
    unfold State.maySend
    rw [hh.masked, hh.d3hot, hr.granted]
  have open' : ∀ {t : State}, t.maySend h v = true → (t.heads.get h).msixMasked.getLsbD v = false := fun ht => by
    simp only [State.maySend, Bool.and_eq_true, Bool.not_eq_true'] at ht
    exact ht.1.1
  suffices both : (s.sendPending h).maySend h v = true ∧ .msix h v ∈ (s.sendPending h).out ∧
      ((s.sendPending h).heads.get h).msixPending.getLsbD v = false from both.2
  refine foldl_reaches (I := fun t : State => t.maySend h v = true ∧ (t.heads.get h).msixPending.getLsbD v = true)
    (Q := fun t : State => t.maySend h v = true ∧ Out.msix h v ∈ t.out ∧ (t.heads.get h).msixPending.getLsbD v = false) (c := v)
    (fun t w _ hw ⟨ready, waits⟩ => ?_) (fun t ⟨ready, waits⟩ => ?_) (fun t w _ ⟨ready, sent, done⟩ => ?_) (List.mem_range.mpr hv) ⟨hm, hp⟩
  · split
    · refine ⟨(may (t.sendVector_sameHeads h w) (t.sendVector_does h w).2.1).trans ready, ?_⟩
      rw [t.sendVector_pending h w hv (open' ready), waits]
      simpa using hw.symm
    · exact ⟨ready, waits⟩
  · rw [if_pos (by rw [waits, ready]; rfl)]
    refine ⟨(may (t.sendVector_sameHeads h v) (t.sendVector_does h v).2.1).trans ready, ?_, ?_⟩
    · rw [(t.sendVector_does h v).2.2.2]
      exact List.mem_cons_self
    · rw [t.sendVector_pending h v hv (open' ready)]
      simp
  · split
    · refine ⟨(may (t.sendVector_sameHeads h w) (t.sendVector_does h w).2.1).trans ready, ?_, ?_⟩
      · rw [(t.sendVector_does h w).2.2.2]
        exact List.mem_cons_of_mem _ sent
      · rw [t.sendVector_pending h w hv (open' ready), done]
        rfl
    · exact ⟨ready, sent, done⟩

/-- The frame of a head's change that lets pending vectors go. -/
theorem State.sendPending_onHead (s : State) (h : Nat) (f : Head → Head) :
    (s.onHead h f).sendPending h = { s with
      heads := ((s.onHead h f).sendPending h).heads, regs := ((s.onHead h f).sendPending h).regs
      out := ((s.onHead h f).sendPending h).out, pm := ((s.onHead h f).sendPending h).pm } :=
  (s.onHead_counted h f).reported.trans ((s.onHead h f).sendPending_frame h).1

/-! ## D3hot and unmasking (R85, R108) -/

theorem State.onHead_maySend {f : Head → Head} {h v : Nat} (hm : (f (s.heads.get h)).msixMasked.getLsbD v = false)
    (hd : (f (s.heads.get h)).d3hot = false) (hg : v < 8 ∨ s.granted = true) : (s.onHead h f).maySend h v = true := by
  unfold State.maySend
  rw [State.onHead_heads_self, hm, hd, show (s.onHead h f).granted = s.granted from rfl]
  simpa using hg

theorem exec_d3hotExit_up {head : Fin 2} (hl : (s.hasHead head && (s.heads.get head).linkUp) = true) :
    ∃ t, exec (.d3hotExit head) s = .next t ∧ (t.heads.get head).d3hot = false ∧
      (t.heads.get head).decoders = (s.heads.get head).decoders ∧ (t.heads.get head).msixMasked = (s.heads.get head).msixMasked ∧
      t = { s with heads := t.heads, regs := t.regs, out := t.out, pm := t.pm } ∧
      (∀ v < 32, (s.heads.get head).msixPending.getLsbD v = true → (s.heads.get head).msixMasked.getLsbD v = false →
        v < 8 ∨ s.granted = true → .msix head v ∈ t.out ∧ (t.heads.get head).msixPending.getLsbD v = false) := by
  have kept := ((s.onHead head (fun hd => { hd with d3hot := false })).sendPending_frame head).2.2 head
  rw [State.onHead_heads_self] at kept
  refine ⟨_, congrArg Host.Outcome.next (if_pos hl), by rw [kept], by rw [kept], by rw [kept], s.sendPending_onHead head _,
    fun v hv hp hm hg => State.sendPending_sends hv ?_ (State.onHead_maySend hm rfl hg)⟩
  rw [State.onHead_heads_self]; exact hp

/-- The mask of a head's vectors once one of them has been unmasked. -/
theorem unmask_getLsbD (m : BitVec 32) (w : Nat) {v : Nat} (hv : v < 32) :
    (m &&& ~~~ (1#32 <<< w)).getLsbD v = (m.getLsbD v && decide (v ≠ w)) := by
  simp only [BitVec.getLsbD_and, BitVec.getLsbD_not, BitVec.getLsbD_shiftLeft, BitVec.getLsbD_one, hv]
  by_cases h : v = w
  · simp [h]
  · by_cases hlt : v < w
    · simp [hlt, h]
    · simp [h, show v - w ≠ 0 by omega]

theorem exec_msixUnmask_up {head : Fin 2} {vector : Fin 32} (hu : s.ioUp head = true) :
    ∃ t, exec (.msixUnmask head vector) s = .next t ∧ (t.heads.get head).msixMasked.getLsbD vector = false ∧
      (∀ v < 32, v ≠ vector.val → (t.heads.get head).msixMasked.getLsbD v = (s.heads.get head).msixMasked.getLsbD v) ∧
      ((s.heads.get head).msixPending.getLsbD vector = true → vector.val < 8 ∨ s.granted = true →
        .msix head vector ∈ t.out ∧ (t.heads.get head).msixPending.getLsbD vector = false) ∧
      t = { s with heads := t.heads, regs := t.regs, out := t.out, pm := t.pm } := by
  have kept := ((s.onHead head (fun hd => { hd with
    msixMasked := hd.msixMasked &&& ~~~ (1#32 <<< vector.val) })).sendPending_frame head).2.2 head
  rw [State.onHead_heads_self] at kept
  have cold : (s.heads.get head).d3hot = false := by
    simp only [State.ioUp, Bool.and_eq_true, Bool.not_eq_true'] at hu
    exact hu.1.2
  refine ⟨_, congrArg Host.Outcome.next (if_neg (by simp [hu])), ?_, fun v hv hne => ?_,
    fun hp hg => State.sendPending_sends vector.isLt ?_ (State.onHead_maySend ?_ cold hg), s.sendPending_onHead head _⟩
  · rw [kept]; exact (unmask_getLsbD _ _ vector.isLt).trans (by simp)
  · rw [kept]; exact (unmask_getLsbD _ _ hv).trans (by simp [hne])
  · rw [State.onHead_heads_self]; exact hp
  · exact (unmask_getLsbD _ _ vector.isLt).trans (by simp)

/-! ## Groups (R108) -/

/-- A count that does not reach its last value counts, and tells nobody. -/
theorem State.tally_small {d i : Nat} (h : s.rd Reg.TLY_FIXED.COUNT d i < 281474976710655) :
    s.tally d i 1 = s ∨ s.tally d i 1 = s.wr Reg.TLY_FIXED.COUNT d i (s.rd Reg.TLY_FIXED.COUNT d i + 1) := by
  unfold State.tally
  split
  · exact .inl rfl
  · exact .inr (if_pos (by omega))

/-- A vector that is masked, or held by D3hot, becomes pending; another is sent, and where its count does not wrap nothing else moves. -/
theorem State.msix_small {h v : Nat} (hv : v < 32) (hc : s.rd Reg.TLY_FIXED.COUNT h 373 < 281474976710655) :
    (if (s.heads.get h).msixMasked.getLsbD v ∨ (s.heads.get h).d3hot
      then ((s.msix h v).heads.get h).msixPending.getLsbD v = true ∧ (s.msix h v).out = s.out
      else (s.msix h v).out = .msix h v :: s.out) ∧
    ((s.msix h v).heads.get h).aggCount = (s.heads.get h).aggCount ∧
    (∀ d i, (s.msix h v).rd Reg.LNK_AGG_CTRL.PENDING d i = s.rd Reg.LNK_AGG_CTRL.PENDING d i) := by
  unfold State.msix
  by_cases held : (s.heads.get h).msixMasked.getLsbD v = true ∨ (s.heads.get h).d3hot = true
  · rw [if_pos held, if_pos (by simpa using held), State.onHead_heads_self]
    exact ⟨⟨Head.pend_self _ hv, rfl⟩, rfl, fun _ _ => rfl⟩
  · rw [if_neg held, if_neg (by simpa using held)]
    refine ⟨State.tally_out .., ?_⟩
    rcases State.tally_small (s := s.send (.msix h v)) hc with same | counted
    · rw [same]; exact ⟨rfl, fun _ _ => rfl⟩
    · rw [counted]; exact ⟨rfl, fun _ _ => State.rd_wr_ne _ (by decide) (by decide) (by decide) ..⟩

theorem exec_aggGroupMessage_due {head : Fin 2} {group : Fin 24} {elapsed : Bool} {n : Nat} (hh : s.hasHead head = true)
    (hg : s.granted = true) (ha : (s.heads.get head).aggCount[group.val]? = some n) (hn : n ≠ 0)
    (hd : elapsed = true ∨ (s.rd Reg.LNK_AGG_CTRL.COUNT head group ≠ 0 ∧ s.rd Reg.LNK_AGG_CTRL.COUNT head group ≤ n)) :
    exec (.aggGroupMessage head group elapsed) s = .next
      (((s.onHead head (fun hd => { hd with aggCount := hd.aggCount.set group 0 })).wr Reg.LNK_AGG_CTRL.PENDING head group 0).msix head
        (8 + group)) := by
  refine congrArg Host.Outcome.next (if_neg ?_)
  simp only [hh, hg, ha, Option.getD_some]
  rcases hd with h | ⟨h1, h2⟩
  · simp [h, hn]
  · simp [h1, h2, hn]

end

/-- Settles O34: an FLR and D3hot name what they change of one head; a vector goes where it may, once, and stays sent. -/
theorem functionsAndVectors : Obligations.FunctionsAndVectors := by
  refine ⟨fun s head hh hl => ?_, fun s head vector hu => exec_msixUnmask_up hu, fun s head group elapsed n hh hg ha hn hd hc => ?_⟩
  · have up : (s.hasHead head && (s.heads.get head).linkUp) = true := by rw [hh, hl]; rfl
    exact ⟨congrArg Host.Outcome.next (if_pos up), congrArg Host.Outcome.next (if_pos up), exec_d3hotExit_up up⟩
  · let u := (s.onHead head (fun hd => { hd with aggCount := hd.aggCount.set group 0 })).wr Reg.LNK_AGG_CTRL.PENDING head group 0
    have count : u.rd Reg.TLY_FIXED.COUNT head 373 < 281474976710655 := by
      rw [State.rd_wr_ne _ (by decide) (by decide) (by decide)]
      exact hc
    have head' : u.heads.get head = { s.heads.get head with aggCount := (s.heads.get head).aggCount.set group 0 } :=
      State.onHead_heads_self ..
    obtain ⟨goes, groups, marks⟩ := State.msix_small (s := u) (h := head) (v := 8 + group) (by omega) count
    refine ⟨_, exec_aggGroupMessage_due hh hg ha hn hd, ?_, ?_, ?_, ?_⟩
    · rw [marks, State.rd_wr_self]; rfl
    · rw [groups, head']
      exact List.getElem?_set_self (List.getElem?_eq_some_iff.mp ha).1
    · rw [head'] at goes
      exact goes
    · exact Reported.trans ((s.onHead_counted ..).trans (State.wr_counted ..)).reported (u.msix_reported ..)

end Sys2Proof.Machine
end

section
/-! SUPPORT. HDM decoders and link streams (R91, R92, R96, R97). -/

namespace Sys2Proof.Machine

/-! ## Heads under Ream records -/

section
variable (s : State)

theorem State.pageCommit_keepsUse (page : Nat) : s.keepsUse (s.pageCommit page) := by
  unfold State.pageCommit
  extract_lets n x s1 s2 s3
  have h3 : s.keepsUse s3 := by
    refine .of_heads ?_
    simp only [s3]
    split <;> rfl
  clear_value s3
  refine .trans ?_ (State.tally_sameHeads _ _ _ _).keepsUse
  split
  · exact h3.trans (s3.raise_sameHeads 622).keepsUse
  · exact h3

theorem State.gapAt_keepsUse (u : Nat) (kept gone : List ReamRec) : s.keepsUse (s.gapAt u kept gone) := by
  unfold State.gapAt
  dsimp only
  split
  · exact .of_heads rfl
  · refine .trans (.of_heads ?_) (State.raise_sameHeads _ _).keepsUse
    rfl

theorem State.reamLog_keepsUse (r : ReamRec) : s.keepsUse (s.reamLog r) := by
  unfold State.reamLog
  extract_lets used p x s1
  have h1 : s.keepsUse s1 := by
    have logged : s.keepsUse { s with ream := { s.ream with log := p.1 } } := .of_heads rfl
    simp only [s1]
    split
    · exact .of_heads rfl
    · exact (logged.trans (State.gapAt_keepsUse _ 0 p.1 p.2)).trans (State.gapAt_keepsUse _ 1 p.1 p.2)
  clear_value s1
  split
  · exact h1.trans (.of_heads rfl)
  · have counted : s1.keepsUse (s1.bump Reg.REAM_DROP.DROPPED 0 0 1) := .of_heads rfl
    exact h1.trans (counted.trans (State.raise_sameHeads _ _).keepsUse)

theorem State.pageWrite_keepsUse (page o : Nat) (b : List (BitVec 8)) : s.keepsUse (s.pageWrite page o b) := by
  have placed : s.keepsUse { s with qst := { s.qst with bytes := placeBytes s.qst.bytes page o b } } := .of_heads rfl
  exact placed.trans (State.pageCommit_keepsUse _ page)

theorem State.reamMirror_keepsUse (r : ReamRec) : s.keepsUse (s.reamMirror r) := by
  unfold State.reamMirror
  extract_lets m x s1 s2
  have h2 : s.keepsUse s2 := by
    refine .of_heads ?_
    simp only [s2]
    split <;> rfl
  clear_value s2
  exact h2.trans (s2.pageWrite_keepsUse ..)

theorem State.reamPlace_keepsUse (r : ReamRec) : s.keepsUse (s.reamPlace r) := by
  unfold State.reamPlace
  extract_lets x s1 crit b y s2
  have h1 : s.keepsUse s1 := .of_heads rfl
  clear_value s1
  have logged := h1.trans (s1.reamLog_keepsUse r)
  have h2 : s.keepsUse s2 := by
    simp only [s2]
    split
    · split
      · exact h1.trans (s1.reamMirror_keepsUse r)
      · exact h1.trans (.of_heads rfl)
    · split
      · exact logged
      · split
        · exact logged.trans (State.reamMirror_keepsUse _ r)
        · exact logged
  clear_value s2
  refine .trans ?_ (State.tally_sameHeads _ _ _ _).keepsUse
  split
  · exact h2.trans (s2.raise_sameHeads 619).keepsUse
  · exact h2

theorem State.reamAs_keepsUse (rate : Bool) (origin sev cls : Nat) (p : List Nat) : s.keepsUse (s.reamAs rate origin sev cls p) := by
  unfold State.reamAs
  split
  · exact .of_heads rfl
  · split
    · exact .of_heads rfl
    · extract_lets x s1
      have h1 : s.keepsUse s1 := by
        refine .of_heads ?_
        simp only [s1]
        split <;> rfl
      clear_value s1
      exact h1.trans (s1.reamPlace_keepsUse _)

theorem State.log_keepsUse (sev cls : Nat) (p : List Nat) : s.keepsUse (s.log sev cls p) := s.reamAs_keepsUse ..

/-! ## A stream's status (R96, R97) -/

/-- The register that shows one of a head's link streams. -/
def ideField (mem : Bool) : Field := if mem then Reg.LNK_STATUS.IDE_MEM else Reg.LNK_STATUS.IDE_IO

/-- A stream's change moves its status beside counters, indications and event records. -/
theorem State.setIde_does (h : Nat) (mem on : Bool) :
    (s.setIde h mem on).rd (ideField mem) h 0 = (if on then 1 else if s.rd (ideField mem) h 0 = 1 then 0 else s.rd (ideField mem) h 0) ∧
      s.movesOnly (s.setIde h mem on) [ideField mem] ∧ s.keepsUse (s.setIde h mem on) ∧ Reported s (s.setIde h mem on) := by
  have low : (ideField mem).kinds < 16 := by cases mem <;> decide
  have away : bookFields.all (fun g => g.num != (ideField mem).num) = true := by cases mem <;> decide
  unfold State.setIde
  rw [← ideField]
  generalize (if mem then 7 else 6) = k
  dsimp only
  split
  · next same => exact ⟨by cases on <;> simp_all, .refl, .of_heads rfl, .refl s⟩
  · next other =>
    generalize hu : s.wr (ideField mem) h 0 (if on = true then 1 else 0) = u
    have told : u.movesOnly (((u.raiseH h k).event 0 .memoryModule .ideChange [h, k, if on then 1 else 0]).msix h 7) [] :=
      .msix (.event (.raise .refl _) ..) ..
    have kept : u.keepsUse (((u.raiseH h k).event 0 .memoryModule .ideChange [h, k, if on then 1 else 0]).msix h 7) :=
      ((u.raiseH_sameHeads h k).keepsUse.trans (State.event_keepsUse ..)).trans (State.msix_sameHeads _ h 7).keepsUse
    have frame : Reported u (((u.raiseH h k).event 0 .memoryModule .ideChange [h, k, if on then 1 else 0]).msix h 7) :=
      ((u.raise_counted _).reported.trans (State.event_reported ..)).trans (State.msix_reported ..)
    have shown : s.movesOnly u [ideField mem] ∧ s.keepsUse u ∧ Reported s u := by
      rw [← hu]
      exact ⟨.wr .refl low List.mem_cons_self, .of_heads rfl, rfl⟩
    refine ⟨?_, shown.1.trans (told.mono (List.nil_subset _)), shown.2.1.trans kept, shown.2.2.trans frame⟩
    rw [told.reads _ low away, ← hu, State.rd_wr_self, show 2 ^ (ideField mem).width = 2 by cases mem <;> rfl]
    cases on with
    | true => rfl
    | false =>
      have on : s.rd (ideField mem) h 0 = 1 := by simpa using other
      rw [on]; rfl

end

/-! ## Decoders (R91, R92) -/

section
variable {s : State}

/-- One decoder of a head is replaced. -/
theorem State.setDecoder_does {head : Nat} {k : Nat} {old new : Decoder} (ho : (s.heads.get head).decoders[k]? = some old) :
    let t := s.onHead head (fun hd => { hd with decoders := hd.decoders.set k new })
    (∀ j, j ≠ k → (t.heads.get head).decoders[j]? = (s.heads.get head).decoders[j]?) ∧ (t.heads.get head).decoders[k]? = some new := by
  dsimp only
  rw [State.onHead_heads_self]
  exact ⟨fun j hj => List.getElem?_set_ne hj.symm, List.getElem?_set_self (List.getElem?_eq_some_iff.mp ho).1⟩

theorem State.onHead_other (s : State) (head : Fin 2) (f : Head → Head) :
    (s.onHead head f).heads.get (1 - head.val) = s.heads.get (1 - head.val) :=
  Two.get_modify_ne _ _ (by fin_cases head <;> decide)

/-- The decoder after a commit that its state lets through, or a commit cleared (R91, R92). -/
def Head.committed (hd : Head) (k : Nat) (set : DecoderSet) (commit : Bool) (old : Decoder) : Decoder :=
  if commit = false then { old with committed := false, error := false }
  else if hd.commitFails k (Decoder.ofSet set) then { old with error := true }
  else Decoder.ofSet set

theorem exec_hdmDecoderCommit_up {head : Fin 2} {index : Fin 4} {set : DecoderSet} {commit : Bool} {old : Decoder}
    (hu : s.ioUp head = true) (ho : (s.heads.get head).decoders[index.val]? = some old) :
    exec (.hdmDecoderCommit head index set commit) s = .next (if old.committed ∧ (commit ∨ old.lock) then s else
      s.onHead head (fun hd => { hd with
        decoders := hd.decoders.set index ((s.heads.get head).committed index set commit old) })) := by
  change Host.Outcome.next _ = _
  simp only [hu, ho, Option.getD_some, Head.committed, Bool.not_true, Bool.false_or, Bool.and_eq_true, Bool.or_eq_true,
    Bool.not_eq_true']

end

/-! ## Streams (R96, R97) -/

section
variable {s : State}

/-- The head's part in new keys of a stream (R96). -/
def Head.rekey (stream : IdeStream) (hd : Head) : Head :=
  match stream with
  | .mem contain => { hd with ideKeysMem := hd.ideKeysMem + 1, ideInsecureMem := false, ideContain := contain }
  | .io => { hd with ideKeysIo := hd.ideKeysIo + 1, ideInsecureIo := false }

theorem exec_ideKm_up {head : Fin 2} {stream : IdeStream} {session : Nat} (hu : s.ioUp head = true)
    (hd : (s.heads.get head).doeError.get 1 = false)
    (hs : s.sec.sessions.any (fun x => x.transport == head.val && x.id == session) = true) :
    exec (.ideKm head stream session) s =
      .next (((s.onHead head (Head.rekey stream)).setIde head (stream != .io) true).sendDoe head 1 (.values [1])) := by
  change Host.Outcome.next _ = _
  dsimp only
  unfold State.doeObject
  rw [hu, hd]
  dsimp only
  rw [hs]
  rfl

/-- An object that a DOE instance sends is a message beside counters and vector 6. -/
theorem State.sendDoe_does (s : State) (h inst : Nat) (b : Body) :
    s.tells (s.sendDoe h inst b) [] [.doe h inst b] ∧ s.sameHeads (s.sendDoe h inst b) := by
  refine ⟨((s.tally_tells h 367 1).after (State.send_tells _ rfl)).then (State.msix_tells ..), ?_⟩
  have sent : (s.tally h 367 1).sameHeads ((s.tally h 367 1).send (.doe h inst b)) := .of_heads rfl
  exact ((s.tally_sameHeads h 367 1).trans sent).trans (State.msix_sameHeads _ h 6)

theorem exec_ideIntegrityFailure_up {head : Fin 2} {mem : Bool} (hh : s.hasHead head = true) (hl : (s.heads.get head).linkUp = true)
    (hf : s.rd (ideField mem) head 0 = 1) :
    exec (.ideIntegrityFailure head mem) s = .next ((((s.setIde head mem false).onHead head (fun hd =>
      if mem then { hd with ideInsecureMem := true } else { hd with ideInsecureIo := true })).raise 550).log 4 550
        [head, if mem then 1 else 0]) := by
  refine congrArg Host.Outcome.next (if_neg ?_)
  rw [← ideField]
  simp [hh, hl, hf]

end

/-- Settles O35: a commit replaces one decoder; a stream's status moves with its keys, and what follows moves neither. -/
theorem decodersAndIde : Obligations.DecodersAndIde := by
  refine ⟨fun s head index set commit old hu ho => ?_, fun s head mem contain session hu hd hs => ?_, fun s head mem hh hl hf => ?_⟩
  · refine ⟨_, exec_hdmDecoderCommit_up hu ho, ?_⟩
    by_cases kept : old.committed ∧ (commit ∨ old.lock)
    · rw [if_pos kept, if_pos kept]
      exact ⟨rfl, rfl, rfl, fun _ _ => rfl, ho⟩
    · rw [if_neg kept, if_neg kept]
      obtain ⟨others, own⟩ := State.setDecoder_does (new := (s.heads.get head).committed index set commit old) ho
      exact ⟨rfl, s.onHead_other head _, by rw [State.onHead_heads_self], others, own⟩
  · have stream : ((if mem then .mem contain else .io : IdeStream) != .io) = mem := by cases mem <;> rfl
    obtain ⟨status, moves, keeps, frame⟩ := (s.onHead head (Head.rekey (if mem then .mem contain else .io))).setIde_does head mem true
    generalize hv : (s.onHead head (Head.rekey (if mem then .mem contain else .io))).setIde head mem true = v at status moves keeps frame
    obtain ⟨told, same⟩ := v.sendDoe_does head 1 (.values [1])
    have ran := exec_ideKm_up (stream := if mem then .mem contain else .io) hu hd hs
    rw [stream, hv] at ran
    have held := (keeps.trans same.keepsUse).heads head
    rw [State.onHead_heads_self] at held
    refine ⟨_, ran, ?_, ?_, ?_, ?_, ?_, ?_⟩
    · rw [← ideField, told.moves.reads _ (by cases mem <;> decide) (by cases mem <;> decide), status]; rfl
    · rw [held]
      cases mem with
      | true => exact ⟨rfl, rfl, rfl⟩
      | false => exact ⟨rfl, rfl⟩
    · rw [held]; cases mem <;> rfl
    · rw [held]; cases mem <;> rfl
    · refine (List.mem_filter.mp (?_ : _ ∈ List.filter (fun x => !x.isVector) _)).1
      rw [told.messages]
      exact List.mem_cons_self
    · exact ((s.onHead_counted ..).reported.trans frame).trans told.reported
  · obtain ⟨status, moves, keeps, frame⟩ := s.setIde_does head mem false
    generalize hv : s.setIde head mem false = v at status moves keeps frame
    have ran := exec_ideIntegrityFailure_up hh hl hf
    rw [hv] at ran
    let u := v.onHead head (fun hd => if mem then { hd with ideInsecureMem := true } else { hd with ideInsecureIo := true })
    have after : u.movesOnly ((u.raise 550).log 4 550 [head, if mem then 1 else 0]) reamFields :=
      .trans (.raise .refl _) (State.log_movesOnly ..)
    obtain ⟨ctlEq, pathEq, mappingEq, secEq⟩ : v.ctl = s.ctl ∧ v.path = s.path ∧ v.mapping = s.mapping ∧ v.sec = s.sec := by
      rw [show v = _ from frame]
      exact ⟨rfl, rfl, rfl, rfl⟩
    have held := ((u.raise_sameHeads 550).keepsUse.trans (State.log_keepsUse _ 4 550 [head, if mem then 1 else 0])).heads head
    refine ⟨_, ran, ?_, ?_, ?_, ?_, ?_, ?_⟩
    · rw [← ideField, after.reads _ (by cases mem <;> decide) (by cases mem <;> decide)]
      exact status.trans (by rw [ideField, hf]; rfl)
    · rw [held, State.onHead_heads_self]
      cases mem <;> rfl
    · rw [State.log_ctl, State.raise_ctl]; exact ctlEq
    · rw [State.log_path, State.raise_path]; exact pathEq
    · rw [State.log_mapping, State.raise_mapping]; exact mappingEq
    · rw [State.log_sec, State.raise_sec]; exact secEq

end Sys2Proof.Machine
end

section
/-! SUPPORT. BAR2 and the register words behind it (R11, R13, R115 to R117). -/

namespace Sys2Proof.Machine

/-! ## A source that has asserted (R108) -/

section
variable {s : State}

/-- A field of one reset value that reads 1 still does where 1 is written to it, at whichever index. -/
theorem State.wr_one_keeps {f : Field} (ht : f.tbl = []) (hw : f.width = 1) {d i : Nat} (h : s.rd f d i = 1) (e j : Nat) :
    (s.wr f e j 1).rd f d i = 1 := by
  have same : f.dflt e j = f.dflt d i := by simp [Field.dflt, ht]
  by_cases hk : f.key e j = f.key d i
  · rw [State.rd, State.wr, same, hk, hw]
    exact Tab.get_put_self ..
  · rw [State.rd, State.wr]
    exact (Tab.get_put_ne _ _ _ _ (Ne.symm hk)).trans h

theorem State.raiseAt_asserted {n : Nat} (ha : s.rd Reg.LNK_SRC_ROUTE.ASSERTED 0 n = 1) (h m : Nat) :
    (s.raiseAt h m).rd Reg.LNK_SRC_ROUTE.ASSERTED 0 n = 1 := by
  have wrote := State.wr_one_keeps (s := s) (f := Reg.LNK_SRC_ROUTE.ASSERTED) rfl rfl ha h m
  unfold State.raiseAt
  dsimp only
  split
  · exact wrote
  · rw [State.rd_congr (State.onHead_regs ..), State.rd_wr_ne _ (by decide) (by decide) (by decide)]
    exact wrote

theorem State.assertSource_asserted {n : Nat} (ha : s.rd Reg.LNK_SRC_ROUTE.ASSERTED 0 n = 1) (m : Nat) :
    (s.assertSource m).rd Reg.LNK_SRC_ROUTE.ASSERTED 0 n = 1 := by
  unfold State.assertSource
  rw [State.rd_congr (State.notify_regs ..)]
  split
  · exact State.raiseAt_asserted (State.raiseAt_asserted ha 0 m) 1 m
  · exact State.raiseAt_asserted ha 0 m

theorem State.tally_asserted {n : Nat} (ha : s.rd Reg.LNK_SRC_ROUTE.ASSERTED 0 n = 1) (d i k : Nat) :
    (s.tally d i k).rd Reg.LNK_SRC_ROUTE.ASSERTED 0 n = 1 := by
  have counted : ∀ v, (s.wr Reg.TLY_FIXED.COUNT d i v).rd Reg.LNK_SRC_ROUTE.ASSERTED 0 n = 1 := fun v =>
    (State.rd_wr_ne _ (by decide) (by decide) (by decide) ..).trans ha
  unfold State.tally
  split
  · exact ha
  · dsimp only
    split
    · exact counted _
    · refine State.assertSource_asserted ?_ _
      exact (State.rd_wr_ne _ (by decide) (by decide) (by decide) ..).trans (counted _)

/-- The source that a head, or the module, raises has asserted at head 0 (R108). -/
theorem State.raise_asserts (s : State) (n : Nat) : (s.raise n).rd Reg.LNK_SRC_ROUTE.ASSERTED 0 n = 1 := by
  have first : (s.raiseAt 0 n).rd Reg.LNK_SRC_ROUTE.ASSERTED 0 n = 1 := by
    have wrote : (s.wr Reg.LNK_SRC_ROUTE.ASSERTED 0 n 1).rd Reg.LNK_SRC_ROUTE.ASSERTED 0 n = 1 := State.rd_wr_self ..
    unfold State.raiseAt
    dsimp only
    split
    · exact wrote
    · rw [State.rd_congr (State.onHead_regs ..), State.rd_wr_ne _ (by decide) (by decide) (by decide)]
      exact wrote
  unfold State.raise
  refine State.tally_asserted ?_ ..
  unfold State.assertSource
  rw [State.rd_congr (State.notify_regs ..)]
  split
  · exact State.raiseAt_asserted first 1 n
  · exact first

end

/-! ## Violations (R115) -/

section
variable {s : State}

theorem Reported.dataKept {t : State} (h : Reported s t) : s.dataKept t := by
  rw [show t = _ from h]
  exact ⟨rfl, rfl, rfl, rfl, rfl, rfl, rfl, rfl⟩

theorem State.violation_booked (s : State) (h : Nat) : s.booked (s.violation h) [Reg.LNK_BAR2_VIOL.COUNT] := by
  have told : s.tells (s.violation h) [Reg.LNK_BAR2_VIOL.COUNT] [] :=
    (s.bump_tells h 0 1 (by decide) (by decide)).then (State.raise_tells ..)
  have heads : s.sameHeads (s.violation h) := .trans (.of_heads rfl) (State.raiseH_sameHeads _ h 10)
  exact told.booked heads (State.raise_out ..)

theorem State.violation_counts (s : State) (h : Nat) : (s.violation h).rd Reg.LNK_BAR2_VIOL.COUNT h 0 =
    min (s.rd Reg.LNK_BAR2_VIOL.COUNT h 0 + 1) (2 ^ Reg.LNK_BAR2_VIOL.COUNT.width - 1) := by
  have raised : (s.bump Reg.LNK_BAR2_VIOL.COUNT h 0 1).movesOnly (s.violation h) [] := .raise .refl _
  rw [raised.reads _ (by decide) (by decide), State.rd_bump_self]

/-! ## What BAR2 opens (R115 to R117) -/

/-- No access opens from the other head, of another size, misaligned, or in a reserved span. -/
theorem State.barOpens_closed {h off size : Nat} {w : Bool}
    (hc : h ≠ s.primary ∨ (size ≠ 4 ∧ size ≠ 8) ∨ off % size ≠ 0 ∨ regionOf off = none) : s.barOpens h off size w = false := by
  unfold State.barOpens
  rcases hc with head | ⟨four, eight⟩ | aligned | region
  · simp [head]
  · simp [four, eight]
  · simp [aligned]
  · simp [region]

theorem exec_bar2Read_up {h : Fin 2} {off size : Nat} (hu : s.ioUp h = true) :
    exec (.bar2Read h off size) s = .next (if s.barOpens h off size false then
      (s.readPlace off size).1.draw.send (.bar2 h off size (s.readPlace off size).2) else (s.violation h).send (.bar2 h off size 0)) := by
  refine congrArg Host.Outcome.next (if_neg ?_)
  rw [hu]; decide

theorem State.barWrite_up {h : Nat} {off size v : Nat} (hu : s.ioUp h = true) :
    s.barWrite h off size v = if s.barOpens h off size true then s.writePlace off size v else s.violation h := by
  refine if_neg ?_
  rw [hu]; decide

/-! ## Access codes (R11) -/

/-- A field reads what is written to all its bits. -/
theorem mergeBits_all (w old v : Nat) : mergeBits w old (2 ^ w - 1) v = v % 2 ^ w := by
  simp [mergeBits, Nat.and_two_pow_sub_one_eq_mod]

theorem State.writeField_open {f : Field} {d i m v : Nat} (hm : m ≠ 0) (hd : d = 0 ∨ f.scope ≠ .die0) :
    s.writeField f d i m v = match f.acc with
      | .rw => s.wr f d i (mergeBits f.width (s.rd f d i) m v)
      | .rw1c => s.wr f d i (mergeBits f.width (s.rd f d i) (m &&& v) 0)
      | _ => s := by
  unfold State.writeField
  refine (if_neg ?_).trans ?_
  · rintro (h | ⟨h, h'⟩)
    · exact hm h
    · exact hd.elim (fun h0 => by omega) fun hs => hs h'
  · rfl

theorem State.writeField_rw {f : Field} {d i v : Nat} (hd : d = 0 ∨ f.scope ≠ .die0) (hw : 0 < f.width) (ha : f.acc = .rw) :
    (s.writeField f d i (2 ^ f.width - 1) v).rd f d i = v % 2 ^ f.width := by
  have wide : 1 < 2 ^ f.width := Nat.one_lt_two_pow hw.ne'
  rw [State.writeField_open (by omega) hd, ha]
  dsimp only
  rw [State.rd_wr_self, mergeBits_all, Nat.mod_mod]

/-- A written 1 clears a bit, a written 0 leaves it. -/
theorem State.writeField_rw1c {f : Field} {d i v : Nat} (hd : d = 0 ∨ f.scope ≠ .die0) (ha : f.acc = .rw1c) (hw : f.width = 1)
    (hr : s.rd f d i < 2) : (s.writeField f d i 1 v).rd f d i = if v.testBit 0 then 0 else s.rd f d i := by
  rw [State.writeField_open (by decide) hd, ha]
  dsimp only
  rw [State.rd_wr_self, hw, mergeBits, Nat.one_and_eq_mod_two, Nat.testBit_zero]
  generalize s.rd f d i = old at hr
  have bit : v % 2 = 0 ∨ v % 2 = 1 := by omega
  have olds : old = 0 ∨ old = 1 := by omega
  rcases bit with h | h <;> rcases olds with h' | h' <;> simp [h, h']

theorem State.writeField_ro {f : Field} {d i m v : Nat} (ha : f.acc = .ro) : s.writeField f d i m v = s := by
  unfold State.writeField
  rw [ha]
  exact ite_self s

/-! ## Bits that the hardware sets (R13) -/

/-- The fields of a block have numbers of their own, and indices within a register key. -/
theorem fieldsOf_nums (b : Block) : ((fieldsOf b).map Field.num).Nodup ∧ ∀ f ∈ fieldsOf b, f.count ≤ 1048576 := by
  have h : ∀ b, ((fieldsOf b).map Field.num).Nodup ∧ (fieldsOf b).all (fun f => decide (f.count ≤ 1048576)) = true := by
    intro b; cases b <;> decide +kernel
  exact ⟨(h b).1, fun f hf => of_decide_eq_true (List.all_eq_true.mp (h b).2 f hf)⟩

theorem fieldsAt_bounds {b : Block} {w : Nat} {p : Field × Nat} (hp : p ∈ fieldsAt b w) : p.1 ∈ fieldsOf b ∧ p.2 < 1048576 := by
  obtain ⟨f, hf, hi⟩ := List.mem_flatMap.mp hp
  obtain ⟨i, inWord, rfl⟩ := List.mem_map.mp hi
  have low := (List.mem_filter.mp inWord).2
  simp only [Bool.and_eq_true, decide_eq_true_eq] at low
  exact ⟨hf, low.1.trans_le ((fieldsOf_nums b).2 f hf)⟩

/-- Another field or index of a word has another place in the register table. -/
theorem State.wr_fieldsAt_ne {b : Block} {w : Nat} {p q : Field × Nat} (hp : p ∈ fieldsAt b w) (hq : q ∈ fieldsAt b w) (h : p ≠ q)
    (d v : Nat) : (s.wr p.1 d p.2 v).rd q.1 d q.2 = s.rd q.1 d q.2 := by
  obtain ⟨hpf, hpi⟩ := fieldsAt_bounds hp
  obtain ⟨hqf, hqi⟩ := fieldsAt_bounds hq
  by_cases hn : q.1.num = p.1.num
  · have field : q.1 = p.1 := List.inj_on_of_nodup_map (fieldsOf_nums b).1 hqf hpf hn
    rw [field]
    refine s.rd_wr_index p.1 d d v hpi hqi fun hi => h ?_
    exact Prod.ext field.symm hi.symm
  · exact s.rd_wr_ne (kinds_lt_of_mem_fieldsOf hqf) (kinds_lt_of_mem_fieldsOf hpf) hn ..

/-- One field's part in the bits that the hardware sets in a word. -/
def State.hwSetField (d bits : Nat) (s : State) (p : Field × Nat) : State :=
  let v := bits / 2 ^ (p.1.bit p.2 % 64) % 2 ^ p.1.width
  if p.1.acc = .rw1c && v != 0 && !(d == 1 && p.1.scope == .die0) then s.wr p.1 d p.2 (s.rd p.1 d p.2 ||| v) else s

theorem State.hwSet_word {off bits d o : Nat} {b : Block} {copy : Bool} (hp : Machine.placeOf off = .word b d o copy) :
    s.hwSet off bits = (fieldsAt b (o / 8)).foldl (State.hwSetField d bits) s := by
  unfold State.hwSet
  rw [hp]
  rfl

theorem State.hwSet_zero (s : State) (off : Nat) : s.hwSet off 0 = s := by
  unfold State.hwSet
  split
  · refine foldl_related (R := fun s t => t = s) (fun _ => rfl) (fun h1 h2 => h2.trans h1) (fun t p => ?_) _ s
    simp
  · rfl

theorem State.hwSet_reads {off bits d o : Nat} {b : Block} {copy : Bool} {f : Field} {i : Nat} (hp : Machine.placeOf off = .word b d o copy)
    (hf : (f, i) ∈ fieldsAt b (o / 8)) (ha : f.acc = .rw1c) (hw : f.width = 1) (hd : d = 0 ∨ f.scope ≠ .die0)
    (hb : bits.testBit (f.bit i % 64) = true) : (s.hwSet off bits).rd f d i = 1 := by
  have bit : bits / 2 ^ (f.bit i % 64) % 2 ^ f.width = 1 := by
    rw [hw, pow_one, ← Nat.shiftRight_eq_div_pow]
    simpa [Nat.testBit, Nat.one_and_eq_mod_two] using hb
  have own : ∀ t : State, (State.hwSetField d bits t (f, i)).rd f d i = 1 := fun t => by
    unfold State.hwSetField
    dsimp only
    rw [bit, if_pos, State.rd_wr_self, hw, pow_one, Nat.or_mod_two_eq_one.mpr (.inr rfl)]
    have onDie : ¬ d = 1 ∨ ¬ f.scope = .die0 := hd.imp (fun h => by omega) id
    simpa [ha] using onDie
  rw [State.hwSet_word hp]
  refine foldl_reaches (I := fun _ => True) (Q := fun t => t.rd f d i = 1) (fun _ _ _ _ _ => trivial) (fun t _ => own t)
    (fun t p hp' ht => ?_) hf trivial
  by_cases same : p = (f, i)
  · rw [same]; exact own t
  · unfold State.hwSetField
    dsimp only
    split
    · exact (State.wr_fieldsAt_ne hp' hf same ..).trans ht
    · exact ht

end

/-- Settles O54: the gate decides between the window and a violation; a field takes its bits by its code, and what the hardware sets stays. -/
theorem windowOpensByGrant : Obligations.WindowOpensByGrant := by
  refine ⟨fun s h off size hu ho => ?_, fun s h off size hu ho => ?_, fun s h off size v hw hu ho => ?_, fun s h off size v hu ho => ?_,
    fun s h off size w hc => State.barOpens_closed hc, fun s off size v hp => ?_, fun s f d i v _ hd hw => ?_,
    fun s off => s.hwSet_zero off, fun s off bits d o b copy f i hp hf ha hw hd hb => State.hwSet_reads hp hf ha hw hd hb⟩
  · rw [exec_bar2Read_up hu, ho]
    rfl
  · obtain ⟨frame, _, _, moves⟩ := s.violation_booked h
    have kept : s.dataKept (s.violation h) := Reported.dataKept (Counted.reported frame)
    exact ⟨(s.violation h).send (.bar2 h off size 0), by rw [exec_bar2Read_up hu, ho]; rfl, congrArg _ (State.raise_out ..),
      s.violation_counts h, State.raise_asserts .., kept, moves⟩
  · change Host.Outcome.next _ = _
    rw [State.barWrite_up hu, ho]
    rfl
  · refine ⟨s.violation h, ?_, s.violation_booked h⟩
    change Host.Outcome.next _ = _
    rw [State.barWrite_up hu, ho]
    exact congrArg _ (State.hwSet_zero ..)
  · unfold State.writePlace State.readPlace
    rw [hp]
    exact ⟨rfl, rfl⟩
  · exact ⟨State.writeField_rw hd hw, State.writeField_rw1c hd, State.writeField_ro⟩

end Sys2Proof.Machine
end

section
/-! SUPPORT. What issuing programs and steeps leaves of requests, the map, the label storage and the links (R24, R25, R158 to R165). -/

namespace Sys2Proof.Machine

/-- What shows of a head's link and of its grant, with what names the primary head. -/
def linkShown : List Field :=
  [Reg.LNK_STATUS.WIDTH, Reg.LNK_STATUS.CXL_MEM, Reg.LNK_BAR2_GRANT.READ_EN, Reg.LNK_BAR2_GRANT.WRITE_EN, Reg.LNK_HEAD_CFG.DUAL,
   Reg.LNK_HEAD_CFG.PRIMARY]

/-- From s to t no request, no entry of the map and nothing of the label storage has moved, the heads keep what `Head.keepsUse` names, and
their links show what they showed. -/
structure State.leavesLink (s t : State) : Prop where
  path : t.path = s.path
  map : t.mapping.map = s.mapping.map
  lsa : t.lsa = s.lsa
  heads : s.keepsUse t
  shown : ∀ f ∈ linkShown, ∀ d i, t.rd f d i = s.rd f d i

section
variable {s t u : State}

theorem State.leavesLink.refl : s.leavesLink s := ⟨rfl, rfl, rfl, .of_heads rfl, fun _ _ _ _ => rfl⟩

theorem State.leavesLink.trans (h1 : s.leavesLink t) (h2 : t.leavesLink u) : s.leavesLink u where
  path := h2.path.trans h1.path
  map := h2.map.trans h1.map
  lsa := h2.lsa.trans h1.lsa
  heads := h1.heads.trans h2.heads
  shown f hf d i := (h2.shown f hf d i).trans (h1.shown f hf d i)

theorem State.leavesLink.foldl {α : Type} {f : State → α → State} (hf : ∀ (t : State) (a : α), t.leavesLink (f t a)) (r : List α)
    (h : s.leavesLink t) : s.leavesLink (r.foldl f t) :=
  h.trans (foldl_related (R := State.leavesLink) (fun _ => .refl) .trans hf r t)

/-- An update of the state beside requests, the map, the label storage, heads and registers. -/
theorem State.leavesLink.of_eq (h : s.leavesLink t) (hp : u.path = t.path) (hm : u.mapping.map = t.mapping.map) (hl : u.lsa = t.lsa)
    (hh : u.heads = t.heads) (hr : u.regs = t.regs) : s.leavesLink u :=
  h.trans ⟨hp, hm, hl, .of_heads hh, fun f _ d i => State.rd_congr hr f d i⟩

theorem linkShown_kinds : ∀ f ∈ linkShown, f.kinds < 16 := by decide

theorem State.leavesLink.wr {f : Field} (h : s.leavesLink t) (d i v : Nat) (hk : f.kinds < 16)
    (hf : linkShown.all (fun g => g.num != f.num) = true) : s.leavesLink (t.wr f d i v) := by
  refine h.trans ⟨rfl, rfl, rfl, .of_heads rfl, fun g hg e j => ?_⟩
  have hn : g.num ≠ f.num := by simpa using List.all_eq_true.mp hf g hg
  exact t.rd_wr_ne (linkShown_kinds g hg) hk hn d i v e j

/-- Counters and indications show nothing of a link. -/
theorem State.leavesLink.counted (h : s.leavesLink t) (hc : Counted t u) (hh : t.sameHeads u) (hm : t.movesOnly u []) : s.leavesLink u := by
  have book : ∀ f ∈ linkShown, ([] ++ bookFields).all (fun g => g.num != f.num) = true := by decide
  refine h.trans ⟨by rw [hc], by rw [hc], by rw [hc], hh.keepsUse, fun f hf => hm.reads f (linkShown_kinds f hf) (book f hf)⟩

theorem State.leavesLink.onHead (h : s.leavesLink t) (n : Nat) {f : Head → Head} (hf : ∀ a : Head, a.keepsUse (f a)) :
    s.leavesLink (t.onHead n f) :=
  h.trans ⟨rfl, rfl, rfl, t.onHead_keepsUse n hf, fun _ _ _ _ => rfl⟩

theorem State.leavesLink.tally (h : s.leavesLink t) (d i n : Nat) : s.leavesLink (t.tally d i n) :=
  h.counted (t.tally_counted d i n) (t.tally_sameHeads d i n) (.tally .refl d i n)

theorem State.leavesLink.raise (h : s.leavesLink t) (n : Nat) : s.leavesLink (t.raise n) :=
  h.counted (t.raise_counted n) (t.raise_sameHeads n) (.raise .refl n)

theorem State.leavesLink.tallyP (h : s.leavesLink t) (n x k : Nat) : s.leavesLink (t.tallyP n x k) := h.tally ..

theorem State.leavesLink.onPkg (h : s.leavesLink t) (n : Nat) (f : Package → Package) : s.leavesLink (t.onPkg n f) :=
  h.of_eq rfl rfl rfl rfl rfl

theorem State.leavesLink.onBus (h : s.leavesLink t) (d : Nat) (f : DramBus → DramBus) : s.leavesLink (t.onBus d f) :=
  h.of_eq rfl rfl rfl rfl rfl

/-! ## The set point, modes and Doze (R242, R412, R437) -/

theorem State.leavesLink.payDebt (h : s.leavesLink t) (n : Nat) : s.leavesLink (t.payDebt n) :=
  ((h.onPkg n _).wr _ _ _ (by decide) (by decide)).tallyP ..

theorem State.leavesLink.shadowTiming (h : s.leavesLink t) (d : Nat) : s.leavesLink (t.shadowTiming d) :=
  ((((h.wr _ _ _ (by decide) (by decide)).wr _ _ _ (by decide) (by decide)).wr _ _ _ (by decide) (by decide)).wr _ _ _ (by decide)
    (by decide)).wr _ _ _ (by decide) (by decide)

theorem State.leavesLink.setPoint (h : s.leavesLink t) (d code : Nat) : s.leavesLink (t.setPoint d code) := by
  unfold State.setPoint
  extract_lets s1
  split
  · exact h
  · have h1 : s.leavesLink s1 :=
      ((((h.payDebt _).payDebt _).wr _ _ _ (by decide) (by decide)).tallyP ..).tallyP ..
    exact ((h1.shadowTiming d).wr _ _ _ (by decide) (by decide)).wr _ _ _ (by decide) (by decide)

theorem State.leavesLink.servePoint (h : s.leavesLink t) : s.leavesLink t.servePoint := (h.setPoint ..).setPoint ..

theorem State.leavesLink.memActiveAt (h : s.leavesLink t) (n : Nat) (on : Bool) : s.leavesLink (t.memActiveAt n on) := by
  unfold State.memActiveAt
  extract_lets v
  split
  · exact h
  · exact (h.wr _ _ _ (by decide) (by decide)).raise _

theorem State.leavesLink.toMode (h : s.leavesLink t) (m : Mode) : s.leavesLink (t.toMode m) := by
  have entered : s.leavesLink (({ t with ctl := { t.ctl with mode := m } }).setReg Reg.MOD_STATUS.PREV_MODE t.ctl.mode.num) :=
    .wr (t := { t with ctl := { t.ctl with mode := m } }) (h.of_eq rfl rfl rfl rfl rfl) _ _ _ (by decide) (by decide)
  unfold State.toMode State.memActive
  dsimp only
  split
  · exact (entered.memActiveAt ..).memActiveAt ..
  · exact entered.memActiveAt ..

theorem State.leavesLink.refreshEntry (h : s.leavesLink t) (n : Nat) : s.leavesLink (t.refreshEntry n) := by
  unfold State.refreshEntry
  split
  · exact h.tally ..
  · exact h

theorem State.leavesLink.selfRefresh (h : s.leavesLink t) (on : Bool) : s.leavesLink (t.selfRefresh on) := by
  refine h.foldl (fun u d => ?_) _
  dsimp only
  refine .wr ?_ _ _ _ (by decide) (by decide)
  split
  · exact (State.leavesLink.refl.refreshEntry _).refreshEntry _
  · exact .refl

theorem State.leavesLink.showDoze (h : s.leavesLink t) (d : Nat) : s.leavesLink (t.showDoze d) := by
  unfold State.showDoze
  extract_lets power s1
  have h1 : s.leavesLink s1 :=
    ((((h.wr _ _ _ (by decide) (by decide)).wr _ _ _ (by decide) (by decide)).onHead 0 (f := power) fun _ => rfl).onHead 1 (f := power) fun _ => rfl)
  exact .foldl (fun u k => State.leavesLink.refl.wr _ _ _ (by decide) (by decide)) _ (h1.selfRefresh _)

/-! ## Controllers and the tree (R231, R237, R339) -/

theorem State.leavesLink.showPanic (h : s.leavesLink t) (d port : Nat) : s.leavesLink (t.showPanic d port) := by
  unfold State.showPanic
  extract_lets was now s1
  have h1 : s.leavesLink s1 := h.onBus d _
  split
  · exact h
  · split
    · exact h
    · split
      · exact h1.wr _ _ _ (by decide) (by decide)
      · exact h1

theorem State.leavesLink.serveReq (h : s.leavesLink t) (d : Nat) (r : DramReq) (turn : Nat × Nat) :
    s.leavesLink (t.serveReq d r turn) := by
  unfold State.serveReq
  extract_lets n hit chk ns target s1 s2 s3 s4
  have h1 : s.leavesLink s1 := h.onBus d _
  have h2 : s.leavesLink s2 := by
    simp only [s2]
    split
    · exact h1.onPkg n _
    · exact h1
  have h3 : s.leavesLink s3 := ((h2.tallyP ..).tallyP ..).tallyP ..
  have h4 : s.leavesLink s4 := ((h3.tallyP ..).tallyP ..).tallyP ..
  exact (h4.wr _ _ _ (by decide) (by decide)).showPanic ..

theorem State.leavesLink.issueRefresh (h : s.leavesLink t) (d key : Nat) : s.leavesLink (t.issueRefresh d key) :=
  (h.onBus d _).tallyP ..

theorem State.leavesLink.serveChannel (h : s.leavesLink t) (d k ch : Nat) : s.leavesLink (t.serveChannel d k ch) := by
  unfold State.serveChannel
  split
  · exact h.issueRefresh ..
  · split
    · exact h.serveReq ..
    · exact h

theorem State.leavesLink.dramCycle (h : s.leavesLink t) (d : Nat) : s.leavesLink (t.dramCycle d) :=
  (State.leavesLink.foldl (fun _ _ => .serveChannel .refl ..) _ h).onBus d _

theorem State.leavesLink.makePort (h : s.leavesLink t) (d port n : Nat) : s.leavesLink (t.makePort d port n) := by
  induction n generalizing t with
  | zero => exact h
  | succ n ih =>
    unfold State.makePort
    split
    · exact h
    · exact ih (h.dramCycle d)

theorem State.leavesLink.access (h : s.leavesLink t) (n port a : Nat) (w : Bool) : s.leavesLink (t.access n port a w) := by
  unfold State.access
  extract_lets d s1 r
  have h1 : s.leavesLink s1 := h.makePort ..
  split
  · exact h
  · split
    · exact (h1.onBus d _).showPanic ..
    · exact h1

theorem State.leavesLink.treeAccess (h : s.leavesLink t) (d level i : Nat) (w : Bool) : s.leavesLink (t.treeAccess d level i w) :=
  h.access ..

theorem State.leavesLink.raiseCtr (h : s.leavesLink t) (d key : Nat) : s.leavesLink (t.raiseCtr d key) := h.of_eq rfl rfl rfl rfl rfl

theorem State.leavesLink.treeLine (n : Nat) (h : s.leavesLink t) (d level i : Nat) (dirty : Bool) :
    s.leavesLink (t.treeLine n d level i dirty) := by
  induction n generalizing t level i dirty with
  | zero => exact h
  | succ n ih =>
    unfold State.treeLine
    extract_lets key s1 s2
    have h1 : s.leavesLink s1 := by
      simp only [s1]
      split
      · exact h
      · exact (ih h ..).access ..
    have h2 : s.leavesLink s2 := h1.of_eq rfl rfl rfl rfl rfl
    split
    · exact h
    · split
      · exact h2
      · exact ih ((h2.treeAccess ..).raiseCtr ..) ..

theorem State.leavesLink.pageWritten (h : s.leavesLink t) (d page : Nat) (at' : Nat × Nat) : s.leavesLink (t.pageWritten d page at') := by
  unfold State.pageWritten
  exact ((((h.access ..).treeLine ..).raiseCtr ..).access ..).treeAccess ..

/-! ## Segments and the journal (R156, R173) -/

theorem State.leavesLink.onSeg (h : s.leavesLink t) (c g : Nat) (f : Seg → Seg) : s.leavesLink (t.onSeg c g f) := by
  have put : s.leavesLink { t with mapping := { t.mapping with segs := t.mapping.segs.put Seg.shipped (segKey c g) (f (t.seg c g)) } } :=
    h.of_eq rfl rfl rfl rfl rfl
  exact put.pageWritten ..

theorem State.leavesLink.setRing (h : s.leavesLink t) (c stream : Nat) (l : List Nat) : s.leavesLink (t.setRing c stream l) :=
  h.of_eq rfl rfl rfl rfl rfl

theorem State.leavesLink.journal (h : s.leavesLink t) (die channel : Nat) (b : JBody) : s.leavesLink (t.journal die channel b) := by
  unfold State.journal
  extract_lets r x m s1
  have h1 : s.leavesLink s1 := .tally (t := { t with mapping := m }) (h.of_eq rfl rfl rfl rfl rfl) ..
  split
  · exact h1.of_eq rfl rfl rfl rfl rfl
  · exact h1

theorem State.leavesLink.journalC (h : s.leavesLink t) (c : Nat) (b : JBody) : s.leavesLink (t.journalC c b) := h.journal ..

theorem State.leavesLink.openOne (h : s.leavesLink t) (c stream : Nat) : s.leavesLink (t.openOne c stream) := by
  unfold State.openOne
  split
  · split
    · exact h
    · extract_lets s1 s2 s3
      have h3 : s.leavesLink s3 := (((h.onSeg ..).setRing ..).journalC ..).tally ..
      split
      · exact h3.of_eq rfl rfl rfl rfl rfl
      · exact h3
  · exact h

theorem State.leavesLink.topUp (h : s.leavesLink t) (c stream : Nat) : s.leavesLink (t.topUp c stream) :=
  .foldl (fun _ _ => .openOne .refl ..) _ h

theorem State.leavesLink.keepOpen (h : s.leavesLink t) (c : Nat) : s.leavesLink (t.keepOpen c) := by
  unfold State.keepOpen
  split
  · exact h
  · exact (h.topUp c 0).topUp c 1

/-! ## Issue (R25, R159, R165) -/

theorem State.leavesLink.tallyC (h : s.leavesLink t) (c k n : Nat) : s.leavesLink (t.tallyC c k n) := h.tally ..

theorem State.leavesLink.program (h : s.leavesLink t) (x : Stripe) (g : Nat) : s.leavesLink (t.program x g) := by
  unfold State.program
  extract_lets c f y s1 rest s2 x s3
  have h2 : s.leavesLink s2 := (h.onSeg ..).setRing ..
  have h3 : s.leavesLink s3 := h2.of_eq rfl rfl rfl rfl rfl
  exact h3.tallyC ..

theorem State.leavesLink.placeStripe (h : s.leavesLink t) (x : Stripe) {r : Nat × State} (hr : t.placeStripe x = some r) :
    s.leavesLink r.2 := by
  unfold State.placeStripe at hr
  split at hr
  · cases hr
  · split at hr
    · cases hr
      exact (h.program x _).of_eq rfl rfl rfl rfl rfl
    · cases hr

theorem State.leavesLink.startSteep (h : s.leavesLink t) (x : Steep) : s.leavesLink (t.startSteep x) := by
  unfold State.startSteep
  extract_lets s1 y x s2
  have h1 : s.leavesLink s1 := by
    simp only [s1]
    split
    · exact h.onSeg ..
    · exact h
  have h2 : s.leavesLink s2 := h1.of_eq rfl rfl rfl rfl rfl
  exact h2.tallyC ..

theorem State.leavesLink.nextUnit (h : s.leavesLink t) (c : Nat) {r : Nat × State} (hr : t.nextUnit c = some r) : s.leavesLink r.2 := by
  unfold State.nextUnit at hr
  extract_lets s0 at hr
  have h0 : s.leavesLink s0 := by
    simp only [s0]
    split
    · exact (h.keepOpen c).topUp c 2
    · exact h
  split at hr
  · cases hr
  · split at hr
    · next u found =>
      cases hr
      obtain ⟨x, _, placed⟩ := List.exists_of_findSome?_eq_some found
      exact h0.placeStripe x placed
    · obtain ⟨x, _, rfl⟩ := Option.map_eq_some_iff.mp hr
      exact h.startSteep x

theorem State.leavesLink.issueOne (h : s.leavesLink t) (k : Nat) (hu : t.issueOne k = some u) : s.leavesLink u := by
  unfold State.issueOne at hu
  extract_lets turn a b fits flip at hu
  split at hu
  · next x y hx hy =>
    obtain ⟨_, hu⟩ := Option.ite_none_right_eq_some.mp hu
    cases hu
    exact (h.nextUnit a hx).of_eq rfl rfl rfl rfl rfl
  · next x hx hy =>
    obtain ⟨_, hu⟩ := Option.ite_none_right_eq_some.mp hu
    cases hu
    exact h.nextUnit a hx
  · next y hx hy =>
    obtain ⟨_, hu⟩ := Option.ite_none_right_eq_some.mp hu
    cases hu
    exact h.nextUnit b hy
  · cases hu

theorem State.leavesLink.issueN (h : s.leavesLink t) (k n : Nat) : s.leavesLink (t.issueN k n) := by
  induction n generalizing t with
  | zero => exact h
  | succ n ih =>
    unfold State.issueN
    split
    · exact h
    · next u hu => exact ih (h.issueOne k hu)

theorem State.leavesLink.issue (h : s.leavesLink t) (c : Nat) : s.leavesLink (t.issue c) := by
  unfold State.issue
  split
  · exact h.issueN ..
  · exact h

/-! ## The tolerance (R426, R433) -/

theorem State.leavesLink.leaveDoze (h : s.leavesLink t) : s.leavesLink t.leaveDoze :=
  .foldl (fun _ _ => .issue .refl _) _ ((h.showDoze 0).toMode .m5).servePoint

theorem State.leavesLink.clampDoze (h : s.leavesLink t) : s.leavesLink t.clampDoze := by
  unfold State.clampDoze
  extract_lets d n
  clear_value n
  split
  · exact h
  · split
    · exact h
    · split
      · exact h.leaveDoze
      · exact .foldl (fun _ _ => .issue .refl _) _ (h.showDoze 1).servePoint
      · exact h.showDoze _

theorem State.leavesLink.showTolerance (h : s.leavesLink t) : s.leavesLink t.showTolerance :=
  .clampDoze (h.wr _ _ _ (by decide) (by decide))

/-- Outside Doze a new tolerance moves nothing but its register. -/
theorem State.showTolerance_awake (hm : s.ctl.mode ≠ .m6) : s.showTolerance = s.setReg Reg.MOD_LATENCY_FORCE.US s.tolerance := by
  unfold State.showTolerance State.clampDoze
  refine if_pos ?_
  simpa using hm

end

end Sys2Proof.Machine
end

section
/-! SUPPORT. Head resets by an event at the link (R109 to R111, R117). -/

namespace Sys2Proof.Machine

/-! ## Registers that a reset restores (R14, R111) -/

/-- A key that a filter keeps holds what it held, and one that it drops reads its default. -/
theorem Tab.get_filter_key {α : Type} (t : Tab α) (keep : Nat → Bool) (d : α) (n : Nat) :
    Tab.get (t.filter (fun p => keep p.1)) d n = if keep n then t.get d n else d := by
  unfold Tab.get
  induction t with
  | nil => simp [Tab.find?]
  | cons p t ih =>
    obtain ⟨k, v⟩ := p
    rw [List.filter_cons]
    by_cases hk : k = n
    · subst hk
      cases hkeep : keep k with
      | true => simp [Tab.find?]
      | false => simpa [hkeep] using ih
    · cases hkeep : keep k with
      | true => simpa [Tab.find?, hk] using ih
      | false => simpa [Tab.find?, hk] using ih

section
variable {s : State}

theorem State.rd_resetRegs (k : ResetKind) (which : Nat → Bool) (f : Field) (d i : Nat) :
    (s.resetRegs k which).rd f d i =
      if (keyKinds (f.key d i)).testBit k.bit && which (f.key d i) then f.dflt d i else s.rd f d i := by
  unfold State.resetRegs State.rd
  rw [Tab.get_filter_key _ (fun n => !((keyKinds n).testBit k.bit && which n))]
  simp only [Bool.not_eq_true']
  split <;> simp_all

theorem Field.key_kinds {f : Field} (hk : f.kinds < 16) (d i : Nat) : keyKinds (f.key d i) = f.kinds := by
  have h1 : f.copy d < 2 := by unfold Field.copy; split <;> omega
  unfold keyKinds Field.key
  omega

theorem Field.key_num {f : Field} (hk : f.kinds < 16) (d i : Nat) : f.key d i / 33554432 = f.num := by
  have h1 : f.copy d < 2 := by unfold Field.copy; split <;> omega
  unfold Field.key
  omega

/-- A field that no head reset restores keeps its value. -/
theorem State.rd_resetHead_kept {f : Field} (hk : f.kinds < 16) (hb : f.kinds.testBit 2 = false) (which : Nat → Bool) (d i : Nat) :
    (s.resetRegs .head which).rd f d i = s.rd f d i := by
  rw [State.rd_resetRegs, Field.key_kinds hk, ResetKind.bit, hb]
  rfl

/-- A field of a head's link takes its reset value. -/
theorem State.rd_resetHead_link {f : Field} (hk : f.kinds < 16) (hb : f.kinds.testBit 2 = true) (hs : f.scope = .each)
    (hf : f ∈ fieldsOf .LNK) (ht : f.tbl = []) (dual : Bool) (h : Nat) :
    (s.resetRegs .head (headKeys dual h)).rd f h 0 = f.rst := by
  have die : keyOnDie h (f.key h 0) = true := by
    unfold keyOnDie Field.key Field.copy
    rw [if_pos hs, beq_iff_eq]
    omega
  have block : keyInBlock .LNK (f.key h 0) = true := List.any_eq_true.mpr ⟨f, hf, beq_iff_eq.mpr (Field.key_num hk h 0).symm⟩
  rw [State.rd_resetRegs, Field.key_kinds hk, ResetKind.bit, hb, headKeys, die, block]
  simp [Field.dflt, ht]

/-! ## A link that is gone (R109) -/

/-- What a head loses with its link. -/
def Head.unlink (hd : Head) : Head :=
  { hd with linkUp := false, l1 := false, d3hot := false, ideInsecureIo := false, ideInsecureMem := false, doeError := ⟨false, false⟩ }

/-- What shows of a head's link has ended: its streams, CXL.mem, Memory_Active, width and rate. -/
def State.linkLost (s : State) (h : Nat) : State :=
  let s1 := (s.setIde h true false).setIde h false false
  let s2 := if s1.rd Reg.LNK_STATUS.CXL_MEM h 0 = 1 then (s1.wr Reg.LNK_STATUS.CXL_MEM h 0 0).raiseH h 4 else s1
  ((s2.memActiveAt h false).wr Reg.LNK_STATUS.WIDTH h 0 0).wr Reg.LNK_STATUS.RATE h 0 0

theorem State.linkGone_eq (s : State) (h : Nat) : s.linkGone h = if (s.heads.get h).linkUp then
    (((s.linkLost h).dropRequests h).onHead h Head.unlink).raiseH h 1 else ((s.linkLost h).dropRequests h).onHead h Head.unlink := rfl

/-- The registers that a lost link moves beside `bookFields`. -/
def lostFields : List Field :=
  [Reg.LNK_STATUS.IDE_MEM, Reg.LNK_STATUS.IDE_IO, Reg.LNK_STATUS.CXL_MEM, Reg.LNK_STATUS.MEM_ACTIVE, Reg.LNK_STATUS.WIDTH,
   Reg.LNK_STATUS.RATE]

theorem State.memActiveAt_lost (s : State) (h : Nat) (on : Bool) : s.movesOnly (s.memActiveAt h on) lostFields := by
  unfold State.memActiveAt
  extract_lets v
  split
  · exact .refl
  · exact .raise (.wr .refl (by decide) (by decide)) _

theorem State.linkLost_does (s : State) (h : Nat) :
    Reported s (s.linkLost h) ∧ s.movesOnly (s.linkLost h) lostFields ∧ s.keepsUse (s.linkLost h) := by
  unfold State.linkLost
  extract_lets s1 s2
  have h1 : Reported s s1 ∧ s.movesOnly s1 lostFields ∧ s.keepsUse s1 := by
    obtain ⟨_, moves1, keeps1, frame1⟩ := s.setIde_does h true false
    obtain ⟨_, moves2, keeps2, frame2⟩ := (s.setIde h true false).setIde_does h false false
    exact ⟨frame1.trans frame2, (moves1.mono (by decide)).trans (moves2.mono (by decide)), keeps1.trans keeps2⟩
  clear_value s1
  have h2 : Reported s1 s2 ∧ s1.movesOnly s2 lostFields ∧ s1.keepsUse s2 := by
    simp only [s2]
    split
    · have shown : s1.keepsUse (s1.wr Reg.LNK_STATUS.CXL_MEM h 0 0) := .of_heads rfl
      exact ⟨Reported.trans (t := s1.wr Reg.LNK_STATUS.CXL_MEM h 0 0) rfl (State.raise_counted ..).reported,
        .raise (.wr .refl (by decide) (by decide)) _, shown.trans (State.raiseH_sameHeads _ h 4).keepsUse⟩
    · exact ⟨.refl s1, .refl, .of_heads rfl⟩
  clear_value s2
  obtain ⟨frame1, moves1, keeps1⟩ := h1
  obtain ⟨frame2, moves2, keeps2⟩ := h2
  refine ⟨?_, ?_, ?_⟩
  · exact (frame1.trans frame2).trans (Reported.trans (s2.memActiveAt_counted h false).reported rfl)
  · exact .wr (.wr ((moves1.trans moves2).trans (s2.memActiveAt_lost h false)) (by decide) (by decide)) (by decide) (by decide)
  · exact (keeps1.trans keeps2).trans ((s2.memActiveAt_sameHeads h false).keepsUse.trans (.of_heads rfl))

/-- What a head's lost link moves: its requests are dropped, and of what is shared nothing moves. -/
theorem State.linkGone_does (s : State) (h : Nat) :
    (s.linkGone h).path = (s.dropRequests h).path ∧ (s.linkGone h).mapping = s.mapping ∧ (s.linkGone h).lsa = s.lsa ∧
      (s.linkGone h).ctl = s.ctl ∧ s.movesOnly (s.linkGone h) lostFields ∧
      ((s.linkGone h).heads.get h).background = (s.heads.get h).background := by
  obtain ⟨frame, moves, keeps⟩ := s.linkLost_does h
  have kept : ((s.linkLost h).heads.get h).background = (s.heads.get h).background := by rw [keeps.heads h]
  rw [State.linkGone_eq]
  generalize s.linkLost h = a at *
  have dropped : s.movesOnly ((a.dropRequests h).onHead h Head.unlink) lostFields := moves.of_regs rfl
  have path : (a.dropRequests h).path = (s.dropRequests h).path := by rw [show a = _ from frame]; rfl
  have mapping : (a.dropRequests h).mapping = s.mapping := by rw [show a = _ from frame]; rfl
  have lsa : (a.dropRequests h).lsa = s.lsa := by rw [show a = _ from frame]; rfl
  have ctl : (a.dropRequests h).ctl = s.ctl := by rw [show a = _ from frame]; rfl
  have background : (((a.dropRequests h).onHead h Head.unlink).heads.get h).background = (s.heads.get h).background := by
    rw [State.onHead_heads_self]
    exact kept
  split
  · refine ⟨?_, ?_, ?_, ?_, .raise dropped _, ?_⟩
    · rw [State.raiseH, State.raise_path]; exact path
    · rw [State.raiseH, State.raise_mapping]; exact mapping
    · rw [State.raiseH, State.raise_lsa]; exact lsa
    · rw [State.raiseH, State.raise_ctl]; exact ctl
    · rw [State.raiseH_sameHeads _ h 1 h]; exact background
  · exact ⟨path, mapping, lsa, ctl, dropped, background⟩

/-! ## A head reset (R111) -/

/-- The state of a head reset before the head takes the strap's tolerance. -/
def State.headCleared (s : State) (h : Nat) : State :=
  let s1 := (((s.dropRequests h).discardReplies h).onHead h Head.restore).resetRegs .head (headKeys s.dual h)
  { s1 with sec := { s1.sec with sessions := s1.sec.sessions.filter (fun x => x.transport != h) } }

theorem State.headReset_eq (s : State) (h : Nat) : s.headReset h = ((s.headCleared h).strapHead h).showTolerance := rfl

theorem State.headReset_leavesLink (s : State) (h : Nat) : (s.headCleared h).leavesLink (s.headReset h) :=
  .showTolerance (.wr .refl _ _ _ (by decide) (by decide))

/-- The head and what shows of its link and grant, once it has been cleared. -/
theorem State.headCleared_does (s : State) (h : Nat) :
    (s.headCleared h).heads.get h = (s.heads.get h).restore ∧ (s.headCleared h).path = (s.dropRequests h).path ∧
      (s.headCleared h).rd Reg.LNK_STATUS.WIDTH h 0 = 0 ∧ (s.headCleared h).rd Reg.LNK_STATUS.CXL_MEM h 0 = 0 ∧
      (s.headCleared h).rd Reg.LNK_BAR2_GRANT.READ_EN h 0 = 0 ∧ (s.headCleared h).rd Reg.LNK_BAR2_GRANT.WRITE_EN h 0 = 0 ∧
      (s.headCleared h).primary = s.primary := by
  refine ⟨State.onHead_heads_self .., rfl, ?_, ?_, ?_, ?_, ?_⟩
  · exact State.rd_resetHead_link (by decide) (by decide) rfl (by decide +kernel) rfl ..
  · exact State.rd_resetHead_link (by decide) (by decide) rfl (by decide +kernel) rfl ..
  · exact State.rd_resetHead_link (by decide) (by decide) rfl (by decide +kernel) rfl ..
  · exact State.rd_resetHead_link (by decide) (by decide) rfl (by decide +kernel) rfl ..
  · have kept : ∀ f : Field, f.kinds < 16 → f.kinds.testBit 2 = false → ∀ d i, (s.headCleared h).rd f d i = s.rd f d i :=
      fun f hk hb d i => State.rd_resetHead_kept hk hb ..
    unfold State.primary State.dual
    rw [kept _ (by decide) (by decide), kept _ (by decide) (by decide)]

theorem State.leavesLink.primary {t : State} (h : s.leavesLink t) : t.primary = s.primary := by
  unfold State.primary State.dual
  rw [h.shown _ (by decide), h.shown _ (by decide)]

theorem State.movesOnly.primary {t : State} (h : s.movesOnly t lostFields) : t.primary = s.primary := by
  unfold State.primary State.dual
  rw [h.reads _ (by decide) (by decide), h.reads _ (by decide) (by decide)]

theorem State.dropRequests_plans (s : State) (h : Nat) : ∀ p ∈ (s.dropRequests h).path.plans, ∀ r ∈ p.readers, r.head ≠ h := by
  intro p hp r hr
  obtain ⟨q, _, rfl⟩ := List.mem_map.mp hp
  simpa using (List.mem_filter.mp hr).2

/-! ## Outside Doze, without secure streams -/

/-- The other head holds what it held but for counts and pending bits, and this head its event logs. -/
structure State.leavesOther (s t : State) (h : Fin 2) : Prop where
  other : (s.heads.get (1 - h.val)).sameBut (t.heads.get (1 - h.val))
  info : (t.heads.get h).info = (s.heads.get h).info
  fatal : (t.heads.get h).fatal = (s.heads.get h).fatal

theorem State.leavesOther.trans {t u : State} {h : Fin 2} (h1 : s.leavesOther t h) (h2 : t.leavesOther u h) : s.leavesOther u h where
  other := by
    have h1 := h1.other
    have h2 := h2.other
    unfold Head.sameBut at *
    rw [h2, h1]
  info := h2.info.trans h1.info
  fatal := h2.fatal.trans h1.fatal

theorem State.sameHeads.leavesOther {t : State} (hh : s.sameHeads t) (h : Fin 2) : s.leavesOther t h :=
  ⟨hh _, by rw [hh h], by rw [hh h]⟩

theorem State.onHead_leavesOther (s : State) (h : Fin 2) {f : Head → Head} (hi : ∀ a, (f a).info = a.info)
    (hf : ∀ a, (f a).fatal = a.fatal) : s.leavesOther (s.onHead h f) h where
  other := by rw [s.onHead_other h f]; rfl
  info := by rw [State.onHead_heads_self, hi]
  fatal := by rw [State.onHead_heads_self, hf]

/-- A stream that is not secure loses nothing. -/
theorem State.setIde_insecure {h : Nat} {mem : Bool} (hr : s.rd (ideField mem) h 0 ≠ 1) : s.setIde h mem false = s := by
  unfold State.setIde
  rw [← ideField]
  refine if_pos ?_
  simpa using hr

theorem State.linkLost_sameHeads {h : Nat} (hi : s.rd Reg.LNK_STATUS.IDE_IO h 0 ≠ 1) (hm : s.rd Reg.LNK_STATUS.IDE_MEM h 0 ≠ 1) :
    s.sameHeads (s.linkLost h) := by
  unfold State.linkLost
  rw [State.setIde_insecure (mem := true) hm, State.setIde_insecure (mem := false) hi]
  extract_lets s1 s2
  have h2 : s.sameHeads s2 := by
    have shown : s.sameHeads (s.wr Reg.LNK_STATUS.CXL_MEM h 0 0) := .of_heads rfl
    simp only [s2]
    split
    · exact shown.trans (State.raiseH_sameHeads _ h 4)
    · exact .of_heads rfl
  clear_value s2
  have shown : (s2.memActiveAt h false).sameHeads (((s2.memActiveAt h false).wr Reg.LNK_STATUS.WIDTH h 0 0).wr
    Reg.LNK_STATUS.RATE h 0 0) := .of_heads rfl
  exact h2.trans ((s2.memActiveAt_sameHeads h false).trans shown)

theorem State.linkGone_leavesOther {h : Fin 2} (hi : s.rd Reg.LNK_STATUS.IDE_IO h 0 ≠ 1) (hm : s.rd Reg.LNK_STATUS.IDE_MEM h 0 ≠ 1) :
    s.leavesOther (s.linkGone h) h := by
  have lost := State.linkLost_sameHeads hi hm
  rw [State.linkGone_eq]
  generalize s.linkLost h = a at lost
  have dropped : s.sameHeads (a.dropRequests h) := lost.trans (.of_heads rfl)
  have gone : s.leavesOther ((a.dropRequests h).onHead h Head.unlink) h :=
    (dropped.leavesOther h).trans (State.onHead_leavesOther _ h (f := Head.unlink) (fun _ => rfl) fun _ => rfl)
  split
  · exact gone.trans ((State.raiseH_sameHeads _ h 1).leavesOther h)
  · exact gone

theorem State.headReset_leavesOther {h : Fin 2} (hm : s.ctl.mode ≠ .m6) : s.leavesOther (s.headReset h) h := by
  have awake : ((s.headCleared h).strapHead h).ctl.mode ≠ .m6 := hm
  rw [State.headReset_eq, State.showTolerance_awake awake]
  obtain ⟨other, info, fatal⟩ := s.onHead_leavesOther h (f := Head.restore) (fun _ => rfl) fun _ => rfl
  exact ⟨other, info, fatal⟩

/-! ## Events at the link (R84, R86, R110) -/

theorem State.linkFalls_up {h : Nat} (hl : (s.heads.get h).linkUp = true) : s.linkFalls h = s.headEvent h := if_pos hl

theorem State.headEvent_resets (hl : s.ctl.mode.linkTrains = true) (h9 : s.ctl.mode ≠ .m9) (h10 : s.ctl.mode ≠ .m10) (h : Nat) :
    s.headEvent h = ((s.linkGone h).headReset h).raiseH h 11 := by
  unfold State.headEvent
  rw [if_neg (by simp [h9, h10]), if_pos hl]

end

/-- Settles O32: what a head loses with its link and its reset is written once, and what follows leaves it, in Doze too. -/
theorem linkEventsResetTheHead : Obligations.LinkEventsResetTheHead := by
  refine ⟨fun s head hh hl => ⟨congrArg _ (if_pos (by rw [hh, hl]; rfl)), ?_, ?_⟩, fun s clock => ?_, fun s h ht h9 h10 => ?_⟩
  · change Host.Outcome.next (if s.hasHead head then s.linkFalls head else s) = _
    rw [hh, if_pos rfl, State.linkFalls_up hl]
  · have up : ((s.onHead head (fun hd => { hd with clock := false })).heads.get head).linkUp = true := by
      rw [State.onHead_heads_self]; exact hl
    change Host.Outcome.next (if s.hasHead head then (s.onHead head (fun hd => { hd with clock := false })).linkFalls head else _) = _
    rw [hh, if_pos rfl, State.linkFalls_up up]
  · exact ⟨s.onHead clock (fun hd => { hd with clock := true }), rfl, rfl, State.onHead_heads_self .., s.onHead_other clock _⟩
  · obtain ⟨path, mapping, lsa, ctl, moves, background⟩ := s.linkGone_does h
    have event := State.headEvent_resets ht h9 h10 h
    have gone := State.linkGone_leavesOther (s := s) (h := h)
    generalize s.linkGone h = u at *
    obtain ⟨head, drops, width, mem, read, write, primary⟩ := u.headCleared_does h
    have leaves : (u.headCleared h).leavesLink (s.headEvent h) := event ▸ (u.headReset_leavesLink h).raise _
    have held := leaves.heads.heads h
    rw [head] at held
    refine ⟨_, rfl, by rw [held]; rfl, by rw [held]; rfl, by rw [held]; rfl, by rw [held]; exact background, fun h6 hi hm => ?_, ?_, ?_,
      fun hp => ?_, ?_, ?_, ?_, ?_⟩
    · have other := (gone hi hm).trans (State.headReset_leavesOther (h := h) (by rw [ctl]; exact h6))
      rw [event]
      obtain ⟨same, info, fatal⟩ := other.trans ((State.raiseH_sameHeads _ h 11).leavesOther h)
      exact ⟨info, fatal, same⟩
    · rw [leaves.shown _ (by decide), width]
    · rw [leaves.shown _ (by decide), mem]
    · have named : (s.headEvent h).primary = h := (leaves.primary.trans primary).trans (moves.primary.trans hp)
      unfold State.granted
      rw [named, leaves.shown _ (by decide), leaves.shown _ (by decide), read, write]
      rfl
    · rw [leaves.path, drops]
      exact u.dropRequests_plans h
    · have ways : ∀ u : State, (u.dropRequests h).path.ways = u.path.ways := fun _ => rfl
      rw [leaves.path, drops, ways, path, ways]
    · have map : (u.headCleared h).mapping = u.mapping := rfl
      rw [leaves.map, map, mapping]
    · exact leaves.lsa.trans lsa

end Sys2Proof.Machine
end

section
/-! SUPPORT. The canonical form of the stores, and the operations that write a store (R58, R103, R156, R201, R504).
The proofs are elaborated in turn: many short ones at once, each waiting for those before it, take a thread and its stack each. -/

namespace Sys2Proof.Machine

set_option Elab.async false

/-! ## The form, part by part -/

/-- The stores that the canonical form speaks of. -/
abbrev State.stores (s : State) :=
  (s.regs, s.lsa, s.qst.bytes, s.qst.readPw.length, s.qst.writePw.length, s.mapping.unlisted, s.mapping.map, s.mapping.rounds,
    s.mapping.segs, s.media.images, s.path.ways, s.dram.length, s.bulk.length)

/-- The stores are in their canonical form. -/
structure State.Canon (s : State) : Prop where
  regs : Tab.rising none s.regs = true
  lsa : Tab.wf 0 s.lsa = true ∧ s.lsa.all (fun p => p.1 < 131072) = true
  bytes : Tab.wf 0 s.qst.bytes = true
  readPw : s.qst.readPw.length = 3
  writePw : s.qst.writePw.length = 3
  map : mapWf s.mapping.unlisted s.mapping.map = true
  rounds : ∀ r ∈ s.mapping.rounds, mapWf r.unlisted r.map = true
  segs : Tab.rising none s.mapping.segs = true
  images : Tab.rising none s.media.images = true
  ways : Tab.rising none s.path.ways = true
  dram : s.dram.length = 4
  bulk : s.bulk.length = 16

theorem State.canonical_iff (s : State) : s.canonical = true ↔ s.Canon := by
  unfold State.canonical
  simp only [Bool.and_eq_true, beq_iff_eq, List.all_eq_true (p := fun r : Round => mapWf r.unlisted r.map)]
  refine ⟨fun h => ?_, fun h => ?_⟩
  · obtain ⟨⟨⟨⟨⟨⟨⟨⟨⟨⟨⟨regs, lsa⟩, bytes⟩, readPw⟩, writePw⟩, map⟩, rounds⟩, segs⟩, images⟩, ways⟩, dram⟩, bulk⟩ := h
    exact ⟨regs, lsa, bytes, readPw, writePw, map, rounds, segs, images, ways, dram, bulk⟩
  · exact ⟨⟨⟨⟨⟨⟨⟨⟨⟨⟨⟨h.regs, h.lsa⟩, h.bytes⟩, h.readPw⟩, h.writePw⟩, h.map⟩, h.rounds⟩, h.segs⟩, h.images⟩, h.ways⟩, h.dram⟩, h.bulk⟩

/-- A table whose keys stay keeps them rising. -/
theorem Tab.rising_map {α β : Type} {t : Tab α} {f : Nat × α → Nat × β} (hf : ∀ p, (f p).1 = p.1)
    (h : Tab.rising none t = true) : Tab.rising none (t.map f) = true := by
  rw [Tab.rising_none] at h ⊢
  exact List.pairwise_map.mpr (h.imp fun hab => by rwa [hf, hf])

theorem Tab.rising_ins {α : Type} {t : Tab α} (n : Nat) (v : α) (h : Tab.rising none t = true) : Tab.rising none (t.ins n v) = true := by
  rw [Tab.rising_none] at h ⊢
  exact Tab.pairwise_ins n v h

theorem mapWf_iff (l : List Span) (t : Tab (BitVec 32)) :
    mapWf l t = true ↔ Tab.rising none t = true ∧ ∀ p ∈ t, p.2 ≠ unlistedEntry l p.1 := by
  simp [mapWf]

/-- An entry that is put at its own default keeps the map's form. -/
theorem mapWf_put {l : List Span} {t : Tab (BitVec 32)} (q : Nat) (e : BitVec 32) (h : mapWf l t = true) :
    mapWf l (t.put (unlistedEntry l q) q e) = true := by
  obtain ⟨keys, values⟩ := (mapWf_iff l t).mp h
  refine (mapWf_iff l _).mpr ⟨Tab.rising_put q e keys, fun p hp => ?_⟩
  unfold Tab.put at hp
  split at hp
  · exact values p (Tab.mem_of_mem_del hp)
  · next he =>
    rcases Tab.mem_ins hp with rfl | hp
    · exact he
    · exact values p hp

/-- What a span covers, a span that covers its channels and its quires covers. -/
theorem Span.has_of_covered {x y : Span} (hc : (y.chans &&& ~~~x.chans) = 0) (hlo : x.lo ≤ y.lo) (hhi : y.hi ≤ x.hi) {q : Nat}
    (hy : y.has q = true) : x.has q = true := by
  simp only [Span.has, Bool.and_eq_true, decide_eq_true_eq] at hy ⊢
  obtain ⟨⟨chan, lo⟩, hi⟩ := hy
  have hbit : (y.chans &&& ~~~x.chans).getLsbD (chanOf q) = false := by rw [hc]; exact BitVec.getLsbD_zero
  have hlt : chanOf q < 32 := BitVec.lt_of_getLsbD chan
  simp only [BitVec.getLsbD_and, BitVec.getLsbD_not, chan, hlt, decide_true, Bool.true_and, Bool.not_eq_false'] at hbit
  exact ⟨⟨hbit, by omega⟩, by omega⟩

theorem unlistedEntry_cons_of_has {x : Span} {q : Nat} (l : List Span) (h : x.has q = true) : unlistedEntry (x :: l) q = x.entry := by
  simp [unlistedEntry, h]

/-- A quire that a span does not cover reads as it did where the span's own parts are dropped. -/
theorem unlistedEntry_cons_filter {x : Span} {q : Nat} (l : List Span) {p : Span → Bool} (hx : x.has q = false)
    (hp : ∀ y, p y = false → y.has q = false) : unlistedEntry (x :: l.filter p) q = unlistedEntry l q := by
  have hfind : (l.filter p).find? (fun y => y.has q) = l.find? (fun y => y.has q) := by
    rw [List.find?_filter]
    congr 1
    funext y
    cases h : p y with
    | false => simp [hp y h]
    | true => simp
  simp [unlistedEntry, hx, hfind]

/-- A span that is set, with the quires it passes over put back, keeps the map's form. -/
theorem State.setSpan_mapWf (s : State) (x : Span) (but : List Nat) (h : mapWf s.mapping.unlisted s.mapping.map = true) :
    mapWf (s.setSpan x but).mapping.unlisted (s.setSpan x but).mapping.map = true := by
  unfold State.setSpan
  extract_lets m keep map
  dsimp only
  obtain ⟨keys, values⟩ := (mapWf_iff _ _).mp h
  have hkeep : ∀ p ∈ keep, x.has p.1 = true := by
    intro p hp
    obtain ⟨q, hq, rfl⟩ := List.mem_map.mp hp
    exact (List.mem_filter.mp hq).2
  refine List.foldlRecOn (motive := fun t => mapWf _ t = true) keep _ ?_ fun t ht p hp => ?_
  · refine (mapWf_iff _ _).mpr ⟨Tab.rising_filter _ keys, fun p hp => ?_⟩
    obtain ⟨hp, hx⟩ := List.mem_filter.mp hp
    have hx : x.has p.1 = false := by simpa using hx
    rw [unlistedEntry_cons_filter _ hx]
    · exact values p hp
    · intro y hy
      simp only [Bool.not_eq_false', Bool.and_eq_true, beq_iff_eq, decide_eq_true_eq] at hy
      obtain ⟨⟨chans, lo⟩, hi⟩ := hy
      exact Bool.eq_false_iff.mpr fun hq => by simp [Span.has_of_covered chans lo hi hq] at hx
  · have put := mapWf_put p.1 p.2 ht
    rwa [unlistedEntry_cons_of_has _ (hkeep p hp)] at put

/-- The segment tables that a start makes have rising keys. -/
theorem State.tablesFrom_rising (s : State) (k : Round) (l : List JRec) : Tab.rising none (s.tablesFrom k l) = true := by
  unfold State.tablesFrom
  extract_lets epoch band
  refine List.foldlRecOn (motive := fun t => Tab.rising none t = true) l _ ?_ fun t ht r _ => ?_
  · exact List.foldlRecOn (motive := fun t => Tab.rising none t = true) k.segs _ rfl fun t ht p _ => Tab.rising_put _ _ ht
  · split
    · exact Tab.rising_put _ _ ht
    · exact ht

/-- The form that an outcome's next state keeps. -/
structure Res.Canon (r : Res) : Prop where
  of_next : ∀ t, r = .next t → t.Canon

theorem Res.Canon.next {s : State} (h : s.Canon) : Res.Canon (.next s) := ⟨fun _ ht => Host.Outcome.next.inj ht ▸ h⟩

namespace State.Canon

section
variable {s t : State} (hs : s.Canon)
include hs

/-- A change beside the stores. -/
theorem of_eq (he : t.stores = s.stores := by with_reducible rfl) : t.Canon := by
  simp only [stores, Prod.mk.injEq] at he
  obtain ⟨regs, lsa, bytes, readPw, writePw, unlisted, map, rounds, segs, images, ways, dram, bulk⟩ := he
  exact ⟨regs ▸ hs.regs, lsa ▸ hs.lsa, bytes ▸ hs.bytes, readPw ▸ hs.readPw, writePw ▸ hs.writePw, by rw [unlisted, map]; exact hs.map,
    rounds ▸ hs.rounds, segs ▸ hs.segs, images ▸ hs.images, ways ▸ hs.ways, dram ▸ hs.dram, bulk ▸ hs.bulk⟩

theorem foldl {α : Type} {f : State → α → State} (hf : ∀ (t : State) (a : α), t.Canon → (f t a).Canon) (l : List α) :
    (l.foldl f s).Canon := by
  induction l generalizing s with
  | nil => exact hs
  | cons a l ih => exact ih (hf s a hs)

/-- A run that carries a value beside the state. -/
theorem foldl_fst {α β : Type} {f : State × β → α → State × β} (hf : ∀ (p : State × β) (a : α), p.1.Canon → (f p a).1.Canon)
    (l : List α) (b : β) : (l.foldl f (s, b)).1.Canon := by
  induction l generalizing s b with
  | nil => exact hs
  | cons a l ih => exact ih (hf (s, b) a hs) _

theorem ite {c : Prop} [Decidable c] (ht : t.Canon) : (if c then s else t).Canon := by
  split
  · exact hs
  · exact ht

/-! ## Registers and heads -/

theorem wr (f : Field) (d i v : Nat) : (s.wr f d i v).Canon := { hs with regs := s.wr_rising f d i v hs.regs }

theorem resetRegs (k : ResetKind) (which : Nat → Bool) : (s.resetRegs k which).Canon := { hs with regs := Tab.rising_filter _ hs.regs }

end

end State.Canon

end Sys2Proof.Machine
end

section
/-! SUPPORT. Operations and commands that keep the stores in their canonical form: Ops.lean to Caddy.lean (R103).
The proofs are elaborated in turn: many short ones at once, each waiting for those before it, take a thread and its stack each. -/

namespace Sys2Proof.Machine

set_option Elab.async false

namespace State.Canon

section
variable {s : State} (hs : s.Canon)
include hs

/-! ## The named operations every command shares -/

theorem bump (f : Field) (die i n : Nat) : (s.bump f die i n).Canon := hs.wr ..

theorem peak (f : Field) (die i v : Nat) : (s.peak f die i v).Canon := hs.wr ..

theorem setReg (f : Field) (v : Nat) : (s.setReg f v).Canon := hs.wr ..

theorem wrBit (f : Field) (die i n : Nat) (b : Bool) : (s.wrBit f die i n b).Canon := hs.wr ..

theorem onHead (h : Nat) (f : Head → Head) : (s.onHead h f).Canon := hs.of_eq rfl

theorem draw : s.draw.Canon := hs.of_eq rfl

theorem send (o : Out) : (s.send o).Canon := hs.of_eq rfl

theorem raiseAt (h src : Nat) : (s.raiseAt h src).Canon := by
  unfold State.raiseAt
  extract_lets s1
  have hs1 : s1.Canon := hs.wr ..
  split
  · exact hs1
  · exact (hs1.wr ..).onHead ..

theorem notify (src : Nat) : (s.notify src).Canon := hs.of_eq rfl

theorem assertSource (src : Nat) : (s.assertSource src).Canon := by
  unfold State.assertSource
  extract_lets s1
  have hs1 : s1.Canon := hs.raiseAt ..
  exact .notify (.ite (hs1.raiseAt ..) hs1) ..

theorem tally (d i n : Nat) : (s.tally d i n).Canon := by
  unfold State.tally
  extract_lets v s1
  have hs1 : s1.Canon := hs.wr ..
  exact .ite hs (.ite hs1 ((hs1.wrBit ..).assertSource ..))

theorem raise (src : Nat) : (s.raise src).Canon := (hs.assertSource ..).tally ..

theorem msix (h v : Nat) : (s.msix h v).Canon := by
  unfold State.msix
  exact .ite (hs.onHead ..) ((hs.send ..).tally ..)

theorem eventAt (h log : Nat) (ty : EvType) (c : EvCause) (vs : List Nat) : (s.eventAt h log ty c vs).Canon := by
  unfold State.eventAt
  extract_lets s1
  have hs1 : s1.Canon := hs.onHead ..
  exact .ite (hs1.msix ..) hs1

theorem event (log : Nat) (ty : EvType) (c : EvCause) (vs : List Nat) : (s.event log ty c vs).Canon := by
  unfold State.event
  extract_lets s1
  have hs1 : s1.Canon := hs.eventAt ..
  exact .ite (hs1.eventAt ..) hs1

theorem pageCommit (page : Nat) : (s.pageCommit page).Canon := by
  unfold State.pageCommit
  extract_lets n x s1 s2 s3
  have hs1 : s1.Canon := hs.of_eq
  have hs2 : s2.Canon := hs1.bump ..
  have hs3 : s3.Canon := .ite ((hs2.setReg ..).setReg ..) hs2
  exact .tally (.ite (hs3.raise ..) hs3) ..

theorem pageWrite (page o : Nat) (b : List (BitVec 8)) : (s.pageWrite page o b).Canon := by
  unfold State.pageWrite
  refine .pageCommit ?_ ..
  exact { hs with bytes := placeBytes_wf page o b hs.bytes }

theorem slotWrite (ring value : Nat) : (s.slotWrite ring value).Canon := by
  unfold State.slotWrite
  extract_lets serial slot body at0 x s1
  have hs1 : s1.Canon := { hs with bytes := placeBytes_wf _ _ _ hs.bytes }
  exact ((hs1.wr ..).wr ..).bump ..

theorem gapAt (u : Nat) (kept gone : List ReamRec) : (s.gapAt u kept gone).Canon := by
  unfold State.gapAt
  exact .ite hs (((((hs.wr ..).bump ..).wr ..).wr ..).raise ..)

theorem reamLog (r : ReamRec) : (s.reamLog r).Canon := by
  unfold State.reamLog
  extract_lets used p x s1 x'
  have hs1 : s1.Canon := .ite hs (.gapAt (.gapAt hs.of_eq ..) ..)
  exact .ite hs1.of_eq ((hs1.bump ..).raise ..)

theorem reamMirror (r : ReamRec) : (s.reamMirror r).Canon := by
  unfold State.reamMirror
  extract_lets m x s1 s2
  have hs1 : s1.Canon := hs.of_eq
  have hs2 : s2.Canon := .ite (hs1.bump ..) hs1
  exact hs2.pageWrite ..

theorem reamPlace (r : ReamRec) : (s.reamPlace r).Canon := by
  unfold State.reamPlace
  extract_lets x s1 crit b x' s2
  have hs1 : s1.Canon := hs.of_eq
  have hs2 : s2.Canon :=
    .ite (.ite (hs1.reamMirror ..) hs1.of_eq) (.ite (hs1.reamLog ..) (.ite ((hs1.reamLog ..).reamMirror ..) (hs1.reamLog ..)))
  exact .tally (.ite (hs2.raise ..) hs2) ..

theorem reamAs (rate : Bool) (origin sev cls : Nat) (payload : List Nat) : (s.reamAs rate origin sev cls payload).Canon := by
  unfold State.reamAs
  extract_lets old new x s1
  have hs1 : s1.Canon := .ite hs.of_eq hs
  exact .ite hs (.ite (.bump hs.of_eq ..) (hs1.reamPlace ..))

theorem log (sev cls : Nat) (payload : List Nat) : (s.log sev cls payload).Canon := hs.reamAs ..

theorem supLog (sev cls : Nat) (payload : List Nat) : (s.supLog sev cls payload).Canon := hs.reamAs ..

theorem raiseLog (src sev : Nat) (payload : List Nat) : (s.raiseLog src sev payload).Canon := (hs.raise ..).log ..

/-! ## Where a package's bytes lie (R223 to R225, R247), and the ports of its controller (R227, R230 to R237) -/

theorem onPkg (n : Nat) (f : Package → Package) : (s.onPkg n f).Canon := { hs with dram := (List.length_modify ..).trans hs.dram }

theorem wrP (f : Field) (n v : Nat) : (s.wrP f n v).Canon := hs.wr ..

theorem raiseP (n k : Nat) : (s.raiseP n k).Canon := hs.raise ..

theorem tallyP (n x k : Nat) : (s.tallyP n x k).Canon := hs.tally ..

theorem onBus (d : Nat) (f : DramBus → DramBus) : (s.onBus d f).Canon := hs.of_eq rfl

theorem showPanic (d port : Nat) : (s.showPanic d port).Canon := by
  unfold State.showPanic
  extract_lets was now s1
  have hs1 : s1.Canon := hs.onBus ..
  exact .ite hs (.ite hs (.ite (hs1.bump ..) hs1))

theorem serveReq (d : Nat) (r : DramReq) (turn : Nat × Nat) : (s.serveReq d r turn).Canon := by
  unfold State.serveReq
  extract_lets n hit chk ns target s1 s2 s3 s4
  have hs1 : s1.Canon := hs.onBus ..
  have hs2 : s2.Canon := .ite (hs1.onPkg ..) hs1
  have hs3 : s3.Canon := ((hs2.tallyP ..).tallyP ..).tallyP ..
  have hs4 : s4.Canon := ((hs3.tallyP ..).tallyP ..).tallyP ..
  exact (hs4.peak ..).showPanic ..

theorem issueRefresh (d key : Nat) : (s.issueRefresh d key).Canon := (hs.onBus ..).tallyP ..

theorem serveChannel (d k ch : Nat) : (s.serveChannel d k ch).Canon := by
  unfold State.serveChannel
  split
  · exact hs.issueRefresh ..
  · split
    · exact hs.serveReq ..
    · exact hs

theorem dramCycle (d : Nat) : (s.dramCycle d).Canon := by
  unfold State.dramCycle
  extract_lets s1
  have hs1 : s1.Canon := hs.foldl (fun _ _ hs => hs.serveChannel ..) _
  exact hs1.onBus ..

theorem makePort (d port n : Nat) : (s.makePort d port n).Canon := by
  induction n generalizing s with
  | zero => exact hs
  | succ n ih =>
    unfold State.makePort
    exact .ite hs (ih (hs.dramCycle d))

theorem access (n port a : Nat) (write : Bool) : (s.access n port a write).Canon := by
  unfold State.access
  extract_lets d s1 r
  have hs1 : s1.Canon := hs.makePort ..
  exact .ite hs (.ite ((hs1.onBus ..).showPanic ..) hs1)

theorem accesses (n port a count : Nat) (write : Bool) : (s.accesses n port a count write).Canon := by
  unfold State.accesses
  exact hs.foldl (fun _ _ hs => hs.access ..) _

theorem drainPorts (d : Nat) : (s.drainPorts d).Canon := by
  unfold State.drainPorts
  exact hs.foldl (fun _ _ hs => hs.dramCycle ..) _

theorem drainHosts (d : Nat) : (s.drainHosts d).Canon := by
  unfold State.drainHosts
  exact hs.foldl (fun _ _ hs => .ite (hs.dramCycle ..) hs) _

theorem dropPorts : s.dropPorts.Canon := hs.of_eq rfl

theorem copyUnit (n : Nat) : (s.copyUnit n).Canon := by
  unfold State.copyUnit
  split
  · exact hs
  · extract_lets i from_ ch bus s1
    have hs1 : s1.Canon := (hs.onBus ..).tallyP ..
    exact .ite (hs1.onPkg ..) ((hs1.onPkg ..).wr ..)

theorem finishCopy (n : Nat) : (s.finishCopy n).Canon := by
  unfold State.finishCopy
  exact hs.foldl (fun _ _ hs => hs.copyUnit ..) _

theorem dramSettle : s.dramSettle.Canon := by
  unfold State.dramSettle
  extract_lets s1
  have hs1 : s1.Canon := hs.foldl (fun _ _ hs => hs.finishCopy ..) _
  exact .ite hs ((hs1.drainPorts ..).drainPorts ..)

theorem dramTick : s.dramTick.Canon := by
  unfold State.dramTick
  extract_lets s1
  have hs1 : s1.Canon := hs.foldl (fun _ _ hs => hs.copyUnit ..) _
  exact .ite hs ((hs1.dramCycle ..).dramCycle ..)

/-! ## Where things lie and what lines hold -/

theorem wrC (f : Field) (c v : Nat) : (s.wrC f c v).Canon := hs.wr ..

theorem bumpC (f : Field) (c n : Nat) : (s.bumpC f c n).Canon := hs.bump ..

theorem wrM (f : Field) (n v : Nat) : (s.wrM f n v).Canon := hs.wr ..

theorem tallyC (c k n : Nat) : (s.tallyC c k n).Canon := hs.tally ..

theorem blockAccess (q w port k count : Nat) (write : Bool) : (s.blockAccess q w port k count write).Canon := hs.accesses ..

theorem putWay (q w : Nat) (x : Way) : (s.putWay q w x).Canon := { hs with ways := s.putWay_rising q w x hs.ways }

theorem clearWay (q w : Nat) : (s.clearWay q w).Canon := { hs with ways := s.clearWay_rising q w hs.ways }

theorem tagTouch (q : Nat) : (s.tagTouch q).Canon := by
  unfold State.tagTouch
  extract_lets d x x' s1
  have hs1 : s1.Canon := .tally hs.of_eq ..
  exact .ite hs1 (((hs1.bump ..).tally ..).access ..)

/-! ## The map cache and the integrity tree (R153, R337 to R339) -/

theorem treeAccess (d level i : Nat) (write : Bool) : (s.treeAccess d level i write).Canon := hs.access ..

theorem raiseCtr (d key : Nat) : (s.raiseCtr d key).Canon := hs.of_eq rfl

theorem putLine (d : Nat) (x : Cache) : (s.putLine d x).Canon := hs.of_eq rfl

theorem treeLine (n d level i : Nat) (dirty : Bool) : (s.treeLine n d level i dirty).Canon := by
  induction n generalizing s level i dirty with
  | zero => exact hs
  | succ n ih =>
    unfold State.treeLine
    extract_lets key s1 s2
    have hs1 : s1.Canon := .ite hs ((ih hs ..).treeAccess ..)
    have hs2 : s2.Canon := hs1.putLine ..
    split
    · exact hs
    · split
      · exact hs2
      · exact ih ((hs2.treeAccess ..).raiseCtr ..) ..

theorem pageWritten (d page : Nat) (at' : Nat × Nat) : (s.pageWritten d page at').Canon := by
  unfold State.pageWritten
  extract_lets s1
  have hs1 : s1.Canon := (((hs.access ..).treeLine ..).raiseCtr ..).access ..
  exact hs1.treeAccess ..

theorem segWritten (c t : Nat) : (s.segWritten c t).Canon := hs.pageWritten ..

theorem mapWritten (d line : Nat) : (s.mapWritten d line).Canon := hs.pageWritten ..

theorem mapTouch (q : Nat) (dirty : Bool) : (s.mapTouch q dirty).Canon := by
  unfold State.mapTouch
  extract_lets d x hit x' s1 s2 s3
  have hs1 : s1.Canon := hs.of_eq
  have hs2 : s2.Canon := (hs1.tally ..).tally ..
  have hs3 : s3.Canon := by
    unfold s3
    split
    · exact hs2.mapWritten ..
    · exact hs2
  exact .ite hs2 (hs3.access ..)

theorem writeTreeLevel (d level : Nat) : (s.writeTreeLevel d level).Canon := by
  unfold State.writeTreeLevel
  exact hs.foldl (fun _ _ hs => ((hs.treeAccess ..).raiseCtr ..).treeLine ..) _

theorem writeBack : s.writeBack.Canon := by
  unfold State.writeBack
  extract_lets s1 s2 x x'
  have hs1 : s1.Canon := by
    unfold s1
    refine hs.foldl (fun s d hs => ?_) _
    exact hs.foldl (fun _ _ hs => hs.mapWritten ..) _
  have hs2 : s2.Canon := by
    unfold s2
    refine hs1.foldl (fun s d hs => ?_) _
    exact hs.foldl (fun _ _ hs => hs.writeTreeLevel ..) _
  exact hs2.of_eq

/-! ## Self-test runs as state (R515 to R524, R527) -/

theorem onRun (f : TestRun → TestRun) : (s.onRun f).Canon := by
  unfold State.onRun
  split
  · exact hs
  · exact hs.of_eq

theorem showRun (state : Nat) : (s.showRun state).Canon := (hs.wr ..).wr ..

theorem noSlice : s.noSlice.Canon := (hs.wr ..).wr ..

theorem startSlices : s.startSlices.Canon := by
  unfold State.startSlices
  split
  · exact hs
  · exact hs.foldl (fun _ _ hs => hs.wr ..) _

theorem keepSlice (x : SliceRec) : (s.keepSlice x).Canon := by
  unfold State.keepSlice
  extract_lets d s1 s2 s3
  have hs1 : s1.Canon := hs.onRun ..
  have hs2 : s2.Canon := (((hs1.wr ..).wr ..).wr ..).wr ..
  have hs3 : s3.Canon := ((hs2.wr ..).wr ..).wr ..
  exact .ite (((hs3.wrBit ..).raise ..).log ..) (.ite (hs3.raise ..) hs3)

theorem keepAnalog (r : TestRun) : (s.keepAnalog r).Canon := by
  unfold State.keepAnalog
  extract_lets verdict good
  split
  · exact hs
  · exact hs.foldl (fun _ _ hs => (hs.wr ..).wr ..) _

theorem endRun (state : Nat) : (s.endRun state).Canon := by
  unfold State.endRun
  split
  · exact hs
  · extract_lets s1
    have hs1 : s1.Canon := (((hs.onRun ..).showRun ..).noSlice).keepAnalog ..
    exact ((hs1.pageCommit ..).log ..).raise ..

theorem stopRun : s.stopRun.Canon := by
  unfold State.stopRun
  split
  · exact hs
  · refine .endRun ?_ ..
    exact hs.foldl (fun _ _ hs => hs.draw.keepSlice ..) _

theorem beginRun (trigger : Nat) (mask : BitVec 64) (slices : List Nat) : (s.beginRun trigger mask slices).Canon := by
  unfold State.beginRun
  extract_lets handle run s1
  have hs1 : s1.Canon := hs.of_eq
  exact ((hs1.showRun ..).noSlice).foldl (fun _ _ hs => (((hs.wr ..).wr ..).wr ..).wr ..) _

/-! ## The media dies on their channel buses -/

theorem onSeg (c t : Nat) (f : Seg → Seg) : (s.onSeg c t f).Canon := by
  unfold State.onSeg
  refine .segWritten ?_ ..
  exact { hs with segs := Tab.rising_put _ _ hs.segs }

theorem bankStatus (n t : Nat) (x : MediaStatus) : (s.bankStatus n t x).Canon := hs.of_eq rfl

theorem badPacket (n : Nat) : (s.badPacket n).Canon := hs.of_eq rfl

theorem statusRead (n : Nat) : (s.statusRead n).Canon := hs.of_eq rfl

theorem onTile (n t : Nat) (f : Tile → Tile) : (s.onTile n t f).Canon := hs.of_eq rfl

theorem answered (n : Nat) : (s.answered n).Canon := hs.of_eq rfl

theorem programDie (n t f pulses band : Nat) : (s.programDie n t f pulses band).Canon := by
  unfold State.programDie
  extract_lets x s1
  clear_value x
  have hs1 : s1.Canon := by
    unfold s1
    split
    · exact hs
    · exact hs.onTile ..
    · exact hs.onTile ..
  exact ((hs1.bankStatus ..).statusRead ..).answered ..

theorem steepDie (n t us : Nat) : (s.steepDie n t us).Canon := by
  unfold State.steepDie
  extract_lets s1
  have hs1 : s1.Canon := .ite (hs.bankStatus ..) ((hs.onTile ..).bankStatus ..)
  exact (hs1.statusRead ..).answered ..

theorem abortDie (n t : Nat) : (s.abortDie n t).Canon := hs.onTile ..

theorem clearSuspends (c t : Nat) : (s.clearSuspends c t).Canon := hs.of_eq rfl

/-! ## The flags and the mode -/

theorem newAlert (k : Nat) : (s.newAlert k).Canon := hs.of_eq rfl

theorem latchAlert (k : Nat) : (s.latchAlert k).Canon := hs.of_eq rfl

theorem settle : s.settle.Canon := by
  unfold State.settle
  extract_lets d x s1
  have hs1 : s1.Canon := .newAlert (.setReg hs.of_eq ..) ..
  exact .ite hs (.ite (hs1.event ..) (hs1.event ..))

theorem setWriteThrough (b : Bool) : (s.setWriteThrough b).Canon := by
  unfold State.setWriteThrough
  extract_lets x s1 s2
  have hs1 : s1.Canon := .raise (.newAlert (.setReg hs.of_eq ..) ..) ..
  have hs2 : s2.Canon := (hs1.wr ..).wr ..
  exact .ite hs (.ite (hs2.event ..) (hs2.event ..))

theorem setReadOnly : s.setReadOnly.Canon := by
  unfold State.setReadOnly
  exact .ite hs (.event (.wr (.wr (.setReg hs.of_eq ..) ..) ..) ..)

theorem showLimits : s.showLimits.Canon := by
  unfold State.showLimits
  extract_lets b
  exact hs.foldl (fun _ _ hs => (hs.wr ..).wr ..) _

theorem updateEnergy : s.updateEnergy.Canon := by
  unfold State.updateEnergy
  extract_lets e capped b s1 s2
  have hs1 : s1.Canon := ((hs.setReg ..).setReg ..).setReg ..
  have hs2 : s2.Canon := .ite hs1 ((hs1.setReg ..).raise ..)
  exact ((hs2.setWriteThrough ..).showLimits).settle

theorem memActiveAt (h : Nat) (on : Bool) : (s.memActiveAt h on).Canon := by
  unfold State.memActiveAt
  exact .ite hs ((hs.wr ..).raise ..)

theorem memActive (on : Bool) : (s.memActive on).Canon := by
  unfold State.memActive
  extract_lets s1
  have hs1 : s1.Canon := hs.memActiveAt ..
  exact .ite (hs1.memActiveAt ..) hs1

theorem toMode (m : Mode) : (s.toMode m).Canon := by
  unfold State.toMode
  exact .memActive (.setReg hs.of_eq ..) ..

theorem cancelRemoval : s.cancelRemoval.Canon := by
  unfold State.cancelRemoval
  exact .ite hs (((hs.setReg ..).event ..).raise ..)

theorem refreshEntry (n : Nat) : (s.refreshEntry n).Canon := by
  unfold State.refreshEntry
  exact .ite (hs.tally ..) hs

theorem selfRefresh (on : Bool) : (s.selfRefresh on).Canon := by
  unfold State.selfRefresh
  refine hs.foldl (fun s d hs => ?_) _
  extract_lets s1
  have hs1 : s1.Canon := .ite ((hs.refreshEntry ..).refreshEntry ..) hs
  exact hs1.wr ..

theorem showDoze (d : Nat) : (s.showDoze d).Canon := by
  unfold State.showDoze
  extract_lets power s1
  have hs1 : s1.Canon := (((hs.setReg ..).setReg ..).onHead ..).onHead ..
  exact (hs1.selfRefresh ..).foldl (fun _ _ hs => hs.wr ..) _

theorem answerAll : s.answerAll.Canon := hs.of_eq rfl

theorem abortSteep (x : Steep) : (s.abortSteep x).Canon := by
  unfold State.abortSteep
  extract_lets s1
  have hs1 : s1.Canon := by
    unfold s1
    refine .clearSuspends ?_ ..
    exact hs.foldl (fun _ _ hs => hs.abortDie ..) _
  exact .ite hs1 (hs1.onSeg ..)

theorem abortSteeps : s.abortSteeps.Canon := by
  unfold State.abortSteeps
  extract_lets s1 x
  have hs1 : s1.Canon := hs.foldl (fun _ _ hs => hs.abortSteep ..) _
  exact hs1.of_eq

theorem dropTriggers : s.dropTriggers.Canon := by
  unfold State.dropTriggers
  extract_lets s1 x x'
  have hs1 : s1.Canon := hs.foldl (fun _ _ hs => .ite ((hs.wrP ..).wr ..) hs) _
  exact hs1.of_eq

theorem stopBulk : s.stopBulk.Canon := by
  unfold State.stopBulk
  extract_lets live s1
  have hs1 : s1.Canon := { hs with bulk := (List.length_map _).trans hs.bulk }
  exact hs1.foldl (fun _ _ hs => hs.raise ..) _

theorem halt (cause : Nat) (l : HaltLoc) : (s.halt cause l).Canon := by
  unfold State.halt
  extract_lets s0 s1 x x' x'' s2 s3 s4 s5 s6 x''' s7
  have hs1 : s0.Canon := .ite (hs.showDoze ..) hs
  have hs2 : s1.Canon := hs1.stopRun.answerAll.abortSteeps.dropTriggers.stopBulk
  have hs3 : s2.Canon := hs2.of_eq
  have hs4 : s3.Canon := ((hs3.setReg ..).setReg ..).setReg ..
  have hs5 : s4.Canon := (((hs4.setReg ..).setReg ..).setReg ..).setReg ..
  have hs6 : s5.Canon := ((hs5.wr ..).wr ..).toMode ..
  have hs7 : s6.Canon := hs6.log ..
  have hs8 : s7.Canon := hs7.of_eq
  exact ((hs8.pageCommit ..).event ..).raise ..

/-! ## The poison index (R101, R268) and the General Media record of a loss (R267) -/

theorem withPoison (p : PoisonIndex) : ({ s with mapping := { s.mapping with poison := p } }).Canon := hs.of_eq

theorem poisonAdd (first len : Nat) (host : Bool) : (s.poisonAdd first len host).Canon := hs.withPoison _

theorem poisonDel (first len : Nat) : (s.poisonDel first len).Canon := hs.of_eq rfl

theorem poisonMask (q : Nat) (m : BitVec 16) (host : Bool) : (s.poisonMask q m host).Canon := by
  unfold State.poisonMask
  exact hs.foldl (fun _ _ hs => .ite (hs.poisonAdd ..) hs) _

theorem mediaLoss (line tx channel : Nat) (frame : Option (Nat × Nat)) : (s.mediaLoss line tx channel frame).Canon := hs.event ..

/-! ## The write frontier (R152 to R177, R281 to R284, R297, R298) -/

theorem ringTake (die n : Nat) : (s.ringTake die n).Canon := hs.of_eq rfl

theorem issuePage (die : Nat) : (s.issuePage die).Canon := by
  unfold State.issuePage
  exact .ringTake hs.of_eq ..

theorem issueOpen : s.issueOpen.Canon := by
  unfold State.issueOpen
  exact hs.foldl (fun _ _ hs => .ite hs (hs.issuePage ..)) _

theorem journal (die channel : Nat) (b : JBody) : (s.journal die channel b).Canon := by
  unfold State.journal
  extract_lets r x m s1
  have hs1 : s1.Canon := .tally hs.of_eq ..
  exact .ite (hs1.issuePage ..) hs1

theorem journalC (c : Nat) (b : JBody) : (s.journalC c b).Canon := hs.journal ..

theorem takeSeq (c : Nat) : (s.takeSeq c).Canon := hs.of_eq rfl

theorem poolReached (level : Nat) (shares : List Nat) : (s.poolReached level shares).Canon := ((hs.latchAlert ..).event ..).log ..

theorem poolUpdate : s.poolUpdate.Canon := by
  unfold State.poolUpdate
  extract_lets t o d p wear life s1 old
  have hs1 : s1.Canon := (((((hs.setReg ..).setReg ..).setReg ..).setReg ..).setReg ..).setReg ..
  split
  · exact hs1
  · exact (hs1.setReg ..).foldl (fun _ _ hs => hs.poolReached ..) _

theorem retireSeg (c t : Nat) : (s.retireSeg c t).Canon := by
  unfold State.retireSeg
  extract_lets s1
  have hs1 : s1.Canon := .ite hs.setReadOnly hs
  exact (((hs1.onSeg ..).bumpC ..).journalC ..).poolUpdate

theorem redirect (n t : Nat) : (s.redirect n t).1.Canon := by
  unfold State.redirect
  extract_lets used x s1 x' s2
  have hs1 : s1.Canon := hs.of_eq
  have hs2 : s2.Canon := (hs1.onTile ..).bump ..
  split
  · exact hs.bankStatus ..
  · dsimp only
    exact .poolUpdate (.ite (hs2.bump ..) hs2)

theorem countRetired (n t : Nat) : (s.countRetired n t).Canon := by
  unfold State.countRetired
  extract_lets c hd hd1 x s1
  have hs1 : s1.Canon := hs.of_eq
  exact .ite hs1 ((hs1.bumpC ..).raise ..)

theorem retireTiles (c t : Nat) : (s.retireTiles c t).1.Canon := by
  unfold State.retireTiles
  refine hs.foldl_fst (fun p k hp => ?_) _ _
  extract_lets n r
  split
  · exact (hp.countRetired ..).redirect ..
  · exact hp

theorem askSteep (c t : Nat) (x : SegState) : (s.askSteep c t x).Canon := by
  unfold State.askSteep
  extract_lets p
  have hs1 : p.1.Canon := hs.retireTiles ..
  exact .ite ((hs1.onSeg ..).journalC ..) (hs1.retireSeg ..)

theorem toPending (c t : Nat) : (s.toPending c t).Canon := by
  unfold State.toPending
  exact .askSteep (.ite (hs.bump ..) hs) ..

theorem toDirty (c t : Nat) : (s.toDirty c t).Canon := (hs.onSeg ..).askSteep ..

theorem lessLive (c t : Nat) : (s.lessLive c t).Canon := by
  unfold State.lessLive
  extract_lets s1
  have hs1 : s1.Canon := hs.onSeg ..
  exact .ite (hs1.toPending ..) hs1

theorem applyEntry (q : Nat) (e : BitVec 32) : (s.applyEntry q e).Canon := by
  unfold State.applyEntry
  extract_lets c old m s1 s1' s2
  have hs1 : s1.Canon := { hs with map := mapWf_put q e hs.map }
  have hs1' : s1'.Canon := (hs1.mapTouch ..).tally ..
  have hs2 : s2.Canon := .ite (hs1'.onSeg ..) hs1'
  exact .ite (hs2.lessLive ..) hs2

theorem setSpan (x : Span) (but : List Nat) : (s.setSpan x but).Canon := { hs with map := s.setSpan_mapWf x but hs.map }

theorem changeEntry (q : Nat) (e : BitVec 32) (seq : Nat) : (s.changeEntry q e seq).Canon := by
  unfold State.changeEntry
  exact .ite hs.of_eq (hs.applyEntry ..)

theorem applyHeld (q : Nat) : (s.applyHeld q).Canon := by
  unfold State.applyHeld
  split
  · exact hs
  · exact .ite hs (.applyEntry hs.of_eq ..)

theorem freeStaged (id : Nat) : (s.freeStaged id).Canon := by
  unfold State.freeStaged
  split
  · exact hs
  · extract_lets x' s1
    have hs1 : s1.Canon := hs.of_eq
    exact hs1.bump ..

theorem dropWaiting (q : Nat) : (s.dropWaiting q).Canon := hs.of_eq rfl

theorem dropQuire (q : Nat) : (s.dropQuire q).Canon := by
  unfold State.dropQuire
  extract_lets s1
  have hs1 : s1.Canon := by
    unfold s1
    split
    · exact hs.clearWay ..
    · exact hs
  exact hs1.foldl (fun _ _ hs => hs.freeStaged ..) _

theorem unmapQuire (q seq : Nat) : (s.unmapQuire q seq).Canon := (((hs.dropQuire ..).dropWaiting ..).poisonDel ..).changeEntry ..

theorem walkReaches (w : Walk) (q : Nat) : (s.walkReaches w q).Canon := by
  unfold State.walkReaches
  exact .ite (.ite hs (hs.unmapQuire ..)) (hs.changeEntry ..)

theorem reachEarly (q : Nat) : (s.reachEarly q).Canon := by
  unfold State.reachEarly
  split
  · exact hs
  · extract_lets s1 x'
    have hs1 : s1.Canon := hs.walkReaches ..
    exact hs1.of_eq

theorem setRing (c stream : Nat) (l : List Nat) : (s.setRing c stream l).Canon := by
  refine { hs with images := ?_ }
  unfold State.setRing
  split
  · exact hs.images
  · exact hs.images
  · exact hs.images

theorem onRepair (c : Nat) (f : ChanRepair → ChanRepair) : (s.onRepair c f).Canon := hs.of_eq rfl

theorem openOne (c stream : Nat) : (s.openOne c stream).Canon := by
  unfold State.openOne
  split
  · split
    · exact hs
    · extract_lets s1 s2 s2' x
      have hs1 : s1.Canon := hs.onSeg ..
      have hs2 : s2.Canon := (hs1.setRing ..).journalC ..
      have hs3 : s2'.Canon := hs2.tally ..
      exact .ite hs3.of_eq hs3
  · exact hs

theorem topUp (c stream : Nat) : (s.topUp c stream).Canon := by
  unfold State.topUp
  exact hs.foldl (fun _ _ hs => hs.openOne ..) _

theorem keepOpen (c : Nat) : (s.keepOpen c).Canon := by
  unfold State.keepOpen
  exact .ite hs ((hs.topUp ..).topUp ..)

theorem releaseReserve (r : ResSeg) : (s.releaseReserve r).Canon := by
  unfold State.releaseReserve
  exact .toDirty hs.of_eq ..

theorem trimReserve (c use : Nat) : (s.trimReserve c use).Canon := hs.foldl (fun _ _ hs => hs.releaseReserve ..) _

theorem closeReserve (r : ResSeg) : (s.closeReserve r).Canon := by
  unfold State.closeReserve
  extract_lets x x' x'' s1
  have hs1 : s1.Canon := hs.of_eq
  exact ((hs1.ringTake ..).onSeg ..).journalC ..

theorem openReserve (c use round : Nat) : (s.openReserve c use round).Canon := by
  unfold State.openReserve
  extract_lets s0
  have hs0 : s0.Canon := hs.foldl (fun _ _ hs => hs.closeReserve ..) _
  split
  · exact hs0
  · extract_lets s1 x
    have hs1 : s1.Canon := (hs0.onSeg ..).journalC ..
    exact .trimReserve hs1.of_eq ..

theorem reserveAdd (die use bytes : Nat) : (s.reserveAdd die use bytes).Canon := by
  unfold State.reserveAdd
  extract_lets key total opened x s1
  have hs1 : s1.Canon := hs.of_eq
  exact hs1.foldl (fun _ _ hs => hs.openReserve ..) _

theorem programLog : s.programLog.Canon := by
  unfold State.programLog
  extract_lets n x s1
  have hs1 : s1.Canon := hs.of_eq
  exact .ite hs1 (hs1.reserveAdd ..)

theorem shutSeg (c t : Nat) : (s.shutSeg c t).Canon := (hs.onSeg ..).setRing ..

theorem sumSeg (c t : Nat) : (s.sumSeg c t).Canon := by
  unfold State.sumSeg
  extract_lets x x' s0
  have hs1 : s0.Canon := hs.of_eq
  exact ((hs1.ringTake ..).reserveAdd ..).journalC ..

theorem closeSeg (c t : Nat) : (s.closeSeg c t).Canon := (hs.shutSeg ..).sumSeg ..

theorem closeAll (c : Nat) : (s.closeAll c).Canon := by
  unfold State.closeAll
  exact hs.foldl (fun _ _ hs => hs.closeSeg ..) _

theorem shutAll (c : Nat) : (s.shutAll c).Canon := by
  unfold State.shutAll
  exact hs.foldl (fun _ _ hs => hs.shutSeg ..) _

theorem sumAll (c : Nat) : (s.sumAll c).Canon := by
  unfold State.sumAll
  exact hs.foldl (fun _ _ hs => hs.sumSeg ..) _

theorem summed (x : Stripe) : (s.summed x).Canon := by
  unfold State.summed
  extract_lets key half x'
  split
  · exact hs
  · exact hs.of_eq

theorem showStacks : s.showStacks.Canon := by
  unfold State.showStacks
  exact hs.foldl (fun _ _ hs => hs.wr ..) _

theorem dropPrograms : s.dropPrograms.Canon :=
  { hs with
    images := List.foldlRecOn (motive := fun t => Tab.rising none t = true) _ _ hs.images fun _ ht _ _ => Tab.rising_ins _ _ ht }

theorem program (x : Stripe) (t : Nat) : (s.program x t).Canon := by
  unfold State.program
  extract_lets c f y s1 rest s2 x' s3
  have hs1 : s1.Canon := hs.onSeg ..
  have hs2 : s2.Canon := hs1.setRing ..
  have hs3 : s3.Canon := hs2.of_eq
  exact hs3.tallyC ..

theorem placeStripe (x : Stripe) {r : Nat × State} (hr : s.placeStripe x = some r) : r.2.Canon := by
  unfold State.placeStripe at hr
  split at hr
  · cases hr
  · split at hr
    · cases hr
      exact .of_eq (hs.program ..)
    · cases hr

theorem startSteep (x : Steep) : (s.startSteep x).Canon := by
  unfold State.startSteep
  extract_lets s1 y x' s2
  have hs1 : s1.Canon := by
    unfold s1
    split
    · exact hs.onSeg ..
    · exact hs
  have hs2 : s2.Canon := hs1.of_eq
  exact hs2.tallyC ..

theorem nextUnit (c : Nat) {r : Nat × State} (hr : s.nextUnit c = some r) : r.2.Canon := by
  unfold State.nextUnit at hr
  extract_lets s0 at hr
  have hs0 : s0.Canon := .ite ((hs.keepOpen ..).topUp ..) hs
  split at hr
  · cases hr
  · split at hr
    · next u found =>
      cases hr
      obtain ⟨x, _, placed⟩ := List.exists_of_findSome?_eq_some found
      exact hs0.placeStripe x placed
    · obtain ⟨x, _, rfl⟩ := Option.map_eq_some_iff.mp hr
      exact hs.startSteep x

theorem issueOne (k : Nat) {t : State} (ht : s.issueOne k = some t) : t.Canon := by
  unfold State.issueOne at ht
  extract_lets turn a b fits flip at ht
  split at ht
  · next x y hx hy =>
    obtain ⟨_, ht⟩ := Option.ite_none_right_eq_some.mp ht
    cases ht
    exact .of_eq (hs.nextUnit a hx)
  · next x hx hy =>
    obtain ⟨_, ht⟩ := Option.ite_none_right_eq_some.mp ht
    cases ht
    exact hs.nextUnit a hx
  · next y hx hy =>
    obtain ⟨_, ht⟩ := Option.ite_none_right_eq_some.mp ht
    cases ht
    exact hs.nextUnit b hy
  · cases ht

theorem issueN (k n : Nat) : (s.issueN k n).Canon := by
  induction n generalizing s with
  | zero => exact hs
  | succ n ih =>
    unfold State.issueN
    split
    · exact hs
    · next t ht => exact ih (hs.issueOne k ht)

theorem issue (c : Nat) : (s.issue c).Canon := by
  unfold State.issue
  exact .ite (hs.issueN ..) hs

theorem assemble (c stream : Nat) (h0 h1 : Option Half) (wt : Bool) : (s.assemble c stream h0 h1 wt).Canon := by
  unfold State.assemble
  extract_lets x s1 x'
  have hs1 : s1.Canon := hs.takeSeq ..
  exact .issue hs1.of_eq ..

theorem reachWaiting (key : Nat) : (s.reachWaiting key).Canon := by
  unfold State.reachWaiting
  split
  · exact hs
  · exact hs.reachEarly ..

theorem enterHalf (stream : Nat) (h : Half) (now wt : Bool) : (s.enterHalf stream h now wt).Canon := by
  unfold State.enterHalf
  extract_lets c key s' x
  have hs1 : s'.Canon := hs.reachWaiting ..
  split
  · exact .assemble hs1.of_eq ..
  · exact .ite (hs1.assemble ..) hs1.of_eq

theorem flushHalf (c stream : Nat) : (s.flushHalf c stream).Canon := by
  unfold State.flushHalf
  extract_lets key s' x
  have hs1 : s'.Canon := hs.reachWaiting ..
  split
  · exact hs1
  · exact .assemble hs1.of_eq ..

theorem enterStaged (id : Nat) : (s.enterStaged id).Canon := by
  unfold State.enterStaged
  split
  · exact hs
  · extract_lets x' s1
    have hs1 : s1.Canon := hs.of_eq
    exact .ite hs (.ite (hs.reachEarly ..) (.ite hs (hs1.enterHalf ..)))

theorem pumpQuire (q : Nat) : (s.pumpQuire q).Canon := by
  unfold State.pumpQuire
  split
  · exact hs
  · exact hs.enterStaged ..

theorem reportLoss (h : Half) (tx : Nat) (frames : List (Nat × Nat)) : (s.reportLoss h tx frames).Canon := by
  unfold State.reportLoss
  extract_lets c
  refine hs.foldl (fun s f hs => ?_) _
  extract_lets n m s1
  have hs1 : s1.Canon := ((hs.bumpC ..).tally ..).mediaLoss ..
  exact (hs1.poisonMask ..).raiseLog ..

theorem applyOlder (q seq : Nat) : (s.applyOlder q seq).Canon := by
  unfold State.applyOlder
  split
  · exact hs
  · exact .ite (.applyEntry hs.of_eq ..) hs

theorem applyHalf (x : Stripe) (place : Nat) (h : Half) : (s.applyHalf x place h).Canon := by
  unfold State.applyHalf
  extract_lets s' s2 s1
  have hs1 : s'.Canon := (hs.reachEarly ..).applyOlder ..
  have hs2 : s2.Canon := hs1.applyEntry ..
  have hs3 : s1.Canon := by
    unfold s1
    split
    · split
      · exact hs2.freeStaged ..
      · exact hs2.reportLoss ..
      · exact hs2
      · exact hs2
    · exact hs1
  exact (hs3.applyHeld ..).pumpQuire ..

theorem programsEnd (x : Stripe) (pulses : List Nat) : (s.programsEnd x pulses).Canon := by
  unfold State.programsEnd
  exact (hs.clearSuspends ..).foldl (fun _ _ hs => hs.programDie ..) _

theorem stripeDone (x : Stripe) : (s.stripeDone x).Canon := by
  unfold State.stripeDone
  extract_lets c x' s2 s2' s3 s3' s4 s5
  have hs2 : s2.Canon := { hs with images := Tab.rising_ins _ _ hs.images }
  have hs2' : s2'.Canon := hs2.summed ..
  have hs3 : s3.Canon := hs2'.foldl (fun _ _ hs => hs.applyHalf ..) _
  have hs3' : s3'.Canon := (hs3.tally ..).tally ..
  have hs4 : s4.Canon := .ite (hs3'.bump ..) (.ite (hs3'.bump ..) hs3')
  have hs5 : s5.Canon := .ite (hs4.closeSeg ..) hs4
  exact .ite hs2' (hs5.issue ..)

theorem rewrite (x : Stripe) : (s.rewrite x).Canon := by
  unfold State.rewrite
  extract_lets s0 x' s1 y t x'' s2
  have hs1 : s0.Canon := hs.clearSuspends ..
  have hs2 : s1.Canon := hs1.of_eq
  have hs3 : t.Canon := hs2.takeSeq ..
  have hs4 : s2.Canon := .ite hs2 hs3.of_eq
  exact hs4.foldl (fun _ _ hs => (hs.applyHeld ..).pumpQuire ..) _

theorem relocate (stream q : Nat) : (s.relocate stream q).Canon := by
  unfold State.relocate
  extract_lets s'
  have hs1 : s'.Canon := hs.reachEarly ..
  exact .ite (hs1.enterHalf ..) hs1

theorem relocateLost (q tx : Nat) (frames : List (Nat × Nat)) : (s.relocateLost q tx frames).Canon := by
  unfold State.relocateLost
  extract_lets s' e held x h
  have hs1 : s'.Canon := hs.reachEarly ..
  exact .ite (hs1.enterHalf ..) hs1

theorem stage (q : Nat) (b : Block16) (merging wt : Bool) (w : List LotEntry) : (s.stage q b merging wt w).Canon := by
  unfold State.stage
  extract_lets e x s1
  have hs1 : s1.Canon := hs.of_eq
  exact hs1.tally ..

theorem poisonQuire (q : Nat) : (s.poisonQuire q).Canon := by
  unfold State.poisonQuire
  extract_lets s1
  have hs1 : s1.Canon := (((hs.dropQuire ..).stage ..).poisonAdd ..).tally ..
  exact hs1.pumpQuire ..

/-! ## Media dies and channels as units that fail and return (R280 to R292, R304, R305) -/

theorem showLeft (c : Nat) : (s.showLeft c).Canon := hs.wrC ..

theorem repairDone (c : Nat) : (s.repairDone c).Canon := by
  unfold State.repairDone
  extract_lets m verifying
  split
  · exact hs
  · extract_lets s1 s2
    have hs1 : s1.Canon := (((hs.wrC ..).wrC ..).wrM ..).wrC ..
    have hs2 : s2.Canon := hs1.onRepair ..
    exact .ite (((hs2.raise ..).event ..).settle) hs

theorem leaveOld (c t : Nat) : (s.leaveOld c t).Canon := by
  unfold State.leaveOld
  exact .ite (hs.onRepair ..) (.ite (((hs.onRepair ..).showLeft ..).repairDone ..) hs)

theorem markWhole (c t m : Nat) : (s.markWhole c t m).Canon := by
  unfold State.markWhole
  exact .ite (hs.onRepair ..) hs

theorem askShort (c part : Nat) : (s.askShort c part).Canon := by
  unfold State.askShort
  split
  · exact hs
  · exact hs.of_eq

theorem poisonLive (c : Nat) (qs : List Nat) : (s.poisonLive c qs).Canon := by
  unfold State.poisonLive
  exact hs.foldl (fun _ _ hs => (hs.poisonQuire ..).mediaLoss ..) _

theorem dropPlans (c : Nat) : (s.dropPlans c).Canon := hs.of_eq rfl

theorem dropChannel (c : Nat) : (s.dropChannel c).Canon := by
  unfold State.dropChannel
  extract_lets qs s1 x x'
  have hs1 : s1.Canon := by
    unfold s1
    refine .dropPlans ?_ ..
    exact hs.foldl (fun _ _ hs => hs.dropQuire ..) _
  exact hs1.of_eq

theorem loseChannel (c cause : Nat) : (s.loseChannel c cause).Canon := by
  unfold State.loseChannel
  extract_lets s1 s2 s3 x s4
  have hs1 : s1.Canon := hs.foldl (fun _ _ hs => ((hs.wrM ..).wrM ..).journalC ..) _
  have hs2 : s2.Canon := (((hs1.wrC ..).wrC ..).wrC ..).wrC ..
  have hs3 : s3.Canon := (hs2.onRepair ..).dropChannel ..
  have hs4 : s4.Canon := hs3.of_eq
  exact .ite hs ((((hs4.raise ..).event ..).poolUpdate).settle)

theorem stopChannel (c : Nat) : (s.stopChannel c).Canon := by
  unfold State.stopChannel
  extract_lets xs
  refine .closeAll ?_ ..
  exact hs.foldl (fun _ _ hs => hs.rewrite ..) _

theorem setChan (c state member : Nat) : (s.setChan c state member).Canon := ((hs.wrC ..).wrC ..).showLeft ..

theorem expose (c m : Nat) : (s.expose c m).Canon := by
  unfold State.expose
  extract_lets s1
  have hs1 : s1.Canon := hs.onRepair ..
  exact (hs1.setChan ..).raise ..

theorem swap (c m spare : Nat) : (s.swap c m spare).Canon := by
  unfold State.swap
  extract_lets s1
  have hs1 : s1.Canon := hs.onRepair ..
  exact (((hs1.setChan ..).wrC ..).wrC ..).journalC ..

theorem swapOrExpose (c m : Nat) : (s.swapOrExpose c m).Canon := by
  unfold State.swapOrExpose
  split
  · exact .ite (hs.swap ..) (hs.expose ..)
  · exact hs.expose ..

theorem memberLost (c m cause : Nat) : (s.memberLost c m cause).Canon := by
  unfold State.memberLost
  extract_lets cm s1 s2
  have hs1 : s1.Canon := hs.poisonLive ..
  have hs2 : s2.Canon := by
    unfold s2
    split
    · exact hs1.wrM ..
    · exact hs1
  split
  · exact hs.swapOrExpose ..
  · exact .ite (hs.expose ..) ((hs.poisonLive ..).expose ..)
  · exact hs.loseChannel ..
  · exact .ite ((hs.onRepair ..).setChan ..) (hs2.swapOrExpose ..)
  · exact hs

theorem stopSteeps (n : Nat) : (s.stopSteeps n).Canon := hs.of_eq rfl

theorem dieFailed (n cause : Nat) : (s.dieFailed n cause).Canon := by
  unfold State.dieFailed
  extract_lets c role m hd x s1 s2 s3 s4
  have hs1 : s1.Canon := hs.of_eq
  have hs2 : s2.Canon := (((hs1.wrM ..).wrM ..).wrC ..).journalC ..
  have hs3 : s3.Canon := (hs2.raise ..).event ..
  have hs4 : s4.Canon := .ite (hs3.wrC ..) (((hs3.stopSteeps ..).stopChannel ..).memberLost ..)
  exact .ite hs (hs4.poolUpdate.settle.issue ..)

theorem dieAnswered (c m : Nat) : (s.dieAnswered c m).Canon := by
  unfold State.dieAnswered
  split
  · exact hs
  · exact hs.answered ..

theorem frameFailed (c m t : Nat) : (s.frameFailed c m t).Canon := by
  unfold State.frameFailed
  extract_lets s1
  have hs1 : s1.Canon := (((hs.dieAnswered ..).bumpC ..).tallyC ..).raise ..
  split
  · exact hs1
  · extract_lets hd recent s2 x s3
    have hs2 : s2.Canon := hs1.onTile ..
    have hs3 : s3.Canon := hs2.of_eq
    exact .ite (hs3.dieFailed ..) hs3

theorem tilesChecked (n : Nat) : (s.tilesChecked n).Canon := by
  unfold State.tilesChecked
  exact .ite (hs.dieFailed ..) hs

theorem cmdCrc (c m t : Nat) : (s.cmdCrc c m t).Canon := by
  unfold State.cmdCrc
  extract_lets s1
  have hs1 : s1.Canon := (hs.bumpC ..).tallyC ..
  split
  · exact hs1
  · extract_lets s1' hd x s2
    have hs2 : s1'.Canon := (hs1.badPacket ..).bankStatus ..
    have hs3 : s2.Canon := hs2.of_eq
    exact .ite (hs3.dieFailed ..) hs3

theorem readTimeout (c m : Nat) : (s.readTimeout c m).Canon := by
  unfold State.readTimeout
  split
  · exact hs
  · extract_lets hd x s2
    have hs1 : s2.Canon := hs.of_eq
    exact .ite (hs1.dieFailed ..) hs1

theorem dieReturns (n : Nat) : (s.dieReturns n).Canon := by
  unfold State.dieReturns
  extract_lets c m x s0 s1 s2
  have hs1 : s0.Canon := hs.of_eq
  have hs2 : s1.Canon := ((hs1.wrM ..).wrM ..).journalC ..
  have hs3 : s2.Canon := (hs2.onRepair ..).wrC ..
  exact .ite ((((hs3.setChan ..).repairDone ..).poolUpdate).settle) ((((((hs1.wrM ..).wrM ..).wrC ..).journalC ..).poolUpdate).settle)

theorem askSteeps : s.askSteeps.Canon := by
  unfold State.askSteeps
  refine hs.foldl (fun s p hs => ?_) _
  extract_lets c t
  split
  · exact .ite hs (hs.toDirty ..)
  · exact .ite hs (hs.toDirty ..)
  · exact .ite hs (hs.toDirty ..)
  · exact hs

theorem askAllShort : s.askAllShort.Canon := by
  unfold State.askAllShort
  refine hs.foldl (fun s c hs => ?_) _
  split
  · exact hs
  · exact hs.foldl (fun _ _ hs => hs.askShort ..) _

/-! ## The Caddy and the Kettle as operations (R184 to R221) -/

theorem grant (h : Nat) : (s.grant h).Canon := by
  unfold State.grant
  extract_lets mine other total rd left wr x s1
  have hs1 : s1.Canon := hs.of_eq
  exact .ite hs ((hs1.tally ..).tally ..)

theorem useCredit (h : Nat) (write : Bool) : (s.useCredit h write).Canon := hs.of_eq rfl

theorem withheld (d : Nat) (write : Bool) : (s.withheld d write).Canon := by
  unfold State.withheld
  exact .ite ((hs.bump ..).tally ..) (.ite (hs.tally ..) hs)

theorem dropCredits (h : Nat) : (s.dropCredits h).Canon := hs.of_eq rfl

theorem takeIn (line : Nat) (behind : Bool) : (s.takeIn line behind).Canon := by
  unfold State.takeIn
  exact .ite ((hs.bump ..).tally ..) hs

theorem request (event h line : Nat) : (s.request event h line).Canon := by
  unfold State.request
  extract_lets d x s1
  have hs1 : s1.Canon := .tally hs.of_eq ..
  exact .ite hs1 ((hs1.tally ..).tally ..)

theorem sendRead (d h : Nat) (tag : BitVec 16) (data : Option (BitVec 512)) : (s.sendRead d h tag data).Canon := (hs.send ..).tally ..

theorem sendReads (d : Nat) (l : List Out) : (s.sendReads d l).Canon := by
  unfold State.sendReads
  exact .tally hs.of_eq ..

theorem stageBlock (q : Nat) (b : Block16) (wt : Bool) (w : List LotEntry) : (s.stageBlock q b wt w).Canon := by
  unfold State.stageBlock
  extract_lets st full b1 s1
  have hs1 : s1.Canon := .ite (hs.bump ..) hs
  exact (hs1.stage ..).pumpQuire ..

theorem evictWay (p : Nat × Way) : (s.evictWay p).Canon := (((hs.clearWay ..).blockAccess ..).bump ..).stageBlock ..

theorem makeRoom (q ns : Nat) : (s.makeRoom q ns).Canon := by
  unfold State.makeRoom
  split
  · exact hs
  · exact (((hs.evictWay ..).bump ..).peak ..).tally ..

theorem wayForWrite (q ns : Nat) : (s.wayForWrite q ns).1.Canon := by
  unfold State.wayForWrite
  extract_lets d s1 s1' s2
  have hs1 : s1.Canon := hs.bump ..
  have hs2 : s1'.Canon := hs.bump ..
  have hs3 : s2.Canon := .ite (hs2.makeRoom ..) hs2
  split
  · split
    · exact hs1.makeRoom ..
    · exact hs1
  · exact hs3

theorem evicting (c : Nat) : (s.evicting c).Canon := hs.wrC ..

theorem indexWrite (line : Nat) (full poison host : Bool) : (s.indexWrite line full poison host).Canon := by
  unfold State.indexWrite
  exact .ite (hs.poisonAdd ..) (.ite (hs.poisonDel ..) hs)

theorem takePartial (q k : Nat) : (s.takePartial q k).Canon := hs.of_eq rfl

theorem writeLine (line : Nat) (data : BitVec 512) (be : BitVec 64) (full poison host : Bool) (ns : Nat) (w : Option LotEntry) :
    (s.writeLine line data be full poison host ns w).Canon := by
  unfold State.writeLine
  extract_lets q k s' p blk taken wt d x s0 s1 s2 s3 s4
  have hs1 : s'.Canon := .ite (hs.reachEarly ..) hs
  have hs2 : p.1.Canon := hs1.wayForWrite ..
  have hs3 : s0.Canon := (hs2.putWay ..).blockAccess ..
  have hs4 : s1.Canon := ((hs3.tally ..).tally ..).tally ..
  have hs5 : s2.Canon := .ite (hs4.takePartial ..) hs4
  have hs6 : s3.Canon := hs5.indexWrite ..
  have hs7 : s4.Canon := by
    unfold s4
    split
    · exact hs6.stageBlock ..
    · split
      · exact (hs6.send ..).tally ..
      · exact hs6
  exact hs7.evicting ..

end

end State.Canon

end Sys2Proof.Machine
end

section
/-! SUPPORT. Operations and commands that keep the stores in their canonical form: Engines.lean to Sensors.lean (R103).
The proofs are elaborated in turn: many short ones at once, each waiting for those before it, take a thread and its stack each. -/

namespace Sys2Proof.Machine

set_option Elab.async false

namespace State.Canon

section
variable {s : State} (hs : s.Canon)
include hs

/-! ## Engines (R463 to R474, R272 to R275) -/

theorem wrE (f : Field) (e v : Nat) : (s.wrE f e v).Canon := hs.wr ..

theorem raiseE (e k : Nat) : (s.raiseE e k).Canon := hs.raise ..

theorem passRole (r : Nat) {t : State} (ht : s.passRole r = some t) : t.Canon := by
  unfold State.passRole at ht
  split at ht
  · cases ht
    exact (((hs.wrE ..).wrE ..).wr ..).raiseE ..
  · extract_lets a b at ht
    split at ht
    · cases ht
    · split at ht
      · cases ht
        exact (hs.wrE ..).raiseE ..
      · split at ht
        · cases ht
          exact (((hs.wrE ..).wrE ..).raiseE ..).raiseE ..
        · cases ht

theorem passField (f : Field) (e : Nat) : (s.passField f e).Canon := by
  unfold State.passField
  extract_lets r
  split
  · exact hs
  · split
    · next t ht => exact ((hs.passRole r ht).wrE ..).log ..
    · exact hs

theorem promote (e : Nat) : (s.promote e).Canon := by
  unfold State.promote
  exact .ite ((hs.wrE ..).wrE ..) hs

theorem engineReset (e : Nat) : (s.engineReset e).Canon := by
  unfold State.engineReset
  extract_lets s1
  have hs1 : s1.Canon := .tally (.resetRegs hs.of_eq ..) ..
  exact .raiseE (.ite hs1 (hs1.wrE ..)) ..

theorem engineFailed (e cause : Nat) : (s.engineFailed e cause).Canon := by
  unfold State.engineFailed
  extract_lets s1 s2 s3
  have hs1 : s1.Canon := (hs.wrE ..).wrE ..
  have hs2 : s2.Canon := .ite (hs1.wr ..) hs1
  have hs3 : s3.Canon := ((hs2.passField ..).passField ..).promote ..
  exact (((hs3.raiseE ..).pageCommit ..).settle).foldl (fun _ _ hs => hs.issue ..) _

theorem faultRecord (e cause pc addr : Nat) : (s.faultRecord e cause pc addr).Canon := by
  unfold State.faultRecord
  extract_lets s1 s2
  have hs1 : s1.Canon := .ite (hs.bump ..) (hs.bump ..)
  have hs2 : s2.Canon := ((hs1.wrE ..).wrE ..).wrE ..
  exact (hs2.raiseE ..).log ..

theorem countFault (e : Nat) : (s.countFault e).Canon := by
  unfold State.countFault
  exact .wrE hs.of_eq ..

theorem engineFaults (e cause pc addr : Nat) : (s.engineFaults e cause pc addr).Canon := by
  unfold State.engineFaults
  extract_lets s1 limit s2
  have hs1 : s1.Canon := (hs.faultRecord ..).countFault ..
  have hs2 : s2.Canon := hs1.engineFailed ..
  exact .ite (.engineReset hs1.of_eq ..) (.ite (hs1.engineReset ..) (.ite (hs1.engineFailed ..)
    (.ite (.ite (hs2.engineReset ..) hs2) (hs1.engineReset ..))))

theorem countTrap (e : Nat) (cause : EngineCause) : (s.countTrap e cause).Canon := by
  unfold State.countTrap
  split
  · exact hs.bump ..
  · exact hs.bump ..
  · exact hs

theorem execEngineFault (engine : Fin 48) (cause : EngineCause) (pc : BitVec 64) (addr : BitVec 48) :
    Res.Canon (execEngineFault engine cause pc addr s) :=
  .next (.ite hs ((hs.countTrap ..).engineFaults ..))

theorem execWatchdogExpiry (engine : Fin 48) (pc : BitVec 64) : Res.Canon (execWatchdogExpiry engine pc s) :=
  .next (.ite hs (hs.engineFaults ..))

theorem execEngineResetReady (engine : Fin 48) (ready : Bool) : Res.Canon (execEngineResetReady engine ready s) := by
  unfold Machine.execEngineResetReady
  refine .next ?_
  extract_lets e st s1
  have hs1 : s1.Canon := hs.bump ..
  split
  · exact hs
  · split
    · exact hs.engineFaults ..
    · exact .foldl (.raiseE (.ite hs1 (hs1.wrE ..)) ..) (fun _ _ hs => hs.issue ..) _

theorem execDmaHalt (engine : Fin 48) (channel : Fin 4) (addr : BitVec 48) : Res.Canon (execDmaHalt engine channel addr s) :=
  .next (.ite hs (((((hs.wrBit ..).wrE ..).bump ..).bump ..).raiseE ..))

theorem execSramSweep (die : Fin 2) (corrected : Nat) (uncorrectable : List (Fin 24 × Nat)) :
    Res.Canon (execSramSweep die corrected uncorrectable s) := by
  unfold Machine.execSramSweep
  refine .next ?_
  extract_lets s1
  have hs1 : s1.Canon := (hs.bump ..).tally ..
  split
  · exact hs
  · exact hs1.foldl (fun _ _ hs => hs.of_eq) _

theorem takeBackMg (e : Nat) {t : State} (ht : s.takeBackMg e = some t) : t.Canon := by
  unfold State.takeBackMg at ht
  extract_lets a b at ht
  split at ht
  · cases ht
    exact (((hs.wrE ..).wrE ..).wrE ..).wrE ..
  · cases ht

theorem engineReturns (e : Nat) : (s.engineReturns e).Canon := by
  unfold State.engineReturns
  extract_lets d s0 s1
  have hs0 : s0.Canon := hs.wrE ..
  have hs1 : s1.Canon := by
    unfold s1
    split
    · exact hs0.wrE ..
    · split
      · next t _ ht => exact hs0.takeBackMg e ht
      · exact ((hs0.wrE ..).wrE ..).wrE ..
      · exact (hs0.wrE ..).wr ..
  exact ((hs1.raiseE ..).pageCommit ..).settle

theorem layRoles : s.layRoles.Canon := by
  unfold State.layRoles
  extract_lets s' bad s1 s2
  have hs1 : s'.Canon := hs.of_eq
  have hs2 : s1.Canon := hs1.foldl (fun _ _ hs => .wrE (.wrE (.ite hs (hs.wrE ..)) ..) ..) _
  have hs3 : s2.Canon := hs2.foldl (fun _ _ hs => hs.wr ..) _
  exact hs3.foldl (fun _ _ hs => hs.passField ..) _

/-! ## The LPDDR5X packages -/

theorem showPackages (d : Nat) : (s.showPackages d).Canon := (hs.wr ..).wr ..

theorem payDebt (n : Nat) : (s.payDebt n).Canon := ((hs.onPkg ..).bump ..).tallyP ..

theorem setRate (n code : Nat) : (s.setRate n code).Canon := by
  unfold State.setRate
  extract_lets old s1 worst
  have hs1 : s1.Canon := (hs.wrP ..).raiseP ..
  exact .ite hs (.ite hs1 ((hs1.peak ..).payDebt ..))

theorem execRefreshDue (package : Fin 4) (channel : Fin 8) (rank : Fin 2) : Res.Canon (execRefreshDue package channel rank s) := by
  unfold Machine.execRefreshDue
  refine .next ?_
  extract_lets n d k key owed s1
  have hs1 : s1.Canon := .ite (hs.issueRefresh ..) hs
  exact .ite hs (.ite ((hs.onPkg ..).peak ..) (hs1.onBus ..))

theorem evictDie (d : Nat) : (s.evictDie d).Canon := by
  unfold State.evictDie
  exact hs.foldl (fun _ _ hs => hs.evictWay ..) _

theorem emptyDie (d sets : Nat) : (s.emptyDie d sets).Canon := by
  unfold State.emptyDie
  refine .wr ?_ ..
  exact { hs with ways := Tab.rising_filter _ hs.ways }

theorem dramLoss (n q : Nat) (mask : BitVec 16) : (s.dramLoss n q mask).Canon := ((hs.poisonMask ..).event ..).log ..

theorem loseBlock (n : Nat) (p : Nat × Way) : (s.loseBlock n p).Canon := ((hs.clearWay ..).dramLoss ..).stageBlock ..

theorem relay (n : Nat) : (s.relay n).Canon := by
  unfold State.relay
  extract_lets d bad s0 s1
  have hs1 : s0.Canon := hs.onBus ..
  have hs2 : s1.Canon := by
    unfold s1
    refine .emptyDie ?_ ..
    refine .evictDie ?_ ..
    exact hs1.foldl (fun _ _ hs => hs.loseBlock ..) _
  exact hs2.foldl (fun _ _ hs => hs.engineReset ..) _

theorem packageLost (n cause : Nat) : (s.packageLost n cause).Canon := by
  unfold State.packageLost
  extract_lets d last s1 s2 s3 s4 s5
  have hs1 : s1.Canon := .ite (hs.relay ..) hs
  have hs2 : s2.Canon := ((hs1.wrP ..).wrP ..).onPkg ..
  have hs3 : s3.Canon := (hs2.showPackages ..).raiseP ..
  have hs4 : s4.Canon := (hs3.event ..).event ..
  have hs5 : s5.Canon := by
    unfold s5
    split
    · exact hs4.foldl (fun _ _ hs => hs.loseChannel ..) _
    · exact hs4
  exact .ite hs hs5.showLimits.settle

theorem readmit (n : Nat) : (s.readmit n).Canon := by
  unfold State.readmit
  extract_lets d s1 s2
  have hs1 : s1.Canon := (hs.evictDie ..).emptyDie ..
  have hs2 : s2.Canon := (hs1.wrP ..).wrP ..
  exact .ite hs (((hs2.showPackages ..).showLimits).settle)

theorem dramCorrected (n ch : Nat) : (s.dramCorrected n ch).Canon := by
  unfold State.dramCorrected
  extract_lets i s1
  have hs1 : s1.Canon := (hs.bump ..).tallyP ..
  exact .ite (hs1.raiseP ..) hs1

theorem unitLost (n p : Nat) : (s.unitLost n p).Canon := by
  unfold State.unitLost
  extract_lets marked s1 burst rows s2
  have hs1 : s1.Canon := (((hs.bump ..).tallyP ..).tallyP ..).raiseP ..
  have hs2 : s2.Canon := hs1.onPkg ..
  exact .ite (hs2.packageLost ..) (.ite (hs2.packageLost ..) hs2)

/-! ## Lookup and the Kettle as operations (R184, R190 to R206, R221, R271) -/

theorem tagLost (q : Nat) : (s.tagLost q).Canon := by
  unfold State.tagLost
  extract_lets d qs s1
  have hs1 : s1.Canon := by
    unfold s1
    refine .bump ?_ ..
    exact hs.foldl (fun _ _ hs => hs.poisonQuire ..) _
  exact ((hs1.mediaLoss ..).event ..).log ..

theorem mapLost (q : Nat) (read : Bool) : (s.mapLost q read).Canon := by
  unfold State.mapLost
  extract_lets s1
  have hs1 : s1.Canon := by
    unfold s1
    refine .bump ?_ ..
    exact hs.foldl (fun _ _ hs => hs.poisonQuire ..) _
  exact (hs1.mediaLoss ..).raiseLog ..

theorem lineLost (line : Nat) : (s.lineLost line).Canon := by
  unfold State.lineLost
  extract_lets q k n x
  split
  · exact .ite hs (.ite (((hs.putWay ..).blockAccess ..).dramLoss ..) (hs.putWay ..))
  · exact .ite (.dramLoss hs.of_eq ..) hs

theorem dataBad (line : Nat) : (s.dataBad line).Canon := by
  unfold State.dataBad
  extract_lets q
  split
  · exact (hs.lineLost ..).unitLost ..
  · exact hs.lineLost ..

theorem meets (line : Nat) (env : PathEnv) (read : Bool) : (s.meets line env read).Canon := by
  unfold State.meets
  extract_lets q d s1 s2 s3
  have hs1 : s1.Canon := (hs.tagTouch ..).mapTouch ..
  have hs2 : s2.Canon := by
    unfold s2
    split
    · exact hs1
    · exact hs1.bump ..
    · exact hs1.tagLost ..
  have hs3 : s3.Canon := by
    unfold s3
    split
    · exact hs2
    · exact .ite (hs2.bump ..) (hs2.bump ..)
    · exact hs2.mapLost ..
  exact .ite (hs3.dataBad ..) hs3

theorem kettle (c t f m : Nat) (late : Bool) : (s.kettle c t f m late).1.Canon := by
  unfold State.kettle
  extract_lets key x suspend
  have hsuspend (limit : Nat) : (suspend limit).1.Canon := by
    unfold suspend
    split
    · exact hs
    · split
      · exact .tallyC (.bumpC hs.of_eq ..) ..
      · exact ((hs.bankStatus ..).bumpC ..).tallyC ..
  split
  · exact hs
  · split
    · exact hs
    · exact hs
    · exact hsuspend 8
    · exact hsuspend 64

theorem issuePlan (p : Plan) : (s.issuePlan p).Canon := by
  unfold State.issuePlan
  extract_lets c m k s1 set x
  have hs1 : k.1.Canon := by
    unfold k
    split
    · exact hs.kettle ..
    · exact hs
  have hs2 : s1.Canon := by
    unfold s1
    split
    · exact .ite (((hs1.bumpC ..).tally ..).tallyC ..) ((hs1.tally ..).tallyC ..)
    · exact hs1.tallyC ..
  exact .ite hs hs2.of_eq

theorem plan (q sheet : Nat) (purpose : Purpose) (late : Bool) (rs : List LotEntry) : (s.plan q sheet purpose late rs).Canon := by
  unfold State.plan
  exact .issuePlan hs.of_eq ..

theorem stage5 (late : Bool) (r : LotEntry) : (s.stage5 late r).Canon := by
  unfold State.stage5
  extract_lets q n x s1 blk
  have hs1 : s1.Canon := hs.plan ..
  split
  · exact hs.of_eq
  · split
    · exact hs1.foldl (fun _ _ hs => hs.plan ..) _
    · exact hs1

theorem endPlan (p : Plan) : (s.endPlan p).Canon := by
  unfold State.endPlan
  extract_lets left busy x x' s1
  have hs1 : s1.Canon := hs.of_eq
  exact hs1.foldl (fun _ _ hs => hs.issuePlan ..) _

theorem fill (p : Plan) : (s.fill p).Canon := by
  unfold State.fill
  extract_lets q
  split
  · exact hs
  · split
    · exact ((hs.putWay ..).blockAccess ..).tally ..
    · split
      · exact hs
      · split
        · exact ((hs.putWay ..).blockAccess ..).tally ..
        · exact (hs.bump ..).tally ..

theorem deliver (p : Plan) : (s.deliver p).Canon := ((hs.endPlan ..).fill ..).sendReads ..

theorem frameClean (c m t bits : Nat) : (s.frameClean c m t bits).Canon := by
  unfold State.frameClean
  extract_lets s0 s1 s2 s3
  have hs1 : s0.Canon := hs.dieAnswered ..
  have hs2 : s1.Canon := .ite ((hs1.bumpC ..).tallyC ..) hs1
  have hs3 : s2.Canon := hs2.bumpC ..
  have hs4 : s3.Canon := by
    unfold s3
    split
    · exact hs3.onTile ..
    · exact hs3
  exact .ite (.ite (hs4.raise ..) hs4) hs2

theorem staleLost (p : Plan) : (s.staleLost p).Canon := by
  unfold State.staleLost
  exact (hs.endPlan ..).foldl (fun _ _ hs => .ite (hs.stage5 ..) (hs.sendRead ..)) _

theorem sheetLost (p : Plan) (m : Nat) : (s.sheetLost p m).Canon := by
  unfold State.sheetLost
  extract_lets q c held lines s1 s2 set x s3
  have hs1 : s1.Canon := (hs.endPlan ..).foldl (fun _ _ hs => hs.poisonAdd ..) _
  have hs2 : s2.Canon := (((hs1.bumpC ..).tally ..).mediaLoss ..).raiseLog ..
  have hs3 : s3.Canon := by
    unfold s3
    split
    · exact hs2
    · split
      · exact hs2.putWay ..
      · split
        · exact hs2.stageBlock ..
        · exact .pumpQuire hs2.of_eq ..
  exact hs3.sendReads ..

theorem abandonLoss (q n : Nat) : (s.abandonLoss q n).Canon := hs.of_eq rfl

theorem deepRecovery (p : Plan) (m : Nat) (reissue : Bool) (o : DeepOutcome) (ns : Nat) : (s.deepRecovery p m reissue o ns).Canon := by
  unfold State.deepRecovery
  extract_lets c s0 s1 o' step ended s2
  clear_value o'
  have hs0 : s0.Canon := ((hs.bumpC ..).tally ..).tally ..
  have hs1 : s1.Canon := (hs0.raise ..).peak ..
  have hended : (ended s1).Canon := (hs1.bump ..).log ..
  have hs2 : s2.Canon := (hended.deliver ..).abandonLoss ..
  split
  · exact hs1.halt ..
  · exact .ite (hended.sheetLost ..) (hended.staleLost ..)
  · exact hs2
  · exact hs2
  · exact .ite (hs2.relocate ..) hs2

theorem planFailed (p : Plan) (m : Nat) (reissue : Bool) (o : DeepOutcome) (ns : Nat) : (s.planFailed p m reissue o ns).Canon := by
  unfold State.planFailed
  split
  · exact hs
  · split
    · exact hs.deepRecovery ..
    · exact hs.endPlan ..

theorem allAnswered (p : Plan) : (s.allAnswered p).Canon := by
  unfold State.allAnswered
  exact hs.foldl (fun _ _ hs => hs.answered ..) _

theorem planDone (p : Plan) (o : ReadOutcome) : (s.planDone p o).Canon := by
  unfold State.planDone
  extract_lets c m o' s0 s1 s2
  have hs1 : s0.Canon := hs.tallyC ..
  have hs2 : s1.Canon := .ite (hs1.peak ..) hs1
  have hs3 : s2.Canon := hs2.tally ..
  split
  · exact .ite ((hs1.allAnswered ..).planFailed ..) (.deliver (.ite (hs3.allAnswered ..) (hs3.frameClean ..)) ..)
  · exact hs1.halt ..
  · exact (hs1.frameFailed ..).planFailed ..
  · extract_lets s1'
    have hs4 : s1'.Canon := by
      unfold s1'
      split
      · exact (hs1.bankStatus ..).answered ..
      · exact hs1
    exact (hs4.tallyC ..).planFailed ..
  · extract_lets s1'
    have hs4 : s1'.Canon := hs1.cmdCrc ..
    split
    · exact hs4.planFailed ..
    · exact hs4

/-! ## The LPDDR5X controller's own work (R229, R241 to R252) -/

theorem unitBad (n p : Nat) : (s.unitBad n p).Canon := by
  unfold State.unitBad
  extract_lets s1
  have hs1 : s1.Canon := by
    unfold s1
    split
    · exact hs.lineLost ..
    · exact hs
  exact hs1.unitLost ..

theorem patrolUnit (n p : Nat) (bad : List (Fin 72)) (checkLost : Bool) : (s.patrolUnit n p bad checkLost).Canon := by
  unfold State.patrolUnit
  split
  · exact hs.unitBad ..
  · split
    · exact hs
    · exact hs.dramCorrected ..
    · exact hs.unitBad ..

theorem patrolGroup (n : Nat) (data : List (Fin 7 × List (Fin 72))) (check : List (Fin 72)) : (s.patrolGroup n data check).Canon := by
  unfold State.patrolGroup
  extract_lets g errors checkLost s1 s2 s3 s4
  have hs1 : s1.Canon := (hs.accesses ..).tallyP ..
  have hs2 : s2.Canon := .ite (hs1.raiseP ..) (.ite (hs1.dramCorrected ..) hs1)
  have hs3 : s3.Canon := hs2.foldl (fun _ _ hs => hs.patrolUnit ..) _
  have hs4 : s4.Canon := hs3.onPkg ..
  exact .ite (hs4.bump ..) hs4

theorem execDramPatrol (package : Fin 4) (data : List (Fin 7 × List (Fin 72))) (check : List (Fin 72)) :
    Res.Canon (execDramPatrol package data check s) :=
  .next (.ite hs (hs.patrolGroup ..))

theorem trainingSlot (n : Nat) : (s.trainingSlot n).Canon := by
  unfold State.trainingSlot
  extract_lets first older s1
  have hs1 : s1.Canon := hs.onPkg ..
  exact hs1.foldl (fun _ _ hs => hs.pageCommit ..) _

theorem driftSeen (n channel drift : Nat) : (s.driftSeen n channel drift).Canon := by
  unfold State.driftSeen
  extract_lets old s1 s2 due
  have hs1 : s1.Canon := (hs.onPkg ..).peak ..
  have hs2 : s2.Canon := .ite (hs1.trainingSlot ..) hs1
  exact .ite ((hs2.wrBit ..).raiseP ..) hs2

theorem execDriftCheck (package : Fin 4) (channel : Fin 8) (drift : Nat) : Res.Canon (execDriftCheck package channel drift s) :=
  .next (.ite hs (.ite ((hs.driftSeen ..).packageLost ..) (hs.driftSeen ..)))

theorem showRemap (n : Nat) : (s.showRemap n).Canon := hs.wrP ..

theorem remapInto (n e channel rank bank row : Nat) : (s.remapInto n e channel rank bank row).Canon := by
  unfold State.remapInto
  extract_lets i d s0 s1 s2
  have hs1 : s0.Canon := hs.finishCopy ..
  have hs2 : s1.Canon := (((hs1.wr ..).wr ..).wr ..).wr ..
  have hs3 : s2.Canon := ((hs2.wr ..).wr ..).wr ..
  exact (((hs3.onPkg ..).showRemap ..).pageCommit ..).raiseP ..

theorem execRowRemap (package : Fin 4) (channel : Fin 8) (rank : Fin 2) (bank : Fin 16) (row : Fin 131072) (uncorrectable : Bool)
    (units : List Nat) : Res.Canon (execRowRemap package channel rank bank row uncorrectable units s) := by
  unfold Machine.execRowRemap
  refine .next ?_
  extract_lets n key bad
  split
  · exact hs
  · split
    · exact hs.remapInto ..
    · exact hs.raiseP ..

theorem repairRows (n : Nat) : (s.repairRows n).Canon := by
  unfold State.repairRows
  refine hs.foldl (fun s e hs => ?_) _
  extract_lets i s1
  have hs1 : s1.Canon := ((hs.wr ..).wr ..).wr ..
  exact .ite (((hs1.bump ..).wrP ..).showRemap ..) hs

theorem shadowTiming (d : Nat) : (s.shadowTiming d).Canon := ((((hs.wr ..).wr ..).wr ..).wr ..).wr ..

theorem setPoint (d code : Nat) : (s.setPoint d code).Canon := by
  unfold State.setPoint
  extract_lets s1
  have hs1 : s1.Canon := ((((hs.payDebt ..).payDebt ..).bump ..).tallyP ..).tallyP ..
  exact .ite hs (((hs1.shadowTiming ..).wr ..).wr ..)

theorem centerBad (c : Centering) : (s.centerBad c).Canon := by
  unfold State.centerBad
  extract_lets n s1
  have hs1 : s1.Canon := hs.raiseP ..
  exact .ite hs (.ite (hs1.packageLost ..) ((hs1.wrBit ..).onPkg ..))

theorem centered (before : State) (l : List Centering) : (s.centered before l).Canon := by
  unfold State.centered
  exact hs.foldl (fun _ _ hs => .ite (hs.centerBad ..) hs) _

theorem retrain (n : Nat) : (s.retrain n).Canon := by
  unfold State.retrain
  exact .ite hs ((hs.wrP ..).onPkg ..)

/-! ## The commands of the read and write paths -/

theorem readAt (line : Nat) (env : PathEnv) (h : Nat) (tag : BitVec 16) : (s.readAt line env h tag).Canon := by
  unfold State.readAt
  extract_lets q d s1 p
  have hs1 : s1.Canon := by
    unfold s1
    split
    · exact (hs.putWay ..).blockAccess ..
    · exact hs
  split
  · exact ((hs1.bump ..).tally ..).sendRead ..
  · exact ((hs.bump ..).tally ..).sendRead ..
  · exact hs.sendRead ..
  · exact ((hs.bump ..).tally ..).stage5 ..

theorem readLine (line : Nat) (env : PathEnv) (behind : Bool) (h : Nat) (tag : BitVec 16) : (s.readLine line env behind h tag).Canon := by
  unfold State.readLine
  extract_lets s1 d s2
  have hs1 : s1.Canon := hs.takeIn ..
  have hs2 : s2.Canon := hs1.meets ..
  exact .ite (hs1.sendRead ..) (.ite (hs2.sendRead ..) (hs2.readAt ..))

theorem writeDpa (line : Nat) (data : BitVec 512) (be : BitVec 64) (full poison : Bool) (env : PathEnv) (behind : Bool) (h : Nat)
    (tag : BitVec 16) : (s.writeDpa line data be full poison env behind h tag).Canon := by
  unfold State.writeDpa
  extract_lets s1 d w s2
  have hs1 : s1.Canon := hs.takeIn ..
  have hs2 : s2.Canon := hs1.meets ..
  exact .ite (((hs1.send ..).tally ..).tally ..) (.ite ((hs2.tally ..).writeLine ..) (hs2.writeLine ..))

theorem admitRead (h : Nat) (tag : BitVec 16) (hpa : Nat) (env : PathEnv) (behind : Bool) : (s.admitRead h tag hpa env behind).Canon := by
  unfold State.admitRead
  extract_lets s1
  have hs1 : s1.Canon := hs.useCredit ..
  split
  · exact hs1.send ..
  · exact ((hs1.request ..).readLine ..).withheld ..

theorem admitWrite (h : Nat) (tag : BitVec 16) (hpa : Nat) (data : BitVec 512) (be : BitVec 64) (full poison : Bool) (env : PathEnv)
    (behind : Bool) : (s.admitWrite h tag hpa data be full poison env behind).Canon := by
  unfold State.admitWrite
  extract_lets s1
  have hs1 : s1.Canon := hs.useCredit ..
  split
  · exact hs1.send ..
  · exact ((hs1.request ..).writeDpa ..).withheld ..

theorem letIn (i : Instr) (behind : Bool) : (s.letIn i behind).Canon := by
  unfold State.letIn
  split
  · exact hs
  · extract_lets s1
    have hs1 : s1.Canon := hs.grant ..
    split
    · exact hs1
    · split
      · exact hs1.admitRead ..
      · exact hs1.admitWrite ..
      · exact hs1.admitWrite ..
      · exact hs1

theorem forwards (first second : Instr) : (s.forwards first second).Canon := by
  unfold State.forwards
  split
  · exact .ite ((hs.bump ..).tally ..) hs
  · exact hs

theorem passTie (first : Instr) : (s.passTie first).Canon := hs.wr ..

theorem arrive (i : Instr) : (s.arrive i).Canon := by
  unfold State.arrive
  split
  · extract_lets x' s1
    have hs1 : s1.Canon := hs.of_eq
    exact .ite (.letIn (.ite hs1 (hs1.letIn ..)) ..) (.ite ((hs1.forwards ..).letIn ..)
      ((((hs1.passTie ..).letIn ..).forwards ..).letIn ..))
  · split
    · extract_lets s1 x' x''
      have hs1 : s1.Canon := (hs.passTie ..).letIn ..
      exact .ite (.ite hs1.of_eq hs.of_eq) (hs.letIn ..)
    · exact hs.letIn ..

theorem execMemrd (head : Fin 2) (tag : BitVec 16) (hpa : Nat) (env : PathEnv) : Res.Canon (execMemrd head tag hpa env s) :=
  .next (hs.arrive ..)

theorem execMemspecrd (head : Fin 2) (hpa : Nat) (env : PathEnv) : Res.Canon (execMemspecrd head hpa env s) := by
  unfold Machine.execMemspecrd
  refine .next ?_
  split
  · exact hs
  · split
    · exact hs
    · extract_lets q s1
      have hs1 : s1.Canon := (hs.request ..).meets ..
      exact .ite hs (.ite (hs1.plan ..) hs1)

theorem execMemwr (head : Fin 2) (tag : BitVec 16) (hpa : Nat) (data : Line) (poison : Bool) (env : PathEnv) :
    Res.Canon (execMemwr head tag hpa data poison env s) :=
  .next (hs.arrive ..)

theorem execMemwrptl (head : Fin 2) (tag : BitVec 16) (hpa : Nat) (data : Line) (be : ByteEnables) (poison : Bool) (env : PathEnv) :
    Res.Canon (execMemwrptl head tag hpa data be poison env s) :=
  .next (hs.arrive ..)

theorem execMediaReadReady (plan : Nat) (o : ReadOutcome) : Res.Canon (execMediaReadReady plan o s) := by
  unfold Machine.execMediaReadReady
  refine .next ?_
  split
  · exact hs
  · exact hs.planDone ..

theorem execMediaReadTimeout (plan : Nat) (member : Fin 9) (deep : DeepOutcome) (ns : Nat) :
    Res.Canon (execMediaReadTimeout plan member deep ns s) := by
  unfold Machine.execMediaReadTimeout
  refine .next ?_
  split
  · exact hs
  · exact ((hs.readTimeout ..).tallyC ..).planFailed ..

theorem execDieSelfResume (die : Fin 320) (bank : Fin 1024) : Res.Canon (execDieSelfResume die bank s) := .next hs.of_eq

theorem sweepSet (d set : Nat) : (s.sweepSet d set).Canon := by
  unfold State.sweepSet
  refine hs.foldl (fun s w hs => ?_) _
  split
  · exact hs
  · extract_lets y c x' s1 old x''
    have hs1 : s1.Canon := { hs with ways := Tab.rising_ins _ _ hs.ways }
    exact .ite (.evictWay hs1.of_eq ..) hs1

theorem execEvictionSweep (die : Fin 2) : Res.Canon (execEvictionSweep die s) := by
  unfold Machine.execEvictionSweep
  refine .next ?_
  extract_lets d s0 set s1 last x s2 x'
  have hs1 : s0.Canon := hs.foldl (fun _ _ hs => hs.evicting ..) _
  have hs2 : s1.Canon := hs1.sweepSet ..
  have hs3 : s2.Canon := hs2.of_eq
  exact .ite hs (.ite hs3.of_eq hs3)

theorem evictDown (d floor : Nat) : (s.evictDown d floor).Canon := by
  unfold State.evictDown
  exact hs.foldl (fun _ _ hs => .ite (hs.evictWay ..) hs) _

theorem execIdleEviction (die : Fin 2) : Res.Canon (execIdleEviction die s) := .next (.ite hs (hs.evictDown ..))

theorem mergeLost (q n : Nat) (before after : Block16) : (s.mergeLost q n before after).Canon := by
  unfold State.mergeLost
  extract_lets e m c lost s1
  have hs1 : s1.Canon := (hs.poisonMask ..).tally ..
  exact (hs1.mediaLoss ..).raiseLog ..

theorem execPartialMerge (die : Fin 2) (o : SheetOutcome) : Res.Canon (execPartialMerge die o s) := by
  unfold Machine.execPartialMerge
  refine .next ?_
  split
  · exact hs
  · split
    · exact hs
    · split
      · exact hs
      · extract_lets n e' sheet fill s1 x' s2 x''
        have hs1 : s1.Canon := (hs.bump ..).tally ..
        have hs2 : s2.Canon := hs1.of_eq
        split
        · exact hs2.putWay ..
        · exact (hs2.putWay ..).mergeLost ..
        · exact hs.halt ..

theorem mergeSheet (q n : Nat) (b : Block16) (o : SheetOutcome) : (s.mergeSheet q n b o).1.Canon := by
  unfold State.mergeSheet
  extract_lets e
  split
  · exact hs
  · split
    · exact hs
    · split
      · exact hs.mergeLost ..
      · exact hs
    · split
      · exact hs.mergeLost ..
      · exact hs
    · exact hs

theorem mergeStaged (e : Staged) (sheets : List SheetOutcome) : (s.mergeStaged e sheets).Canon := by
  unfold State.mergeStaged
  extract_lets q p s1 x s2
  have hp : p.1.Canon := hs.foldl_fst (fun _ _ hp => hp.mergeSheet ..) _ _
  have hs1 : s1.Canon := (hp.bump ..).tally ..
  have hs2 : s2.Canon := hs1.of_eq
  exact hs2.pumpQuire ..

theorem execDeferredMerge (staged : Nat) (sheets : List SheetOutcome) : Res.Canon (execDeferredMerge staged sheets s) := by
  unfold Machine.execDeferredMerge
  refine .next ?_
  split
  · exact hs
  · exact .ite hs (.ite (hs.halt ..) (hs.mergeStaged ..))

theorem execStripeWaitExpiry (channel : Fin 32) (stream : Fin 3) : Res.Canon (execStripeWaitExpiry channel stream s) :=
  .next (.ite (hs.flushHalf ..) hs)

/-! ## The rows of the leaf table (R407), and the transports with their dies and merge inputs (R386, R402) -/

theorem discardReplies (h : Nat) : (s.discardReplies h).Canon := hs.of_eq rfl

/-! ## The commands of the map, the media and the scrubber (R152 to R182, R261 to R270, R280 to R292) -/

theorem cmdCrcs (c t : Nat) (ms : List Nat) : (s.cmdCrcs c t ms).Canon := by
  unfold State.cmdCrcs
  exact hs.foldl (fun _ _ hs => hs.cmdCrc ..) _

theorem execStripeComplete (channel : Fin 32) (segment : Fin 65536) (ends : ProgramEnds) :
    Res.Canon (execStripeComplete channel segment ends s) := by
  unfold Machine.execStripeComplete
  refine .next ?_
  extract_lets c t
  split
  · exact hs
  · extract_lets ps again status s1
    have hs1 : s1.Canon := hs.programsEnd ..
    exact .ite hs (.ite ((hs.cmdCrcs ..).issue ..) (.ite (hs1.stripeDone ..) (((hs1.bumpC ..).rewrite ..).issue ..)))

theorem steeped (x : Steep) : (s.steeped x).Canon := by
  unfold State.steeped
  extract_lets c t s1 x' x'' s2 s3 s4
  have hs1 : s1.Canon := hs.onSeg ..
  have hs2 : s2.Canon := { hs1 with images := Tab.rising_filter _ hs1.images }
  have hs3 : s3.Canon := (hs2.tally ..).onRepair ..
  have hs4 : s4.Canon := hs3.foldl (fun _ _ hs => .ite (hs.markWhole ..) hs) _
  exact (hs4.leaveOld ..).journalC ..

theorem bgDone (h rc : Nat) : (s.bgDone h rc).Canon := by
  unfold State.bgDone
  extract_lets s1
  have hs1 : s1.Canon := hs.onHead ..
  exact .ite (hs1.msix ..) hs1

theorem eraseSteeped (c t : Nat) : (s.eraseSteeped c t).Canon := by
  unfold State.eraseSteeped
  split
  · exact hs
  · exact .ite hs (.ite (.bgDone hs.of_eq ..) hs.of_eq)

theorem steepFailed (c t n : Nat) : (s.steepFailed c t n).1.Canon := by
  unfold State.steepFailed
  extract_lets s1 hd x s2 r
  have hs1 : s1.Canon := hs.bumpC ..
  have hs2 : s2.Canon := hs1.of_eq
  have hs3 : r.1.Canon := hs2.redirect ..
  exact hs3.tilesChecked ..

theorem steepEnds (x : Steep) : (s.steepEnds x).Canon := by
  unfold State.steepEnds
  extract_lets c t x' s1
  have hs1 : s1.Canon := hs.of_eq
  split
  · exact ((hs.steeped ..).eraseSteeped ..).issue ..
  · exact ((((hs1.clearSuspends ..).markWhole ..).askShort ..).repairDone ..).issue ..

theorem execSteepDone (channel : Fin 32) (segment : Fin 65536) (ends : SteepEnds) :
    Res.Canon (execSteepDone channel segment ends s) := by
  unfold Machine.execSteepDone
  refine .next ?_
  extract_lets c t
  split
  · exact hs
  · extract_lets on again s1 failed r
    have hs1 : s1.Canon := (hs.clearSuspends ..).foldl (fun _ _ hs => hs.steepDie ..) _
    have hr : r.1.Canon := by
      refine hs1.foldl_fst (fun p n hp => ?_) _ _
      exact hp.steepFailed ..
    refine .ite hs (.ite ((hs.cmdCrcs ..).issue ..) (.ite (hs1.steepEnds ..) ?_))
    split
    · exact hr.issue ..
    · extract_lets z s2
      have hs2 : s2.Canon := hr.of_eq
      exact .ite (.ite (hr.steepEnds ..) hr.of_eq) ((((hs2.retireSeg ..).leaveOld ..).eraseSteeped ..).issue ..)

theorem execSegmentOpenTimeout (channel : Fin 32) (segment : Fin 65536) : Res.Canon (execSegmentOpenTimeout channel segment s) :=
  .next (.ite (hs.closeSeg ..) hs)

theorem rewriteReserve (c t : Nat) : (s.rewriteReserve c t).Canon := by
  unfold State.rewriteReserve
  split
  · exact hs
  · exact (((hs.openReserve ..).releaseReserve ..).leaveOld ..).issue ..

theorem pulpPass (c t : Nat) (lost : List (Nat × Nat)) : (s.pulpPass c t lost).Canon := by
  unfold State.pulpPass
  extract_lets s0 s1 s2
  have hs1 : s0.Canon := hs.tally ..
  have hs2 : s1.Canon := hs1.onSeg ..
  have hs3 : s2.Canon := by
    unfold s2
    refine hs2.foldl (fun s q hs => ?_) _
    extract_lets e
    split
    · exact hs.relocate ..
    · exact hs.relocateLost ..
  exact .ite (hs1.rewriteReserve ..) (.issue (.ite (hs3.toPending ..) hs3) ..)

theorem execPulpPassStart (channel : Fin 32) (lost : List (Nat × Nat)) : Res.Canon (execPulpPassStart channel lost s) := by
  unfold Machine.execPulpPassStart
  refine .next ?_
  split
  · exact hs
  · split
    · exact hs
    · exact hs.pulpPass ..

theorem execSizingDue (channel : Fin 32) (segment : Fin 65536) : Res.Canon (execSizingDue channel segment s) :=
  .next (.ite (hs.onSeg ..) hs)

theorem probe (c : Nat) : (s.probe c).Canon := by
  unfold State.probe
  split
  · exact hs
  · exact hs.foldl (fun _ _ hs => hs.assemble ..) _

theorem execProbeStripes (channel : Fin 32) : Res.Canon (execProbeStripes channel s) := .next (.ite hs (.ite hs.of_eq (hs.probe ..)))

theorem probesDue : s.probesDue.Canon := .foldl hs.of_eq (fun _ _ hs => hs.probe ..) _

theorem execJournalPageFlush (die : Fin 2) : Res.Canon (execJournalPageFlush die s) := .next (.ite hs (hs.issuePage ..))

theorem recordDone (r : JRec) : (s.recordDone r).Canon := by
  unfold State.recordDone
  extract_lets c x
  split
  · exact .ite (.issue hs.of_eq ..) hs
  · extract_lets s1 take x' s2
    have hs1 : s1.Canon := (hs.wrM ..).wrM ..
    have hs2 : s2.Canon := hs1.of_eq
    split
    · refine .issue ?_ ..
      refine .repairDone ?_ ..
      exact hs2.foldl (fun _ _ hs => hs.askShort ..) _
    · exact hs
  · exact hs

theorem pageProgrammed (pg : List JRec) : (s.pageProgrammed pg).Canon := by
  unfold State.pageProgrammed
  split
  · exact hs
  · exact (hs.tally ..).reserveAdd ..

theorem execJournalPageProgrammed : Res.Canon (execJournalPageProgrammed s) := by
  unfold Machine.execJournalPageProgrammed
  refine .next ?_
  split
  · exact hs
  · extract_lets x'
    split
    · exact hs
    · exact .foldl (.pageProgrammed hs.of_eq ..) (fun _ _ hs => hs.recordDone ..) _

theorem ckptBegin : s.ckptBegin.Canon := by
  unfold State.ckptBegin
  extract_lets num area rd s1 s2 x
  have hs1 : s1.Canon := by
    unfold s1
    refine hs.foldl (fun s c hs => ?_) _
    exact (hs.journalC ..).foldl (fun _ _ hs => hs.journalC ..) _
  have hs2 : s2.Canon := (((hs1.wr ..).wr ..).wr ..).wr ..
  exact hs2.of_eq

theorem execCkptBegin : Res.Canon (execCkptBegin s) := .next (.ite hs.ckptBegin hs)

theorem rootSlots (kind : Nat) : (s.rootSlots kind).Canon := by
  unfold State.rootSlots
  extract_lets num put
  have hput (s : State) (d : Nat) (hs : s.Canon) : (put s d).Canon := .pageCommit (.bump hs.of_eq ..) ..
  exact hput _ _ (hput _ _ hs)

theorem journalSlot : s.journalSlot.Canon := by
  unfold State.journalSlot
  exact .bump hs.of_eq ..

theorem newRound {r : Round} (hr : mapWf r.unlisted r.map = true) (n : Nat) (l : List JRec) : ({ s with mapping := { s.mapping with
    ckpt := none, changed := [], savedPoison := s.mapping.poison, rounds := r :: s.mapping.rounds.take n, ring := l } }).Canon := by
  refine { hs with rounds := fun x hx => ?_ }
  rcases List.mem_cons.mp hx with rfl | hx
  · exact hr
  · exact hs.rounds x (List.mem_of_mem_take hx)

theorem ckptEnd (rd : Round) : (s.ckptEnd rd).Canon := by
  unfold State.ckptEnd
  extract_lets done s0 s1 keep s2 x s3
  have hdone : mapWf done.unlisted done.map = true := hs.map
  have hs0 : s0.Canon := hs.foldl (fun _ _ hs => (hs.reserveAdd ..).reserveAdd ..) _
  have hs1 : s1.Canon := (hs0.journal ..).journal ..
  have hs2 : s2.Canon := (((hs1.wr ..).wr ..).tally ..).tally ..
  clear_value s2 done keep
  have hs3 : s3.Canon := hs2.newRound hdone ..
  clear_value s3
  exact (hs3.rootSlots ..).journalSlot

theorem execCkptEnd : Res.Canon (execCkptEnd s) := by
  unfold Machine.execCkptEnd
  refine .next ?_
  split
  · exact hs
  · exact .ite (hs.ckptEnd ..) hs

theorem execMapPageVerify (die : Fin 2) (page : Nat) (o : VerifyOutcome) : Res.Canon (execMapPageVerify die page o s) := by
  unfold Machine.execMapPageVerify
  refine .next ?_
  split
  · exact hs
  · split
    · exact hs.bump ..
    · exact hs.halt ..
    · exact hs.halt ..
    · exact (hs.bump ..).bump ..

theorem scrubCount (c t m : Nat) (f : ScrubFrame) : (s.scrubCount c t m f).Canon := by
  unfold State.scrubCount
  split
  · exact hs.frameClean ..
  · exact hs
  · exact hs
  · exact hs.frameFailed ..
  · exact hs.frameFailed ..

theorem scrub (x : Stripe) (frames : List ScrubFrame) : (s.scrub x frames).Canon := by
  unfold State.scrub
  extract_lets c t readable at' again live liveMembers failed gone tagBad s1 high s2 s2'
  have hs1 : s1.Canon := by
    unfold s1
    refine .tally ?_ ..
    exact hs.foldl (fun _ _ hs => .ite (hs.scrubCount ..) hs) _
  have hs2 : s2.Canon := hs1.foldl (fun _ _ hs => (hs.bumpC ..).raise ..) _
  have hs3 : s2'.Canon := by
    unfold s2'
    split
    · exact hs1.foldl (fun _ _ hs => (hs.relocate ..).tally ..) _
    · split
      · exact hs2.foldl (fun _ _ hs => (hs.relocate ..).tally ..) _
      · exact hs1.foldl (fun _ _ hs => .ite (hs.relocate ..) (hs.relocateLost ..)) _
  split
  · exact hs.cmdCrcs ..
  · split
    · exact hs.halt ..
    · exact hs3.issue ..

theorem patrolAt (c t : Nat) : (s.patrolAt c t).Canon := by
  unfold State.patrolAt
  extract_lets s1 x s1'
  have hs1 : s1.Canon := ((hs.bumpC ..).wrC ..).raise ..
  have hs2 : s1'.Canon := .ite hs1.of_eq hs
  exact hs2.wrC ..

theorem execPatrolScrubStripe (channel : Fin 32) (segment : Fin 65536) (stripe : Fin 4096) (frames : List ScrubFrame) :
    Res.Canon (execPatrolScrubStripe channel segment stripe frames s) := by
  unfold Machine.execPatrolScrubStripe
  refine .next ?_
  extract_lets c t
  split
  · exact hs
  · split
    · exact hs.patrolAt ..
    · exact (hs.patrolAt ..).scrub ..

theorem execVerificationScrubStripe (channel : Fin 32) (segment : Fin 65536) (stripe : Fin 4096) (same : Bool) :
    Res.Canon (execVerificationScrubStripe channel segment stripe same s) := by
  unfold Machine.execVerificationScrubStripe
  refine .next ?_
  extract_lets c t key s1 s2
  have hs1 : s1.Canon := by
    unfold s1
    split
    · exact hs
    · split
      · exact hs
      · exact hs.foldl (fun _ _ hs => hs.relocate ..) _
  have hs2 : s2.Canon := hs1.onRepair ..
  exact .ite hs (.ite (hs2.leaveOld ..) hs2)

theorem execSpareDieCheck (channel : Fin 32) (ok : Bool) : Res.Canon (execSpareDieCheck channel ok s) := by
  unfold Machine.execSpareDieCheck
  refine .next ?_
  split
  · exact hs
  · split
    · exact hs
    · exact hs.dieFailed ..

theorem walkOne (w : Walk) : (s.walkOne w).1.Canon := by
  unfold State.walkOne
  extract_lets q s1 next ended x
  have hs1 : s1.Canon := .ite (hs.walkReaches ..) hs
  exact hs1.of_eq

theorem execPoisonWalkStep : Res.Canon (execPoisonWalkStep s) := by
  unfold Machine.execPoisonWalkStep
  refine .next ?_
  split
  · exact hs
  · exact .ite (hs.walkOne ..) hs

theorem eraseSeg (c t : Nat) : (s.eraseSeg c t).Canon := by
  unfold State.eraseSeg
  extract_lets g s1
  have hs1 : s1.Canon := hs.onSeg ..
  exact .ite (.ite (hs1.toPending ..) hs1) hs

theorem unmapped : s.unmapped.Canon := by
  unfold State.unmapped
  split
  · exact hs
  · extract_lets x'
    split
    · exact .bgDone hs.of_eq ..
    · exact hs.foldl (fun _ _ hs => hs.eraseSeg ..) _

theorem execUnmappingWalkStep : Res.Canon (execUnmappingWalkStep s) := by
  unfold Machine.execUnmappingWalkStep
  refine .next ?_
  split
  · exact hs
  · extract_lets p
    have hs1 : p.1.Canon := hs.walkOne ..
    exact .ite hs (.ite hs1.unmapped hs1)

theorem reindex (lo hi : Nat) : (s.reindex lo hi).Canon := by
  unfold State.reindex
  refine hs.foldl (fun s k hs => ?_) _
  extract_lets q p blocks
  exact hs.foldl (fun _ _ hs => .ite (hs.poisonAdd ..) (hs.poisonDel ..)) _

theorem scanEnd (sc : Scan) : (s.scanEnd sc).Canon := by
  unfold State.scanEnd
  extract_lets x s0 s1 p x' s2
  have hs1 : s0.Canon := hs.of_eq
  have hs2 : s1.Canon := hs1.reindex ..
  have hs3 : s2.Canon := hs2.of_eq
  refine .bgDone ?_ ..
  exact hs3.foldl (fun _ _ hs => hs.raise ..) _

theorem execScanMediaQuire (frames : List ScrubFrame) : Res.Canon (execScanMediaQuire frames s) := by
  unfold Machine.execScanMediaQuire
  refine .next ?_
  split
  · exact hs
  · split
    · exact hs
    · split
      · exact hs.scanEnd ..
      · extract_lets e x' s1
        have hs1 : s1.Canon := hs.of_eq
        split
        · exact hs1
        · exact .ite hs1 (hs1.scrub ..)

/-! ## Temperature sensors and what the registers show of them (R449 to R456, R462), and the registers that a reset restores and the
module derives again at once from what it keeps (R14, R438) -/

theorem showSensor (x : SensorId) (k : Sensor) : (s.showSensor x k).Canon := by
  unfold State.showSensor
  extract_lets b fast v aux
  split
  · exact ((hs.wr ..).wr ..).wr ..
  · exact (hs.wrM ..).wrM ..
  · exact ((hs.wrP ..).wrP ..).wrP ..
  · exact ((hs.wr ..).wr ..).wr ..
  · exact ((hs.wr ..).wr ..).wr ..
  · exact ((hs.wr ..).wr ..).wr ..

theorem showThermal : s.showThermal.Canon := by
  unfold State.showThermal
  refine .showStacks ?_
  exact hs.foldl (fun _ _ hs => hs.wr ..) _

theorem showClass (cls : Nat) : (s.showClass cls).Canon := by
  unfold State.showClass
  exact hs.foldl (fun _ _ hs => (hs.wrBit ..).wrBit ..) _

theorem showFan : s.showFan.Canon := by
  unfold State.showFan
  exact .ite hs ((hs.setReg ..).raise ..)

theorem showDramThrottle (d : Nat) : (s.showDramThrottle d).Canon := (hs.wr ..).wr ..

theorem writeLevel (x : SensorId) (n : Nat) : (s.writeLevel x n).Canon := by
  unfold State.writeLevel
  split
  · exact hs.wr ..
  · exact hs.wr ..
  · exact (hs.wrP ..).showDramThrottle ..
  · exact (hs.wr ..).wr ..
  · exact hs.foldl (fun _ _ hs => hs.wr ..) _
  · exact hs.wr ..

theorem showHot (k : Nat) : (s.showHot k).Canon := hs.wr ..

theorem showRings : s.showRings.Canon := by
  unfold State.showRings
  refine hs.foldl (fun s r hs => ?_) _
  split
  · exact (hs.wr ..).wr ..
  · exact hs

theorem deriveSensors : s.deriveSensors.Canon := by
  unfold State.deriveSensors
  extract_lets s1 s2 s3 s4
  have hs1 : s1.Canon := by
    unfold s1
    refine hs.foldl (fun s p hs => ?_) _
    split
    · extract_lets t
      have ht : t.Canon := (hs.showSensor ..).writeLevel ..
      split
      · exact ht.wrP ..
      · exact ht
    · exact hs
  have hs2 : s2.Canon := hs1.foldl (fun _ _ hs => .ite (hs.showHot ..) hs) _
  have hs3 : s3.Canon := hs2.foldl (fun _ _ hs => hs.showClass ..) _
  have hs4 : s4.Canon := hs3.setReg ..
  exact hs4.foldl (fun _ _ hs => hs.wr ..) _

theorem deriveEnergy : s.deriveEnergy.Canon := by
  unfold State.deriveEnergy
  extract_lets e b
  exact ((((hs.setReg ..).setReg ..).setReg ..).setReg ..).showLimits

theorem deriveFlags : s.deriveFlags.Canon := by
  unfold State.deriveFlags
  extract_lets wt s1 s2
  have hs1 : s1.Canon := (hs.setReg ..).setReg ..
  have hs2 : s2.Canon := by
    unfold s2
    refine hs1.foldl (fun s d hs => ?_) _
    extract_lets t
    have hs3 : t.Canon := ((hs.wr ..).showPackages ..).wr ..
    exact (hs3.wr ..).wr ..
  exact hs2.foldl (fun _ _ hs => (hs.wrP ..).wrP ..) _

theorem rederive : s.rederive.Canon := hs.showRings.deriveSensors.deriveFlags.deriveEnergy

end

end State.Canon

end Sys2Proof.Machine
end

section
/-! SUPPORT. Operations and commands that keep the stores in their canonical form: Resets.lean to Service.lean (R103).
The proofs are elaborated in turn: many short ones at once, each waiting for those before it, take a thread and its stack each. -/

namespace Sys2Proof.Machine

set_option Elab.async false

namespace State.Canon

section
variable {s : State} (hs : s.Canon)
include hs

/-! ## Resets and power-down as operations (R14, R110, R111, R413, R414, R418, R426, R433, R438) -/

theorem pauseBulk : s.pauseBulk.Canon := { hs with bulk := (List.length_map _).trans hs.bulk }

theorem resumeBulk : s.resumeBulk.Canon := { hs with bulk := (List.length_map _).trans hs.bulk }

theorem servePoint : s.servePoint.Canon := by
  unfold State.servePoint
  extract_lets s1
  have hs1 : s1.Canon := hs.setPoint ..
  exact hs1.setPoint ..

theorem leaveDoze : s.leaveDoze.Canon := by
  unfold State.leaveDoze
  extract_lets s1
  have hs1 : s1.Canon := ((hs.showDoze ..).toMode ..).servePoint
  exact hs1.foldl (fun _ _ hs => hs.issue ..) _

theorem clampDoze : s.clampDoze.Canon := by
  unfold State.clampDoze
  extract_lets d n
  clear_value n
  split
  · exact hs
  · split
    · exact hs
    · split
      · exact hs.leaveDoze
      · exact (hs.showDoze 1).servePoint.foldl (fun _ _ hs => hs.issue ..) _
      · exact hs.showDoze _

theorem showTolerance : s.showTolerance.Canon := (hs.setReg ..).clampDoze

theorem raiseH (h k : Nat) : (s.raiseH h k).Canon := hs.raise ..

theorem setIde (h : Nat) (mem on : Bool) : (s.setIde h mem on).Canon := by
  unfold State.setIde
  exact .ite hs ((((hs.wr ..).raiseH ..).event ..).msix ..)

theorem dropRequests (h : Nat) : (s.dropRequests h).Canon := by
  unfold State.dropRequests
  extract_lets mine s1 x
  have hs1 : s1.Canon := hs.dropCredits ..
  exact hs1.of_eq

theorem linkGone (h : Nat) : (s.linkGone h).Canon := by
  unfold State.linkGone
  extract_lets up s1 s2 s3 s4
  have hs1 : s1.Canon := (hs.setIde ..).setIde ..
  have hs2 : s2.Canon := .ite ((hs1.wr ..).raiseH ..) hs1
  have hs3 : s3.Canon := (((hs2.memActiveAt ..).wr ..).wr ..).dropRequests ..
  have hs4 : s4.Canon := hs3.onHead ..
  exact .ite (hs4.raiseH ..) hs4

theorem linksGone : s.linksGone.Canon := (hs.linkGone ..).linkGone ..

theorem strapHead (h : Nat) : (s.strapHead h).Canon := hs.wr ..

theorem headReset (h : Nat) : (s.headReset h).Canon := by
  unfold State.headReset
  extract_lets s1 x s2
  have hs1 : s1.Canon := (((hs.dropRequests ..).discardReplies ..).onHead ..).resetRegs ..
  have hs2 : s2.Canon := hs1.of_eq
  exact (hs2.strapHead ..).showTolerance

theorem railsOff (l : List Nat) : (s.railsOff l).Canon := by
  unfold State.railsOff
  exact hs.foldl (fun _ _ hs => hs.wr ..) _

theorem physOff : s.physOff.Canon := hs.linksGone

theorem coresOff : s.coresOff.Canon := by
  unfold State.coresOff
  extract_lets s1 x x' x'' x''' x'''' x'''''
  have hs1 : s1.Canon := (((hs.railsOff ..).dropTriggers).linksGone).dropPrograms
  exact hs1.of_eq

theorem beginStart : s.beginStart.Canon := by
  unfold State.beginStart
  extract_lets k s1 x
  have hs1 : s1.Canon := hs.toMode ..
  exact hs1.of_eq

theorem beginCold : s.beginCold.Canon := by
  unfold State.beginCold
  extract_lets s1 x
  have hs1 : s1.Canon := hs.toMode ..
  exact hs1.of_eq

theorem storeOff : s.storeOff.Canon := by
  unfold State.storeOff
  exact .bump hs.of_eq ..

theorem toStandby : s.toStandby.Canon := by
  unfold State.toStandby
  extract_lets s0 stays s1 x s2 s3
  have hs1 : s0.Canon := .ite hs.coresOff (hs.coresOff.railsOff ..)
  have hs2 : s1.Canon := .toMode (.ite hs1 hs1.storeOff) ..
  have hs3 : s2.Canon := hs2.of_eq
  have hs4 : s3.Canon := hs3.setReg ..
  exact .ite (.ite ((hs4.setReg ..).beginStart) hs4) hs3

theorem restoreWarm : s.restoreWarm.Canon := by
  unfold State.restoreWarm
  extract_lets s1 s2 x x' x'' s3 s4
  have hs1 : s1.Canon := hs.resetRegs ..
  have hs2 : s2.Canon := (hs1.onHead ..).onHead ..
  have hs3 : s3.Canon := hs2.of_eq
  have hs4 : s4.Canon := (hs3.strapHead ..).strapHead ..
  exact ((hs4.setReg ..).setReg ..).rederive

theorem warmReset (byLine : Bool) : (s.warmReset byLine).Canon := by
  unfold State.warmReset
  extract_lets early s1 s3 s4 x x' x''
  have hs1 : s1.Canon := hs.stopRun.pauseBulk.linksGone.dropTriggers
  have hs2 : s3.Canon := hs1.restoreWarm.toMode ..
  have hs3 : s4.Canon := hs2.selfRefresh ..
  exact .ite hs hs3.of_eq

theorem askWarm (byLine : Bool) : (s.askWarm byLine).Canon := by
  unfold State.askWarm
  split
  · exact hs.warmReset ..
  · exact hs.warmReset ..
  · exact hs.warmReset ..
  · exact hs.warmReset ..
  · exact hs.warmReset ..
  · exact hs.of_eq
  · exact .ite hs.of_eq hs
  · exact hs

theorem inputGone : s.inputGone.Canon := by
  unfold State.inputGone
  extract_lets x x' s1
  have hs1 : x.Canon := hs.railsOff ..
  have hs2 : s1.Canon := hs1.of_eq
  split
  · exact hs2
  · exact hs2.toStandby
  · exact .ite hs2 hs2.toStandby

/-! ## The Pour and the hold-up bank (R307 to R328) -/

theorem writeRecord (r : PourRec) : (s.writeRecord r).Canon := by
  unfold State.writeRecord
  extract_lets s1 x s2
  have hs1 : s1.Canon := hs.pageWrite ..
  have hs2 : s2.Canon := hs1.of_eq
  exact (hs2.setReg ..).setReg ..

theorem showLast (r : PourRec) : (s.showLast r).Canon := ((hs.setReg ..).setReg ..).setReg ..

theorem placeLists (ls : List DirtyList) : (s.placeLists ls).Canon := by
  unfold State.placeLists
  exact hs.foldl (fun _ _ hs => hs.ringTake ..) _

theorem setNewest (q : Nat) (b : Block16) : (s.setNewest q b).Canon := by
  unfold State.setNewest
  split
  · exact hs.putWay ..
  · exact hs.of_eq

theorem completeQuire (lost : List (Nat × Fin 4)) (q : Nat) : (s.completeQuire lost q).Canon := by
  unfold State.completeQuire
  extract_lets s' p
  have hs' : s'.Canon := by
    unfold s'
    split
    · exact hs.blockAccess ..
    · exact hs
  have hp : p.1.Canon := hs'.foldl_fst (fun _ _ hp => hp.mergeSheet ..) _ _
  exact hp.setNewest ..

theorem programJournal : s.programJournal.Canon := by
  unfold State.programJournal
  extract_lets s0 recs s1 x
  have hs1 : s0.Canon := hs.issueOpen
  have hs2 : s1.Canon := hs1.foldl (fun _ _ hs => hs.pageProgrammed ..) _
  exact .foldl hs2.of_eq (fun _ _ hs => hs.recordDone ..) _

theorem pourStop : s.pourStop.Canon := by
  unfold State.pourStop
  extract_lets s1 s2 x x'
  have hs1 : s1.Canon := hs.stopRun.abortSteeps.foldl (fun _ _ hs => hs.shutAll ..) _
  have hs2 : s2.Canon := hs1.foldl (fun _ _ hs => hs.wr ..) _
  exact hs2.of_eq

theorem pourOver : s.pourOver.Canon := by
  unfold State.pourOver
  extract_lets s1 s2 x
  have hs1 : s1.Canon := hs.foldl (fun _ _ hs => hs.payDebt ..) _
  have hs2 : s2.Canon := ((hs1.wr ..).wr ..).setReg ..
  exact .setReg hs2.of_eq ..

theorem pourBegin (cause : PourCause) (inputs : PourInputs) : (s.pourBegin cause inputs).Canon := by
  unfold State.pourBegin
  extract_lets num pulled s0 s0' s1 s2 qs s3 at' r s4 x s5 linked s6
  have hs1 : s0.Canon := .ite (hs.bump ..) hs
  have hs2 : s0'.Canon := (hs1.drainHosts ..).drainHosts ..
  have hs3 : s1.Canon := (((hs2.pourStop.pauseBulk.toMode ..).showStacks).wr ..).wr ..
  have hs4 : s2.Canon := .ite ((hs3.showDoze ..).servePoint) (hs3.showDoze ..)
  have hs5 : s3.Canon := (((hs4.setReg ..).setReg ..).setReg ..).programJournal
  have hs6 : s4.Canon := (hs5.writeRecord ..).placeLists ..
  have hs7 : s5.Canon := hs6.of_eq
  have hs8 : s6.Canon := .raise (.ite hs7 hs7.physOff) ..
  split
  · exact (hs8.halt ..).pourOver
  · exact hs8.foldl (fun _ _ hs => hs.completeQuire ..) _

theorem pourStripe (c stream : Nat) (h0 h1 : Option Half) : (s.pourStripe c stream h0 h1).Canon := by
  unfold State.pourStripe
  extract_lets s1 x
  have hs1 : s1.Canon := hs.topUp ..
  split
  · exact hs
  · extract_lets s2
    have hs2 : s2.Canon := (hs1.takeSeq ..).program ..
    split
    · exact hs2.stripeDone ..
    · exact hs2

theorem pourHalves (c stream : Nat) (l : List Nat) : (s.pourHalves c stream l).Canon := by
  fun_induction State.pourHalves s c stream l with
  | case1 => exact hs
  | case2 => exact hs.pourStripe ..
  | case3 s p q t ih => exact ih (hs.pourStripe ..)

theorem writeQuires (stream : Nat) (qs : List Nat) : (s.writeQuires stream qs).Canon := by
  unfold State.writeQuires
  extract_lets s1
  have hs1 : s1.Canon := by
    unfold s1
    refine hs.foldl (fun s c hs => ?_) _
    exact hs.foldl (fun _ _ hs => hs.reachEarly ..) _
  exact hs1.foldl (fun _ _ hs => hs.pourHalves ..) _

theorem pourWrite (n : Nat) : (s.pourWrite n).Canon := by
  unfold State.pourWrite
  extract_lets qs s1 x
  have hs1 : s1.Canon := hs.writeQuires ..
  exact hs1.of_eq

theorem pourClose : s.pourClose.Canon := by
  unfold State.pourClose
  extract_lets s1 x
  have hs1 : s1.Canon := by
    unfold s1
    refine .programLog ?_
    refine .programJournal ?_
    exact hs.foldl (fun _ _ hs => (hs.shutAll ..).sumAll ..) _
  exact hs1.of_eq

theorem cleaned (qs : List Nat) : (s.cleaned qs).Canon := by
  unfold State.cleaned
  extract_lets x s1
  have hs1 : s1.Canon := by
    refine { hs with ways := Tab.rising_map (fun p => ?_) hs.ways }
    split
    · rfl
    · rfl
  exact hs1.foldl (fun _ _ hs => hs.freeStaged ..) _

theorem endRecord (state energyEnd us : Nat) : (s.endRecord state energyEnd us).Canon := by
  unfold State.endRecord
  split
  · exact hs
  · exact (hs.writeRecord ..).showLast ..

theorem checkReserve : s.checkReserve.Canon := by
  unfold State.checkReserve
  extract_lets short s1
  have hs1 : s1.Canon := hs.setReg ..
  exact .ite hs (.ite (hs1.raise ..) hs1)

theorem pourDown (cause : Nat) : (s.pourDown cause).Canon := by
  unfold State.pourDown
  extract_lets back s1 x x' x'' x''' s2 x'''' s2'
  have hs1 : s1.Canon := hs.coresOff.toMode ..
  have hs2 : x''.Canon := hs.coresOff
  have hs3 : s2.Canon := (hs.selfRefresh ..).coresOff
  have hs4 : s2'.Canon := .toStandby hs.of_eq
  exact .ite (.ite hs1.of_eq hs.toStandby) (.ite (.toStandby hs.of_eq) (.ite (.beginStart hs2.of_eq)
    (.ite hs3.of_eq (.ite ((((hs4.setReg ..).bump ..).event ..).raise ..) hs4))))

theorem gpfComplete : s.gpfComplete.Canon := by
  unfold State.gpfComplete
  extract_lets t x
  have hs1 : t.Canon := hs.foldl (fun _ _ hs => .ite (hs.send ..) hs) _
  exact hs1.of_eq

theorem restoreOne (c : Nat) : (s.restoreOne c).Canon := by
  unfold State.restoreOne
  split
  · exact hs
  · split
    · exact hs
    · extract_lets s1
      have hs1 : s1.Canon := hs.startSteep ..
      split
      · exact (hs1.clearSuspends ..).steepEnds ..
      · exact hs1

theorem restoreReserve : s.restoreReserve.Canon := by
  unfold State.restoreReserve
  refine hs.programJournal.foldl (fun s c hs => ?_) _
  split
  · exact hs
  · exact hs.foldl (fun _ _ hs => hs.restoreOne ..) _

theorem gpfReturn : s.gpfReturn.Canon := by
  unfold State.gpfReturn
  extract_lets s1 s2 s3 s4
  have hs1 : s1.Canon := hs.gpfComplete.askSteeps.askAllShort.restoreReserve.checkReserve
  have hs2 : s2.Canon := (hs1.toMode ..).showStacks
  have hs3 : s3.Canon := hs2.foldl (fun _ _ hs => hs.pumpQuire ..) _
  have hs4 : s4.Canon := hs3.foldl (fun _ _ hs => (hs.keepOpen ..).issue ..) _
  exact .ite (hs4.warmReset ..) hs4

theorem programsOver : s.programsOver.Canon := by
  unfold State.programsOver
  exact hs.foldl (fun _ _ hs => hs.stripeDone ..) _

theorem pourFinish (energyEnd us : Nat) : (s.pourFinish energyEnd us).Canon := by
  unfold State.pourFinish
  extract_lets cause s1 all s2 x s3 keep s4 x' s5
  have hs1 : s1.Canon := (hs.pourWrite ..).pourClose
  have hs2 : s2.Canon := (((hs1.rootSlots ..).journalSlot).endRecord ..).raise ..
  have hs3 : s3.Canon := .ite hs2 hs2.of_eq
  have hs4 : s4.Canon := ((hs3.cleaned ..).programsOver).pourOver
  have hs5 : s5.Canon := .ite hs4 hs4.of_eq
  exact .ite hs5.gpfReturn (hs5.gpfComplete.pourDown ..)

theorem haltWithoutInput : s.haltWithoutInput.Canon := by
  unfold State.haltWithoutInput
  exact .ite hs.inputGone hs

theorem inputLost : s.inputLost.Canon := by
  unfold State.inputLost
  extract_lets s1 x
  have hs1 : s1.Canon := .ite hs (hs.bump ..)
  exact hs1.of_eq

theorem execP12vLoss (inputs : PourInputs) : Res.Canon (execP12vLoss inputs s) := by
  unfold Machine.execP12vLoss
  refine .next ?_
  extract_lets s1 s2 s3 x
  have hs1 : s1.Canon := hs.inputLost
  have hs2 : s2.Canon := .physOff (.ite (hs1.bump ..) hs1)
  have hs3 : s3.Canon := hs2.setReg ..
  split
  · exact hs
  · split
    · exact (hs1.pourBegin ..).haltWithoutInput
    · exact (hs1.pourBegin ..).haltWithoutInput
    · exact (hs1.pourBegin ..).haltWithoutInput
    · exact (hs1.pourBegin ..).haltWithoutInput
    · exact (hs1.pourBegin ..).haltWithoutInput
    · exact (hs1.pourBegin ..).haltWithoutInput
    · split
      · split
        · exact hs3.of_eq
        · exact hs3
      · exact hs2
    · exact hs1.inputGone

theorem execHoldEnd : Res.Canon (execHoldEnd s) := .next (.ite (.toStandby hs.of_eq) hs)

theorem execP12vReturn : Res.Canon (execP12vReturn s) := by
  unfold Machine.execP12vReturn
  refine .next ?_
  extract_lets x s1 x' x''
  have hs1 : s1.Canon := hs.of_eq
  split
  · exact hs
  · split
    · exact .ite (.beginStart hs1.of_eq) hs1
    · exact ((hs1.setReg ..).setReg ..).beginCold
    · exact hs1.setReg ..

theorem execPwrdisAssert (inputs : PourInputs) : Res.Canon (execPwrdisAssert inputs s) := by
  unfold Machine.execPwrdisAssert
  refine .next ?_
  extract_lets s1 s2 x x'
  have hs1 : s1.Canon := (hs.setReg ..).raise ..
  have hs2 : s2.Canon := hs1.cancelRemoval.pourBegin ..
  split
  · exact hs
  · split
    · exact hs.setReg ..
    · split
      · exact .ite (.toStandby hs2.of_eq) hs2
      · exact .ite (.toStandby hs2.of_eq) hs2
      · exact .ite (.toStandby hs2.of_eq) hs2
      · exact .ite (.toStandby hs2.of_eq) hs2
      · exact .ite (.toStandby hs2.of_eq) hs2
      · exact .ite (.toStandby hs2.of_eq) hs2
      · exact .ite ((hs1.setReg ..).physOff) hs1
      · exact .toStandby hs1.of_eq
      · exact hs1.of_eq

theorem execPwrdisRelease : Res.Canon (execPwrdisRelease s) := .next (hs.setReg ..)

theorem execGpfPhase2 (head : Fin 2) (inputs : PourInputs) : Res.Canon (execGpfPhase2 head inputs s) := by
  unfold Machine.execGpfPhase2
  refine .next ?_
  extract_lets add
  split
  · exact hs
  · split
    · exact .pourBegin hs.of_eq ..
    · exact .pourBegin hs.of_eq ..
    · exact hs.of_eq
    · exact hs.of_eq
    · exact hs.of_eq
    · exact hs.of_eq
    · exact hs.of_eq
    · exact hs

theorem execCapMeasurementStart : Res.Canon (execCapMeasurementStart s) := by
  unfold Machine.execCapMeasurementStart
  refine .next ?_
  extract_lets i next busy x s1
  have hs1 : s1.Canon := hs.of_eq
  exact .ite hs (.ite hs1 (hs1.wr ..))

theorem isolate (i cause : Nat) : (s.isolate i cause).Canon := by
  unfold State.isolate
  extract_lets s1
  have hs1 : s1.Canon := ((hs.wr ..).wr ..).wr ..
  exact .ite hs (((hs1.wrBit ..).raise ..).updateEnergy)

theorem execCapMeasurementDone (drop : Nat) : Res.Canon (execCapMeasurementDone drop s) := by
  unfold Machine.execCapMeasurementDone
  refine .next ?_
  split
  · exact hs
  · extract_lets c s1 s2 x s3
    have hs1 : s1.Canon := ((hs.wr ..).wr ..).wr ..
    have hs2 : s2.Canon := (hs1.slotWrite ..).raise ..
    have hs3 : s3.Canon := hs2.of_eq
    exact .ite (hs3.isolate ..) hs3.updateEnergy

theorem execEnergyUpdate (volts : List Nat) (bus : Nat) : Res.Canon (execEnergyUpdate volts bus s) := by
  unfold Machine.execEnergyUpdate
  refine .next ?_
  extract_lets vs x s1
  have hs1 : s1.Canon := .setReg hs.of_eq ..
  exact .ite hs hs1.updateEnergy

theorem execSubbankIsolation (subbank : Fin 8) (cause : Fin 4) : Res.Canon (execSubbankIsolation subbank cause s) :=
  .next (.ite hs (hs.isolate ..))

/-! ## Doze and the start of a Quiesce (R426 to R436), and the removal of both inputs (R413) -/

theorem quiesceStart (w : QWork) : (s.quiesceStart w).Canon := by
  unfold State.quiesceStart
  extract_lets s1 x
  have hs1 : s1.Canon := ((((hs.showDoze ..).pauseBulk).tally ..).toMode ..).setReg ..
  exact hs1.of_eq

theorem askQuiesce (w : QWork) : (s.askQuiesce w).Canon := by
  unfold State.askQuiesce
  split
  · exact .ite hs.of_eq (hs.quiesceStart ..)
  · exact .ite hs.of_eq (hs.quiesceStart ..)
  · exact hs.of_eq
  · exact hs.of_eq
  · exact hs.of_eq
  · exact hs.of_eq
  · exact .ite hs.of_eq hs
  · exact hs

theorem nextQuiesce : s.nextQuiesce.Canon := by
  unfold State.nextQuiesce
  split
  · exact hs
  · exact .ite (.quiesceStart hs.of_eq ..) hs

theorem execReadmissionTest (package : Fin 4) (uncorrectable corrected : Nat) :
    Res.Canon (execReadmissionTest package uncorrectable corrected s) := by
  unfold Machine.execReadmissionTest
  refine .next ?_
  extract_lets n s1
  have hs1 : s1.Canon := (hs.bump ..).raiseP ..
  exact .ite hs (.ite (((((hs1.wrP ..).showPackages ..).showLimits).settle).askQuiesce ..) hs1)

theorem evictAll : s.evictAll.Canon := (hs.evictDie ..).evictDie ..

theorem enterDoze (d : Nat) : (s.enterDoze d).Canon := by
  unfold State.enterDoze
  extract_lets s1
  have hs1 : s1.Canon := ((((hs.toMode ..).showDoze ..).bump ..).tally ..).tally ..
  split
  · exact (hs1.setPoint ..).setPoint ..
  · split
    · exact hs1.foldl (fun _ _ hs => (hs.payDebt ..).retrain ..) _
    · exact .ite (hs1.writeBack.rootSlots ..) hs1

theorem execDozeEntry (idle : IdleSpan) : Res.Canon (execDozeEntry idle s) := by
  unfold Machine.execDozeEntry
  refine .next ?_
  extract_lets d n off s1
  have hs1 : s1.Canon := hs.setReg ..
  exact .ite (.ite hs1 hs) (.ite hs1.evictAll (.ite hs1.issueOpen ((hs1.enterDoze ..).centered ..)))

theorem execDozeExit (idle : IdleSpan) (seconds : Nat) (wakeBad : List (Fin 320)) : Res.Canon (execDozeExit idle seconds wakeBad s) := by
  unfold Machine.execDozeExit
  refine .next ?_
  extract_lets d s1 x s2
  have hs1 : s1.Canon := hs.bump ..
  have hs2 : s2.Canon := .ite hs1.of_eq hs1
  split
  · exact hs
  · exact (hs2.leaveDoze.centered ..).foldl (fun _ _ hs => hs.dieFailed ..) _

theorem execServiceWake (work : List WakeWork) : Res.Canon (execServiceWake work s) := by
  unfold Machine.execServiceWake
  refine .next ?_
  extract_lets d s1 s2
  have hs1 : s1.Canon := ((((hs.showDoze ..).tally ..).tally ..).probesDue).foldl (fun _ _ hs => hs.issue ..) _
  have hs2 : s2.Canon := .ite hs1.ckptBegin hs1
  exact .ite hs (hs2.showDoze ..)

theorem execPowerOff : Res.Canon (execPowerOff s) := by
  unfold Machine.execPowerOff
  refine .next ?_
  extract_lets x gone
  have hs1 : gone.Canon := hs.of_eq
  split
  · exact hs1
  · exact hs1.toStandby
  · exact hs1.toStandby
  · exact hs1.toStandby
  · exact hs1.toStandby
  · exact hs1
  · exact hs

/-! ## Rails, the monitor and input power (R440 to R448, R295) -/

theorem snapshot (r kind : Nat) : (s.snapshot r kind).Canon := by
  unfold State.snapshot
  extract_lets first n past b s1 s2
  have hs1 : s1.Canon := (hs.pageWrite ..).setReg ..
  have hs2 : s2.Canon := .ite ((hs1.setReg ..).raise ..) hs1
  exact hs2.supLog ..

theorem flagRail (r kind : Nat) : (s.flagRail r kind).Canon := ((hs.wrBit ..).snapshot ..).raise ..

theorem toSafe (cause : Nat) : (s.toSafe cause).Canon := by
  unfold State.toSafe
  extract_lets s0 x s1
  have hs1 : s0.Canon := (hs.dropTriggers.toMode ..).linksGone
  have hs2 : s1.Canon := .setReg hs1.of_eq ..
  exact (hs2.log ..).raise ..

theorem mediaRailLost (r : Nat) : (s.mediaRailLost r).Canon := by
  unfold State.mediaRailLost
  extract_lets first
  exact (hs.wr ..).foldl (fun _ _ hs => hs.loseChannel ..) _

theorem railSafe (r : Nat) (inputs : PourInputs) : (s.railSafe r inputs).Canon := by
  unfold State.railSafe
  extract_lets x s1
  have hs1 : s1.Canon := .ite hs.of_eq hs
  split
  · exact hs1.toSafe ..
  · exact hs1.toSafe ..
  · exact hs1.toSafe ..
  · exact hs1.pourBegin ..
  · exact hs1.pourBegin ..
  · exact hs1.pourBegin ..
  · exact hs1

theorem holdupIsolate (under : Bool) : (s.holdupIsolate under).Canon := by
  unfold State.holdupIsolate
  exact hs.foldl (fun _ _ hs => .ite (hs.isolate ..) hs) _

theorem railConsequence (r : Nat) (under : Bool) (inputs : PourInputs) : (s.railConsequence r under inputs).Canon := by
  unfold State.railConsequence
  extract_lets s1
  have hs1 : s1.Canon := hs.mediaRailLost ..
  exact .ite (hs.holdupIsolate ..) (.ite (hs.railSafe ..) (.ite (.ite (hs1.railSafe ..) hs1) hs))

theorem railFault (r : Nat) (under : Bool) (inputs : PourInputs) : (s.railFault r under inputs).Canon := by
  unfold State.railFault
  extract_lets s1
  have hs1 : s1.Canon := .ite ((hs.wr ..).bump ..) ((hs.wr ..).bump ..)
  exact (hs1.flagRail ..).railConsequence ..

theorem scanRail (r mv : Nat) (inputs : PourInputs) : (s.scanRail r mv inputs).Canon := by
  unfold State.scanRail
  extract_lets s1 lim old new x s2
  have hs1 : s1.Canon := hs.wr ..
  have hs2 : s2.Canon := hs1.of_eq
  exact .ite (hs1.wr ..) (.ite hs1 (.ite (hs2.wr ..) (.ite (hs2.railFault ..) (.ite (hs2.railFault ..) hs2))))

theorem execMonitorScan (readings : List Nat) (inputMw : Nat) (inputs : PourInputs) :
    Res.Canon (execMonitorScan readings inputMw inputs s) := by
  unfold Machine.execMonitorScan
  refine .next ?_
  extract_lets s1
  have hs1 : s1.Canon := ((hs.tally ..).setReg ..).peak ..
  split
  · exact hs
  · refine hs1.foldl (fun s r hs => ?_) _
    split
    · exact hs.scanRail ..
    · exact hs

theorem setStackCap (cap : Nat) : (s.setStackCap cap).Canon := by
  unfold State.setStackCap
  extract_lets old s1
  have hs1 : s1.Canon := ((hs.setReg ..).setReg ..).showStacks
  exact .ite (hs1.raise ..) hs1

theorem execStackCapAdjust (mean : Nat) (raise : Bool) : Res.Canon (execStackCapAdjust mean raise s) := by
  unfold Machine.execStackCapAdjust
  refine .next ?_
  extract_lets cap low x s1
  have hs1 : s1.Canon := hs.of_eq
  exact .ite hs (.ite (.ite (hs1.setStackCap ..) hs1) (.ite (hs1.setStackCap ..) hs1))

theorem execPhaseFault (rail : Fin 6) : Res.Canon (execPhaseFault rail s) := by
  unfold Machine.execPhaseFault
  refine .next ?_
  extract_lets k r x s0 s1
  have hs1 : s0.Canon := hs.of_eq
  have hs2 : s1.Canon := (hs1.snapshot ..).raise ..
  exact .ite hs (.ite (((hs2.wrBit ..).raise ..).settle) (hs2.wrBit ..))

theorem sampleStrap (k mv : Nat) : (s.sampleStrap k mv).Canon := by
  unfold State.sampleStrap
  extract_lets s1
  have hs1 : s1.Canon := hs.wr ..
  split
  · exact ((hs1.wr ..).wr ..).setReg ..
  · exact ((((hs1.wr ..).wr ..).bump ..).setReg ..).raise ..

theorem aonUp : s.aonUp.Canon := ((hs.wr ..).wr ..).wr ..

theorem timeFromRing : s.timeFromRing.Canon := by
  unfold State.timeFromRing
  exact .ite hs (hs.setReg ..)

theorem execAuxPowerRise (good : Bool) (strapMv : Nat) : Res.Canon (execAuxPowerRise good strapMv s) := by
  unfold Machine.execAuxPowerRise
  refine .next ?_
  extract_lets x s1 s2 s3 x' x''
  have hs1 : s1.Canon := hs.of_eq
  have hs2 : s2.Canon := hs1.aonUp.timeFromRing.bump ..
  have hs3 : s3.Canon := (hs2.slotWrite ..).sampleStrap ..
  have hs4 : x'.Canon := hs3.toMode ..
  exact .ite hs (.ite (.ite (((hs.wr ..).bump ..).flagRail ..) hs) (.ite hs1.aonUp hs4.of_eq))

theorem execAonRailFault (core : Bool) (inputs : PourInputs) : Res.Canon (execAonRailFault core inputs s) := by
  unfold Machine.execAonRailFault
  refine .next ?_
  extract_lets r s1 x s2 x' x''
  have hs1 : s1.Canon := ((hs.wr ..).bump ..).flagRail ..
  have hs2 : s2.Canon := hs1.of_eq
  split
  · exact hs
  · split
    · exact hs2.pourBegin ..
    · exact hs2.pourBegin ..
    · exact hs2.pourBegin ..
    · exact hs2.pourBegin ..
    · exact hs2.pourBegin ..
    · exact hs2.pourBegin ..
    · exact .ite (.toStandby hs2.of_eq) hs2
    · exact .toStandby hs2.of_eq

theorem execAuxFault : Res.Canon (execAuxFault s) := by
  unfold Machine.execAuxFault
  refine .next ?_
  extract_lets x s1 s2 x'
  have hs1 : s1.Canon := hs.of_eq
  have hs2 : s2.Canon := (((hs1.wr ..).bump ..).flagRail ..).slotWrite ..
  split
  · exact hs
  · split
    · exact hs1
    · exact .toStandby hs2.of_eq
    · exact .ite hs2 (.toStandby hs2.of_eq)
    · exact ((hs2.setReg ..).raise ..).settle

/-! ## Temperature and operating time (R40, R302, R449 to R458, R507) -/

theorem trip (cls : Nat) (inputs : PourInputs) : (s.trip cls inputs).Canon := by
  unfold State.trip
  extract_lets s1 s2 off s3
  have hs1 : s1.Canon := ((hs.setReg ..).setReg ..).bump ..
  have hs2 : s2.Canon := ((hs1.pageCommit ..).event ..).raise ..
  have hs3 : s3.Canon := hs2.pourBegin ..
  have hoff {t : State} (ht : t.Canon) : (off t).Canon := .toMode (.railsOff (.coresOff ht.of_eq) ..) ..
  clear_value s2 s3 off
  refine .ite hs ?_
  split
  iterate 6 exact .ite (hoff hs3) hs3
  · exact .ite (hoff hs2) hs2
  iterate 3 exact hoff hs2
  · exact hs2

theorem levelChanged (x : SensorId) (old n : Nat) (inputs : PourInputs) : (s.levelChanged x old n inputs).Canon := by
  unfold State.levelChanged
  extract_lets s1 s2
  have hs1 : s1.Canon := ((((hs.writeLevel ..).showClass ..).showThermal).tally ..).raise ..
  have hs2 : s2.Canon := .ite (hs1.log ..) hs1
  exact .ite (hs2.trip ..) hs2

theorem spreadBand (c : Nat) : (s.spreadBand c).Canon := by
  unfold State.spreadBand
  extract_lets b
  exact hs.foldl (fun _ _ hs => hs.onSeg ..) _

theorem showBand (n : Nat) (x : Sensor) : (s.showBand n x).Canon := by
  unfold State.showBand
  extract_lets old s1
  have hs1 : s1.Canon := (hs.wrM ..).raise ..
  exact .ite hs (.ite (hs1.spreadBand ..) hs1)

theorem showRate (n : Nat) (x : Sensor) : (s.showRate n x).Canon := ((hs.wrP ..).draw).setRate ..

theorem keepMinute (x : SensorId) (k : Sensor) : (s.keepMinute x k).Canon := by
  unfold State.keepMinute
  split
  · exact hs
  · exact hs.of_eq

theorem execMinuteTick : Res.Canon (execMinuteTick s) := by
  unfold Machine.execMinuteTick
  refine .next ?_
  extract_lets s1
  have hs1 : s1.Canon := by
    unfold s1
    refine hs.foldl (fun t c hs => ?_) _
    split
    · exact hs
    · extract_lets bin t1
      have hs2 : t1.Canon := hs.bump ..
      exact .ite (hs2.bump ..) hs2
  exact .ite hs hs1.of_eq

theorem feed (x : SensorId) (k : Sensor) (v : Int) (inputs : PourInputs) : (s.feed x k v inputs).Canon := by
  unfold State.feed
  extract_lets ts thr moved zone k1 old s1 s2 new
  have hs1 : s1.Canon := .keepMinute (.showSensor hs.of_eq ..) ..
  clear_value s1
  have hs2 : s2.Canon := by
    unfold s2
    split
    · exact (hs1.showBand ..).showHot ..
    · exact hs1.showRate ..
    · exact hs1
  exact .showFan (.ite hs2 (hs2.levelChanged ..))

theorem retireStack (k : Nat) : (s.retireStack k).Canon := by
  unfold State.retireStack
  extract_lets s1
  have hs1 : s1.Canon := (hs.wr ..).raise ..
  exact (hs1.loseChannel ..).loseChannel ..

theorem sensorBroken (x : SensorId) (k : Sensor) : (s.sensorBroken x k).Canon := by
  unfold State.sensorBroken
  extract_lets k1 d s1 s2 b s3
  have hs1 : s1.Canon := .showSensor hs.of_eq ..
  have hs2 : s2.Canon := ((hs1.bump ..).bump ..).raise ..
  clear_value s2
  have hs3 : s3.Canon := by
    unfold s3
    split
    · extract_lets k' t
      have ht : t.Canon := hs2.wr ..
      exact .ite (ht.retireStack ..) ht
    · exact hs2
  exact hs3.settle

theorem execSensorSample (sensor : SensorId) (r : Reading) (inputs : PourInputs) : Res.Canon (execSensorSample sensor r inputs s) := by
  unfold Machine.execSensorSample
  refine .next ?_
  extract_lets k cls s0 s1
  have hs1 : s0.Canon := hs.tally ..
  have hs2 : s1.Canon := by
    unfold s1
    split
    · exact hs1.tallyP ..
    · exact hs1
  split
  · exact hs
  · split
    · exact hs2.feed ..
    · split
      · exact .ite (hs2.feed ..) (hs2.sensorBroken ..)
      · exact hs2.sensorBroken ..
      · exact .ite (hs2.sensorBroken ..) hs2.of_eq

theorem execOptimeTick : Res.Canon (execOptimeTick s) := by
  unfold Machine.execOptimeTick
  refine .next ?_
  extract_lets a x s1
  have hs1 : s1.Canon := hs.of_eq
  exact .ite hs (.dramSettle (.ite (hs1.setReg ..) hs1))

theorem execOptimeSave : Res.Canon (execOptimeSave s) := by
  unfold Machine.execOptimeSave
  refine .next ?_
  extract_lets first
  split
  · exact hs
  · exact (hs.slotWrite ..).foldl (fun _ _ hs => hs.pageWrite ..) _

/-! ## The link of each head (R82 to R97, R105 to R111, R120, R293) -/

theorem measureLanes (h width : Nat) : (s.measureLanes h width).Canon := by
  unfold State.measureLanes
  extract_lets n
  refine .draw ?_
  exact hs.foldl (fun _ _ hs => (hs.wr ..).wr ..) _

theorem setLink (h width rate : Nat) : (s.setLink h width rate).Canon := by
  unfold State.setLink
  extract_lets changed mem was s1 s2 s3 s4
  have hs1 : s1.Canon := ((hs.wr ..).wr ..).wr ..
  have hs2 : s2.Canon := .ite (hs1.onHead ..) hs1
  have hs3 : s3.Canon := .ite hs2 (hs2.raiseH ..)
  have hs4 : s4.Canon := hs3.memActiveAt ..
  exact .ite hs4 (hs4.event ..)

theorem headEvent (h : Nat) : (s.headEvent h).Canon := by
  unfold State.headEvent
  exact .ite (hs.linkGone ..) (.ite (((hs.linkGone ..).headReset ..).raiseH ..) hs)

theorem linkFalls (h : Nat) : (s.linkFalls h).Canon := by
  unfold State.linkFalls
  exact .ite (hs.headEvent ..) hs

theorem execLinkDown (head : Fin 2) : Res.Canon (execLinkDown head s) := .next (.ite (hs.linkFalls ..) hs)

theorem execReferenceClockChange (clock : Fin 2) (stable : Bool) : Res.Canon (execReferenceClockChange clock stable s) := by
  unfold Machine.execReferenceClockChange
  refine .next ?_
  extract_lets s1
  have hs1 : s1.Canon := hs.onHead ..
  exact .ite (hs1.linkFalls ..) hs1

theorem execLinkTrained (head : Fin 2) (width : Nat) (rate : Fin 4) : Res.Canon (execLinkTrained head width rate s) := by
  unfold Machine.execLinkTrained
  refine .next ?_
  extract_lets h s1
  have hs1 : s1.Canon := hs.onHead ..
  exact .ite hs ((((hs1.measureLanes ..).raiseH ..).setLink ..).msix ..)

theorem retrainHead (h width rate : Nat) : (s.retrainHead h width rate).Canon := by
  unfold State.retrainHead
  extract_lets changed s1 s2
  have hs1 : s1.Canon := ((hs.bump ..).measureLanes ..).raiseH ..
  have hs2 : s2.Canon := .ite ((hs1.setLink ..).raiseH ..) hs1
  exact hs2.msix ..

theorem execLinkRetrain (head : Fin 2) (width : Nat) (rate : Fin 4) : Res.Canon (execLinkRetrain head width rate s) :=
  .next (.ite hs (hs.retrainHead ..))

theorem execFlitReplay (head : Fin 2) (corrected : List Nat) : Res.Canon (execFlitReplay head corrected s) := by
  unfold Machine.execFlitReplay
  refine .next ?_
  extract_lets h lanes total s1 s2
  have hs1 : s1.Canon := hs.foldl (fun _ _ hs => hs.bump ..) _
  have hs2 : s2.Canon := ((hs1.raiseH ..).tally ..).tally ..
  exact .ite hs (.ite (hs2.raiseH ..) hs2)

theorem execPerstAssert : Res.Canon (execPerstAssert s) := by
  unfold Machine.execPerstAssert
  refine .next ?_
  extract_lets s1
  have hs1 : s1.Canon := hs.setReg ..
  exact .ite hs (.ite hs1 (.ite (hs1.linkGone ..) (.ite (hs1.askWarm ..) (hs1.headEvent ..))))

theorem execPerst1Assert : Res.Canon (execPerst1Assert s) := by
  unfold Machine.execPerst1Assert
  refine .next ?_
  extract_lets s1
  have hs1 : s1.Canon := hs.setReg ..
  exact .ite hs (.ite hs1 (.ite (hs1.linkGone ..) (.ite (hs1.askWarm ..) (hs1.headEvent ..))))

theorem execPerstRelease (line : Fin 2) : Res.Canon (execPerstRelease line s) := by
  unfold Machine.execPerstRelease
  refine .next ?_
  extract_lets s1 x
  have hs1 : s1.Canon := .ite (hs.setReg ..) (hs.setReg ..)
  exact .ite hs1 hs1.of_eq

theorem execHotReset (head : Fin 2) : Res.Canon (execHotReset head s) := .next (.ite (hs.headEvent ..) hs)

theorem execFlr (head : Fin 2) : Res.Canon (execFlr head s) := .next (.ite (hs.onHead ..) hs)

theorem execD3hotEntry (head : Fin 2) : Res.Canon (execD3hotEntry head s) := .next (.ite (hs.onHead ..) hs)

theorem sendVector (h v : Nat) : (s.sendVector h v).Canon := by
  unfold State.sendVector
  extract_lets s1 s2
  have hs1 : s1.Canon := hs.onHead ..
  have hs2 : s2.Canon := .ite hs1 (hs1.wr ..)
  exact (hs2.send ..).tally ..

theorem sendPending (h : Nat) : (s.sendPending h).Canon := by
  unfold State.sendPending
  exact hs.foldl (fun _ _ hs => .ite (hs.sendVector ..) hs) _

theorem execD3hotExit (head : Fin 2) : Res.Canon (execD3hotExit head s) := .next (.ite ((hs.onHead ..).sendPending ..) hs)

theorem execMsixUnmask (head : Fin 2) (vector : Fin 32) : Res.Canon (execMsixUnmask head vector s) :=
  .next (.ite hs ((hs.onHead ..).sendPending ..))

theorem execAggGroupMessage (head : Fin 2) (group : Fin 24) (elapsed : Bool) : Res.Canon (execAggGroupMessage head group elapsed s) :=
  .next (.ite hs (((hs.onHead ..).wr ..).msix ..))

theorem sendDoe (h inst : Nat) (b : Body) : (s.sendDoe h inst b).Canon := ((hs.tally ..).send ..).msix ..

theorem doeObject {f : State → State} (hf : ∀ t : State, t.Canon → (f t).Canon) (h inst bytes : Nat) :
    (s.doeObject h inst bytes f).Canon := .ite hs (.ite (hs.onHead ..) (hf _ hs))

theorem execIdeIntegrityFailure (head : Fin 2) (mem : Bool) : Res.Canon (execIdeIntegrityFailure head mem s) := by
  unfold Machine.execIdeIntegrityFailure
  refine .next ?_
  extract_lets h f s1
  have hs1 : s1.Canon := (hs.setIde ..).onHead ..
  exact .ite hs ((hs1.raise ..).log ..)

theorem execIdeKm (head : Fin 2) (stream : IdeStream) (session : Nat) : Res.Canon (execIdeKm head stream session s) := by
  unfold Machine.execIdeKm
  refine .next ?_
  extract_lets h
  refine hs.doeObject (fun s hs => ?_) ..
  extract_lets s1
  have hs1 : s1.Canon := hs.onHead ..
  exact .ite hs ((hs1.setIde ..).sendDoe ..)

theorem execHdmDecoderCommit (head : Fin 2) (index : Fin 4) (set : DecoderSet) (commit : Bool) :
    Res.Canon (execHdmDecoderCommit head index set commit s) :=
  .next (.ite hs (hs.onHead ..))

theorem execCdatTableAccess (head : Fin 2) (request : DoeRequest) : Res.Canon (execCdatTableAccess head request s) := by
  unfold Machine.execCdatTableAccess
  refine .next ?_
  exact hs.doeObject (fun _ hs => hs.sendDoe ..) ..

theorem execDoeDiscovery (head inst : Fin 2) (request : DoeRequest) : Res.Canon (execDoeDiscovery head inst request s) := by
  unfold Machine.execDoeDiscovery
  refine .next ?_
  refine hs.doeObject (fun s hs => ?_) ..
  extract_lets l
  split
  · exact hs.sendDoe ..
  · exact hs.sendDoe ..

theorem execDoeAbort (head inst : Fin 2) (bytes : Nat) : Res.Canon (execDoeAbort head inst bytes s) := by
  unfold Machine.execDoeAbort
  refine .next ?_
  extract_lets u
  have hu : u.Canon := hs.doeObject (fun _ ht => ht) ..
  exact .ite ((hu.onHead ..).send ..) hs

theorem setD2d (f : Field) (m : Nat) (on : Bool) : (s.setD2d f m on).Canon := (hs.wrBit ..).wrBit ..

theorem d2dDown (m : Nat) (inputs : PourInputs) : (s.d2dDown m inputs).Canon := by
  unfold State.d2dDown
  extract_lets s1 down s2
  have hs1 : s1.Canon := ((hs.setD2d ..).setD2d ..).settle
  have hs2 : s2.Canon := hs1.event ..
  split
  · split
    · exact hs1.pourBegin ..
    · exact hs1.pourBegin ..
    · exact hs1.pourBegin ..
    · exact hs1.pourBegin ..
    · exact hs1.pourBegin ..
    · exact hs1.pourBegin ..
    · exact hs1
  · exact .ite (.ite (hs2.retrainHead ..) hs2) hs1

theorem execD2dLaneFail (mod : Fin 4) (retrained : Bool) (inputs : PourInputs) : Res.Canon (execD2dLaneFail mod retrained inputs s) :=
  .next (.ite hs (.ite ((hs.setD2d ..).settle) (hs.d2dDown ..)))

theorem execD2dModuleDown (mod : Fin 4) (inputs : PourInputs) : Res.Canon (execD2dModuleDown mod inputs s) :=
  .next (.ite (hs.d2dDown ..) hs)

theorem execStrapChangeWhilePowered (sampled present : Nat) : Res.Canon (execStrapChangeWhilePowered sampled present s) :=
  .next (.ite (hs.log ..) hs)

/-! ## The leaf protocol (R384 to R411) -/

theorem doorbell (h : Nat) (secondary : Bool) : (s.doorbell h secondary).Canon := by
  unfold State.doorbell
  exact .ite (hs.msix ..) hs

theorem mctp (bytes : Nat) : (s.mctp bytes).Canon := (hs.tally ..).draw

theorem countStatus (d status : Nat) : (s.countStatus d status).Canon := by
  unfold State.countStatus
  exact .ite ((hs.bump ..).raise ..) (.ite ((hs.bump ..).raise ..) (.ite (hs.bump ..) (.ite (hs.bump ..) hs)))

theorem sendReply (x : LeafReply) : (s.sendReply x).Canon := by
  unfold State.sendReply
  exact .ite (.ite ((hs.send ..).doorbell ..) hs) (.ite (.ite (((hs.tally ..).send ..).msix ..) hs) (.ite hs.of_eq hs))

theorem reply (r : Req) (status : Nat) (payload : List (BitVec 8)) : (s.reply r status payload).Canon := by
  unfold State.reply
  extract_lets st d s1 s2 s3
  have hs1 : s1.Canon := (((hs.wr ..).wr ..).wr ..).wr ..
  have hs2 : s2.Canon := hs1.countStatus ..
  have hs3 : s3.Canon := .ite (hs2.raise ..) hs2
  exact (hs3.tally ..).sendReply ..

theorem refuse (r : Req) (status : Nat) : (s.refuse r status).Canon := hs.reply ..

theorem ok (r : Req) (payload : List (BitVec 8)) : (s.ok r payload).Canon := hs.reply ..

theorem showBusy (d : Nat) : (s.showBusy d).Canon := by
  unfold State.showBusy
  exact .ite hs (.ite ((hs.wr ..).raise ..) (hs.wr ..))

theorem countTaken (d i : Nat) : (s.countTaken d i).Canon := (((hs.tally ..).bump ..).bump ..).wr ..

theorem dropRest (row : LeafRow) (h : LeafHdr) (st bytes : Nat) : (s.dropRest row h st bytes).Canon := by
  unfold State.dropRest
  exact .ite (hs.wr ..) ((hs.bump ..).wr ..)

theorem runLeaf {body : Req → State → State} (hbody : ∀ (r : Req) (t : State), t.Canon → (body r t).Canon) (row : LeafRow) (h : LeafHdr)
    (p : List (BitVec 8)) (sup wanted : Bool) : (s.runLeaf row h p sup wanted body).Canon := by
  unfold State.runLeaf
  extract_lets st
  split
  · exact hbody _ _ hs
  · exact (hs.dropRest ..).refuse ..

theorem mailLeaf (t rc : Nat) : (s.mailLeaf t rc).Canon := (hs.send ..).doorbell ..

theorem nackPacket : s.nackPacket.Canon := (hs.send ..).bump ..

theorem adapter (row : LeafRow) (h : LeafHdr) (p : List (BitVec 8)) : (s.adapter row h p).1.Canon := by
  unfold State.adapter
  extract_lets t head s1 s1'
  have hs1 : s1.Canon := hs.tally ..
  have hs1' : s1'.Canon := hs.mctp ..
  split
  · exact hs
  · split
    · split
      · exact hs
      · split
        · exact hs1.mailLeaf ..
        · split
          · exact hs1.mailLeaf ..
          · split
            · exact (hs1.mailLeaf ..).bump ..
            · exact hs1
    · split
      · exact hs.doeObject (fun _ ht => ht) ..
      · split
        · exact hs1'
        · split
          · exact hs1'.nackPacket
          · exact hs1'

theorem execEventNotify : Res.Canon (execEventNotify s) := .next (.ite hs hs.of_eq)

theorem execMctpReplyRead (notification : Bool) : Res.Canon (execMctpReplyRead notification s) := by
  unfold Machine.execMctpReplyRead
  refine .next ?_
  split
  · split
    · exact .send (.mctp hs.of_eq ..) ..
    · exact hs
  · split
    · exact hs
    · exact .send (.mctp hs.of_eq ..) ..

theorem execMctpReplyDiscard : Res.Canon (execMctpReplyDiscard s) := by
  unfold Machine.execMctpReplyDiscard
  refine .next ?_
  split
  · exact hs
  · exact .bump hs.of_eq ..

theorem execI3cDynamicAddressAssignment (address : Option (Fin 128)) : Res.Canon (execI3cDynamicAddressAssignment address s) :=
  .next (.ite hs.of_eq hs)

theorem execCqDrop (die : Fin 2) (words : Nat) : Res.Canon (execCqDrop die words s) :=
  .next (.ite hs (.ite (hs.wr ..) (.ite hs (hs.bump ..))))

/-! ## The leaves of status, units, grants, power and the platform manager's events (R288 to R292, R403, R407, R408, R415, R416, R426,
R473, R495, R521) -/

theorem leafIdentify (r : Req) : (leafIdentify r s).Canon := hs.ok ..

theorem leafGetStatus (r : Req) : (leafGetStatus r s).Canon := hs.ok ..

theorem leafGetPower (r : Req) : (leafGetPower r s).Canon := hs.ok ..

theorem leafSetLatencyTolerance (p : List Byte) (r : Req) : (leafSetLatencyTolerance p r s).Canon := by
  unfold Machine.leafSetLatencyTolerance
  extract_lets s1
  have hs1 : s1.Canon := ((hs.wr ..).wr ..).showTolerance
  exact hs1.ok ..

theorem setWall (ms who : Nat) : (s.setWall ms who).Canon := by
  unfold State.setWall
  exact .log hs.of_eq ..

theorem leafSetWallClock (p : List Byte) (r : Req) : (leafSetWallClock p r s).Canon := (hs.setWall ..).ok ..

theorem leafSetEventMask (p : List Byte) (r : Req) : (leafSetEventMask p r s).Canon := by
  unfold Machine.leafSetEventMask
  exact .ok hs.of_eq ..

theorem leafSetWindowGrant (p : List Byte) (r : Req) : (leafSetWindowGrant p r s).Canon := by
  unfold Machine.leafSetWindowGrant
  exact .ite (hs.refuse ..) (((hs.wr ..).wr ..).ok ..)

theorem leafGetWindowGrant (r : Req) : (leafGetWindowGrant r s).Canon := hs.ok ..

theorem flush : s.flush.Canon := by
  unfold State.flush
  extract_lets s1 qs
  have hs1 : s1.Canon := hs.foldl (fun _ _ hs => hs.completeQuire ..) _
  exact (((hs1.writeQuires ..).cleaned ..).programJournal).writeBack

theorem cleanShutdown : s.cleanShutdown.Canon := by
  unfold State.cleanShutdown
  extract_lets s2 s3 x x'
  have hs1 : s2.Canon := hs.stopRun.flush.programLog.slotWrite ..
  have hs2 : s3.Canon := ((hs1.rootSlots ..).setReg ..).setReg ..
  have hs3 : x.Canon := hs2.selfRefresh ..
  exact .toStandby hs3.of_eq

theorem clearLadder : s.clearLadder.Canon := (hs.setReg ..).setReg ..

theorem requestOff (r : Req) : (s.requestOff r).Canon := by
  unfold State.requestOff
  split
  · exact (hs.ok ..).cleanShutdown
  · exact (hs.ok ..).cleanShutdown
  · exact (hs.ok ..).cleanShutdown
  · exact (hs.ok ..).cleanShutdown
  · exact (hs.ok ..).cleanShutdown
  · exact (((hs.ok ..).clearLadder).setReg ..).toStandby
  · exact (hs.ok ..).setReg ..
  · exact hs.refuse ..

theorem requestOn (r : Req) : (s.requestOn r).Canon := by
  unfold State.requestOn
  split
  · exact .ite (((hs.ok ..).setReg ..).beginStart) (hs.refuse ..)
  · exact .ite (hs.ok ..) ((hs.ok ..).setReg ..)
  · exact ((hs.ok ..).clearLadder).beginCold
  · exact hs.refuse ..
  · exact hs.refuse ..
  · exact hs.ok ..

theorem leafPowerRequest (p : List Byte) (r : Req) : (leafPowerRequest p r s).Canon := by
  unfold Machine.leafPowerRequest
  split
  · exact hs.requestOff ..
  · exact hs.requestOn ..
  · exact hs.refuse ..

theorem leafWarmReset (r : Req) : (leafWarmReset r s).Canon := by
  unfold Machine.leafWarmReset
  split
  · exact hs.refuse ..
  · exact hs.refuse ..
  · exact hs.refuse ..
  · exact ((hs.ok ..).clearLadder).beginCold
  · exact (hs.ok ..).askWarm ..

theorem leafGetUnit (p : List Byte) (r : Req) : (leafGetUnit p r s).Canon := by
  unfold Machine.leafGetUnit
  exact .ite (hs.refuse ..) (hs.ok ..)

theorem unitOut (type i : Nat) (force : Bool) {t : State} (ht : s.unitOut type i force = some t) : t.Canon := by
  unfold State.unitOut at ht
  split at ht
  · extract_lets c t' at ht
    have ht' : t'.Canon := hs.dieFailed ..
    split at ht
    · cases ht
    · split at ht
      · cases ht
      · exact Option.some.inj ht ▸ ht'
  · split at ht
    · cases ht
      exact hs
    · split at ht
      · cases ht
      · cases ht
        exact hs.engineFailed ..
  · split at ht
    · cases ht
    · cases ht
      exact hs.packageLost ..

theorem leafUnitOut (p : List Byte) (r : Req) : (leafUnitOut p r s).Canon := by
  unfold Machine.leafUnitOut
  extract_lets type i
  split
  · exact hs.refuse ..
  · split
    · exact hs.refuse ..
    · next t ht => exact (hs.unitOut _ _ _ ht).ok ..

theorem unitReturn (type i : Nat) : (s.unitReturn type i).Canon := by
  unfold State.unitReturn
  split
  · exact .ite (hs.dieReturns ..) hs
  · exact .ite (hs.engineReturns ..) hs
  · exact .ite (((((hs.wrP ..).showPackages ..).showLimits).settle).askQuiesce ..) hs

theorem leafUnitReturn (h : LeafHdr) (p : List Byte) (pass : Bool) (r : Req) : (leafUnitReturn h p pass r s).Canon := by
  unfold Machine.leafUnitReturn
  extract_lets type i t
  have hs1 : t.Canon := .ite (hs.unitReturn ..) hs
  exact .ite (hs.refuse ..) (.ite hs.of_eq (hs1.ok ..))

end

end State.Canon

end Sys2Proof.Machine
end

section
/-! SUPPORT. Operations and commands that keep the stores in their canonical form: Keys.lean to Faceplate.lean (R103).
The proofs are elaborated in turn: many short ones at once, each waiting for those before it, take a thread and its stack each. -/

namespace Sys2Proof.Machine

set_option Elab.async false

namespace State.Canon

section
variable {s : State} (hs : s.Canon)
include hs

/-! ## Key slots and ranges (R346 to R350, R360) -/

theorem slotRecord (k : Nat) : (s.slotRecord k).Canon := by
  unfold State.slotRecord
  exact .pageCommit hs.of_eq ..

theorem setSlot (k st owner : Nat) (shared gen : Bool) : (s.setSlot k st owner shared gen).Canon :=
  ((((hs.wr ..).wr ..).wr ..).wr ..).slotRecord ..

theorem setSeed (k seed : Nat) : (s.setSeed k seed).Canon := hs.of_eq rfl

theorem newSlot0 : s.newSlot0.Canon := ((hs.setSeed ..).draw).setSlot ..

theorem walkRecords (lo hi : Nat) (mk : Nat → Nat → Nat → JBody) : (s.walkRecords lo hi mk).Canon := by
  unfold State.walkRecords
  exact hs.foldl (fun _ _ hs => (hs.journalC ..).takeSeq ..) _

theorem beginWalk (k : WalkKind) (lo hi : Nat) (mk : Nat → Nat → Nat → JBody) : (s.beginWalk k lo hi mk).Canon := by
  unfold State.beginWalk
  extract_lets w s1 x
  have hs1 : s1.Canon := hs.walkRecords ..
  exact hs1.of_eq

theorem startSweep (reason : Nat) (p : Nat × Nat × Nat × Nat) : (s.startSweep reason p).Canon := (hs.pageCommit ..).beginWalk ..

theorem endBulk (k result : Nat) : (s.endBulk k result).Canon := by
  unfold State.endBulk
  refine .raise ?_ ..
  exact { hs with bulk := (List.length_modify ..).trans hs.bulk }

theorem disableRanges (which : Nat → Bool) : (s.disableRanges which).Canon := by
  unfold State.disableRanges
  refine .pageCommit ?_ ..
  exact hs.foldl (fun _ _ hs => .ite (hs.wr ..) hs) _

theorem destroyEnd (k : Nat) : (s.destroyEnd k).Canon := by
  unfold State.destroyEnd
  extract_lets s1 s2 x s3
  have hs1 : s1.Canon := (((hs.disableRanges ..).setSeed ..).setSlot ..).raise ..
  have hs2 : s2.Canon := .ite hs1.newSlot0 hs1
  have hs3 : s3.Canon := hs2.of_eq
  split
  · exact hs2
  · split
    · exact hs3.ok ..
    · exact (hs3.endBulk ..).ok ..

theorem destroyBegin (k : Nat) : (s.destroyBegin k).Canon := by
  unfold State.destroyBegin
  extract_lets rs s1
  have hs1 : s1.Canon := (hs.wr ..).slotRecord ..
  split
  · exact hs1.destroyEnd ..
  · exact hs1.foldl (fun _ _ hs => hs.startSweep ..) _

theorem destroyWaiting : s.destroyWaiting.Canon := by
  unfold State.destroyWaiting
  exact hs.foldl (fun _ _ hs => .ite (hs.destroyBegin ..) hs) _

theorem destroySlot (d : Destroy) : (s.destroySlot d).Canon := by
  unfold State.destroySlot
  extract_lets x s1
  have hs1 : s1.Canon := hs.of_eq
  exact .ite hs1 (hs1.destroyBegin ..)

theorem sweepEnd (reason : Nat) : (s.sweepEnd reason).Canon := by
  unfold State.sweepEnd
  extract_lets more s1 s2
  have hs1 : s1.Canon := (hs.pageCommit ..).raise ..
  have hs2 : s2.Canon := .ite (.ite hs1 (hs1.wr ..)) (.ite hs1 (hs1.destroyEnd ..))
  exact hs2.destroyWaiting.nextQuiesce

theorem destroyAll : s.destroyAll.Canon := by
  unfold State.destroyAll
  extract_lets owed slots x x' x'' s1 s2 s3 s4
  have hs1 : s1.Canon := { hs.draw with }
  have hs2 : s2.Canon := (hs1.pageCommit ..).foldl (fun _ _ hs => (((hs.wr ..).wr ..).wr ..).wr ..) _
  have hs3 : s3.Canon := (hs2.disableRanges ..).foldl (fun _ _ hs => hs.wr ..) _
  have hs4 : s4.Canon := hs3.newSlot0.raise ..
  refine hs4.foldl (fun s d hs => ?_) _
  split
  · exact hs.ok ..
  · exact (hs.endBulk ..).ok ..

theorem noEntropy (r : Req) : (s.noEntropy r).Canon := (hs.raise ..).refuse ..

theorem leafKeyProvision (p : List Byte) (r : Req) : (leafKeyProvision p r s).Canon := by
  unfold Machine.leafKeyProvision
  extract_lets k gen s1
  have hs1 : s1.Canon := .ite ((hs.setSeed ..).draw) (hs.setSeed ..)
  exact .ite (hs.refuse ..) (.ite (hs.refuse ..) (.ite (hs.refuse ..) (.ite (hs.noEntropy ..) (((hs1.setSlot ..).raise ..).ok ..))))

theorem leafKeyDestroy (p : List Byte) (r : Req) : (leafKeyDestroy p r s).Canon := by
  unfold Machine.leafKeyDestroy
  exact .ite (hs.refuse ..) (.ite (hs.refuse ..) (.ite (hs.refuse ..) (.ite (hs.refuse ..) (hs.destroySlot ..))))

theorem writeRange (i base size slot : Nat) (on : Bool) : (s.writeRange i base size slot on).Canon := by
  unfold State.writeRange
  extract_lets s1 bounds changes
  have hs1 : s1.Canon := ((((hs.wr ..).wr ..).wr ..).wr ..).pageCommit ..
  split
  · exact hs1
  · exact (hs1.wr ..).foldl (fun _ _ hs => hs.startSweep ..) _

theorem leafRangeWrite (p : List Byte) (r : Req) : (leafRangeWrite p r s).Canon := by
  unfold Machine.leafRangeWrite
  exact .ite (hs.refuse ..) (.ite ((hs.writeRange ..).ok ..) (hs.refuse ..))

theorem leafKeyStatus (p : List Byte) (r : Req) : (leafKeyStatus p r s).Canon := by
  unfold Machine.leafKeyStatus
  exact .ite (hs.refuse ..) (hs.ok ..)

theorem execDrbgHealthFail (die : Fin 2) : Res.Canon (execDrbgHealthFail die s) := .next (.ite ((hs.wr ..).raise ..) hs)

/-! ## The Strainer channels (R378 to R382) -/

theorem strFeed (d n : Nat) (b : List (BitVec 8)) : (s.strFeed d n b).Canon := (hs.wr ..).tally ..

theorem strStart (d n : Nat) : (s.strStart d n).Canon := (hs.wr ..).wr ..

theorem strFinal (d n : Nat) : (s.strFinal d n).Canon := by
  unfold State.strFinal
  extract_lets s1
  have hs1 : s1.Canon := (hs.wr ..).wr ..
  exact .ite (((hs1.wr ..).wrBit ..).raise ..) hs1

theorem strCommand (d n v : Nat) : (s.strCommand d n v).Canon := by
  unfold State.strCommand
  extract_lets s1 s2
  have hs1 : s1.Canon := .ite (hs.strStart ..) hs
  have hs2 : s2.Canon := .ite (hs1.strFeed ..) hs1
  exact .ite (hs2.strFinal ..) hs2

/-! ## Bulk operations (R362 to R376) -/

theorem onBulk (k : Nat) (f : BulkOp → BulkOp) : (s.onBulk k f).Canon := { hs with bulk := (List.length_modify ..).trans hs.bulk }

theorem runBulk (k : Nat) : (s.runBulk k).Canon := by
  unfold State.runBulk
  extract_lets b s0 s1 s2
  have hs1 : s0.Canon := .ite hs.leaveDoze hs
  have hs2 : s1.Canon := hs1.onBulk ..
  have hs3 : s2.Canon := .ite (hs2.strStart ..) hs2
  exact .ite (hs2.beginWalk ..) (.ite (hs3.wr ..) (.ite (.ite hs2 (hs2.destroyBegin ..)) hs2))

theorem bulkStart (n : Nat) : (s.bulkStart n).Canon := by
  induction n generalizing s with
  | zero => exact hs
  | succ n ih =>
    unfold State.bulkStart
    extract_lets ready
    clear_value ready
    refine .ite hs ?_
    split
    · exact hs
    · exact ih (hs.runBulk _)

theorem bulkGo : s.bulkGo.Canon := hs.bulkStart ..

theorem acceptBulk (p : List Byte) (who k : Nat) (regions : List (Nat × Nat)) : (s.acceptBulk p who k regions).Canon := by
  unfold State.acceptBulk
  extract_lets h op total b s1
  have hs1 : s1.Canon := hs.setReg ..
  exact { hs1 with bulk := (List.length_set ..).trans hs1.bulk }

theorem leafBulkStart (p : List Byte) (r : Req) : (leafBulkStart p r s).Canon := by
  unfold Machine.leafBulkStart
  extract_lets op slot n rs h
  split
  · exact hs.refuse ..
  · split
    · exact hs.refuse ..
    · split
      · exact hs.refuse ..
      · split
        · exact hs.refuse ..
        · split
          · exact hs.refuse ..
          · split
            · exact hs.refuse ..
            · split
              · exact hs.refuse ..
              · extract_lets s1 d x
                have hs1 : s1.Canon := hs.acceptBulk ..
                exact .ite (.bulkGo hs1.of_eq) (((hs.acceptBulk ..).reply ..).bulkGo)

theorem writeQuire (q : Nat) (b : Block16) : (s.writeQuire q b).Canon := by
  unfold State.writeQuire
  extract_lets s0 blk p wt d x s1 host s2
  have hs1 : s0.Canon := .ite (hs.reachEarly ..) hs
  have hs2 : p.1.Canon := hs1.wayForWrite ..
  have hs3 : s1.Canon := (hs2.putWay ..).tally ..
  have hs4 : s2.Canon := ((hs3.poisonDel ..).poisonMask ..).poisonMask ..
  exact .ite hs (.evicting (.ite (hs4.stageBlock ..) hs4) ..)

theorem unmapOne (q : Nat) : (s.unmapOne q).Canon := by
  unfold State.unmapOne
  extract_lets s1
  have hs1 : s1.Canon := hs.reachEarly ..
  exact .ite hs ((hs1.walkRecords ..).unmapQuire ..)

theorem snapshotOf (q : Nat) (o : Nat → SheetOutcome) : (s.snapshotOf q o).1.Canon := by
  unfold State.snapshotOf
  extract_lets p s1
  have hp : p.1.Canon := hs.foldl_fst (fun _ _ hp => hp.mergeSheet ..) _ _
  split
  · exact hs
  · split
    · exact hp
    · split
      · exact hp.putWay ..
      · split
        · exact hp.putWay ..
        · exact hp

theorem bulkNext (k q event done : Nat) : (s.bulkNext k q event done).Canon := by
  unfold State.bulkNext
  extract_lets s1
  have hs1 : s1.Canon := ((hs.onBulk ..).bump ..).tally ..
  exact .ite hs1 (hs1.endBulk ..)

theorem bulkWrote (k q event : Nat) : (s.bulkWrote k q event).Canon := by
  unfold State.bulkWrote
  exact .ite (hs.onBulk ..) ((hs.onBulk ..).bulkNext ..)

theorem checkEnds (k result : Nat) : (s.checkEnds k result).Canon := (hs.wr ..).endBulk ..

theorem checkQuire (k q : Nat) (o : Nat → SheetOutcome) : (s.checkQuire k q o).Canon := by
  unfold State.checkQuire
  extract_lets b c p bad n bytes s1 s2 s3
  clear_value bad n bytes
  have hp : p.1.Canon := hs.snapshotOf ..
  have hs1 : s1.Canon := hp.strFeed ..
  have hs2 : s2.Canon := ((hs1.onBulk ..).bump ..).tally ..
  have hs3 : s3.Canon := hs2.strFinal ..
  split
  · exact (hs1.onBulk ..).checkEnds ..
  · exact .ite hs2 (.ite (hs3.checkEnds ..) (hs2.checkEnds ..))

theorem compareQuire (k qa qb : Nat) (oa ob : Nat → SheetOutcome) : (s.compareQuire k qa qb oa ob).Canon := by
  unfold State.compareQuire
  extract_lets p r poisoned
  have hs1 : p.1.Canon := hs.snapshotOf ..
  have hs2 : r.1.Canon := hs1.snapshotOf ..
  split
  · exact (hs2.onBulk ..).endBulk ..
  · exact hs2.bulkNext ..

theorem copyQuire (dst src : Nat) (o : Nat → SheetOutcome) : (s.copyQuire dst src o).Canon := by
  unfold State.copyQuire
  extract_lets p
  have hs1 : p.1.Canon := hs.snapshotOf ..
  exact .ite (hs.unmapOne ..) (hs1.writeQuire ..)

theorem zeroQuire (k : Nat) : (s.zeroQuire k).Canon := by
  unfold State.zeroQuire
  extract_lets b
  split
  · exact hs.endBulk ..
  · extract_lets p q done
    have hs1 : p.1.Canon := hs.walkOne ..
    exact (hs1.tally ..).bulkNext ..

theorem bulkTamper (q n : Nat) : (s.bulkTamper q n).Canon := hs.halt ..

theorem execBulkQuireHandled (slot : Fin 16) (sheets : List SheetOutcome) : Res.Canon (execBulkQuireHandled slot sheets s) := by
  unfold Machine.execBulkQuireHandled
  refine .next ?_
  extract_lets k b oa ob qa qb src
  split
  · exact hs
  · split
    · exact (hs.zeroQuire ..).bulkGo
    · split
      · exact (hs.bulkWrote ..).bulkGo
      · split
        · exact hs.bulkTamper ..
        · split
          · exact (((hs.writeQuire ..).tally ..).bulkWrote ..).bulkGo
          · exact (((hs.copyQuire ..).tally ..).bulkWrote ..).bulkGo
          · exact (hs.checkQuire ..).bulkGo
          · split
            · exact hs.bulkTamper ..
            · exact (hs.compareQuire ..).bulkGo

theorem sweepCount (reason : Nat) : (s.sweepCount reason).Canon := by
  unfold State.sweepCount
  split
  · split
    · exact hs.onBulk ..
    · exact hs
  · exact hs

theorem sweepStep (w : Walk) (reason : Nat) : (s.sweepStep w reason).Canon := by
  unfold State.sweepStep
  extract_lets q p s1
  have hs1 : p.1.Canon := hs.walkOne ..
  have hs2 : s1.Canon := (hs1.tally ..).sweepCount ..
  exact .ite ((hs2.sweepEnd ..).bulkGo) hs2

theorem execSlotSweepStep : Res.Canon (execSlotSweepStep s) := by
  unfold Machine.execSlotSweepStep
  refine .next ?_
  split
  · exact hs
  · exact .ite hs (hs.sweepStep ..)

theorem leafBulkStatus (p : List Byte) (r : Req) : (leafBulkStatus p r s).Canon := by
  unfold Machine.leafBulkStatus
  split
  · exact hs.refuse ..
  · exact hs.ok ..

theorem stopZero (handle : Nat) : (s.stopZero handle).Canon := by
  unfold State.stopZero
  split
  · exact hs
  · extract_lets trim m s1
    have hs1 : s1.Canon := hs.of_eq
    exact hs1.foldl (fun _ _ hs => hs.walkRecords ..) _

theorem leafBulkAbort (p : List Byte) (r : Req) : (leafBulkAbort p r s).Canon := by
  unfold Machine.leafBulkAbort
  split
  · exact hs.refuse ..
  · extract_lets b s1 s2
    have hs1 : s1.Canon := .ite (hs.stopZero ..) hs
    have hs2 : s2.Canon := .ite (hs1.checkEnds ..) (hs1.endBulk ..)
    exact .ite (hs.refuse ..) (.ite (hs.ok ..) (.ite (hs.refuse ..) ((hs2.ok ..).bulkGo)))

/-! ## Attestation, firmware and scan entry (R351 to R358, R423, R424) -/

theorem setFwSlot (n : Nat) (x : FwSlot) : (s.setFwSlot n x).Canon := by
  unfold State.setFwSlot
  exact .ite hs.of_eq hs.of_eq

theorem leafGetMeasurements (p : List Byte) (r : Req) : (leafGetMeasurements p r s).Canon := by
  unfold Machine.leafGetMeasurements
  exact .ite (hs.refuse ..) (hs.ok ..)

theorem leafGetCertificate (p : List Byte) (r : Req) : (leafGetCertificate p r s).Canon := by
  unfold Machine.leafGetCertificate
  exact .ite (hs.refuse ..) (hs.ok ..)

theorem countDoe (t : Nat) : (s.countDoe t).Canon := by
  unfold State.countDoe
  exact .ite (hs.tally ..) hs

theorem spdm {f : State → State} (hf : ∀ t : State, t.Canon → (f t).Canon) (t : Nat) : (s.spdm t f).Canon :=
  .ite (hf _ (hs.countDoe t)) hs

theorem spdmPut (t : Nat) (b : Body) : (s.spdmPut t b).Canon := by
  unfold State.spdmPut
  exact .ite ((hs.send ..).msix ..) (hs.send ..)

theorem spdmSay (t : Nat) (v : List Nat) : (s.spdmSay t v).Canon := hs.spdmPut ..

theorem spdmBytes (t code : Nat) (b : List (BitVec 8)) : (s.spdmBytes t code b).Canon := hs.spdmPut ..

theorem spdmError (t : Nat) : (s.spdmError t).Canon := hs.spdmSay ..

theorem execSpdmGetVersion (transport : Fin 3) : Res.Canon (execSpdmGetVersion transport s) := by
  unfold Machine.execSpdmGetVersion
  refine .next ?_
  exact hs.spdm (fun _ hs => hs.spdmSay ..) ..

theorem execSpdmGetCapabilities (transport : Fin 3) : Res.Canon (execSpdmGetCapabilities transport s) := by
  unfold Machine.execSpdmGetCapabilities
  refine .next ?_
  exact hs.spdm (fun _ hs => hs.spdmSay ..) ..

theorem execSpdmNegotiateAlgorithms (transport : Fin 3) (supported : Bool) :
    Res.Canon (execSpdmNegotiateAlgorithms transport supported s) := by
  unfold Machine.execSpdmNegotiateAlgorithms
  refine .next ?_
  exact hs.spdm (fun _ hs => .ite (hs.spdmSay ..) (hs.spdmError ..)) ..

theorem execSpdmGetDigests (transport : Fin 3) : Res.Canon (execSpdmGetDigests transport s) := by
  unfold Machine.execSpdmGetDigests
  refine .next ?_
  exact hs.spdm (fun _ hs => hs.spdmBytes ..) ..

theorem execSpdmGetCertificate (transport : Fin 3) (slot offset length : Nat) :
    Res.Canon (execSpdmGetCertificate transport slot offset length s) := by
  unfold Machine.execSpdmGetCertificate
  refine .next ?_
  exact hs.spdm (fun _ hs => .ite (hs.spdmBytes ..) (hs.spdmError ..)) ..

theorem spdmSigned (t code : Nat) (b : List (BitVec 8)) : (s.spdmSigned t code b).Canon := by
  unfold State.spdmSigned
  exact .ite ((hs.raise ..).spdmError ..) ((hs.spdmBytes ..).draw)

theorem execSpdmChallenge (transport : Fin 3) (slot nonce : Nat) : Res.Canon (execSpdmChallenge transport slot nonce s) := by
  unfold Machine.execSpdmChallenge
  refine .next ?_
  exact hs.spdm (fun _ hs => .ite (hs.spdmSigned ..) (hs.spdmError ..)) ..

theorem execSpdmGetMeasurements (transport : Fin 3) (index nonce : Nat) :
    Res.Canon (execSpdmGetMeasurements transport index nonce s) := by
  unfold Machine.execSpdmGetMeasurements
  refine .next ?_
  exact hs.spdm (fun _ hs => .ite (hs.spdmSigned ..) (.ite (hs.spdmSigned ..) (.ite (hs.spdmSigned ..) (hs.spdmError ..)))) ..

theorem execSpdmKeyExchange (transport : Fin 3) (finishGood : Bool) : Res.Canon (execSpdmKeyExchange transport finishGood s) := by
  unfold Machine.execSpdmKeyExchange
  refine .next ?_
  refine hs.spdm (fun s hs => ?_) ..
  extract_lets x x' s1
  have hs1 : s1.Canon := hs.of_eq
  exact .ite (hs.spdmError ..) (.ite ((hs.raise ..).spdmError ..) (.ite ((hs.spdmError ..).raise ..) ((hs1.spdmSay ..).raise ..)))

theorem endSession (t id : Nat) : (s.endSession t id).Canon := by
  unfold State.endSession
  exact .raise hs.of_eq ..

theorem execSpdmKeyUpdate (transport : Fin 3) (session : Nat) : Res.Canon (execSpdmKeyUpdate transport session s) := by
  unfold Machine.execSpdmKeyUpdate
  refine .next ?_
  exact hs.spdm (fun _ hs => .ite (hs.spdmSay ..) (hs.spdmError ..)) ..

theorem execSpdmHeartbeat (transport : Fin 3) (session : Nat) : Res.Canon (execSpdmHeartbeat transport session s) := by
  unfold Machine.execSpdmHeartbeat
  refine .next ?_
  exact hs.spdm (fun _ hs => .ite (hs.spdmSay ..) (hs.spdmError ..)) ..

theorem execSpdmEndSession (transport : Fin 3) (session : Nat) : Res.Canon (execSpdmEndSession transport session s) := by
  unfold Machine.execSpdmEndSession
  refine .next ?_
  exact hs.spdm (fun _ hs => .ite ((hs.spdmSay ..).endSession ..) (hs.spdmError ..)) ..

theorem execSpdmHeartbeatTimeout (transport : Fin 3) (session : Nat) : Res.Canon (execSpdmHeartbeatTimeout transport session s) :=
  .next (.ite (hs.endSession ..) hs)

theorem takeImage (offset n length : Nat) (v : ImageVerdict) : (s.takeImage offset n length v).1.Canon := by
  unfold State.takeImage
  extract_lets slot follows x at'
  split
  · exact hs.of_eq
  · split
    · split
      · dsimp only
        exact .setFwSlot hs.of_eq ..
      · dsimp only
        exact .raise hs.of_eq ..
    · dsimp only
      exact .raise hs.of_eq ..

theorem leafFwTransfer (p : List Byte) (v : ImageVerdict) (r : Req) : (leafFwTransfer p v r s).Canon := by
  unfold Machine.leafFwTransfer
  extract_lets off len n x
  have hs1 : x.1.Canon := hs.takeImage ..
  exact .ite (hs.refuse ..) (.ite (hs1.refuse ..) (hs1.ok ..))

theorem leafFwActivate (verified : Bool) (r : Req) : (leafFwActivate verified r s).Canon := by
  unfold Machine.leafFwActivate
  exact .ite ((hs.raise ..).refuse ..) (.ite ((((hs.ok ..).setReg ..).clearLadder).beginCold) (hs.askQuiesce ..))

theorem leafSvnCommit (r : Req) : (leafSvnCommit r s).Canon := by
  unfold Machine.leafSvnCommit
  extract_lets svn other s1
  have hs1 : s1.Canon := (hs.setReg ..).raise ..
  exact .ite (hs.refuse ..) (hs1.ok ..)

theorem leafScanChallenge (r : Req) : (leafScanChallenge r s).Canon := by
  unfold Machine.leafScanChallenge
  extract_lets c x x'
  have hs1 : x.Canon := hs.draw
  exact .ite (hs.noEntropy ..) (.ok (.raise hs1.of_eq ..) ..)

theorem execScanChallengeExpiry : Res.Canon (execScanChallengeExpiry s) := .next hs.of_eq

theorem scanEnter : s.scanEnter.Canon := by
  unfold State.scanEnter
  extract_lets s1 s2 x x' x'' s3 s4
  have hs1 : s1.Canon := hs.answerAll.abortSteeps.stopBulk.memActive ..
  have hs2 : s2.Canon := hs1.destroyAll
  have hs3 : s3.Canon := { hs2 with ways := rfl }
  have hs4 : s4.Canon := (hs3.log ..).draw
  exact ((hs4.setReg ..).setReg ..).bump ..

theorem leafScanUnlock (p : List Byte) (signed : Bool) (r : Req) : (leafScanUnlock p signed r s).Canon := by
  unfold Machine.leafScanUnlock
  exact .ite ((hs.raise ..).refuse ..) (.ite (hs.noEntropy ..) (.ite (.ok hs.of_eq ..) ((hs.ok ..).scanEnter)))

/-! ## The health report (R301, R303) and the mailbox commands (R98 to R106, R114) -/

theorem leafHealthReport (r : Req) : (leafHealthReport r s).Canon := hs.ok ..

theorem mailSay (m : Mbox) (op rc : Nat) (b : Body) : (s.mailSay m op rc b).Canon := (hs.send ..).doorbell ..

theorem mailRc (m : Mbox) (op rc : Nat) : (s.mailRc m op rc).Canon := hs.mailSay ..

theorem mailOk (m : Mbox) (op : Nat) (v : List Nat) : (s.mailOk m op v).Canon := hs.mailSay ..

theorem mail {f : State → State} (hf : ∀ t : State, t.Canon → (f t).Canon) (m : Mbox) (op : Nat) : (s.mail m op f).Canon := by
  unfold State.mail
  extract_lets s1
  have hs1 : s1.Canon := (hs.tally ..).onHead ..
  exact .ite hs (.ite (hs1.mailRc ..) (.ite (hs1.mailRc ..) (.ite (hs1.mailRc ..) (hf _ hs1))))

theorem bgStart {f : State → State} (hf : ∀ t : State, t.Canon → (f t).Canon) (m : Mbox) (op : Nat) : (s.bgStart m op f).Canon := by
  unfold State.bgStart
  extract_lets s1
  have hs1 : s1.Canon := hs.onHead ..
  exact .ite (hs.mailRc ..) (hf _ (hs1.mailRc ..))

theorem execBackgroundOperationStatus (m : Mbox) : Res.Canon (execBackgroundOperationStatus m s) := by
  unfold Machine.execBackgroundOperationStatus
  refine .next ?_
  exact hs.mail (fun _ hs => hs.mailOk ..) ..

theorem execGetEventRecords (m : Mbox) (log : Fin 4) : Res.Canon (execGetEventRecords m log s) := by
  unfold Machine.execGetEventRecords
  refine .next ?_
  exact hs.mail (fun _ hs => hs.mailSay ..) ..

theorem execClearEventRecords (m : Mbox) (log : Fin 4) (all : Bool) (handles : List Nat) :
    Res.Canon (execClearEventRecords m log all handles s) := by
  unfold Machine.execClearEventRecords
  refine .next ?_
  exact hs.mail (fun _ hs => .ite (hs.mailRc ..) ((hs.onHead ..).mailRc ..)) ..

theorem execGetEventInterruptPolicy (m : Mbox) : Res.Canon (execGetEventInterruptPolicy m s) := by
  unfold Machine.execGetEventInterruptPolicy
  refine .next ?_
  exact hs.mail (fun _ hs => hs.mailOk ..) ..

theorem execSetEventInterruptPolicy (m : Mbox) (modes : List (Fin 3)) : Res.Canon (execSetEventInterruptPolicy m modes s) := by
  unfold Machine.execSetEventInterruptPolicy
  refine .next ?_
  exact hs.mail (fun _ hs => .ite (hs.mailRc ..) ((hs.onHead ..).mailRc ..)) ..

theorem execGetFwInfo (m : Mbox) : Res.Canon (execGetFwInfo m s) := by
  unfold Machine.execGetFwInfo
  refine .next ?_
  exact hs.mail (fun _ hs => hs.mailOk ..) ..

theorem execTransferFw (m : Mbox) (offset length data : Nat) (verdict : ImageVerdict) :
    Res.Canon (execTransferFw m offset length data verdict s) := by
  unfold Machine.execTransferFw
  refine .next ?_
  refine hs.mail (fun s hs => ?_) ..
  extract_lets x
  have hs1 : x.1.Canon := hs.takeImage ..
  exact .ite (hs.mailRc ..) (.ite (hs.mailRc ..) (hs1.mailRc ..))

theorem execActivateFw (m : Mbox) (verified : Bool) : Res.Canon (execActivateFw m verified s) := by
  unfold Machine.execActivateFw
  refine .next ?_
  refine hs.mail (fun s hs => ?_) ..
  split
  · exact (hs.raise ..).mailRc ..
  · exact hs.bgStart (fun _ hs => hs.askQuiesce ..) ..

theorem execGetTimestamp (m : Mbox) : Res.Canon (execGetTimestamp m s) := by
  unfold Machine.execGetTimestamp
  refine .next ?_
  exact hs.mail (fun _ hs => hs.mailOk ..) ..

theorem execSetTimestamp (m : Mbox) (ms : BitVec 64) : Res.Canon (execSetTimestamp m ms s) := by
  unfold Machine.execSetTimestamp
  refine .next ?_
  exact hs.mail (fun _ hs => (hs.setWall ..).mailRc ..) ..

theorem execGetSupportedLogs (m : Mbox) : Res.Canon (execGetSupportedLogs m s) := by
  unfold Machine.execGetSupportedLogs
  refine .next ?_
  exact hs.mail (fun _ hs => hs.mailOk ..) ..

theorem execGetLog (m : Mbox) (effects : Bool) (offset length : Nat) : Res.Canon (execGetLog m effects offset length s) := by
  unfold Machine.execGetLog
  refine .next ?_
  exact hs.mail (fun _ hs => .ite (hs.mailRc ..) (hs.mailSay ..)) ..

theorem execIdentifyMemoryDevice (m : Mbox) : Res.Canon (execIdentifyMemoryDevice m s) := by
  unfold Machine.execIdentifyMemoryDevice
  refine .next ?_
  exact hs.mail (fun _ hs => hs.mailOk ..) ..

theorem execGetPartitionInfo (m : Mbox) : Res.Canon (execGetPartitionInfo m s) := by
  unfold Machine.execGetPartitionInfo
  refine .next ?_
  exact hs.mail (fun _ hs => hs.mailOk ..) ..

theorem execGetLsa (m : Mbox) (offset length : Nat) : Res.Canon (execGetLsa m offset length s) := by
  unfold Machine.execGetLsa
  refine .next ?_
  exact hs.mail (fun _ hs => .ite (hs.mailRc ..) (hs.mailSay ..)) ..

theorem execSetLsa (m : Mbox) (offset : Nat) (data : List Byte) : Res.Canon (execSetLsa m offset data s) := by
  unfold Machine.execSetLsa
  refine .next (hs.mail (fun s hs => ?_) ..)
  split
  · exact hs.mailRc ..
  · split
    · exact hs.mailRc ..
    · next fits =>
      obtain ⟨form, bound⟩ := hs.lsa
      simp only [List.all_eq_true, decide_eq_true_eq] at bound
      obtain ⟨form, bound⟩ := putBytes_wf data offset 131072 (Nat.not_lt.mp fits) form bound
      refine .mailRc ?_ ..
      exact { hs with lsa := ⟨form, by simpa only [List.all_eq_true, decide_eq_true_eq] using bound⟩ }

theorem execGetHealthInfo (m : Mbox) : Res.Canon (execGetHealthInfo m s) := by
  unfold Machine.execGetHealthInfo
  refine .next ?_
  exact hs.mail (fun _ hs => hs.mailOk ..) ..

theorem execGetAlertConfiguration (m : Mbox) : Res.Canon (execGetAlertConfiguration m s) := by
  unfold Machine.execGetAlertConfiguration
  refine .next ?_
  exact hs.mail (fun _ hs => hs.mailOk ..) ..

theorem execSetAlertConfiguration (m : Mbox) (values : List Nat) : Res.Canon (execSetAlertConfiguration m values s) := by
  unfold Machine.execSetAlertConfiguration
  refine .next ?_
  exact hs.mail (fun _ hs => (hs.onHead ..).mailRc ..) ..

theorem execGetShutdownState (m : Mbox) : Res.Canon (execGetShutdownState m s) := by
  unfold Machine.execGetShutdownState
  refine .next ?_
  exact hs.mail (fun _ hs => hs.mailOk ..) ..

theorem execSetShutdownState (m : Mbox) (state : BitVec 8) : Res.Canon (execSetShutdownState m state s) := by
  unfold Machine.execSetShutdownState
  refine .next ?_
  exact hs.mail (fun _ hs => (hs.onHead ..).mailRc ..) ..

theorem execGetPoisonList (m : Mbox) (dpa length : Nat) : Res.Canon (execGetPoisonList m dpa length s) := by
  unfold Machine.execGetPoisonList
  refine .next ?_
  exact hs.mail (fun _ hs => .ite (hs.mailRc ..) (hs.mailOk ..)) ..

theorem execClearPoison (m : Mbox) (dpa : Nat) (data : Line) (env : PathEnv) : Res.Canon (execClearPoison m dpa data env s) := by
  unfold Machine.execClearPoison
  refine .next ?_
  refine hs.mail (fun s hs => ?_) ..
  extract_lets line s1 s2
  have hs1 : s1.Canon := hs.meets ..
  have hs2 : s2.Canon := .ite (hs1.writeLine ..) (hs1.writeLine ..)
  exact .ite (hs.mailRc ..) (.ite (hs.mailRc ..) (.ite (hs.mailRc ..) (.ite (hs.mailRc ..) (hs2.mailRc ..))))

theorem execGetScanMediaCapabilities (m : Mbox) (dpa length : Nat) : Res.Canon (execGetScanMediaCapabilities m dpa length s) := by
  unfold Machine.execGetScanMediaCapabilities
  refine .next ?_
  exact hs.mail (fun _ hs => .ite (hs.mailRc ..) ((hs.mailOk ..).draw)) ..

theorem execScanMedia (m : Mbox) (dpa length : Nat) : Res.Canon (execScanMedia m dpa length s) := by
  unfold Machine.execScanMedia
  refine .next ?_
  refine hs.mail (fun s hs => ?_) ..
  split
  · exact hs.mailRc ..
  · split
    · split
      · exact hs.mailRc ..
      · exact hs.bgStart (fun _ hs => hs.of_eq) ..
    · split
      · exact hs.mailRc ..
      · exact hs.bgStart (fun _ hs => hs.of_eq) ..

theorem execGetScanMediaResults (m : Mbox) : Res.Canon (execGetScanMediaResults m s) := by
  unfold Machine.execGetScanMediaResults
  refine .next ?_
  refine hs.mail (fun s hs => ?_) ..
  split
  · exact .ite (hs.mailOk ..) (hs.mailRc ..)
  · exact hs.mailRc ..

theorem eraseStart (m : Mbox) (op : Nat) (w : QWork) : (s.eraseStart m op w).Canon := by
  unfold State.eraseStart
  split
  · exact hs.mailRc ..
  · split
    · exact (hs.raise ..).mailRc ..
    · exact hs.bgStart (fun _ hs => hs.askQuiesce ..) ..

theorem execSanitize (m : Mbox) : Res.Canon (execSanitize m s) := by
  unfold Machine.execSanitize
  refine .next ?_
  exact hs.mail (fun _ hs => hs.eraseStart ..) ..

theorem execSecureErase (m : Mbox) : Res.Canon (execSecureErase m s) := by
  unfold Machine.execSecureErase
  refine .next ?_
  exact hs.mail (fun _ hs => hs.eraseStart ..) ..

theorem fabric {f : State → State} (hf : ∀ t : State, t.Canon → (f t).Canon) : (s.fabric f).Canon := .ite (hf _ hs) hs

theorem execGetMultiHeadedInfo : Res.Canon (execGetMultiHeadedInfo s) := by
  unfold Machine.execGetMultiHeadedInfo
  refine .next ?_
  exact hs.fabric (fun _ hs => hs.send ..)

theorem execGetHeadInfo (start count : Nat) : Res.Canon (execGetHeadInfo start count s) := by
  unfold Machine.execGetHeadInfo
  refine .next ?_
  exact hs.fabric (fun _ hs => .ite (hs.send ..) (hs.send ..))

theorem execMailboxUnsupported (m : Mbox) (opcode : BitVec 16) : Res.Canon (execMailboxUnsupported m opcode s) := by
  unfold Machine.execMailboxUnsupported
  split
  · exact .next (hs.mail (fun _ ht => ht.mailRc ..) ..)
  · split
    · exact hs.execBackgroundOperationStatus ..
    · exact hs.execGetEventInterruptPolicy ..
    · exact hs.execGetFwInfo ..
    · exact hs.execGetTimestamp ..
    · exact hs.execGetSupportedLogs ..
    · exact hs.execIdentifyMemoryDevice ..
    · exact hs.execGetPartitionInfo ..
    · exact hs.execGetHealthInfo ..
    · exact hs.execGetAlertConfiguration ..
    · exact hs.execGetShutdownState ..
    · exact hs.execGetScanMediaResults ..
    · exact hs.execSanitize ..
    · exact hs.execSecureErase ..
    · exact .next (hs.mail (fun _ ht => ht.mailRc ..) ..)
    · exact .next (hs.mail (fun _ ht => ht.mailRc ..) ..)

/-! ## The tally (R475 to R490) -/

theorem setTlyOvf (d bank i : Nat) : (s.setTlyOvf d bank i).Canon := by
  unfold State.setTlyOvf
  split
  · exact hs.wrBit ..
  · exact hs.wrBit ..
  · exact hs.wrBit ..

theorem latch (d bank : Nat) : (s.latch d bank).Canon := by
  unfold State.latch
  extract_lets s1
  have hs1 : s1.Canon := hs.wr ..
  exact hs1.foldl (fun _ _ hs => hs.wr ..) _

theorem tlyAdd (d bank i n : Nat) : (s.tlyAdd d bank i n).Canon := by
  unfold State.tlyAdd
  extract_lets v s1
  have hs1 : s1.Canon := hs.wr ..
  exact .ite hs (.ite hs1 ((hs1.setTlyOvf ..).assertSource ..))

theorem execTlyCounterWrap (die : Fin 2) (bank : Fin 3) (index events : Nat) : Res.Canon (execTlyCounterWrap die bank index events s) :=
  .next (hs.tlyAdd ..)

theorem restartSampler (d : Nat) : (s.restartSampler d).Canon := hs.of_eq rfl

theorem loseSample (d : Nat) : (s.loseSample d).Canon := (hs.bump ..).tally ..

theorem placeSample (d : Nat) (r : BitVec 256) : (s.placeSample d r).Canon := by
  unfold State.placeSample
  extract_lets wr unread put s1
  have hs1 : put.Canon := .wr hs.of_eq ..
  have hs2 : s1.Canon := (hs1.wr ..).tally ..
  exact .ite (hs.loseSample ..) (.ite (((hs1.wr ..).tally ..).loseSample ..) (.ite (hs2.raise ..) hs2))

theorem skidSample (d addr : Nat) : (s.skidSample d addr).Canon := by
  unfold State.skidSample
  exact .ite (hs.bump ..) ((((hs.wr ..).wr ..).wr ..).raise ..)

theorem execTlySample (die : Fin 2) (events : Nat) (f : SampleFields) : Res.Canon (execTlySample die events f s) := by
  unfold Machine.execTlySample
  refine .next ?_
  extract_lets d n count s1
  have hs1 : s1.Canon := hs.of_eq
  exact .ite hs (.ite hs.of_eq (.ite (hs1.skidSample ..) (.ite (hs1.loseSample ..) (hs1.draw.placeSample ..))))

theorem leafTallyRead (p : List Byte) (r : Req) : (leafTallyRead p r s).Canon := by
  unfold Machine.leafTallyRead
  extract_lets bank die first count s1
  have hs1 : s1.Canon := hs.latch ..
  exact .ite (hs.refuse ..) (.ite (hs.refuse ..) (hs1.ok ..))

theorem leafTallySample (p : List Byte) (r : Req) : (leafTallySample p r s).Canon := by
  unfold Machine.leafTallySample
  extract_lets d mode e s1
  have hs1 : s1.Canon := ((hs.wr ..).wr ..).wr ..
  exact .ite (hs.refuse ..) (.ite (hs.refuse ..) ((hs1.restartSampler ..).ok ..))

/-! ## Reading the Ream (R496, R500 to R503), its suppression summaries (R494), and the leaves of the quire store (R504 to R511) -/

theorem setCursor (u q : Nat) : (s.setCursor u q).Canon := by
  unfold State.setCursor
  exact .ite hs.of_eq (hs.wr ..)

theorem setMark (u q : Nat) : (s.setMark u q).Canon := by
  unfold State.setMark
  exact .ite hs.of_eq (hs.wr ..)

theorem reportGap (u : Nat) : (s.reportGap u).Canon := by
  unfold State.reportGap
  exact .ite hs (((hs.wr ..).wr ..).log ..)

theorem readRecords (most : Nat) (r : Req) : (s.readRecords most r).Canon := by
  unfold State.readRecords
  exact .ite (hs.refuse ..) (((hs.setCursor ..).reportGap ..).ok ..)

theorem leafReamRead (p : List Byte) (r : Req) : (leafReamRead p r s).Canon := by
  unfold Machine.leafReamRead
  extract_lets u
  split
  · exact hs.refuse ..
  · split
    · exact hs.readRecords ..
    · exact ((hs.setCursor ..).reportGap ..).ok ..
    · exact ((hs.setMark ..).reportGap ..).ok ..
    · exact hs.refuse ..

theorem loadWindow : s.loadWindow.Canon := by
  unfold State.loadWindow
  exact .wr (.setReg (.setReg hs.of_eq ..) ..) ..

theorem reamCommand (v : Nat) : (s.reamCommand v).Canon := by
  unfold State.reamCommand
  extract_lets s1 s2
  have hs1 : s1.Canon := .ite hs.loadWindow hs
  have hs2 : s2.Canon := .ite (hs1.wr ..) hs1
  exact .ite (hs2.wr ..) hs2

theorem execReamPageFlush : Res.Canon (execReamPageFlush s) := .next (.ite hs.programLog hs)

theorem summarise (cls sev n : Nat) : (s.summarise cls sev n).Canon := by
  unfold State.summarise
  exact .ite hs ((hs.reamPlace ..).raise ..)

theorem execReamSuppressionSummary : Res.Canon (execReamSuppressionSummary s) := by
  unfold Machine.execReamSuppressionSummary
  refine .next ?_
  extract_lets x s1
  have hs1 : s1.Canon := hs.of_eq
  exact hs1.foldl (fun _ _ hs => hs.summarise ..) _

theorem passwordFails (z : Nat) : (s.passwordFails z).Canon := by
  unfold State.passwordFails
  extract_lets s1
  have hs1 : s1.Canon := hs.bump ..
  exact .ite (((hs1.wrBit ..).log ..).raise ..) hs1

theorem underPassword {run : State → State} (hrun : ∀ t : State, t.Canon → (run t).Canon) (r : Req) (z : Nat) (write : Bool)
    (given : Nat) : (s.underPassword r z write given run).Canon := by
  unfold State.underPassword
  split
  · exact hs.refuse ..
  · split
    · exact hrun _ (hs.wr ..)
    · exact (hs.passwordFails ..).refuse ..

theorem leafQstRead (p : List Byte) (r : Req) : (leafQstRead p r s).Canon := by
  unfold Machine.leafQstRead
  extract_lets z a reply
  have hreply (s : State) (hs : s.Canon) : (reply s).Canon := hs.draw.ok ..
  split
  · exact hs.refuse ..
  · split
    · exact .ite (hs.refuse ..) (hreply _ hs)
    · exact hs.underPassword hreply ..

theorem leafQstWrite (p : List Byte) (r : Req) : (leafQstWrite p r s).Canon := by
  unfold Machine.leafQstWrite
  extract_lets z w
  split
  · exact hs.refuse ..
  · split
    · exact hs.refuse ..
    · exact hs.underPassword (fun _ hs => hs.of_eq) ..

theorem setPassword (z : Nat) (write : Bool) (new : Nat) : (s.setPassword z write new).Canon := by
  unfold State.setPassword
  split
  · exact { hs with writePw := (List.length_set ..).trans hs.writePw }
  · exact { hs with readPw := (List.length_set ..).trans hs.readPw }

theorem leafQstPassword (p : List Byte) (r : Req) : (leafQstPassword p r s).Canon := by
  unfold Machine.leafQstPassword
  extract_lets z
  split
  · exact hs.refuse ..
  · split
    · exact hs.refuse ..
    · exact hs.underPassword (fun _ hs => ((hs.setPassword ..).pageCommit ..).ok ..) ..

theorem execQstPageWriteDone (plane : Fin 4) (ok : Bool) : Res.Canon (execQstPageWriteDone plane ok s) := by
  unfold Machine.execQstPageWriteDone
  refine .next ?_
  split
  · exact hs
  · extract_lets x' s1 r s2
    have hs1 : s1.Canon := hs.of_eq
    have hs2 : s2.Canon := .ite (hs1.pageWrite ..) ((hs1.bump ..).raise ..)
    exact .ite hs2 (.ite (hs2.ok ..) (hs2.refuse ..))

/-! ## Self-test slices (R515 to R523) -/

theorem sliceUnit (k : Nat) (u : Nat × Nat) (twice : Bool) : (s.sliceUnit k u twice).1.Canon := by
  unfold State.sliceUnit
  extract_lets i roles t m down t' under s1
  have ht : t.Canon := hs.engineFailed ..
  have ht' : t'.Canon := .ite hs (.ite (hs.d2dDown ..) ((hs.setD2d ..).settle))
  have hs1 : s1.Canon := .flagRail (.ite ((hs.wr ..).bump ..) ((hs.wr ..).bump ..)) ..
  clear_value t t' s1
  split
  · split
    · exact hs
    · exact ht
  · split
    · exact hs
    · split
      · exact .ite (hs.packageLost ..) hs
      · split
        · split
          · exact .ite hs (hs.sensorBroken ..)
          · exact hs
        · split
          · exact .ite (hs.dieFailed ..) hs
          · split
            · exact ht'
            · split
              · split
                · exact hs1
                · split
                  · dsimp only
                    exact hs1.mediaRailLost ..
                  · exact hs1.railConsequence ..
              · exact hs

theorem sliceUnits (k : Nat) (units : List (Nat × Nat)) : (s.sliceUnits k units).1.Canon := by
  unfold State.sliceUnits
  refine hs.foldl_fst (fun p u hp => ?_) _ _
  exact hp.sliceUnit ..

theorem sliceVerdict (r : SliceResult) : (s.sliceVerdict r).1.Canon := by
  unfold State.sliceVerdict
  extract_lets k p whole
  have hs1 : p.1.Canon := hs.sliceUnits ..
  split
  · exact hs1
  · split
    · exact hs1
    · exact hs1

theorem endSlice (run : TestRun) (r : SliceResult) : (s.endSlice run r).1.Canon := by
  unfold State.endSlice
  extract_lets p n
  have hs1 : p.1.Canon := hs.sliceVerdict ..
  exact hs1.keepSlice ..

theorem nextSlices : s.nextSlices.Canon := by
  unfold State.nextSlices
  split
  · exact hs
  · exact .ite hs (.ite (hs.endRun ..) (.ite hs hs.startSlices))

theorem leafSelftestRun (p : List Byte) (r : Req) : (leafSelftestRun p r s).Canon := by
  unfold Machine.leafSelftestRun
  extract_lets mask slices s0 s1 handle
  have hs1 : s0.Canon := .ite hs.leaveDoze hs
  have hs2 : s1.Canon := (hs1.beginRun ..).startSlices
  exact .ite (hs.refuse ..) (.ite (hs.refuse ..) (.ite (hs.refuse ..) (.ite (hs.refuse ..) (hs2.reply ..))))

theorem leafSelftestResult (p : List Byte) (r : Req) : (leafSelftestResult p r s).Canon := by
  unfold Machine.leafSelftestResult
  split
  · exact hs.refuse ..
  · exact hs.ok ..

theorem startSlice (run : TestRun) (rs : List SliceResult) (k : Nat) : (s.startSlice run rs k).1.Canon := by
  unfold State.startSlice
  split
  · split
    · dsimp only
      exact hs.keepSlice ..
    · exact hs.endSlice ..
  · dsimp only
    exact hs.draw.keepSlice ..

theorem runSlices (run : TestRun) (rs : List SliceResult) (l : List Nat) : (s.runSlices run rs l).1.Canon := by
  induction l generalizing s with
  | nil => exact hs
  | cons k l ih =>
    unfold State.runSlices
    extract_lets p
    have hp : p.1.Canon := hs.startSlice ..
    split
    · exact hp
    · exact ih hp

theorem startTests (cold : Bool) (rs : List SliceResult) : (s.startTests cold rs).1.Canon := by
  unfold State.startTests
  extract_lets slices mask s1 skipped
  have hs1 : s1.Canon := hs.beginRun ..
  split
  · exact hs1
  · extract_lets p s2
    have hs2 : p.1.Canon := hs1.runSlices ..
    have hs3 : s2.Canon := by
      unfold s2
      split
      · exact hs2.foldl (fun _ _ hs => hs.keepSlice ..) _
      · exact hs2
    exact hs3.endRun ..

/-! ## The service pad, locate, alerts and removal (R536 to R541), and the test access port (R356, R525, R526, R534) -/

theorem setLocate (on : Bool) : (s.setLocate on).Canon := by
  unfold State.setLocate
  exact .ite hs ((hs.setReg ..).raise ..)

theorem ackAlert : s.ackAlert.Canon := by
  unfold State.ackAlert
  exact .raise hs.of_eq ..

theorem leafLocate (p : List Byte) (r : Req) : (leafLocate p r s).Canon := by
  unfold Machine.leafLocate
  exact .ite (hs.refuse ..) ((hs.setLocate ..).ok ..)

theorem startRemoval (origin : Nat) : (s.startRemoval origin).Canon := (((hs.setReg ..).setReg ..).setReg ..).askQuiesce ..

theorem pendRemoval : s.pendRemoval.Canon := by
  unfold State.pendRemoval
  extract_lets s1 x
  have hs1 : s1.Canon := ((hs.setReg ..).setReg ..).event ..
  exact .raise hs1.of_eq ..

theorem leafRemovalRequest (r : Req) : (leafRemovalRequest r s).Canon := by
  unfold Machine.leafRemovalRequest
  split
  · exact .ite (hs.ok ..) ((hs.startRemoval ..).ok ..)
  · exact .ite (hs.ok ..) ((hs.startRemoval ..).ok ..)
  · exact .ite (hs.ok ..) ((hs.startRemoval ..).ok ..)
  · exact (hs.ok ..).cleanShutdown
  · exact (hs.ok ..).cleanShutdown
  · exact (hs.ok ..).cleanShutdown
  · exact hs.ok ..
  · exact hs.ok ..
  · exact hs.refuse ..

theorem execRemovalWaitExpiry : Res.Canon (execRemovalWaitExpiry s) := .next (hs.cancelRemoval)

theorem padAction (code : Nat) : (s.padAction code).Canon := (hs.setReg ..).raise ..

theorem execPadTouchEnd (ms : Nat) : Res.Canon (execPadTouchEnd ms s) := by
  unfold Machine.execPadTouchEnd
  refine .next ?_
  extract_lets s1 s2
  have hs1 : s1.Canon := hs.setReg ..
  have hs2 : s2.Canon := .ite (hs1.bump ..) hs1
  exact .ite hs (.ite hs2 (.ite (hs2.setReg ..) (.ite hs2 (.ite (hs2.cancelRemoval.padAction ..)
    (.ite (hs2.ackAlert.padAction ..) ((hs2.setLocate ..).padAction ..))))))

theorem execPadHold3s : Res.Canon (execPadHold3s s) := by
  unfold Machine.execPadHold3s
  refine .next ?_
  split
  · exact .ite (hs.setReg ..) hs
  · split
    · exact hs
    · split
      · exact .ite ((hs.padAction ..).startRemoval ..) ((hs.padAction ..).pendRemoval)
      · exact .ite ((hs.padAction ..).startRemoval ..) ((hs.padAction ..).pendRemoval)
      · exact .ite ((hs.padAction ..).startRemoval ..) ((hs.padAction ..).pendRemoval)
      · exact (hs.padAction ..).cleanShutdown
      · exact (hs.padAction ..).cleanShutdown
      · exact (hs.padAction ..).cleanShutdown
      · exact hs.padAction ..
      · exact hs

theorem tapSelect (d : Nat) (x : TapSel) : (s.tapSelect d x).Canon := hs.of_eq rfl

theorem execIdcode (die : Fin 2) : Res.Canon (execIdcode die s) := .next (.ite ((hs.tapSelect ..).send ..) hs)

theorem execSamplePreload (die : Fin 2) : Res.Canon (execSamplePreload die s) := .next (.ite (((hs.tapSelect ..).send ..).draw) hs)

theorem execExtest (die : Fin 2) : Res.Canon (execExtest die s) := .next (.ite (hs.tapSelect ..) hs)

theorem execBstStatus (die : Fin 2) : Res.Canon (execBstStatus die s) := .next (.ite ((hs.tapSelect ..).send ..) hs)

theorem execScanN (die : Fin 2) (n : Fin 16) : Res.Canon (execScanN die n s) := .next (.ite (hs.tapSelect ..) hs)

theorem execBypass (die : Fin 2) (code : BitVec 8) : Res.Canon (execBypass die code s) := by
  unfold Machine.execBypass
  split
  · exact hs.execIdcode ..
  · exact hs.execSamplePreload ..
  · exact hs.execExtest ..
  · exact hs.execBstStatus ..
  · exact .next (.ite (hs.tapSelect ..) hs)
  · split
    · exact hs.execScanN ..
    · exact .next (.ite (hs.tapSelect ..) hs)

theorem execTrst (asserted : Bool) : Res.Canon (execTrst asserted s) := .next (.ite hs.of_eq hs.of_eq)

theorem debugRefused (d : Nat) : (s.debugRefused d).Canon := by
  unfold State.debugRefused
  extract_lets s1 n x s2
  have hs1 : s1.Canon := (hs.bump ..).raise ..
  have hs2 : s2.Canon := hs1.of_eq
  exact .ite hs1.of_eq (hs2.reamPlace ..)

theorem debugRead (d line : Nat) : (s.debugRead d line).Canon := by
  unfold State.debugRead
  extract_lets p
  have hs1 : p.1.Canon := hs.snapshotOf ..
  exact .ite ((hs.send ..).draw) (.ite ((hs1.send ..).draw) (hs1.send ..))

theorem execMemacc (die : Fin 2) (target : MemTarget) (write : Option Line) : Res.Canon (execMemacc die target write s) := by
  unfold Machine.execMemacc
  refine .next ?_
  extract_lets d s1 refuse
  have hs1 : s1.Canon := hs.tapSelect ..
  have hs2 : refuse.Canon := .debugRefused (.ite (hs1.send ..) hs1) ..
  split
  · exact hs
  · split
    · exact hs2
    · split
      · exact hs2
      · split
        · exact hs1.debugRead ..
        · exact .ite (hs1.writeLine ..) hs1

end

end State.Canon

end Sys2Proof.Machine
end

section
/-! SUPPORT. Operations and commands that keep the stores in their canonical form: Window.lean to Control.lean (R103).
The proofs are elaborated in turn: many short ones at once, each waiting for those before it, take a thread and its stack each. -/

namespace Sys2Proof.Machine

set_option Elab.async false

namespace State.Canon

section
variable {s : State} (hs : s.Canon)
include hs

/-! ## The Weazoir window (R11 to R13, R41, R42, R112 to R118, R408) -/

theorem readWord (b : Block) (d w lo size : Nat) : (s.readWord b d w lo size).1.Canon := by
  unfold State.readWord
  split
  · extract_lets s1
    have hs1 : s1.Canon := hs.latch ..
    split
    · exact hs1
    · exact hs
  · exact hs

theorem readPlace (off size : Nat) : (s.readPlace off size).1.Canon := by
  unfold State.readPlace
  split
  · exact hs.readWord ..
  · exact hs
  · exact hs
  · exact hs

theorem writeField (f : Field) (d i m v : Nat) : (s.writeField f d i m v).Canon := by
  unfold State.writeField
  split
  · exact hs
  · split
    · exact hs.wr ..
    · exact hs.wr ..
    · exact hs

theorem writeFields (b : Block) (d w m v : Nat) : (s.writeFields b d w m v).Canon := by
  unfold State.writeFields
  exact hs.foldl (fun _ _ hs => hs.writeField ..) _

theorem writeChannel (d n w lo size m v : Nat) : (s.writeChannel d n w lo size m v).Canon := by
  unfold State.writeChannel
  exact .ite hs (.ite (hs.wr ..) (.ite (hs.strFeed ..) (.ite (hs.strCommand ..) (hs.writeFields ..))))

theorem writeTly (d w size m v : Nat) : (s.writeTly d w size m v).Canon := by
  unfold State.writeTly
  split
  · exact .ite (hs.wr ..) hs
  · extract_lets s1
    have hs1 : s1.Canon := hs.writeFields ..
    exact .ite (hs1.restartSampler ..) (.ite (hs1.wr ..) hs1)

theorem writeReam (w m v : Nat) : (s.writeReam w m v).Canon := by
  unfold State.writeReam
  exact .ite (hs.reamCommand ..) (.ite (.ite (hs.reportGap ..) hs) (hs.writeFields ..))

theorem writeWord (b : Block) (d w lo size value : Nat) : (s.writeWord b d w lo size value).Canon := by
  unfold State.writeWord
  extract_lets m v
  split
  · exact .ite (hs.writeChannel ..) (hs.writeFields ..)
  · exact hs.writeTly ..
  · exact hs.writeReam ..
  · exact (hs.writeFields ..).showBusy ..
  · exact .ite hs (hs.writeFields ..)
  · exact hs.writeFields ..

theorem writePlace (off size value : Nat) : (s.writePlace off size value).Canon := by
  unfold State.writePlace
  split
  · exact hs.writeWord ..
  · exact hs

theorem violation (h : Nat) : (s.violation h).Canon := (hs.bump ..).raiseH ..

theorem barRead (h off size : Nat) : (s.barRead h off size).Canon := by
  unfold State.barRead
  extract_lets p
  have hs1 : p.1.Canon := hs.readPlace ..
  exact .ite hs (.ite (hs1.draw.send ..) ((hs.violation ..).send ..))

theorem barWrite (h off size value : Nat) : (s.barWrite h off size value).Canon := by
  unfold State.barWrite
  exact .ite hs (.ite (hs.writePlace ..) (hs.violation ..))

theorem execBar2Read (head : Fin 2) (offset size : Nat) : Res.Canon (execBar2Read head offset size s) := .next (hs.barRead ..)

theorem hwSet (off bits : Nat) : (s.hwSet off bits).Canon := by
  unfold State.hwSet
  split
  · exact hs.foldl (fun _ _ hs => .ite (hs.wr ..) hs) _
  · exact hs

theorem execRegisterWrite (head : Fin 2) (offset size : Nat) (value : WordWrite) :
    Res.Canon (execRegisterWrite head offset size value s) :=
  .next ((hs.barWrite ..).hwSet ..)

theorem execStrDataWrite (who : BarWho) (die : Fin 2) (channel : Fin 16) (wide : Bool) (value : BitVec 64) :
    Res.Canon (execStrDataWrite who die channel wide value s) :=
  .next (hs.barWrite ..)

theorem execStrCmdStart (who : BarWho) (die : Fin 2) (channel : Fin 16) : Res.Canon (execStrCmdStart who die channel s) :=
  .next (hs.barWrite ..)

theorem execStrCmdTail (who : BarWho) (die : Fin 2) (channel : Fin 16) (bytes : Fin 8) :
    Res.Canon (execStrCmdTail who die channel bytes s) :=
  .next (hs.barWrite ..)

theorem execStrCmdFinal (who : BarWho) (die : Fin 2) (channel : Fin 16) : Res.Canon (execStrCmdFinal who die channel s) :=
  .next (hs.barWrite ..)

theorem execTlyLiveRead (who : BarWho) (die : Fin 2) (bank : Fin 3) (index : Nat) (wide : Bool) :
    Res.Canon (execTlyLiveRead who die bank index wide s) :=
  .next (.ite hs (hs.barRead ..))

theorem execTlyCounterWrite (who : BarWho) (die : Fin 2) (bank : Fin 3) (index : Nat) (wide : Bool) (value : BitVec 64) (events : Nat) :
    Res.Canon (execTlyCounterWrite who die bank index wide value events s) :=
  .next (.ite hs ((hs.barWrite ..).tlyAdd ..))

theorem execTlySampleCfgWrite (who : BarWho) (die : Fin 2) (value : BitVec 32) : Res.Canon (execTlySampleCfgWrite who die value s) :=
  .next (hs.barWrite ..)

theorem execReamCmdLoad (who : BarWho) : Res.Canon (execReamCmdLoad who s) := .next (hs.barWrite ..)

theorem execReamCmdRewind (who : BarWho) : Res.Canon (execReamCmdRewind who s) := .next (hs.barWrite ..)

theorem execReamCmdMark (who : BarWho) : Res.Canon (execReamCmdMark who s) := .next (hs.barWrite ..)

theorem execReamGapClear (who : BarWho) (reader : Fin 2) : Res.Canon (execReamGapClear who reader s) := .next (hs.barWrite ..)

theorem regGate (p : List Byte) (write : Bool) {r : State × Nat} (hr : s.regGate p write = some r) : r.1.Canon := by
  unfold State.regGate at hr
  extract_lets off count viol at hr
  have hv : viol.Canon := hs.violation ..
  split at hr
  · cases hr
    exact hs
  · split at hr
    · cases hr
      exact hv
    · split at hr
      · cases hr
        exact hv
      · split at hr
        · cases hr
          exact hs
        · split at hr
          · cases hr
          · cases hr
            exact hv

theorem readWords (off n : Nat) : (s.readWords off n).1.Canon := by
  induction n generalizing s off with
  | zero => exact hs
  | succ n ih => exact ih (hs.readPlace off 8) ..

theorem leafRegRead (p : List Byte) (r : Req) : (leafRegRead p r s).Canon := by
  unfold Machine.leafRegRead
  split
  · next x hx => exact (hs.regGate p false hx).refuse ..
  · exact (hs.readWords ..).draw.ok ..

theorem leafRegWrite (p : List Byte) (r : Req) : (leafRegWrite p r s).Canon := by
  unfold Machine.leafRegWrite
  split
  · next x hx => exact (hs.regGate p true hx).refuse ..
  · exact (hs.foldl (fun _ _ hs => hs.writePlace ..) _).ok ..

theorem leafTallyConfig (p : List Byte) (r : Req) : (leafTallyConfig p r s).Canon := by
  unfold Machine.leafTallyConfig
  extract_lets d n
  split
  · exact hs.refuse ..
  · split
    · exact hs.refuse ..
    · refine .ok ?_ ..
      exact hs.foldl (fun _ _ hs => hs.writeWord ..) _

/-! ## The leaves of R407 as commands -/

-- no state: leafBody

theorem takeAll (d : Nat) (l : List Instr) (n : Nat) : (s.takeAll d l n).1.Canon := by
  induction n generalizing s l with
  | zero => exact hs
  | succ n ih =>
    unfold State.takeAll
    split
    · exact hs
    · exact ih (hs.countTaken ..) _

theorem serialise (l : List Instr) : (s.serialise l).1.Canon := by
  unfold State.serialise
  extract_lets a b
  have hs1 : a.1.Canon := hs.takeAll ..
  have hs2 : b.1.Canon := hs1.takeAll ..
  dsimp only
  exact hs2.foldl (fun _ _ hs => hs.countTaken ..) _

theorem leafBody {i : Instr} {body : Req → State → State} (hb : leafBody i = some body) (r : Req) : (body r s).Canon := by
  unfold Machine.leafBody at hb
  split at hb
  · cases hb
    exact hs.refuse ..
  · cases hb
    exact hs.leafIdentify ..
  · cases hb
    exact hs.leafGetMeasurements ..
  · cases hb
    exact hs.leafGetCertificate ..
  · cases hb
    exact hs.leafScanChallenge ..
  · cases hb
    exact hs.leafScanUnlock ..
  · cases hb
    exact hs.leafHealthReport ..
  · cases hb
    exact hs.leafGetStatus ..
  · cases hb
    exact hs.leafGetUnit ..
  · cases hb
    exact hs.leafSetWallClock ..
  · cases hb
    exact hs.leafSetEventMask ..
  · cases hb
    exact hs.leafSetWindowGrant ..
  · cases hb
    exact hs.leafGetWindowGrant ..
  · cases hb
    exact hs.leafRegRead ..
  · cases hb
    exact hs.leafRegWrite ..
  · cases hb
    exact hs.leafSetLatencyTolerance ..
  · cases hb
    exact hs.leafGetPower ..
  · cases hb
    exact hs.leafWarmReset ..
  · cases hb
    exact hs.leafPowerRequest ..
  · cases hb
    exact hs.leafPowerRequest ..
  · cases hb
    exact hs.leafBulkStart ..
  · cases hb
    exact hs.leafBulkStart ..
  · cases hb
    exact hs.leafBulkStart ..
  · cases hb
    exact hs.leafBulkStart ..
  · cases hb
    exact hs.leafBulkStart ..
  · cases hb
    exact hs.leafBulkStart ..
  · cases hb
    exact hs.leafBulkStatus ..
  · cases hb
    exact hs.leafBulkAbort ..
  · cases hb
    exact hs.leafKeyProvision ..
  · cases hb
    exact hs.leafKeyDestroy ..
  · cases hb
    exact hs.leafRangeWrite ..
  · cases hb
    exact hs.leafKeyStatus ..
  · cases hb
    exact hs.leafFwTransfer ..
  · cases hb
    exact hs.leafFwActivate ..
  · cases hb
    exact hs.ok ..
  · cases hb
    exact hs.leafSvnCommit ..
  · cases hb
    exact hs.leafSelftestRun ..
  · cases hb
    exact hs.leafSelftestResult ..
  · cases hb
    exact hs.leafReamRead ..
  · cases hb
    exact hs.leafReamRead ..
  · cases hb
    exact hs.leafReamRead ..
  · cases hb
    exact hs.leafQstRead ..
  · cases hb
    exact hs.leafQstWrite ..
  · cases hb
    exact hs.leafQstPassword ..
  · cases hb
    exact hs.leafUnitOut ..
  · cases hb
    exact hs.leafUnitReturn ..
  · cases hb
    exact hs.leafLocate ..
  · cases hb
    exact hs.leafRemovalRequest ..
  · cases hb
    exact hs.leafTallyRead ..
  · cases hb
    exact hs.leafTallyConfig ..
  · cases hb
    exact hs.leafTallySample ..
  · cases hb

theorem runTaken (x : Instr × Bool) (rest : List (Instr × Bool)) : (s.runTaken x rest).Canon := by
  unfold State.runTaken
  split
  · next row h p body hl hb => exact hs.runLeaf (fun r t ht => ht.leafBody hb r) ..
  · exact hs

theorem runInOrder (l : List (Instr × Bool)) : (s.runInOrder l).Canon := by
  induction l generalizing s with
  | nil => exact hs
  | cons x l ih =>
    unfold State.runInOrder
    extract_lets s1
    have hs1 : s1.Canon := hs.runTaken ..
    exact .ite hs.of_eq (.ite (ih hs.of_eq) (.ite hs1 (ih hs1)))

theorem mergeCycle : s.mergeCycle.Canon := by
  unfold State.mergeCycle
  extract_lets q
  have hs1 : q.1.Canon := .serialise hs.of_eq ..
  exact ((hs1.runInOrder ..).showBusy ..).showBusy ..

theorem leafArrives (i : Instr) : (s.leafArrives i).Canon := by
  unfold State.leafArrives
  extract_lets j s0
  have hs1 : s0.Canon := .ite hs hs.draw
  split
  · exact hs1
  · extract_lets q x' s1
    have hs2 : q.1.Canon := hs1.adapter ..
    have hs3 : x'.Canon := hs2
    have hs4 : s1.Canon := .ite hs3.of_eq hs2
    exact .ite hs4 hs4.mergeCycle

theorem runHeld : s.runHeld.Canon := by
  unfold State.runHeld
  exact .showBusy (.showBusy (.runInOrder hs.of_eq ..) ..) ..

theorem idle : s.idle.Canon := by
  unfold State.idle
  exact .dramTick (.ite hs hs.runHeld)

theorem execLeafUnknownOpcode (opcode : BitVec 16) (h : LeafHdr) (p : List Byte) : Res.Canon (execLeafUnknownOpcode opcode h p s) :=
  .next (hs.leafArrives ..)

theorem execIdentify (h : LeafHdr) (p : List Byte) : Res.Canon (execIdentify h p s) := .next (hs.leafArrives ..)

theorem execGetMeasurements (h : LeafHdr) (p : List Byte) : Res.Canon (execGetMeasurements h p s) := .next (hs.leafArrives ..)

theorem execGetCertificate (h : LeafHdr) (p : List Byte) : Res.Canon (execGetCertificate h p s) := .next (hs.leafArrives ..)

theorem execScanChallenge (h : LeafHdr) (p : List Byte) : Res.Canon (execScanChallenge h p s) := .next (hs.leafArrives ..)

theorem execScanUnlock (h : LeafHdr) (p : List Byte) (signed : Bool) : Res.Canon (execScanUnlock h p signed s) :=
  .next (hs.leafArrives ..)

theorem execHealthReport (h : LeafHdr) (p : List Byte) : Res.Canon (execHealthReport h p s) := .next (hs.leafArrives ..)

theorem execGetStatus (h : LeafHdr) (p : List Byte) : Res.Canon (execGetStatus h p s) := .next (hs.leafArrives ..)

theorem execGetUnit (h : LeafHdr) (p : List Byte) : Res.Canon (execGetUnit h p s) := .next (hs.leafArrives ..)

theorem execSetWallClock (h : LeafHdr) (p : List Byte) : Res.Canon (execSetWallClock h p s) := .next (hs.leafArrives ..)

theorem execSetEventMask (h : LeafHdr) (p : List Byte) : Res.Canon (execSetEventMask h p s) := .next (hs.leafArrives ..)

theorem execSetWindowGrant (h : LeafHdr) (p : List Byte) : Res.Canon (execSetWindowGrant h p s) := .next (hs.leafArrives ..)

theorem execGetWindowGrant (h : LeafHdr) (p : List Byte) : Res.Canon (execGetWindowGrant h p s) := .next (hs.leafArrives ..)

theorem execRegRead (h : LeafHdr) (p : List Byte) : Res.Canon (execRegRead h p s) := .next (hs.leafArrives ..)

theorem execRegWrite (h : LeafHdr) (p : List Byte) : Res.Canon (execRegWrite h p s) := .next (hs.leafArrives ..)

theorem execSetLatencyTolerance (h : LeafHdr) (p : List Byte) : Res.Canon (execSetLatencyTolerance h p s) := .next (hs.leafArrives ..)

theorem execGetPower (h : LeafHdr) (p : List Byte) : Res.Canon (execGetPower h p s) := .next (hs.leafArrives ..)

theorem execWarmReset (h : LeafHdr) (p : List Byte) : Res.Canon (execWarmReset h p s) := .next (hs.leafArrives ..)

theorem execPowerRequestOff (h : LeafHdr) (p : List Byte) : Res.Canon (execPowerRequestOff h p s) := .next (hs.leafArrives ..)

theorem execPowerRequestOn (h : LeafHdr) (p : List Byte) : Res.Canon (execPowerRequestOn h p s) := .next (hs.leafArrives ..)

theorem execZero (h : LeafHdr) (p : List Byte) : Res.Canon (execZero h p s) := .next (hs.leafArrives ..)

theorem execFill (h : LeafHdr) (p : List Byte) : Res.Canon (execFill h p s) := .next (hs.leafArrives ..)

theorem execCopy (h : LeafHdr) (p : List Byte) : Res.Canon (execCopy h p s) := .next (hs.leafArrives ..)

theorem execCheck (h : LeafHdr) (p : List Byte) : Res.Canon (execCheck h p s) := .next (hs.leafArrives ..)

theorem execCompare (h : LeafHdr) (p : List Byte) : Res.Canon (execCompare h p s) := .next (hs.leafArrives ..)

theorem execEraseKey (h : LeafHdr) (p : List Byte) : Res.Canon (execEraseKey h p s) := .next (hs.leafArrives ..)

theorem execBulkStatus (h : LeafHdr) (p : List Byte) : Res.Canon (execBulkStatus h p s) := .next (hs.leafArrives ..)

theorem execBulkAbort (h : LeafHdr) (p : List Byte) : Res.Canon (execBulkAbort h p s) := .next (hs.leafArrives ..)

theorem execKeyProvision (h : LeafHdr) (p : List Byte) : Res.Canon (execKeyProvision h p s) := .next (hs.leafArrives ..)

theorem execKeyDestroy (h : LeafHdr) (p : List Byte) : Res.Canon (execKeyDestroy h p s) := .next (hs.leafArrives ..)

theorem execRangeWrite (h : LeafHdr) (p : List Byte) : Res.Canon (execRangeWrite h p s) := .next (hs.leafArrives ..)

theorem execKeyStatus (h : LeafHdr) (p : List Byte) : Res.Canon (execKeyStatus h p s) := .next (hs.leafArrives ..)

theorem execFwTransfer (h : LeafHdr) (p : List Byte) (verdict : ImageVerdict) : Res.Canon (execFwTransfer h p verdict s) :=
  .next (hs.leafArrives ..)

theorem execFwActivate (h : LeafHdr) (p : List Byte) (verified : Bool) : Res.Canon (execFwActivate h p verified s) :=
  .next (hs.leafArrives ..)

theorem execFwInfo (h : LeafHdr) (p : List Byte) : Res.Canon (execFwInfo h p s) := .next (hs.leafArrives ..)

theorem execSvnCommit (h : LeafHdr) (p : List Byte) : Res.Canon (execSvnCommit h p s) := .next (hs.leafArrives ..)

theorem execSelftestRun (h : LeafHdr) (p : List Byte) : Res.Canon (execSelftestRun h p s) := .next (hs.leafArrives ..)

theorem execSelftestResult (h : LeafHdr) (p : List Byte) : Res.Canon (execSelftestResult h p s) := .next (hs.leafArrives ..)

theorem execReamRead (h : LeafHdr) (p : List Byte) : Res.Canon (execReamRead h p s) := .next (hs.leafArrives ..)

theorem execReamRewindToMark (h : LeafHdr) (p : List Byte) : Res.Canon (execReamRewindToMark h p s) := .next (hs.leafArrives ..)

theorem execReamSetMark (h : LeafHdr) (p : List Byte) : Res.Canon (execReamSetMark h p s) := .next (hs.leafArrives ..)

theorem execQstRead (h : LeafHdr) (p : List Byte) : Res.Canon (execQstRead h p s) := .next (hs.leafArrives ..)

theorem execQstWrite (h : LeafHdr) (p : List Byte) : Res.Canon (execQstWrite h p s) := .next (hs.leafArrives ..)

theorem execQstPassword (h : LeafHdr) (p : List Byte) : Res.Canon (execQstPassword h p s) := .next (hs.leafArrives ..)

theorem execUnitOut (h : LeafHdr) (p : List Byte) : Res.Canon (execUnitOut h p s) := .next (hs.leafArrives ..)

theorem execUnitReturn (h : LeafHdr) (p : List Byte) (pass : Bool) : Res.Canon (execUnitReturn h p pass s) := .next (hs.leafArrives ..)

theorem execLocate (h : LeafHdr) (p : List Byte) : Res.Canon (execLocate h p s) := .next (hs.leafArrives ..)

theorem execRemovalRequest (h : LeafHdr) (p : List Byte) : Res.Canon (execRemovalRequest h p s) := .next (hs.leafArrives ..)

theorem execTallyRead (h : LeafHdr) (p : List Byte) : Res.Canon (execTallyRead h p s) := .next (hs.leafArrives ..)

theorem execTallyConfig (h : LeafHdr) (p : List Byte) : Res.Canon (execTallyConfig h p s) := .next (hs.leafArrives ..)

theorem execTallySample (h : LeafHdr) (p : List Byte) : Res.Canon (execTallySample h p s) := .next (hs.leafArrives ..)

/-! ## Starts (R413 to R425, R441) -/

theorem ladderSlot : s.ladderSlot.Canon := hs.slotWrite ..

theorem startFails (cold : Bool) (cause : Nat) : (s.startFails cold cause).Canon := by
  unfold State.startFails
  extract_lets s1 s2 s3 x
  have hs1 : s1.Canon := hs.setReg ..
  have hs2 : s2.Canon := .ladderSlot (.ite (hs1.bump ..) (hs1.bump ..))
  have hs3 : s3.Canon := hs2.toMode ..
  exact .ite (hs2.toSafe ..) hs3.of_eq

theorem startHolds (slot : Nat) : (s.startHolds slot).Canon := by
  unfold State.startHolds
  extract_lets s1
  have hs1 : s1.Canon := .ite hs (hs.log ..)
  exact (((hs1.setReg ..).setReg ..).setReg ..).ladderSlot

theorem reamReload : s.reamReload.Canon := by
  unfold State.reamReload
  extract_lets kept all x s1
  have hs1 : s1.Canon := hs.of_eq
  split
  · exact hs1
  · exact hs1.reamMirror ..

theorem reamJoin : s.reamJoin.Canon := by
  unfold State.reamJoin
  extract_lets x
  exact .foldl hs.of_eq (fun _ _ hs => hs.reamLog ..) _

theorem keepLosses : s.keepLosses.Canon := by
  unfold State.keepLosses
  exact .ite hs hs.of_eq

theorem coldClear : s.coldClear.Canon := by
  unfold State.coldClear
  extract_lets s1 x x' x'' x''' s2 x'''' x''''' x'''''' s3 s4 s5
  have hs1 : s1.Canon := hs.keepLosses.dropPrograms.resetRegs ..
  have hs2 : s2.Canon := { hs1 with ways := rfl, dram := (List.length_map _).trans hs1.dram }
  have hs3 : s3.Canon := hs2.of_eq
  have hs4 : s4.Canon := hs3.foldl (fun _ _ hs => hs.wrM ..) _
  have hs5 : s5.Canon := hs4.showRings.setReg ..
  exact (hs5.setReg ..).reamReload

theorem railsUp (bad : List Nat) : (s.railsUp bad).Canon := by
  unfold State.railsUp
  extract_lets s1 s2
  have hs1 : s1.Canon := (hs.wr ..).foldl (fun _ _ hs => .ite (((hs.wr ..).bump ..).flagRail ..) (hs.wr ..)) _
  have hs2 : s2.Canon := hs1.aonUp
  exact .ite (hs2.raise ..) hs2

theorem bankUp (bad : Bool) : (s.bankUp bad).Canon := by
  unfold State.bankUp
  extract_lets s1 x x' s2 s3
  have hs1 : s1.Canon := hs.foldl (fun _ _ hs => (hs.wr ..).wr ..) _
  have hs2 : x.Canon := hs1.setReg ..
  have hs3 : s2.Canon := hs2.of_eq
  have hs4 : s3.Canon := (hs3.setReg ..).setReg ..
  split
  · exact hs4.foldl (fun _ _ hs => hs.isolate ..) _
  · exact hs4

theorem strapsUp (mv : List Nat) (dual : Bool) : (s.strapsUp mv dual).Canon := by
  unfold State.strapsUp
  extract_lets s1 d p s2 s3 b s4 x s5 s6
  have hs1 : s1.Canon := hs.foldl (fun _ _ hs => hs.sampleStrap ..) _
  have hs2 : s2.Canon := (hs1.setReg ..).setReg ..
  have hs3 : s3.Canon := hs2.foldl (fun _ _ hs => ((hs.wr ..).wr ..).wr ..) _
  have hs4 : s4.Canon := .ite hs3 (hs3.setReg ..)
  have hs5 : s5.Canon := .wr (.setReg hs4.of_eq ..) ..
  have hs6 : s6.Canon := (hs5.wr ..).strapHead ..
  exact (hs6.strapHead ..).showTolerance

theorem coldBegin (env : StartEnv) : (s.coldBegin env).Canon := by
  unfold State.coldBegin
  extract_lets x s0 s1 s2
  have hs1 : s0.Canon := hs.of_eq
  have hs2 : s1.Canon := ((hs1.toMode ..).coldClear).toMode ..
  have hs3 : s2.Canon := (hs2.setReg ..).railsUp ..
  exact ((hs3.strapsUp ..).bankUp ..).ladderSlot

theorem train (n : Nat) : (s.train n).Canon := by
  unfold State.train
  extract_lets a b
  have hs1 : a.Canon := ((hs.wrP ..).wrP ..).wrP ..
  have hs2 : b.Canon := ((hs1.wrP ..).wrP ..).draw
  exact (hs2.onPkg ..).trainingSlot ..

theorem trainBad (bad : List Nat) : (s.trainBad bad).Canon := by
  unfold State.trainBad
  exact hs.foldl (fun _ _ hs => .ite (hs.packageLost ..) hs) _

theorem coldTrain (env : StartEnv) : (s.coldTrain env).Canon := by
  unfold State.coldTrain
  exact (hs.dropPorts.trainBad ..).foldl (fun _ _ hs => .ite hs ((((hs.wrP ..).draw).repairRows ..).train ..)) _

theorem coldDies (env : StartEnv) : (s.coldDies env).Canon := by
  unfold State.coldDies
  extract_lets s1
  have hs1 : s1.Canon := hs.foldl (fun _ _ hs => hs.mediaRailLost ..) _
  exact hs1.foldl (fun _ _ hs => .ite (hs.dieFailed ..) hs) _

theorem startEngines (bad : List Nat) : (s.startEngines bad).Canon := by
  unfold State.startEngines
  exact hs.foldl (fun _ _ hs => .ite (hs.engineFailed ..) hs) _

theorem unitsReturn (env : StartEnv) : (s.unitsReturn env).Canon := by
  unfold State.unitsReturn
  extract_lets s1
  have hs1 : s1.Canon := hs.foldl (fun _ _ hs => .ite (hs.dieReturns ..) hs) _
  exact hs1.foldl (fun _ _ hs => .ite (hs.engineReturns ..) hs) _

theorem probeDies (medians : List (Nat × Option ℤ)) : (s.probeDies medians).Canon := by
  unfold State.probeDies
  exact hs.foldl (fun _ _ hs => .ite (hs.wrM ..) hs) _

theorem sizeLongOff : s.sizeLongOff.Canon := by
  unfold State.sizeLongOff
  refine hs.foldl (fun s c hs => ?_) _
  split
  · exact hs.foldl (fun _ _ hs => hs.onSeg ..) _
  · exact hs

theorem unlist (x : Span) : (s.unlist x).Canon := by
  unfold State.unlist
  refine hs.foldl (fun s r hs => ?_) _
  exact hs.foldl (fun _ _ hs => .ite (hs.poisonDel ..) hs) _

theorem replay (x : ReplayItem) : (s.replay x).Canon := by
  unfold State.replay
  split
  · extract_lets m s1 s1' h s2
    have hs1 : s1.Canon := { hs with map := mapWf_put _ _ hs.map }
    have hs2 : s2.Canon := (hs1.mapTouch ..).poisonDel ..
    exact .ite ((hs2.poisonMask ..).poisonMask ..) hs2
  · exact .ite ((hs.setSpan ..).unlist ..) (hs.setSpan ..)

theorem recount : s.recount.Canon :=
  { hs with
    segs := List.foldlRecOn (motive := fun t => Tab.rising none t = true) _ _ hs.segs fun _ ht _ _ => Tab.rising_put _ _ ht }

theorem settleOpen (c t : Nat) : (s.settleOpen c t).Canon := (hs.onSeg ..).closeSeg ..

theorem settleSegs : s.settleSegs.Canon := by
  unfold State.settleSegs
  refine .askAllShort ?_
  refine .askSteeps ?_
  exact hs.foldl (fun _ _ hs => .ite (hs.onSeg ..) hs) _

theorem settleFound : s.settleFound.Canon := by
  unfold State.settleFound
  refine .settleSegs ?_
  exact hs.foldl (fun _ _ hs => .ite (hs.settleOpen ..) hs) _

theorem rebuildFrom {k : Round} (hk : mapWf k.unlisted k.map = true) (l : List JRec) (unusable : List (Nat × Nat × Nat)) :
    (s.rebuildFrom k l unusable).Canon :=
  { hs.draw with map := hk, segs := s.tablesFrom_rising k l, images := Tab.rising_filter _ hs.images }

theorem roundK (bad : Bool) : mapWf (s.roundK bad).1.unlisted (s.roundK bad).1.map = true := by
  have kept {r : Round} {l : List Round} (hl : s.mapping.rounds.filter s.roundEnded = l) (hr : r ∈ l) : mapWf r.unlisted r.map = true :=
    hs.rounds r (List.mem_of_mem_filter (hl ▸ hr))
  unfold State.roundK
  split
  · rfl
  · next r rest hl =>
    split
    · cases rest with
      | nil => rfl
      | cons r' rest => exact kept hl (List.mem_cons_of_mem _ (List.mem_cons_self ..))
    · exact kept hl (List.mem_cons_self ..)

theorem rebuild (env : StartEnv) : (s.rebuild env).Canon := by
  unfold State.rebuild
  extract_lets k l s0 s1 s2 d
  have hs0 : s0.Canon := hs.rebuildFrom (hs.roundK _) ..
  have hs1 : s1.Canon := hs0.foldl (fun _ _ hs => hs.foldl (fun _ _ hs => hs.replay ..) _) _
  have hs2 : s2.Canon := hs1.recount.settleFound.sizeLongOff.ckptBegin
  exact hs2.draw.foldl (fun _ _ hs => ((hs.wr ..).wr ..).wr ..) _

/-! ## The last steps of a start (R417, R419) and its commands -/

theorem haltPoison : s.haltPoison.Canon := by
  unfold State.haltPoison
  extract_lets s1 x x' x'' s2
  have hs1 : s1.Canon := (hs.walkRecords ..).setSpan ..
  have hs2 : s2.Canon := hs1.of_eq
  exact ((hs2.pageCommit ..).pageCommit ..).event ..

theorem scanErase : s.scanErase.Canon := by
  unfold State.scanErase
  extract_lets s1 x x' s2
  have hs1 : s1.Canon := (hs.walkRecords ..).setSpan ..
  have hs2 : s2.Canon := hs1.of_eq
  exact hs2.recount.newSlot0.pageCommit ..

theorem lostEntry (q : Nat) (m : BitVec 16) : (s.lostEntry q m).Canon := ((hs.stage ..).poisonMask ..).pumpQuire ..

theorem poisonDie (d : Nat) : (s.poisonDie d).Canon := by
  unfold State.poisonDie
  extract_lets s1 s2 p x
  have hs1 : s1.Canon := hs.foldl (fun _ _ hs => (hs.journalC ..).takeSeq ..) _
  have hs2 : s2.Canon := hs1.setSpan ..
  exact hs2.withPoison _

theorem pourLosses (r : PourRec) (bad : List Nat) : (s.pourLosses r bad).Canon := by
  unfold State.pourLosses
  extract_lets unread entries s1 s2 n s3 s4 x x'
  have hs1 : s1.Canon := hs.foldl (fun _ _ hs => hs.lostEntry ..) _
  have hs2 : s2.Canon := hs1.foldl (fun _ _ hs => hs.poisonDie ..) _
  have hs3 : s3.Canon := ((hs2.raise ..).log ..).event ..
  have hs4 : s4.Canon := (hs3.event ..).latchAlert ..
  exact hs4.of_eq

theorem foundAtStart (bad : List Nat) : (s.foundAtStart bad).Canon := by
  unfold State.foundAtStart
  extract_lets s1 s2 x
  have hs1 : s1.Canon := .ite hs.scanErase hs
  have hs2 : s2.Canon := hs1.haltPoison
  split
  · exact hs2.of_eq
  · split
    · exact .ite (hs1.pourLosses ..) hs1
    · exact hs1

theorem dropSpan (x : Span) (but : List Nat) : (s.dropSpan x but).Canon := by
  unfold State.dropSpan
  exact hs.foldl (fun _ _ hs => (hs.dropQuire ..).dropWaiting ..) _

theorem walkRest (w : Walk) (chans : List Nat) (lo : Nat) (but : List Nat) : (s.walkRest w chans lo but).Canon := by
  unfold State.walkRest
  exact .ite (((hs.dropSpan ..).setSpan ..).unlist ..) (hs.setSpan ..)

theorem walkGone (w : Walk) : (s.walkGone w).Canon := by
  unfold State.walkGone
  extract_lets x s1
  have hs1 : s1.Canon := hs.of_eq
  split
  · exact hs1.sweepEnd ..
  · exact hs1.recount.unmapped
  · exact hs1

theorem finishWalk (w : Walk) : (s.finishWalk w).Canon := (hs.walkRest ..).walkGone ..

theorem resumeWalk (k : Round) (l : List JRec) (w : Walk) : (resumeWalk k l s w).Canon := by
  unfold State.resumeWalk
  extract_lets chans mk s1
  have hs1 : s1.Canon := hs.foldl (fun _ _ hs => (hs.journalC ..).takeSeq ..) _
  exact (hs1.walkRest ..).walkGone ..

theorem emptied : s.emptied.Canon := by
  unfold State.emptied
  exact hs.recount.foldl (fun _ _ hs => .ite (hs.toPending ..) hs) _

theorem finishWalks {finish : State → Walk → State} (hf : ∀ (t : State) (w : Walk), t.Canon → (finish t w).Canon) :
    (s.finishWalks finish).Canon := by
  unfold State.finishWalks
  extract_lets s1
  have hs1 : s1.Canon := (hs.foldl hf _).emptied
  exact hs1.foldl (fun _ _ hs => hs.destroyEnd ..) _

theorem bulkEmpty : s.bulkEmpty.Canon := by
  unfold State.bulkEmpty
  extract_lets s1
  have hs1 : s1.Canon := hs.foldl (fun _ _ hs => hs.log ..) _
  exact { hs1 with bulk := List.length_replicate }

theorem deriveAll : s.deriveAll.Canon := by
  unfold State.deriveAll
  extract_lets s1 s2 s3
  have hs1 : s1.Canon := (hs.showThermal.showPackages ..).showPackages ..
  have hs2 : s2.Canon := hs1.foldl (fun _ _ hs => (hs.wr ..).wr ..) _
  have hs3 : s3.Canon := hs2.showLimits.updateEnergy
  exact hs3.checkReserve.settle

theorem showStart (cold : Bool) (slot skipped ms : Nat) : (s.showStart cold slot skipped ms).Canon := by
  unfold State.showStart
  extract_lets f s1
  have hs1 : s1.Canon := (((hs.setReg ..).setReg ..).setReg ..).setReg ..
  exact ((hs1.setReg ..).setReg ..).setReg ..

theorem serveFrom (slot : Nat) : (s.serveFrom slot).Canon := by
  unfold State.serveFrom
  extract_lets s1 x s2 s3
  have hs1 : s1.Canon := ((hs.rootSlots ..).startHolds ..).toMode ..
  have hs2 : s2.Canon := hs1.of_eq
  have hs3 : s3.Canon := hs2.nextQuiesce.foldl (fun _ _ hs => (hs.keepOpen ..).issue ..) _
  exact .ite (hs3.pourBegin ..) hs3

theorem coldServe (env : StartEnv) (slot : Nat) : (s.coldServe env slot).Canon := by
  unfold State.coldServe
  extract_lets k l s1 s2 x s3
  have hs1 : s1.Canon := ((hs.toMode ..).probeDies ..).rebuild ..
  have hs2 : s2.Canon := ((hs1.foundAtStart ..).finishWalks fun _ w ht => ht.resumeWalk k l w).bulkEmpty.restoreReserve
  have hs3 : s3.Canon := hs2.of_eq
  split
  · exact hs1.halt ..
  · exact .ite (hs1.startFails ..) ((hs3.deriveAll.showStart ..).serveFrom ..)

theorem coldTest (env : StartEnv) (slot : Nat) : (s.coldTest env slot).Canon := by
  unfold State.coldTest
  extract_lets p
  have hs1 : p.1.Canon := ((hs.toMode ..).reamJoin).startTests ..
  exact .ite ((hs1.unitsReturn ..).coldServe ..) (hs1.toSafe ..)

theorem coldBoot (env : StartEnv) : (s.coldBoot env).Canon := by
  unfold State.coldBoot
  extract_lets slot s1 s2 s3
  have hs1 : s1.Canon := hs.coldTrain ..
  have hs2 : s2.Canon := hs1.coldDies ..
  have hs3 : s3.Canon := hs2.layRoles.startEngines ..
  exact .ite (hs1.startFails ..) (.ite (hs2.startFails ..) (.ite (hs3.startFails ..) (hs3.coldTest ..)))

theorem execColdStart (env : StartEnv) : Res.Canon (execColdStart env s) := by
  unfold Machine.execColdStart
  refine .next ?_
  extract_lets s1
  have hs1 : s1.Canon := hs.coldBegin ..
  exact .ite hs (.ite (hs1.toSafe ..) (.ite (hs1.toSafe ..) (hs1.coldBoot ..)))

theorem warmTrain (ok : Bool) : (s.warmTrain ok).Canon := by
  unfold State.warmTrain
  exact hs.foldl (fun _ _ hs => .ite hs (.ite (hs.wrP ..) (hs.train ..))) _

theorem warmBegin (env : StartEnv) : (s.warmBegin env).Canon := by
  unfold State.warmBegin
  extract_lets hold x s0 s1 s2 s3
  have hs0 : s0.Canon := hs.of_eq
  have hs1 : s1.Canon := .ite hs0 ((hs0.restoreWarm.toMode ..).railsUp ..)
  have hs2 : s2.Canon := ((hs1.ladderSlot.selfRefresh ..).showThermal).dropPorts
  have hs3 : s3.Canon := .ite (hs2.foldl (fun _ _ hs => hs.retrain ..) _) (hs2.warmTrain ..)
  exact hs3.foldl (fun _ _ hs => hs.centerBad ..) _

theorem warmFlush : s.warmFlush.Canon := (hs.flush.rootSlots ..).setReg ..

theorem warmMap (env : StartEnv) (hold kept : Bool) : (s.warmMap env hold kept).Canon := by
  unfold State.warmMap
  extract_lets s1 k l
  have hs1 : s1.Canon := .foldl (.ite hs hs.settleSegs) (fun _ _ hs => (hs.wr ..).wr ..) _
  split
  · exact hs1.finishWalks fun _ w ht => ht.finishWalk w
  · exact .finishWalks (.rebuild (.ite hs.abortSteeps hs) _) fun _ w ht => ht.resumeWalk k l w

theorem warmServe (env : StartEnv) (hold : Bool) (slot skipped bound : Nat) : (s.warmServe env hold slot skipped bound).Canon := by
  unfold State.warmServe
  extract_lets kept s1 s2 s3 x s4
  have hs1 : s1.Canon := hs.toMode ..
  have hs2 : s2.Canon := hs1.warmMap ..
  have hs3 : s3.Canon := .ite hs2.bulkEmpty hs2.bulkEmpty.restoreReserve
  have hs4 : s4.Canon := hs3.of_eq
  split
  · exact hs1.halt ..
  · split
    · exact hs2.halt ..
    · exact .ite (hs2.startFails ..) ((hs4.deriveAll.showStart ..).serveFrom ..)

theorem warmBoot (env : StartEnv) (hold trained : Bool) : (s.warmBoot env hold trained).Canon := by
  unfold State.warmBoot
  extract_lets s2 s3 slot s4 analog p
  have hs1 : s2.Canon := hs.trainBad ..
  have hs2 : s3.Canon := .ite hs1.warmFlush (hs1.setReg ..)
  have hs3 : s4.Canon := hs2.layRoles.startEngines ..
  have hs4 : p.1.Canon := ((hs3.toMode ..).reamJoin).startTests ..
  exact .ite (hs2.startFails ..) (.ite (hs2.startFails ..) (.ite (hs3.startFails ..) (.ite (hs4.toSafe ..) (hs4.warmServe ..))))

theorem execWarmStart (env : StartEnv) : Res.Canon (execWarmStart env s) := by
  unfold Machine.execWarmStart
  refine .next ?_
  extract_lets hold trained s1
  have hs1 : s1.Canon := hs.warmBegin ..
  exact .ite hs (.ite (hs1.toSafe ..) (.ite (hs1.toSafe ..) (hs1.warmBoot ..)))

theorem warmFails (cause : Nat) : (s.warmFails cause).Canon := by
  unfold State.warmFails
  exact .startFails (.ite (((hs.ladderSlot.selfRefresh ..).showThermal).warmFlush) hs.ladderSlot) ..

theorem execStartFailed (cause : StartFailure) : Res.Canon (execStartFailed cause s) := by
  unfold Machine.execStartFailed
  refine .next ?_
  extract_lets x x' s1
  have hs1 : x.Canon := hs.toMode ..
  have hs2 : s1.Canon := hs1.of_eq
  exact .ite (hs2.startFails ..) (.ite (hs2.warmFails ..) hs)

/-! ## The end of a Quiesce (R434 to R436), the end of a Pour, self-test slices of a run (R518 to R524), and idling -/

theorem restartEngines : s.restartEngines.Canon := by
  unfold State.restartEngines
  exact hs.foldl (fun _ _ hs => .ite hs (((hs.engineReset ..).bump ..).wrE ..)) _

theorem activate : s.activate.Canon := by
  unfold State.activate
  extract_lets slot s1 f s2
  have hs1 : s1.Canon := hs.restartEngines
  have hs2 : s2.Canon := ((hs1.setReg ..).setReg ..).setReg ..
  exact ((hs2.setReg ..).ladderSlot).raiseLog ..

theorem discardCaddy : s.discardCaddy.Canon := { hs with ways := rfl }

theorem eraseAll (head : Nat) (sanitize : Bool) : (s.eraseAll head sanitize).Canon := by
  unfold State.eraseAll
  extract_lets used s1 x x' x'' s2
  have hs1 : s1.Canon := hs.discardCaddy.destroyAll.foldl (fun _ _ hs => hs.closeAll ..) _
  have hs2 : s2.Canon := hs1.of_eq
  exact hs2.beginWalk ..

theorem quiesceWork (w : QWork) (ready : Bool) : (s.quiesceWork w ready).Canon := by
  unfold State.quiesceWork
  split
  · exact .ite (hs.activate.ok ..) (hs.restartEngines.restartEngines.refuse ..)
  · exact .ite (hs.activate.bgDone ..) (hs.restartEngines.restartEngines.bgDone ..)
  · exact hs.eraseAll ..
  · exact hs.eraseAll ..
  · exact hs.readmit ..
  · exact hs.setReg ..

theorem quiesceOver (center : List Centering) : (s.quiesceOver center).Canon := by
  unfold State.quiesceOver
  extract_lets s1 s2 s3
  have hs1 : s1.Canon := hs.servePoint.centered ..
  have hs2 : s2.Canon := by
    unfold s2
    refine .resumeBulk ?_
    refine .toMode ?_ ..
    exact hs1.foldl (fun _ _ hs => hs.retrain ..) _
  have hs3 : s3.Canon := .ite hs2.startSlices hs2
  refine .runHeld ?_
  exact hs3.foldl (fun _ _ hs => hs.issue ..) _

theorem afterQuiesce (inputs : PourInputs) : (s.afterQuiesce inputs).Canon := by
  unfold State.afterQuiesce
  exact .ite hs (.ite (hs.pourBegin ..) (.ite (hs.warmReset ..) hs.nextQuiesce.bulkGo))

theorem quiesceShown (w : QWork) (ms : Nat) : (s.quiesceShown w ms).Canon := by
  unfold State.quiesceShown
  extract_lets s1 x
  have hs1 : s1.Canon := ((hs.bump ..).setReg ..).setReg ..
  exact .setReg hs1.of_eq ..

theorem quiesceDone (w : QWork) (ready : Bool) (ms : Nat) (inputs : PourInputs) (center : List Centering) :
    (s.quiesceDone w ready ms inputs center).Canon := by
  unfold State.quiesceDone
  extract_lets s1
  have hs1 : s1.Canon := (hs.quiesceShown ..).quiesceWork ..
  exact .ite (hs1.pourBegin ..) ((hs1.quiesceOver ..).afterQuiesce ..)

theorem execQuiesceEnd (work : WorkEnd) (ms : Nat) (inputs : PourInputs) : Res.Canon (execQuiesceEnd work ms inputs s) := by
  unfold Machine.execQuiesceEnd
  refine .next ?_
  split
  · exact hs
  · exact .ite hs (hs.quiesceDone ..)

theorem afterPour : s.afterPour.Canon := by
  unfold State.afterPour
  extract_lets s1
  have hs1 : s1.Canon := .ite hs.scanEnter hs
  exact .ite hs1.resumeBulk.nextQuiesce.bulkGo hs1

theorem execPourComplete (energyEnd us : Nat) : Res.Canon (execPourComplete energyEnd us s) :=
  .next (.ite ((hs.pourFinish ..).afterPour) hs)

theorem pourCut (energyEnd us poured : Nat) : (s.pourCut energyEnd us poured).Canon := by
  unfold State.pourCut
  extract_lets s1 left s2 x x'
  have hs1 : s1.Canon := (hs.pourWrite ..).endRecord ..
  have hs2 : s2.Canon := ((hs1.cleaned ..).programsOver).pourOver
  exact hs2.of_eq

theorem execPourExhausted (energyEnd us poured : Nat) : Res.Canon (execPourExhausted energyEnd us poured s) := by
  unfold Machine.execPourExhausted
  refine .next ?_
  extract_lets t
  have hs1 : t.Canon := hs.pourCut ..
  exact .ite hs (.afterPour (.ite (hs1.coresOff.toMode ..) hs1.toStandby))

theorem execSelftestSliceDone (r : SliceResult) : Res.Canon (execSelftestSliceDone r s) := by
  unfold Machine.execSelftestSliceDone
  refine .next ?_
  split
  · exact hs
  · extract_lets p s1
    have hs1 : p.1.Canon := hs.endSlice ..
    have hs2 : s1.Canon := hs1.nextSlices
    exact .ite hs (.ite ((hs1.endRun ..).toSafe ..) (.ite hs2.runHeld hs2))

theorem execSelftestBudgetExpiry (slice : Fin 33) : Res.Canon (execSelftestBudgetExpiry slice s) := by
  unfold Machine.execSelftestBudgetExpiry
  refine .next ?_
  split
  · exact hs
  · exact .ite hs (((hs.draw.keepSlice ..).endRun ..).toSafe ..)

end

end State.Canon

end Sys2Proof.Machine
end

section
/-! SUPPORT. Every instruction, and so every step, keeps the stores in their canonical form (R58, R103).
The proofs are elaborated in turn: many short ones at once, each waiting for those before it, take a thread and its stack each. -/

namespace Sys2Proof.Machine

set_option Elab.async false

theorem State.Canon.exec {s : State} (hs : s.Canon) (i : Instr) : Res.Canon (exec i s) := by
  cases i with
  | memrd => exact hs.execMemrd ..
  | memspecrd => exact hs.execMemspecrd ..
  | memwr => exact hs.execMemwr ..
  | memwrptl => exact hs.execMemwrptl ..
  | mediaReadReady => exact hs.execMediaReadReady ..
  | mediaReadTimeout => exact hs.execMediaReadTimeout ..
  | dieSelfResume => exact hs.execDieSelfResume ..
  | evictionSweep => exact hs.execEvictionSweep ..
  | idleEviction => exact hs.execIdleEviction ..
  | partialMerge => exact hs.execPartialMerge ..
  | deferredMerge => exact hs.execDeferredMerge ..
  | stripeWaitExpiry => exact hs.execStripeWaitExpiry ..
  | stripeComplete => exact hs.execStripeComplete ..
  | steepDone => exact hs.execSteepDone ..
  | segmentOpenTimeout => exact hs.execSegmentOpenTimeout ..
  | pulpPassStart => exact hs.execPulpPassStart ..
  | sizingDue => exact hs.execSizingDue ..
  | probeStripes => exact hs.execProbeStripes ..
  | journalPageFlush => exact hs.execJournalPageFlush ..
  | journalPageProgrammed => exact hs.execJournalPageProgrammed ..
  | ckptBegin => exact hs.execCkptBegin ..
  | ckptEnd => exact hs.execCkptEnd ..
  | mapPageVerify => exact hs.execMapPageVerify ..
  | patrolScrubStripe => exact hs.execPatrolScrubStripe ..
  | poisonWalkStep => exact hs.execPoisonWalkStep ..
  | unmappingWalkStep => exact hs.execUnmappingWalkStep ..
  | slotSweepStep => exact hs.execSlotSweepStep ..
  | verificationScrubStripe => exact hs.execVerificationScrubStripe ..
  | spareDieCheck => exact hs.execSpareDieCheck ..
  | d2dLaneFail => exact hs.execD2dLaneFail ..
  | d2dModuleDown => exact hs.execD2dModuleDown ..
  | refreshDue => exact hs.execRefreshDue ..
  | dramPatrol => exact hs.execDramPatrol ..
  | driftCheck => exact hs.execDriftCheck ..
  | rowRemap => exact hs.execRowRemap ..
  | readmissionTest => exact hs.execReadmissionTest ..
  | quiesceEnd => exact hs.execQuiesceEnd ..
  | engineFault => exact hs.execEngineFault ..
  | watchdogExpiry => exact hs.execWatchdogExpiry ..
  | engineResetReady => exact hs.execEngineResetReady ..
  | dmaHalt => exact hs.execDmaHalt ..
  | sramSweep => exact hs.execSramSweep ..
  | p12vLoss => exact hs.execP12vLoss ..
  | pourComplete => exact hs.execPourComplete ..
  | pourExhausted => exact hs.execPourExhausted ..
  | holdEnd => exact hs.execHoldEnd ..
  | p12vReturn => exact hs.execP12vReturn ..
  | pwrdisAssert => exact hs.execPwrdisAssert ..
  | pwrdisRelease => exact hs.execPwrdisRelease ..
  | gpfPhase2 => exact hs.execGpfPhase2 ..
  | capMeasurementStart => exact hs.execCapMeasurementStart ..
  | capMeasurementDone => exact hs.execCapMeasurementDone ..
  | energyUpdate => exact hs.execEnergyUpdate ..
  | subbankIsolation => exact hs.execSubbankIsolation ..
  | monitorScan => exact hs.execMonitorScan ..
  | stackCapAdjust => exact hs.execStackCapAdjust ..
  | phaseFault => exact hs.execPhaseFault ..
  | auxPowerRise => exact hs.execAuxPowerRise ..
  | auxFault => exact hs.execAuxFault ..
  | aonRailFault => exact hs.execAonRailFault ..
  | powerOff => exact hs.execPowerOff ..
  | coldStart => exact hs.execColdStart ..
  | warmStart => exact hs.execWarmStart ..
  | startFailed => exact hs.execStartFailed ..
  | perstAssert => exact hs.execPerstAssert ..
  | perst1Assert => exact hs.execPerst1Assert ..
  | perstRelease => exact hs.execPerstRelease ..
  | hotReset => exact hs.execHotReset ..
  | linkDown => exact hs.execLinkDown ..
  | linkTrained => exact hs.execLinkTrained ..
  | linkRetrain => exact hs.execLinkRetrain ..
  | flr => exact hs.execFlr ..
  | d3hotEntry => exact hs.execD3hotEntry ..
  | ideIntegrityFailure => exact hs.execIdeIntegrityFailure ..
  | ideKm => exact hs.execIdeKm ..
  | hdmDecoderCommit => exact hs.execHdmDecoderCommit ..
  | msixUnmask => exact hs.execMsixUnmask ..
  | aggGroupMessage => exact hs.execAggGroupMessage ..
  | dozeEntry => exact hs.execDozeEntry ..
  | dozeExit => exact hs.execDozeExit ..
  | serviceWake => exact hs.execServiceWake ..
  | optimeTick => exact hs.execOptimeTick ..
  | optimeSave => exact hs.execOptimeSave ..
  | minuteTick => exact hs.execMinuteTick ..
  | sensorSample => exact hs.execSensorSample ..
  | spdmGetVersion => exact hs.execSpdmGetVersion ..
  | spdmGetCapabilities => exact hs.execSpdmGetCapabilities ..
  | spdmNegotiateAlgorithms => exact hs.execSpdmNegotiateAlgorithms ..
  | spdmGetDigests => exact hs.execSpdmGetDigests ..
  | spdmGetCertificate => exact hs.execSpdmGetCertificate ..
  | spdmChallenge => exact hs.execSpdmChallenge ..
  | spdmGetMeasurements => exact hs.execSpdmGetMeasurements ..
  | spdmKeyExchange => exact hs.execSpdmKeyExchange ..
  | spdmKeyUpdate => exact hs.execSpdmKeyUpdate ..
  | spdmHeartbeat => exact hs.execSpdmHeartbeat ..
  | spdmEndSession => exact hs.execSpdmEndSession ..
  | spdmHeartbeatTimeout => exact hs.execSpdmHeartbeatTimeout ..
  | cdatTableAccess => exact hs.execCdatTableAccess ..
  | doeDiscovery => exact hs.execDoeDiscovery ..
  | doeAbort => exact hs.execDoeAbort ..
  | backgroundOperationStatus => exact hs.execBackgroundOperationStatus ..
  | getEventRecords => exact hs.execGetEventRecords ..
  | clearEventRecords => exact hs.execClearEventRecords ..
  | getEventInterruptPolicy => exact hs.execGetEventInterruptPolicy ..
  | setEventInterruptPolicy => exact hs.execSetEventInterruptPolicy ..
  | getFwInfo => exact hs.execGetFwInfo ..
  | transferFw => exact hs.execTransferFw ..
  | activateFw => exact hs.execActivateFw ..
  | getTimestamp => exact hs.execGetTimestamp ..
  | setTimestamp => exact hs.execSetTimestamp ..
  | getSupportedLogs => exact hs.execGetSupportedLogs ..
  | getLog => exact hs.execGetLog ..
  | identifyMemoryDevice => exact hs.execIdentifyMemoryDevice ..
  | getPartitionInfo => exact hs.execGetPartitionInfo ..
  | getLsa => exact hs.execGetLsa ..
  | setLsa => exact hs.execSetLsa ..
  | getHealthInfo => exact hs.execGetHealthInfo ..
  | getAlertConfiguration => exact hs.execGetAlertConfiguration ..
  | setAlertConfiguration => exact hs.execSetAlertConfiguration ..
  | getShutdownState => exact hs.execGetShutdownState ..
  | setShutdownState => exact hs.execSetShutdownState ..
  | getPoisonList => exact hs.execGetPoisonList ..
  | clearPoison => exact hs.execClearPoison ..
  | getScanMediaCapabilities => exact hs.execGetScanMediaCapabilities ..
  | scanMedia => exact hs.execScanMedia ..
  | getScanMediaResults => exact hs.execGetScanMediaResults ..
  | sanitize => exact hs.execSanitize ..
  | secureErase => exact hs.execSecureErase ..
  | getMultiHeadedInfo => exact hs.execGetMultiHeadedInfo ..
  | getHeadInfo => exact hs.execGetHeadInfo ..
  | mailboxUnsupported => exact hs.execMailboxUnsupported ..
  | leafUnknownOpcode => exact hs.execLeafUnknownOpcode ..
  | identify => exact hs.execIdentify ..
  | getMeasurements => exact hs.execGetMeasurements ..
  | getCertificate => exact hs.execGetCertificate ..
  | scanChallenge => exact hs.execScanChallenge ..
  | scanUnlock => exact hs.execScanUnlock ..
  | healthReport => exact hs.execHealthReport ..
  | getStatus => exact hs.execGetStatus ..
  | getUnit => exact hs.execGetUnit ..
  | setWallClock => exact hs.execSetWallClock ..
  | setEventMask => exact hs.execSetEventMask ..
  | eventNotify => exact hs.execEventNotify ..
  | setWindowGrant => exact hs.execSetWindowGrant ..
  | getWindowGrant => exact hs.execGetWindowGrant ..
  | regRead => exact hs.execRegRead ..
  | regWrite => exact hs.execRegWrite ..
  | setLatencyTolerance => exact hs.execSetLatencyTolerance ..
  | getPower => exact hs.execGetPower ..
  | warmReset => exact hs.execWarmReset ..
  | powerRequestOff => exact hs.execPowerRequestOff ..
  | powerRequestOn => exact hs.execPowerRequestOn ..
  | zero => exact hs.execZero ..
  | fill => exact hs.execFill ..
  | copy => exact hs.execCopy ..
  | check => exact hs.execCheck ..
  | compare => exact hs.execCompare ..
  | eraseKey => exact hs.execEraseKey ..
  | bulkQuireHandled => exact hs.execBulkQuireHandled ..
  | bulkStatus => exact hs.execBulkStatus ..
  | bulkAbort => exact hs.execBulkAbort ..
  | keyProvision => exact hs.execKeyProvision ..
  | keyDestroy => exact hs.execKeyDestroy ..
  | rangeWrite => exact hs.execRangeWrite ..
  | keyStatus => exact hs.execKeyStatus ..
  | fwTransfer => exact hs.execFwTransfer ..
  | fwActivate => exact hs.execFwActivate ..
  | fwInfo => exact hs.execFwInfo ..
  | svnCommit => exact hs.execSvnCommit ..
  | selftestRun => exact hs.execSelftestRun ..
  | selftestResult => exact hs.execSelftestResult ..
  | selftestSliceDone => exact hs.execSelftestSliceDone ..
  | selftestBudgetExpiry => exact hs.execSelftestBudgetExpiry ..
  | reamRead => exact hs.execReamRead ..
  | reamRewindToMark => exact hs.execReamRewindToMark ..
  | reamSetMark => exact hs.execReamSetMark ..
  | qstRead => exact hs.execQstRead ..
  | qstWrite => exact hs.execQstWrite ..
  | qstPassword => exact hs.execQstPassword ..
  | qstPageWriteDone => exact hs.execQstPageWriteDone ..
  | unitOut => exact hs.execUnitOut ..
  | unitReturn => exact hs.execUnitReturn ..
  | locate => exact hs.execLocate ..
  | removalRequest => exact hs.execRemovalRequest ..
  | tallyRead => exact hs.execTallyRead ..
  | tallyConfig => exact hs.execTallyConfig ..
  | tallySample => exact hs.execTallySample ..
  | mctpReplyDiscard => exact hs.execMctpReplyDiscard ..
  | cqDrop => exact hs.execCqDrop ..
  | strDataWrite => exact hs.execStrDataWrite ..
  | strCmdStart => exact hs.execStrCmdStart ..
  | strCmdTail => exact hs.execStrCmdTail ..
  | strCmdFinal => exact hs.execStrCmdFinal ..
  | tlyLiveRead => exact hs.execTlyLiveRead ..
  | tlyCounterWrite => exact hs.execTlyCounterWrite ..
  | tlySampleCfgWrite => exact hs.execTlySampleCfgWrite ..
  | tlyCounterWrap => exact hs.execTlyCounterWrap ..
  | tlySample => exact hs.execTlySample ..
  | reamCmdLoad => exact hs.execReamCmdLoad ..
  | reamCmdRewind => exact hs.execReamCmdRewind ..
  | reamCmdMark => exact hs.execReamCmdMark ..
  | reamGapClear => exact hs.execReamGapClear ..
  | reamPageFlush => exact hs.execReamPageFlush ..
  | reamSuppressionSummary => exact hs.execReamSuppressionSummary ..
  | registerWrite => exact hs.execRegisterWrite ..
  | bypass => exact hs.execBypass ..
  | idcode => exact hs.execIdcode ..
  | samplePreload => exact hs.execSamplePreload ..
  | extest => exact hs.execExtest ..
  | bstStatus => exact hs.execBstStatus ..
  | memacc => exact hs.execMemacc ..
  | scanN => exact hs.execScanN ..
  | trst => exact hs.execTrst ..
  | padTouchEnd => exact hs.execPadTouchEnd ..
  | padHold3s => exact hs.execPadHold3s ..
  | removalWaitExpiry => exact hs.execRemovalWaitExpiry ..
  | drbgHealthFail => exact hs.execDrbgHealthFail ..
  | mctpReplyRead => exact hs.execMctpReplyRead ..
  | i3cDynamicAddressAssignment => exact hs.execI3cDynamicAddressAssignment ..
  | strapChangeWhilePowered => exact hs.execStrapChangeWhilePowered ..
  | referenceClockChange => exact hs.execReferenceClockChange ..
  | d3hotExit => exact hs.execD3hotExit ..
  | flitReplay => exact hs.execFlitReplay ..
  | scanMediaQuire => exact hs.execScanMediaQuire ..
  | scanChallengeExpiry => exact hs.execScanChallengeExpiry ..
  | bar2Read => exact hs.execBar2Read ..

theorem State.Canon.step {s : State} (hs : s.Canon) : Res.Canon (step s) := by
  unfold Machine.step
  split
  · exact .next hs.idle
  · exact State.Canon.exec hs.of_eq _

/-- Settles O2: each operation of the model that writes a store puts its values in rising order and drops those at their default, and every
instruction is made of such operations and of changes beside the stores. -/
theorem stepKeepsCanonicalForm : Obligations.StepKeepsCanonicalForm := by
  unfold Obligations.StepKeepsCanonicalForm
  intro s t hs ht
  exact t.canonical_iff.mpr ((s.canonical_iff.mp hs).step.of_next t ht)

end Sys2Proof.Machine
end

section
/-! SUPPORT. What the journal moves, and what a change of the segments' states moves behind it (R126, R128, R156, R157, R173). -/

namespace Sys2Proof.Machine

/-- t is s but for its registers, what the heads hold, what the platform manager is to be told, and of the mapping the journal that is not
on media. -/
def Journalled (s t : State) : Prop :=
  t = { s with
    regs := t.regs, heads := t.heads, pm := t.pm
    mapping := { s.mapping with
      jseq := t.mapping.jseq, openPage := t.mapping.openPage, issued := t.mapping.issued, ringPos := t.mapping.ringPos } }

/-- t is s but for what the states of segments bring with them: registers, messages and records, controllers and packages, alerts and
Read-only; of the mapping the segment table with its counters and summaries, and the journal that is not on media; and of the media the
tiles with their spares, the dies' statuses and health, and the reserve. -/
def Segmented (s t : State) : Prop :=
  t = { s with
    regs := t.regs, heads := t.heads, pm := t.pm, out := t.out, ream := t.ream, qst := t.qst, ports := t.ports, dram := t.dram
    ctl := { s.ctl with alert := t.ctl.alert, acked := t.ctl.acked, readOnly := t.ctl.readOnly }
    mapping := { s.mapping with
      tree := t.mapping.tree, ctrs := t.mapping.ctrs, segs := t.mapping.segs, summaries := t.mapping.summaries
      jseq := t.mapping.jseq, openPage := t.mapping.openPage, issued := t.mapping.issued, ringPos := t.mapping.ringPos }
    media := { s.media with
      tiles := t.media.tiles, redirects := t.media.redirects, status := t.media.status, health := t.media.health
      reserve := t.media.reserve, resBytes := t.media.resBytes, resOpened := t.media.resOpened } }

section
variable {s t u : State}

theorem Journalled.refl (s : State) : Journalled s s := rfl

theorem Journalled.trans (h1 : Journalled s t) (h2 : Journalled t u) : Journalled s u := by
  unfold Journalled at *; rw [h2, h1]

theorem Counted.journalled (h : Counted s t) : Journalled s t := by
  unfold Counted at h; unfold Journalled; rw [h]

theorem Segmented.refl (s : State) : Segmented s s := rfl

theorem Segmented.trans (h1 : Segmented s t) (h2 : Segmented t u) : Segmented s u := by
  unfold Segmented at *; rw [h2, h1]

theorem Journalled.segmented (h : Journalled s t) : Segmented s t := by
  unfold Journalled at h; unfold Segmented; rw [h]

theorem Treed.segmented (h : Treed s t) : Segmented s t := by
  unfold Treed at h; unfold Segmented; rw [h]

theorem Reported.segmented (h : Reported s t) : Segmented s t := by
  unfold Reported at h; unfold Segmented; rw [h]

theorem Recorded.segmented (h : Recorded s t) : Segmented s t := by
  unfold Recorded at h; unfold Segmented; rw [h]

theorem Counted.segmented (h : Counted s t) : Segmented s t := h.journalled.segmented

end

/-! ## The journal (R173) -/

theorem State.ringTake_journalled (s : State) (die n : Nat) : Journalled s (s.ringTake die n) := rfl

theorem State.issuePage_journalled (s : State) (die : Nat) : Journalled s (s.issuePage die) := rfl

theorem State.journal_journalled (s : State) (die channel : Nat) (b : JBody) : Journalled s (s.journal die channel b) := by
  unfold State.journal
  extract_lets r x m s1
  have held : Journalled s s1 := .trans (t := { s with mapping := m }) rfl (State.tally_counted ..).journalled
  split
  · exact held.trans (s1.issuePage_journalled die)
  · exact held

theorem State.journalC_journalled (s : State) (c : Nat) (b : JBody) : Journalled s (s.journalC c b) := s.journal_journalled ..

theorem State.journalC_segmented (s : State) (c : Nat) (b : JBody) : Segmented s (s.journalC c b) := (s.journalC_journalled c b).segmented

/-! ## Segments and tiles that retire (R126, R128, R181, R298) -/

theorem State.onSeg_segmented (s : State) (c t : Nat) (f : Seg → Seg) : Segmented s (s.onSeg c t f) := by
  have put : Segmented s { s with mapping := { s.mapping with segs := s.mapping.segs.put Seg.shipped (segKey c t) (f (s.seg c t)) } } :=
    rfl
  exact put.trans (State.segWritten_treed ..).segmented

theorem State.setReadOnly_segmented (s : State) : Segmented s s.setReadOnly := by
  unfold State.setReadOnly
  split
  · exact .refl s
  · have entered : Segmented s { s with ctl := { s.ctl with readOnly := true } } := rfl
    exact (((entered.trans (State.setReg_counted ..).segmented).trans (State.wr_counted ..).segmented).trans
      (State.wr_counted ..).segmented).trans (State.event_reported ..).segmented

theorem State.poolReached_segmented (s : State) (level : Nat) (shares : List Nat) : Segmented s (s.poolReached level shares) :=
  .trans (.trans (t := s.latchAlert 1) rfl (State.event_reported ..).segmented) (State.log_recorded ..).segmented

theorem State.poolUpdate_segmented (s : State) : Segmented s s.poolUpdate := by
  unfold State.poolUpdate
  extract_lets t o d p wear life s1 old
  have shown : Counted s s1 :=
    (((((s.setReg_counted ..).trans (State.setReg_counted ..)).trans (State.setReg_counted ..)).trans (State.setReg_counted ..)).trans
      (State.setReg_counted ..)).trans (State.setReg_counted ..)
  clear_value s1
  split
  · exact shown.segmented
  · exact (shown.trans (s1.setReg_counted ..)).segmented.trans
      (foldl_related Segmented.refl .trans (fun u k => u.poolReached_segmented (k + 1) _) _ _)

theorem State.retireSeg_segmented (s : State) (c t : Nat) : Segmented s (s.retireSeg c t) := by
  unfold State.retireSeg
  extract_lets s1
  have entered : Segmented s s1 := by
    unfold s1
    split
    · exact s.setReadOnly_segmented
    · exact .refl s
  exact (((entered.trans (s1.onSeg_segmented ..)).trans (State.bump_counted ..).segmented).trans (State.journalC_segmented ..)).trans
    (State.poolUpdate_segmented _)

theorem State.onTile_segmented (s : State) (n t : Nat) (f : Tile → Tile) : Segmented s (s.onTile n t f) := rfl

theorem State.redirect_segmented (s : State) (n t : Nat) : Segmented s (s.redirect n t).1 := by
  unfold State.redirect
  extract_lets used x s1 x' s2
  have listed : Segmented s s1 := rfl
  clear_value s1
  have spare : Segmented s s2 := (listed.trans (s1.onTile_segmented ..)).trans (State.bump_counted ..).segmented
  clear_value s2
  split
  · rfl
  · dsimp only
    refine .trans ?_ (State.poolUpdate_segmented _)
    split
    · exact spare.trans (s2.bump_counted ..).segmented
    · exact spare

theorem State.countRetired_segmented (s : State) (n t : Nat) : Segmented s (s.countRetired n t) := by
  unfold State.countRetired
  extract_lets c hd hd1 x s1
  have counted : Segmented s s1 := rfl
  clear_value s1
  split
  · exact counted
  · exact (counted.trans (s1.bump_counted ..).segmented).trans (State.raise_counted ..).segmented

theorem State.retireTiles_segmented (s : State) (c t : Nat) : Segmented s (s.retireTiles c t).1 := by
  unfold State.retireTiles
  refine foldl_related (R := fun p r : State × Bool => Segmented p.1 r.1) (fun p => .refl p.1) .trans (fun p k => ?_) _ (s, true)
  dsimp only
  split
  · exact (p.1.countRetired_segmented ..).trans (State.redirect_segmented ..)
  · exact .refl p.1

theorem State.askSteep_segmented (s : State) (c t : Nat) (x : SegState) : Segmented s (s.askSteep c t x) := by
  have tiles := s.retireTiles_segmented c t
  unfold State.askSteep
  dsimp only
  split
  · exact (tiles.trans (State.onSeg_segmented ..)).trans (State.journalC_segmented ..)
  · exact tiles.trans (State.retireSeg_segmented ..)

theorem State.toDirty_segmented (s : State) (c t : Nat) : Segmented s (s.toDirty c t) :=
  (s.onSeg_segmented ..).trans (State.askSteep_segmented ..)

/-! ## The media reserve (R157, R179) -/

theorem State.releaseReserve_segmented (s : State) (r : ResSeg) : Segmented s (s.releaseReserve r) :=
  .trans (t := { s with media := { s.media with reserve := removeFirst r s.media.reserve } }) rfl (State.toDirty_segmented ..)

theorem State.trimReserve_segmented (s : State) (c use : Nat) : Segmented s (s.trimReserve c use) :=
  foldl_related Segmented.refl .trans State.releaseReserve_segmented _ s

theorem State.closeReserve_segmented (s : State) (r : ResSeg) : Segmented s (s.closeReserve r) := by
  unfold State.closeReserve
  extract_lets x x' x'' s1
  have listed : Segmented s s1 := rfl
  exact ((listed.trans (s1.ringTake_journalled ..).segmented).trans (State.onSeg_segmented ..)).trans (State.journalC_segmented ..)

theorem State.openReserve_segmented (s : State) (c use round : Nat) : Segmented s (s.openReserve c use round) := by
  unfold State.openReserve
  extract_lets s0
  have closed : Segmented s s0 := foldl_related Segmented.refl .trans State.closeReserve_segmented _ s
  split
  · exact closed
  · extract_lets s1
    have opened : Segmented s s1 := (closed.trans (s0.onSeg_segmented ..)).trans (State.journalC_segmented ..)
    clear_value s1
    refine (opened.trans ?_).trans (State.trimReserve_segmented _ c use)
    rfl

/-- Reserve contents move segments, their tiles and the journal, and no data. -/
theorem State.reserveAdd_segmented (s : State) (die use bytes : Nat) : Segmented s (s.reserveAdd die use bytes) := by
  unfold State.reserveAdd
  extract_lets key total opened x s1
  exact .trans (t := s1) rfl (foldl_related Segmented.refl .trans (fun u _ => u.openReserve_segmented ..) _ s1)

end Sys2Proof.Machine
end

section
/-! SUPPORT. Root slots (R341). -/

namespace Sys2Proof.Machine

/-- A root slot of a kind and number is written on one die: one part of `State.rootSlots`. -/
def State.rootSlot (s : State) (kind num d : Nat) : State :=
  let line := if kind = 2 then [] else (List.range 8).map (fun i => (s.mapping.ctrs.get d).get 0 (ctrKey 7 i))
  let x : RootSlot := ⟨kind, num, s.journalNext.get d, s.ms, line⟩
  let s1 : State := { s with sec := { s.sec with roots := s.sec.roots.modify d (fun l => (x :: l).take 128) } }
  (s1.bump Reg.SEC_VERIFY.ROOT_WRITES d 0 1).pageCommit (4352 + (s.rd Reg.SEC_VERIFY.ROOT_WRITES d 0 + d) % 128)

/-- The number that the root slots of a kind carry. -/
def State.rootNum (s : State) (kind : Nat) : Nat := if kind = 1 then s.reg Reg.POUR_STATUS.COUNT else s.rd Reg.MAP_CKPT.ROUND 0 0

theorem State.rootSlots_eq (s : State) (kind : Nat) :
    s.rootSlots kind = (s.rootSlot kind (s.rootNum kind) 0).rootSlot kind (s.rootNum kind) 1 := rfl

/-- t is s but for the root slots and the slot of R175, registers, what the heads hold, what the platform manager is to be told, the
Ream, and the quire store. -/
def Rooted (s t : State) : Prop :=
  t = { s with
    regs := t.regs, heads := t.heads, pm := t.pm, ream := t.ream, qst := t.qst, sec := { s.sec with roots := t.sec.roots }
    mapping := { s.mapping with headSlot := t.mapping.headSlot } }

theorem Rooted.trans {s t u : State} (h1 : Rooted s t) (h2 : Rooted t u) : Rooted s u := by
  unfold Rooted at *; rw [h2, h1]

theorem Recorded.rooted {s t : State} (h : Recorded s t) : Rooted s t := by
  unfold Recorded at h; unfold Rooted; rw [h]

theorem State.rootSlot_rooted (s : State) (kind num d : Nat) : Rooted s (s.rootSlot kind num d) := by
  unfold State.rootSlot
  extract_lets line x x' s1
  exact .trans (t := s1.bump Reg.SEC_VERIFY.ROOT_WRITES d 0 1) rfl (State.pageCommit_recorded ..).rooted

theorem State.rootSlots_rooted (s : State) (kind : Nat) : Rooted s (s.rootSlots kind) := by
  rw [State.rootSlots_eq]
  exact (s.rootSlot_rooted ..).trans (State.rootSlot_rooted ..)

theorem State.journalSlot_rooted (s : State) : Rooted s s.journalSlot := rfl

@[simp] theorem State.journalSlot_sec (s : State) : s.journalSlot.sec = s.sec := rfl

/-- The slot is the newest of its die, and the other die's slots stay. -/
theorem State.rootSlot_roots (s : State) (kind num d : Nat) : ∃ x : RootSlot, x.kind = kind ∧
    (s.rootSlot kind num d).sec.roots = s.sec.roots.modify d (fun l => (x :: l).take 128) := by
  unfold State.rootSlot
  extract_lets line x x' s1
  exact ⟨x, rfl, by rw [State.pageCommit_recorded]; rfl⟩

/-- The newest root slot of each die is of the kind that was written. -/
theorem State.rootSlots_kind (s : State) (kind d : Nat) : (((s.rootSlots kind).sec.roots.get d).head?.map RootSlot.kind) = some kind := by
  obtain ⟨x, hx, first⟩ := s.rootSlot_roots kind (s.rootNum kind) 0
  obtain ⟨y, hy, second⟩ := (s.rootSlot kind (s.rootNum kind) 0).rootSlot_roots kind (s.rootNum kind) 1
  rw [State.rootSlots_eq, second, first]
  by_cases hd : d = 0
  · simp [hd, Two.modify, Two.get, hx]
  · simp [hd, Two.modify, Two.get, hy]

end Sys2Proof.Machine
end

section
/-! SUPPORT. Journal pages and checkpoint rounds (R172 to R174, R270). -/

namespace Sys2Proof.Machine

section
variable {s : State}

theorem exec_journalPageFlush {die : Fin 2} (hr : s.running = true) (hp : s.mapping.openPage.get die ≠ []) :
    exec (.journalPageFlush die) s = .next (s.issuePage die) := by
  refine congrArg Host.Outcome.next (if_neg ?_)
  simp [hr, hp]

theorem exec_journalPageProgrammed {pg : List JRec} {rest : List (List JRec)} (hr : s.running = true)
    (hi : s.mapping.issued = pg :: rest) :
    exec .journalPageProgrammed s = .next (pg.foldl (fun s r => s.recordDone r)
      (({ s with mapping := { s.mapping with issued := rest, ring := s.mapping.ring ++ pg } } : State).pageProgrammed pg)) := by
  change execJournalPageProgrammed s = _
  simp [execJournalPageProgrammed, hi, hr]

theorem exec_ckptBegin (hs : s.inService = true) (hc : s.mapping.ckpt = none) (hm : s.mapping.mapChanged = true) :
    exec .ckptBegin s = .next s.ckptBegin := by
  refine congrArg Host.Outcome.next (if_pos ?_)
  simp [hs, hc, hm]

theorem exec_ckptEnd {rd : Round} (hr : s.running = true) (hc : s.mapping.ckpt = some rd) :
    exec .ckptEnd s = .next (s.ckptEnd rd) := by
  change execCkptEnd s = _
  simp [execCkptEnd, hc, hr]

end

/-! ## The beginning of a round (R172) -/

/-- The round that begins: its number, the other area, and each channel's fence and OPEN segments. -/
def State.nextRound (s : State) : Round :=
  ⟨(s.rd Reg.MAP_CKPT.ROUND 0 0 + 1) % 4294967296, 1 - s.rd Reg.MAP_CKPT.AREA 0 0, (List.range 32).map s.fence,
    (List.range 32).flatMap (fun c => (s.openSegs c).map (fun t => (c, t))), s.mapping.ringPos, [], [], [], ⟨[], []⟩, false⟩

/-- Behind the records and the registers of a round that begins, only the round itself is noted. -/
theorem State.ckptBegin_noted (s : State) : ∃ u, Journalled s u ∧
    u.rd Reg.MAP_CKPT.ROUND 0 0 = s.nextRound.num ∧ u.rd Reg.MAP_CKPT.AREA 0 0 = s.nextRound.area % 2 ∧
    s.ckptBegin = { u with mapping := { u.mapping with ckpt := some s.nextRound, mapChanged := false } } := by
  unfold State.ckptBegin
  extract_lets num area rd s1 s2 x
  have records : Journalled s s1 := foldl_related Journalled.refl .trans
    (fun u c => (u.journalC_journalled ..).trans (foldl_related Journalled.refl .trans (fun v l => v.journalC_journalled ..) _ _)) _ s
  have shown : Counted s1 s2 :=
    (((s1.wr_counted ..).trans (State.wr_counted ..)).trans (State.wr_counted ..)).trans (State.wr_counted ..)
  have pages : ((s1.wr Reg.MAP_CKPT.ROUND 0 0 num).wr Reg.MAP_CKPT.AREA 0 0 area).movesOnly s2 [Reg.MAP_CKPT.PAGES_DONE] :=
    .wr (.wr .refl (by decide) (by decide)) (by decide) (by decide)
  refine ⟨s2, records.trans shown.journalled, ?_, ?_, rfl⟩
  · rw [pages.reads _ (by decide) (by decide), State.rd_wr_ne _ (by decide) (by decide) (by decide), State.rd_wr_self]
    exact Nat.mod_mod ..
  · rw [pages.reads _ (by decide) (by decide), State.rd_wr_self]
    rfl

/-! ## The end of a round (R172, R270, R341) -/

/-- The round that ends, with the map and its tables as they stand (log entry 79). -/
def State.roundDone (s : State) (rd : Round) : Round :=
  { rd with map := s.mapping.map, unlisted := s.mapping.unlisted, segs := s.mapping.segs, ctrs := s.mapping.ctrs, done := true }

/-- The areas of a round and of the segment tables' copy are filled on both dies (R157, R179). -/
def State.ckptPages (s : State) : State :=
  (List.range 2).foldl (fun s d => (s.reserveAdd d 0 25769803776).reserveAdd d 2 16777216) s

/-- CKPT_END is journalled on both dies. -/
def State.ckptRecords (s : State) (rd : Round) : State :=
  (s.journal 0 255 (.ckptEnd rd.num rd.area)).journal 1 255 (.ckptEnd rd.num rd.area)

/-- The pages of a round are shown and counted on both dies. -/
def State.ckptCounted (s : State) : State :=
  (((s.wr Reg.MAP_CKPT.PAGES_DONE 0 0 6291456).wr Reg.MAP_CKPT.PAGES_DONE 1 0 6291456).tally 0 335 6291456).tally 1 335 6291456

/-- What a round writes before it counts as ended. -/
def State.ckptWritten (s : State) (rd : Round) : State := (s.ckptPages.ckptRecords rd).ckptCounted

/-- The round from whose beginning the journal is kept: the newest that has ended before. -/
def State.keptRound (s : State) : Nat := match s.mapping.rounds with | r :: _ => r.num | [] => 0

/-- The round that has begun in s is noted in u as the newest that has ended, and the journal is kept from the one before. -/
def State.ckptNoted (s : State) (rd : Round) (u : State) : State :=
  { u with mapping := { u.mapping with
    ckpt := none, changed := [], savedPoison := u.mapping.poison, rounds := s.roundDone rd :: u.mapping.rounds.take 1
    ring := sinceRound s.keptRound u.mapping.ring } }

theorem State.ckptEnd_eq (s : State) (rd : Round) :
    s.ckptEnd rd = ((s.ckptNoted rd (s.ckptWritten rd)).rootSlots 2).journalSlot := by
  unfold State.ckptEnd State.ckptNoted State.ckptWritten State.ckptCounted State.ckptRecords State.ckptPages
  rfl

theorem State.ckptRecords_journalled (s : State) (rd : Round) : Journalled s (s.ckptRecords rd) :=
  (s.journal_journalled ..).trans (State.journal_journalled ..)

theorem State.ckptCounted_counted (s : State) : Counted s s.ckptCounted :=
  (((s.wr_counted ..).trans (State.wr_counted ..)).trans (State.tally_counted ..)).trans (State.tally_counted ..)

theorem State.ckptWritten_segmented (s : State) (rd : Round) : Segmented s (s.ckptWritten rd) := by
  have pages : Segmented s s.ckptPages :=
    foldl_related Segmented.refl .trans (fun u _ => (u.reserveAdd_segmented ..).trans (State.reserveAdd_segmented ..)) _ s
  exact (pages.trans (State.ckptRecords_journalled _ rd).segmented).trans (State.ckptCounted_counted _).segmented

/-- The root slots of a round are written once it is noted as ended. -/
theorem State.ckptEnd_rooted (s : State) (rd : Round) : Rooted (s.ckptNoted rd (s.ckptWritten rd)) (s.ckptEnd rd) := by
  rw [State.ckptEnd_eq]
  exact (State.rootSlots_rooted ..).trans (State.journalSlot_rooted _)

/-- A round that has been noted as ended is the newest one, with the map as it stood, and neither its pages nor its root slots move data. -/
theorem State.ckptNoted_keeps {s t u : State} {rd : Round} (written : Segmented s u) (slots : Rooted (s.ckptNoted rd u) t) :
    t.mapping.ckpt = none ∧ t.mapping.changed = [] ∧ t.mapping.rounds = s.roundDone rd :: s.mapping.rounds.take 1 ∧
      t.mapping.map = s.mapping.map ∧ t.path = s.path ∧ t.media.images = s.media.images := by
  rw [slots, State.ckptNoted, written]
  exact ⟨rfl, rfl, rfl, rfl, rfl, rfl⟩

/-- Behind a round's end the newest root slot of each die is one of a round. -/
theorem State.ckptEnd_rootKind (s : State) (rd : Round) (d : Nat) :
    (((s.ckptEnd rd).sec.roots.get d).head?.map RootSlot.kind) = some 2 := by
  rw [State.ckptEnd_eq, State.journalSlot_sec, State.rootSlots_kind]

/-- Settles O17: a page goes whole from the open page to the ring; a round's records, the reserve that its pages fill and its root slots
move no data, so the map that it ends with is the map as it stands. -/
theorem journalAndRounds : Obligations.JournalAndRounds := by
  refine ⟨fun s die hr hp => ?_, fun s pg rest hr hi => exec_journalPageProgrammed hr hi, fun s hs hc hm => ?_, fun s rd hr hc => ?_⟩
  · have other : (1 - die.val = 0) ≠ (die.val = 0) := by have := die.isLt; rw [ne_eq, eq_iff_iff]; omega
    exact ⟨_, exec_journalPageFlush hr hp, rfl, Two.get_modify_self .., Two.get_modify_ne _ _ other, Two.get_modify_self .., rfl⟩
  · obtain ⟨u, journalled, round, area, begun⟩ := s.ckptBegin_noted
    refine ⟨_, exec_ckptBegin hs hc hm, ?_⟩
    rw [begun]
    refine ⟨round, area, ⟨s.nextRound, rfl, round.symm, rfl, rfl⟩, rfl, ?_⟩
    rw [journalled]
    exact ⟨⟨rfl, rfl, rfl, rfl, rfl, rfl, rfl, rfl⟩, rfl, rfl⟩
  · obtain ⟨ckpt, changed, rounds, map, path, images⟩ := State.ckptNoted_keeps (s.ckptWritten_segmented rd) (s.ckptEnd_rooted rd)
    exact ⟨_, exec_ckptEnd hr hc, rfl, ckpt, changed, rounds, fun d _ => s.ckptEnd_rootKind rd d, map, path, images⟩

end Sys2Proof.Machine
end

section
/-! SUPPORT. What the frontier's operations leave of the messages and of Write-through (R126, R154 to R165, R211). -/

namespace Sys2Proof.Machine

/-- From s to t messages may have been sent and none is taken back, and Write-through stands as it stood. -/
structure State.goesOn (s t : State) : Prop where
  out : s.out <:+ t.out
  writeThrough : t.ctl.writeThrough = s.ctl.writeThrough

section
variable {s t u : State}

theorem State.goesOn.refl : s.goesOn s := ⟨List.suffix_rfl, rfl⟩

theorem State.goesOn.trans (h1 : s.goesOn t) (h2 : t.goesOn u) : s.goesOn u :=
  ⟨h1.out.trans h2.out, h2.writeThrough.trans h1.writeThrough⟩

/-- A change beside messages and Write-through. -/
theorem State.goesOn.of_eq (h : s.goesOn t) (ho : u.out = t.out) (hw : u.ctl.writeThrough = t.ctl.writeThrough) : s.goesOn u :=
  h.trans ⟨ho ▸ List.suffix_rfl, hw⟩

theorem State.goesOn.foldl {α : Type} {f : State → α → State} (h : s.goesOn t) (hf : ∀ (t : State) (a : α), t.goesOn (f t a))
    (r : List α) : s.goesOn (r.foldl f t) :=
  h.trans (foldl_related (R := State.goesOn) (fun _ => .refl) .trans hf r t)

theorem State.goesOn.ite {c : Prop} [Decidable c] (ht : s.goesOn t) (hu : s.goesOn u) : s.goesOn (if c then t else u) :=
  iteInduction (fun _ => ht) (fun _ => hu)

/-! ## Messages, counters and controllers -/

theorem Recorded.goesOn (h : Recorded s t) : s.goesOn t := State.goesOn.refl.of_eq (by rw [h]) (by rw [h])

theorem Counted.goesOn (h : Counted s t) : s.goesOn t := h.recorded.goesOn

theorem Journalled.goesOn (h : Journalled s t) : s.goesOn t := State.goesOn.refl.of_eq (by rw [h]) (by rw [h])

theorem Treed.goesOn (h : Treed s t) : s.goesOn t := State.goesOn.refl.of_eq (by rw [h]) (by rw [h])

theorem State.answers.goesOn {l : List Out} (h : s.answers t l) : s.goesOn t :=
  ⟨by rw [h.frame]; exact List.suffix_append .., by rw [h.frame]⟩

end

section
variable {s t u : State} (h : s.goesOn t)
include h

theorem State.goesOn.wr (f : Field) (d i v : Nat) : s.goesOn (t.wr f d i v) := h.of_eq rfl rfl

theorem State.goesOn.setReg (f : Field) (v : Nat) : s.goesOn (t.setReg f v) := h.wr ..

theorem State.goesOn.bump (f : Field) (d i n : Nat) : s.goesOn (t.bump f d i n) := h.of_eq rfl rfl

theorem State.goesOn.tally (d i n : Nat) : s.goesOn (t.tally d i n) := h.trans (t.tally_counted ..).goesOn

theorem State.goesOn.send (o : Out) : s.goesOn (t.send o) := h.trans ⟨List.suffix_cons .., rfl⟩

theorem State.goesOn.msix (hd v : Nat) : s.goesOn (t.msix hd v) := by
  unfold State.msix
  exact .ite (h.of_eq rfl rfl) ((h.send _).tally ..)

theorem State.goesOn.eventAt (hd log : Nat) (ty : EvType) (c : EvCause) (vs : List Nat) : s.goesOn (t.eventAt hd log ty c vs) := by
  have logged : ∀ f, s.goesOn (t.onHead hd f) := fun _ => h.of_eq rfl rfl
  unfold State.eventAt
  exact .ite ((logged _).msix ..) (logged _)

theorem State.goesOn.event (log : Nat) (ty : EvType) (c : EvCause) (vs : List Nat) : s.goesOn (t.event log ty c vs) := by
  unfold State.event
  exact .ite ((h.eventAt ..).eventAt ..) (h.eventAt ..)

theorem State.goesOn.mapTouch (q : Nat) (dirty : Bool) : s.goesOn (t.mapTouch q dirty) := h.trans (t.mapTouch_answers ..).goesOn

/-! ## Segments, tiles and the journal (R126, R157, R173) -/

theorem State.goesOn.onSeg (c g : Nat) (f : Seg → Seg) : s.goesOn (t.onSeg c g f) := by
  have put : s.goesOn { t with mapping := { t.mapping with segs := t.mapping.segs.put Seg.shipped (segKey c g) (f (t.seg c g)) } } :=
    h.of_eq rfl rfl
  exact put.trans (State.segWritten_treed ..).goesOn

theorem State.goesOn.journalC (c : Nat) (b : JBody) : s.goesOn (t.journalC c b) := h.trans (t.journalC_journalled ..).goesOn

theorem State.goesOn.setReadOnly : s.goesOn t.setReadOnly := by
  have entered : s.goesOn { t with ctl := { t.ctl with readOnly := true } } := h.of_eq rfl rfl
  unfold State.setReadOnly
  refine .ite h (.event ?_ ..)
  exact ((entered.setReg ..).wr ..).wr ..

theorem State.goesOn.poolReached (level : Nat) (shares : List Nat) : s.goesOn (t.poolReached level shares) := by
  have latched : s.goesOn (t.latchAlert 1) := h.of_eq rfl rfl
  exact (latched.event ..).trans (State.log_recorded ..).goesOn

theorem State.goesOn.poolUpdate : s.goesOn t.poolUpdate := by
  unfold State.poolUpdate
  extract_lets _ _ _ _ _ _ s1 _
  have shown : s.goesOn s1 := (((((h.setReg ..).setReg ..).setReg ..).setReg ..).setReg ..).setReg ..
  exact .ite shown (.foldl (shown.setReg ..) (fun _ _ => State.goesOn.refl.poolReached ..) _)

theorem State.goesOn.retireSeg (c g : Nat) : s.goesOn (t.retireSeg c g) := by
  unfold State.retireSeg
  exact ((((State.goesOn.ite h.setReadOnly h).onSeg ..).bump ..).journalC ..).poolUpdate

theorem State.goesOn.countRetired (n g : Nat) : s.goesOn (t.countRetired n g) := by
  unfold State.countRetired
  extract_lets _ _ _ _ s1
  have counted : s.goesOn s1 := h.of_eq rfl rfl
  exact .ite counted ((counted.bump ..).trans (State.raise_counted ..).goesOn)

theorem State.goesOn.bankStatus (n g : Nat) (x : MediaStatus) : s.goesOn (t.bankStatus n g x) := h.of_eq rfl rfl

theorem State.goesOn.redirect (n g : Nat) : s.goesOn (t.redirect n g).1 := by
  unfold State.redirect
  extract_lets _ x s1 y s2
  have listed : s.goesOn s1 := h.of_eq rfl rfl
  have spare : s.goesOn s2 := .bump (t := s1.onTile n g _) (listed.of_eq rfl rfl) ..
  split
  · exact h.bankStatus ..
  · dsimp only
    exact (State.goesOn.ite (spare.bump ..) spare).poolUpdate

theorem State.goesOn.retireTiles (c g : Nat) : s.goesOn (t.retireTiles c g).1 := by
  unfold State.retireTiles
  refine h.trans (foldl_related (R := fun p r : State × Bool => p.1.goesOn r.1) (fun _ => .refl) .trans (fun p k => ?_) _ (t, true))
  dsimp only
  split
  · exact (State.goesOn.refl.countRetired ..).redirect ..
  · exact .refl

theorem State.goesOn.askSteep (c g : Nat) (x : SegState) : s.goesOn (t.askSteep c g x) := by
  have tiles := h.retireTiles c g
  unfold State.askSteep
  exact .ite ((tiles.onSeg ..).journalC ..) (tiles.retireSeg ..)

theorem State.goesOn.toPending (c g : Nat) : s.goesOn (t.toPending c g) := by
  unfold State.toPending
  exact (State.goesOn.ite (h.bump ..) h).askSteep ..

/-! ## Map changes and walks (R102, R154, R160, R163) -/

theorem State.goesOn.lessLive (c g : Nat) : s.goesOn (t.lessLive c g) := by
  unfold State.lessLive
  exact .ite ((h.onSeg ..).toPending ..) (h.onSeg ..)

theorem State.goesOn.applyEntry (q : Nat) (e : BitVec 32) : s.goesOn (t.applyEntry q e) := by
  unfold State.applyEntry
  extract_lets _ _ _ s0 s1 s2
  have named : s.goesOn s0 := h.of_eq rfl rfl
  have touched : s.goesOn s1 := (named.mapTouch ..).tally ..
  have counted : s.goesOn s2 := .ite (touched.onSeg ..) touched
  exact .ite (counted.lessLive ..) counted

theorem State.goesOn.changeEntry (q : Nat) (e : BitVec 32) (seq : Nat) : s.goesOn (t.changeEntry q e seq) := by
  unfold State.changeEntry
  exact .ite (h.of_eq rfl rfl) (h.applyEntry ..)

/-- Completions that a staging entry owes are sent. -/
theorem State.goesOn.freeStaged (id : Nat) : s.goesOn (t.freeStaged id) := by
  unfold State.freeStaged
  split
  · exact h
  · exact h.trans ⟨List.suffix_append .., rfl⟩

theorem State.goesOn.dropQuire (q : Nat) : s.goesOn (t.dropQuire q) := by
  unfold State.dropQuire
  extract_lets s1
  have cleared : s.goesOn s1 := by
    unfold s1
    split
    · exact h.of_eq rfl rfl
    · exact h
  exact cleared.foldl (fun _ _ => State.goesOn.refl.freeStaged _) _

theorem State.goesOn.unmapQuire (q seq : Nat) : s.goesOn (t.unmapQuire q seq) :=
  .changeEntry (t := ((t.dropQuire q).dropWaiting q).poisonDel (q * 16) 16) ((h.dropQuire q).of_eq rfl rfl) ..

theorem State.goesOn.walkReaches (w : Walk) (q : Nat) : s.goesOn (t.walkReaches w q) := by
  unfold State.walkReaches
  exact .ite (.ite h (h.unmapQuire ..)) (h.changeEntry ..)

theorem State.goesOn.reachEarly (q : Nat) : s.goesOn (t.reachEarly q) := by
  unfold State.reachEarly
  split
  · exact h
  · exact (h.walkReaches ..).of_eq rfl rfl

/-! ## Opening segments and issue (R25, R158, R159, R165) -/

theorem State.goesOn.setRing (c stream : Nat) (l : List Nat) : s.goesOn (t.setRing c stream l) := h.of_eq rfl rfl

theorem State.goesOn.openOne (c stream : Nat) : s.goesOn (t.openOne c stream) := by
  unfold State.openOne
  split
  · split
    · exact h
    · extract_lets s1 s2 s3
      have opened : s.goesOn s3 := (((h.onSeg ..).setRing ..).journalC ..).tally ..
      exact .ite (opened.of_eq rfl rfl) opened
  · exact h

theorem State.goesOn.topUp (c stream : Nat) : s.goesOn (t.topUp c stream) := h.foldl (fun _ _ => State.goesOn.refl.openOne ..) _

theorem State.goesOn.keepOpen (c : Nat) : s.goesOn (t.keepOpen c) := by
  unfold State.keepOpen
  exact .ite h ((h.topUp ..).topUp ..)

theorem State.goesOn.program (x : Stripe) (g : Nat) : s.goesOn (t.program x g) := by
  unfold State.program
  extract_lets _ _ _ s1 _ s2 _ s3
  have ringed : s.goesOn s2 := (h.onSeg ..).setRing ..
  have taken : s.goesOn s3 := ringed.of_eq rfl rfl
  exact taken.tally ..

theorem State.goesOn.placeStripe (x : Stripe) {r : Nat × State} (hr : t.placeStripe x = some r) : s.goesOn r.2 := by
  unfold State.placeStripe at hr
  split at hr
  · cases hr
  · obtain ⟨_, hr⟩ := Option.ite_none_right_eq_some.mp hr
    cases hr
    exact (h.program ..).of_eq rfl rfl

theorem State.goesOn.startSteep (x : Steep) : s.goesOn (t.startSteep x) := by
  unfold State.startSteep
  extract_lets s1 _ _ s2
  have marked : s.goesOn s1 := by
    unfold s1
    split
    · exact h.onSeg ..
    · exact h
  have started : s.goesOn s2 := marked.of_eq rfl rfl
  exact started.tally ..

theorem State.goesOn.nextUnit (c : Nat) {r : Nat × State} (hr : t.nextUnit c = some r) : s.goesOn r.2 := by
  unfold State.nextUnit at hr
  extract_lets s0 at hr
  have kept : s.goesOn s0 := .ite ((h.keepOpen c).topUp c 2) h
  split at hr
  · cases hr
  · split at hr
    · next u found =>
      cases hr
      obtain ⟨x, -, placed⟩ := List.exists_of_findSome?_eq_some found
      exact kept.placeStripe x placed
    · obtain ⟨x, -, rfl⟩ := Option.map_eq_some_iff.mp hr
      exact h.startSteep x

theorem State.goesOn.issueOne (k : Nat) (hu : t.issueOne k = some u) : s.goesOn u := by
  unfold State.issueOne at hu
  extract_lets turn a b fits flip at hu
  have flipped : ∀ v : State, s.goesOn v → s.goesOn (flip v) := fun _ hv => hv.of_eq rfl rfl
  split at hu
  · next x _ hx _ =>
    obtain ⟨-, hu⟩ := Option.ite_none_right_eq_some.mp hu
    exact Option.some.inj hu ▸ flipped _ (h.nextUnit a hx)
  · next x hx _ =>
    obtain ⟨-, hu⟩ := Option.ite_none_right_eq_some.mp hu
    exact Option.some.inj hu ▸ h.nextUnit a hx
  · next y _ hy =>
    obtain ⟨-, hu⟩ := Option.ite_none_right_eq_some.mp hu
    exact Option.some.inj hu ▸ h.nextUnit b hy
  · cases hu

theorem State.goesOn.issueN (k n : Nat) : s.goesOn (t.issueN k n) := by
  induction n generalizing t with
  | zero => exact h
  | succ n ih =>
    unfold State.issueN
    split
    · exact h
    · next u hu => exact ih (h.issueOne k hu)

theorem State.goesOn.issue (c : Nat) : s.goesOn (t.issue c) := by
  unfold State.issue
  exact .ite (h.issueN ..) h

/-! ## Halves and stripes (R159, R167) -/

theorem State.goesOn.assemble (c stream : Nat) (h0 h1 : Option Half) (wt : Bool) : s.goesOn (t.assemble c stream h0 h1 wt) := by
  unfold State.assemble
  refine .issue ?_ c
  exact h.of_eq rfl rfl

theorem State.goesOn.reachWaiting (key : Nat) : s.goesOn (t.reachWaiting key) := by
  unfold State.reachWaiting
  split
  · exact h
  · exact h.reachEarly ..

theorem State.goesOn.enterHalf (stream : Nat) (x : Half) (now wt : Bool) : s.goesOn (t.enterHalf stream x now wt) := by
  unfold State.enterHalf
  extract_lets _ key s1 _
  have reached : s.goesOn s1 := h.reachWaiting key
  clear_value s1
  split
  · refine .assemble ?_ ..
    exact reached.of_eq rfl rfl
  · exact .ite (reached.assemble ..) (reached.of_eq rfl rfl)

theorem State.goesOn.relocate (stream q : Nat) : s.goesOn (t.relocate stream q) := by
  unfold State.relocate
  exact .ite ((h.reachEarly q).enterHalf ..) (h.reachEarly q)

end

end Sys2Proof.Machine
end

section
/-! SUPPORT. A write of the host: the line that it lays in its way, and its completion (R73, R92, R198, R207, R287). -/

namespace Sys2Proof.Machine

/-! ## A line in its way -/

/-- A state in which the walks that must come before a write of a quire have reached it (R102, R367). -/
def State.walked (s : State) (q : Nat) : State := if s.sweepAhead q then s.reachEarly q else s

/-- A line laid in its way outside Write-through: `State.writeLine` from the walks up to the completion. -/
def State.laid (s : State) (line : Nat) (data : BitVec 512) (be : BitVec 64) (full poison host : Bool) (ns : Nat) : State :=
  let q := line / 16
  let k := line % 16
  let p := s.wayForWrite q ns
  let blk := p.2.2.blk.write k (entryState (s.entry q)) data be full poison host
  let taken := blk.isPart k && !p.2.2.blk.isPart k
  let s0 := (p.1.putWay q p.2.1 { p.2.2 with dirty := true, age := 0, blk := blk }).blockAccess q p.2.1 2 k 1 true
  let s1 := ((s0.tally (ownerOf q) 324 (if p.2.2.dirty then 0 else 1)).tally (ownerOf q) 213 0).tally (ownerOf q) 323
    (if taken then 1 else 0)
  (if taken then s1.takePartial q k else s1).indexWrite line full poison host

section
variable {s : State} {line ns : Nat} {data : BitVec 512} {be : BitVec 64} {full poison host : Bool} {w : LotEntry}

theorem State.walked_writeThrough (s : State) (q : Nat) : (s.walked q).ctl.writeThrough = s.ctl.writeThrough :=
  (State.goesOn.ite (State.goesOn.refl.reachEarly q) .refl).writeThrough

/-- A write outside Write-through lays its line, and then completes. -/
theorem State.writeLine_eq (hw : s.ctl.writeThrough = false) :
    s.writeLine line data be full poison host ns (some w) =
      ((((s.walked (line / 16)).laid line data be full poison host ns).send (.memDone w.head w.tag)).tally (ownerOf (line / 16))
        (writeLatency ns) 1).evicting (chanOf (line / 16)) := by
  have through : (s.walked (line / 16)).ctl.writeThrough = false := (s.walked_writeThrough _).trans hw
  unfold State.writeLine
  extract_lets q k u p blk taken wt d x s0 s1 s2 s3 s4
  have hwt : wt = false := through
  simp only [s4, s3, s2, s1, s0, hwt, Bool.not_false, Bool.or_true, Bool.or_false]
  rfl

theorem State.writeLine_completes (hw : s.ctl.writeThrough = false) :
    (s.writeLine line data be full poison host ns (some w)).out.head? = some (.memDone w.head w.tag) := by
  rw [State.writeLine_eq hw, (State.evicting_wrote ..).frame, State.tally_out]
  rfl

end

/-! ## A write that the module takes -/

section
variable {s : State} {h hpa line : Nat} {tag : BitVec 16} {data : BitVec 512} {be : BitVec 64} {full poison behind : Bool} {env : PathEnv}

/-- In Halt and on a lost channel a write completes and is discarded (R73, R287). -/
theorem State.writeDpa_discarded (hd : s.ctl.mode = .m10 ∨ s.chanLost (chanOf (line / 16)) = true) :
    s.writeDpa line data be full poison env behind h tag =
      (((s.takeIn line behind).send (.memDone h tag)).tally (ownerOf (line / 16)) 214 1).tally (ownerOf (line / 16))
        (writeLatency env.ns) 1 := by
  unfold State.writeDpa
  exact if_pos hd

/-- The state in which a write that is not discarded has looked its line up. -/
def State.writes (s : State) (line : Nat) (env : PathEnv) (behind : Bool) : State := (s.takeIn line behind).meets line env false

theorem State.writes_answers (he : clearEnv env = true) : s.answers (s.writes line env behind) [] :=
  (s.takeIn_answers ..).then (State.meets_answers _ _ _ he)

/-- A write that is not discarded is one of its line, and in Read-only one of poison (R76, R198). -/
theorem State.writeDpa_served (hm : s.ctl.mode ≠ .m10) (hc : s.chanLost (chanOf (line / 16)) = false) :
    s.writeDpa line data be full poison env behind h tag =
      if s.ctl.readOnly then
        ((s.writes line env behind).tally (ownerOf (line / 16)) 214 1).writeLine line 0 be full true false env.ns
          (some ((s.takeIn line behind).entryOf line h tag (if full then 1 else 2) 5 poison env.cycle data be))
      else (s.writes line env behind).writeLine line data be full poison true env.ns
        (some ((s.takeIn line behind).entryOf line h tag (if full then 1 else 2) 5 poison env.cycle data be)) := by
  have serves : ¬(s.ctl.mode = .m10 ∨ s.chanLost (chanOf (line / 16)) = true) := by simp [hm, hc]
  unfold State.writeDpa
  exact if_neg serves

theorem State.writeDpa_completes (he : clearEnv env = true) (hw : s.ctl.writeThrough = false) :
    (s.writeDpa line data be full poison env behind h tag).out.head? = some (.memDone h tag) := by
  by_cases hd : s.ctl.mode = .m10 ∨ s.chanLost (chanOf (line / 16)) = true
  · rw [State.writeDpa_discarded hd, State.tally_out, State.tally_out]
    rfl
  · obtain ⟨serving, notLost⟩ := not_or.mp hd
    have through : (s.writes line env behind).ctl.writeThrough = false := (State.writes_answers he).goesOn.writeThrough.trans hw
    rw [State.writeDpa_served serving (by simpa using notLost)]
    split
    · exact State.writeLine_completes (by rw [State.tally_ctl]; exact through)
    · exact State.writeLine_completes through

theorem State.admitWrite_unmapped (hl : s.lineOf h hpa = none) :
    s.admitWrite h tag hpa data be full poison env behind = (s.useCredit h true).send (.memDone h tag) := by
  have : (s.useCredit h true).lineOf h hpa = none := hl
  simp only [State.admitWrite, this]

/-- A write that lays no line: no decoder maps it, or the module is in Halt, or its channel is lost (R73, R92, R287). -/
theorem State.admitWrite_discards (hd : s.lineOf h hpa = none ∨
      ∃ line, s.lineOf h hpa = some line ∧ (s.ctl.mode = .m10 ∨ s.chanLost (chanOf (line / 16)) = true)) :
    s.discards (s.admitWrite h tag hpa data be full poison env behind) (.memDone h tag) := by
  obtain hl | ⟨line, hl, hd⟩ := hd
  · rw [State.admitWrite_unmapped hl]
    rfl
  · have arrived := (s.useCredit h true).request_answers (if full then 193 else 194) h line
    have unserved : ((s.useCredit h true).request (if full then 193 else 194) h line).ctl.mode = .m10 ∨
        ((s.useCredit h true).request (if full then 193 else 194) h line).chanLost (chanOf (line / 16)) = true := by
      rw [arrived.chanLost, State.request_frame, (s.useCredit_credited h true).chanLost]
      exact hd
    rw [State.admitWrite_mapped hl, State.writeDpa_discarded unserved]
    refine State.discards_of (h := h) (event := if full then 193 else 194) ?_ (State.takeIn_counted _ line behind)
    rw [State.tally_counted, State.tally_counted (State.send ..)]
    rfl

theorem State.withheld_out (s : State) (d : Nat) (write : Bool) : (s.withheld d write).out = s.out := by
  rw [State.withheld_counted]

theorem State.admitWrite_completes (he : clearEnv env = true) (hw : s.ctl.writeThrough = false) :
    (s.admitWrite h tag hpa data be full poison env behind).out.head? = some (.memDone h tag) := by
  cases hl : s.lineOf h hpa with
  | none =>
    rw [State.admitWrite_unmapped hl]
    rfl
  | some line =>
    have through : ((s.useCredit h true).request (if full then 193 else 194) h line).ctl.writeThrough = false := by
      rw [State.request_frame]; exact hw
    rw [State.admitWrite_mapped hl, State.withheld_out]
    exact State.writeDpa_completes he through

end

/-- Settles O10: whatever a write moves before it, its completion is the last message of the write. -/
theorem hostWriteCompletes : Obligations.HostWriteCompletes := by
  intro s head tag hpa data be poison env ht htie hr he hw
  have granted := s.grant_credited head
  have through : (s.grant head).ctl.writeThrough = false := by rw [granted.frame]; exact hw
  refine ⟨_, _, exec_memwr_taken ht htie hr, exec_memwrptl_taken ht htie hr, rfl, rfl, State.admitWrite_completes he through,
    State.admitWrite_completes he through, fun unserved => ?_⟩
  have discarded : ∀ (be : ByteEnables) (full : Bool),
      (s.grant head).discards ((s.grant head).admitWrite head tag hpa data be full poison env false) (.memDone head tag) :=
    fun be full => State.admitWrite_discards <| by
      simp only [granted.heads.lineOf, granted.chanLost]
      exact unserved.imp_right fun ⟨line, mapped, lost⟩ => ⟨line, mapped, .inr lost⟩
  obtain ⟨out, path, mapping, media⟩ := granted.discards (discarded (BitVec.allOnes 64) true)
  obtain ⟨out', path', mapping', media'⟩ := granted.discards (discarded be false)
  exact ⟨out, out', path, path', mapping, mapping', media, media'⟩

end Sys2Proof.Machine
end

section
/-! SUPPORT. A line of the host written whole, as the next lookup finds it (R198, R204). -/

namespace Sys2Proof.Machine

/-! ## What a completion moves -/

/-- The registers that a write's completion moves beside `bookFields`: its channel's eviction (R213), and withheld credits (R188). -/
def completionFields : List Field := [Reg.CDY_CHAN_DIRTY.EVICTING, Reg.LOT_CREDIT.WITHHELD]

/-- A write's completion, once its line is in its way (R198, R213, R188). -/
def State.completes (s : State) (line h : Nat) (tag : BitVec 16) (ns : Nat) : State :=
  ((((s.send (.memDone h tag)).tally (ownerOf (line / 16)) (writeLatency ns) 1).evicting (chanOf (line / 16))).withheld
    (ownerOf (line / 16)) true)

section
variable {s t : State}

theorem State.withheld_tells (s : State) (d : Nat) (write : Bool) : s.tells (s.withheld d write) completionFields [] := by
  unfold State.withheld
  split
  · exact .then (s.bump_tells _ _ _ (by decide) (by decide)) (State.tally_tells ..)
  · split
    · exact s.tally_tells ..
    · exact .refl

theorem State.completes_tells (s : State) (line h : Nat) (tag : BitVec 16) (ns : Nat) :
    s.tells (s.completes line h tag ns) completionFields [.memDone h tag] :=
  (((s.send_tells rfl).then (State.tally_tells ..)).then (State.wr_tells _ _ _ _ (by decide) (by decide))).then
    (State.withheld_tells ..)

/-- Messages and registers other than the packages' states leave every way where it is. -/
theorem State.tells.wayOf {l : List Field} {os : List Out} (h : s.tells t l os)
    (hl : (l ++ bookFields).all (fun g => g.num != Reg.DMC_PKG.STATE.num) = true) (q : Nat) : t.wayOf q = s.wayOf q := by
  unfold State.wayOf
  rw [State.waysOf_congr (by rw [h.frame]) (h.moves.setOf hl)]

/-- A lookup reads of the state the way, the staging entries and the map entry. -/
theorem State.find_congr {line : Nat} (hw : t.wayOf (line / 16) = s.wayOf (line / 16)) (hs : t.path.staged = s.path.staged)
    (he : t.entry (line / 16) = s.entry (line / 16)) : t.find line = s.find line := by
  rw [State.find_eq_foundIn, State.find_eq_foundIn, hw, he, State.stagedOf, State.stagedOf, hs]

theorem State.completes_wayOf (s : State) (line h : Nat) (tag : BitVec 16) (ns q : Nat) :
    (s.completes line h tag ns).wayOf q = s.wayOf q :=
  (s.completes_tells ..).wayOf (by decide) q

theorem State.completes_find (s : State) (line h : Nat) (tag : BitVec 16) (ns l : Nat) :
    (s.completes line h tag ns).find l = s.find l :=
  have told := s.completes_tells line h tag ns
  State.find_congr (s.completes_wayOf ..) (by rw [told.frame]) (by rw [told.frame]; rfl)

theorem State.wrote.wayOf (h : s.wrote t) (q : Nat) : t.wayOf q = s.wayOf q := by
  unfold State.wayOf
  rw [State.waysOf_congr (by rw [h.frame]) h.keepsLines.sets]

end

/-! ## A whole line in its way -/

/-- A full write stores its line, or poisons it. -/
theorem Block16.write_whole (b : Block16) (k state : Nat) (data : BitVec 512) (be : BitVec 64) (poison host : Bool) :
    b.write k state data be true poison host = b.setLine k (if poison then poisonLine host else data) poison := by
  cases poison <;> rfl

theorem State.indexWrite_whole_wrote (s : State) (line : Nat) (poison host : Bool) : s.wrote (s.indexWrite line true poison host) := by
  cases poison <;> exact ⟨rfl, .of_regs .refl rfl⟩

section
variable {s : State} {line : Nat}

/-- A whole line laid where its set has room: its quire's way holds it, and beside that way nothing moves that a lookup reads. -/
theorem State.laid_whole (hr : s.roomFor (line / 16)) (data : BitVec 512) (be : BitVec 64) (poison host : Bool) (ns : Nat) :
    ∃ (f : Field) (v : Nat) (b : Block16) (z : Way),
      z.blk = b.setLine (line % 16) (if poison then poisonLine host else data) poison ∧ z.dirty = true ∧ z.age = 0 ∧
      ((s.bump f (ownerOf (line / 16)) 0 1).putWay (line / 16) v z).wayOf (line / 16) = some (v, z) ∧
      ((s.bump f (ownerOf (line / 16)) 0 1).putWay (line / 16) v z).wrote (s.laid line data be true poison host ns) := by
  obtain ⟨f, v, y, given, owns⟩ := State.wayForWrite_of_room hr ns
  unfold State.laid
  extract_lets q k p blk taken x s0 s1
  have hp : p = (s.bump f (ownerOf q) 0 1, v, y) := given
  have h0 : State.wrote (p.1.putWay q p.2.1 { p.2.2 with dirty := true, age := 0, blk := blk }) s0 := State.blockAccess_wrote ..
  have h1 : s0.wrote s1 := (s0.tally_wrote ..).trans ((State.tally_wrote ..).trans (State.tally_wrote ..))
  have h2 : s1.wrote (if taken then s1.takePartial q k else s1) := by
    split
    · exact s1.takePartial_wrote q k
    · exact .refl s1
  refine ⟨f, v, y.blk, { y with dirty := true, age := 0, blk := blk }, ?_, rfl, rfl, owns _ rfl, ?_⟩
  · simp only [blk, hp]
    exact Block16.write_whole ..
  · simp only [hp] at h0
    exact ((h0.trans h1).trans h2).trans (State.indexWrite_whole_wrote ..)

/-- A whole line laid where its set has room is what the next lookup finds. -/
theorem State.laid_found (hr : s.roomFor (line / 16)) (data : BitVec 512) (be : BitVec 64) (poison host : Bool) (ns : Nat) :
    ∃ t, s.laid line data be true poison host ns = t ∧
      t.find line = .caddy (if poison then poisonLine host else data) poison ∧
      (∃ w, t.wayOf (line / 16) = some w ∧ w.2.dirty = true ∧ w.2.age = 0) ∧
      t.media = s.media ∧ t.lsa = s.lsa ∧ t.mapping.map = s.mapping.map ∧ t.path.staged = s.path.staged := by
  obtain ⟨f, v, b, z, block, dirty, age, owns, goes⟩ := State.laid_whole hr data be poison host ns
  refine ⟨_, rfl, ?_, ⟨(v, z), (goes.wayOf _).trans owns, dirty, age⟩, ?_⟩
  · rw [goes.keepsLines.find, State.find_eq_foundIn, owns]
    simp only [Option.map_some, Option.toList_some, List.singleton_append, block]
    exact foundIn_setLine b (Nat.mod_lt line (by decide)) _ poison _ _
  · rw [goes.frame]
    exact ⟨rfl, rfl, rfl, rfl⟩

end

/-! ## A write from its arrival to its completion -/

/-- The state in which a write that has used its credit has looked its line up. -/
def State.arrived (s : State) (h line : Nat) (full : Bool) (env : PathEnv) (behind : Bool) : State :=
  ((s.useCredit h true).request (if full then 193 else 194) h line).writes line env behind

section
variable {s : State} {h hpa line : Nat} {tag : BitVec 16} {data : BitVec 512} {be : BitVec 64} {full poison behind : Bool} {env : PathEnv}

theorem State.arrived_answers (he : clearEnv env = true) : (s.useCredit h true).answers (s.arrived h line full env behind) [] :=
  ((s.useCredit h true).request_answers ..).then (State.writes_answers he)

theorem State.writes_path (he : clearEnv env = true) :
    (s.writes line env behind).path = { s.path with tagCache := (s.writes line env behind).path.tagCache } := by
  unfold State.writes
  rw [State.meets_path _ _ _ he, State.takeIn_counted]

theorem State.arrived_path (he : clearEnv env = true) :
    (s.arrived h line full env behind).path =
      { (s.useCredit h true).path with tagCache := (s.arrived h line full env behind).path.tagCache } := by
  unfold State.arrived
  rw [State.writes_path he, State.request_frame]

theorem State.arrived_media (he : clearEnv env = true) : (s.arrived h line full env behind).media = s.media := by
  unfold State.arrived State.writes
  rw [State.meets_media _ _ _ he, State.takeIn_counted, State.request_frame]
  rfl

/-- A set that has room has it still once a write has looked its line up. -/
theorem State.arrived_roomFor (he : clearEnv env = true) {q : Nat} (hr : s.roomFor q) : (s.arrived h line full env behind).roomFor q := by
  have met := State.arrived_answers (s := s) (h := h) (line := line) (full := full) (behind := behind) he
  have used := s.useCredit_credited h true
  refine State.roomFor_congr (State.waysOf_congr ?_ (fun q => (met.keepsLines.sets q).trans (used.keepsLines.sets q)) q) ?_ hr
  · rw [State.arrived_path he]; rfl
  · rw [State.arrived_path he]; rfl

/-- A write outside Write-through and Read-only, with no walk before it, lays its line and completes. -/
theorem State.admitWrite_lays (hl : s.lineOf h hpa = some line) (hm : s.ctl.mode ≠ .m10)
    (hc : s.chanLost (chanOf (line / 16)) = false) (he : clearEnv env = true) (hw : s.ctl.writeThrough = false)
    (hr : s.ctl.readOnly = false) (ha : s.sweepAhead (line / 16) = false) :
    s.admitWrite h tag hpa data be full poison env behind =
      ((s.arrived h line full env behind).laid line data be full poison true env.ns).completes line h tag env.ns := by
  have requested := (s.useCredit h true).request_answers (if full then 193 else 194) h line
  have met := State.arrived_answers (s := s) (h := h) (line := line) (full := full) (behind := behind) he
  have serving : ((s.useCredit h true).request (if full then 193 else 194) h line).ctl.mode ≠ .m10 := by
    rw [State.request_frame]; exact hm
  have notLost : ((s.useCredit h true).request (if full then 193 else 194) h line).chanLost (chanOf (line / 16)) = false := by
    rw [requested.chanLost, (s.useCredit_credited h true).chanLost, hc]
  have writable : ((s.useCredit h true).request (if full then 193 else 194) h line).ctl.readOnly = false := by
    rw [State.request_frame]; exact hr
  have through : (s.arrived h line full env behind).ctl.writeThrough = false := by rw [met.frame]; exact hw
  have walked : (s.arrived h line full env behind).walked (line / 16) = s.arrived h line full env behind := by
    have ahead : (s.arrived h line full env behind).sweepAhead (line / 16) = false := by rw [met.frame, ← ha]; rfl
    unfold State.walked
    simp [ahead]
  rw [State.admitWrite_mapped hl, State.writeDpa_served serving notLost, writable]
  refine congrArg (fun u : State => u.withheld (ownerOf (line / 16)) true) ((State.writeLine_eq through).trans ?_)
  rw [walked]
  rfl

/-- A line of the host written whole where its set has room. -/
theorem State.admitWrite_found (hl : s.lineOf h hpa = some line) (hm : s.ctl.mode ≠ .m10)
    (hc : s.chanLost (chanOf (line / 16)) = false) (he : clearEnv env = true) (hw : s.ctl.writeThrough = false)
    (hr : s.ctl.readOnly = false) (ha : s.sweepAhead (line / 16) = false) (room : s.roomFor (line / 16)) :
    ∃ t, s.admitWrite h tag hpa data be true poison env behind = t ∧ t.find line = .caddy (if poison then 1 else data) poison ∧
      (∃ w, t.wayOf (line / 16) = some w ∧ w.2.dirty = true ∧ w.2.age = 0) ∧
      t.media = s.media ∧ t.lsa = s.lsa ∧ t.mapping.map = s.mapping.map ∧ t.path.staged = s.path.staged := by
  have met := State.arrived_answers (s := s) (h := h) (line := line) (full := true) (behind := behind) he
  obtain ⟨u, laid, found, way, media, lsa, map, staged⟩ :=
    State.laid_found (State.arrived_roomFor (h := h) (full := true) (behind := behind) he room) data be poison true env.ns
  have told := u.completes_tells line h tag env.ns
  refine ⟨u.completes line h tag env.ns, ?_, ?_, ?_, ?_⟩
  · rw [State.admitWrite_lays hl hm hc he hw hr ha, laid]
  · rw [State.completes_find, found]
    rfl
  · rw [State.completes_wayOf]
    exact way
  · rw [told.frame]
    dsimp only
    rw [media, lsa, map, staged, State.arrived_media he, met.frame]
    exact ⟨rfl, rfl, rfl, rfl⟩

end

/-- Settles O11: what a write moves before its line lies in its way leaves the way, and its completion leaves every lookup. -/
theorem fullWriteReadsBack : Obligations.FullWriteReadsBack := by
  intro s head tag hpa line data poison env ht htie hr he hw hro hm hl hc ha few room
  have granted := s.grant_credited head
  have roomy : (s.grant head).roomFor (line / 16) :=
    State.roomFor_congr (State.waysOf_congr (by rw [granted.frame]) granted.keepsLines.sets _) (by rw [granted.frame]) ⟨few, room⟩
  obtain ⟨t, wrote, found, way, media, lsa, map, staged⟩ := State.admitWrite_found (s := s.grant head) (h := head) (hpa := hpa)
    (tag := tag) (data := data) (be := BitVec.allOnes 64) (poison := poison) (behind := false)
    (by rw [granted.heads.lineOf, hl]) (by rw [granted.frame]; exact hm) (by rw [granted.chanLost, hc]) he
    (by rw [granted.frame]; exact hw) (by rw [granted.frame]; exact hro) (by rw [granted.frame, ← ha]; rfl) roomy
  refine ⟨t, (exec_memwr_taken ht htie hr).trans (congrArg _ wrote), found, way, ?_⟩
  rw [media, lsa, map, staged, granted.frame]
  exact ⟨rfl, rfl, rfl, rfl⟩

end Sys2Proof.Machine
end

section
/-! SUPPORT. Planned reads that end: who is answered, and what the end of a read moves (R134, R192 to R197). -/

namespace Sys2Proof.Machine

/-! ## What a read's end moves -/

/-- t is s but for counters and indications, the controllers, ways, planned reads, and of the media the banks' suspensions and statuses
and what the module knows of tiles and of dies' health. -/
def ReadEnded (s t : State) : Prop :=
  t = { s with
    regs := t.regs, heads := t.heads, pm := t.pm, ports := t.ports, dram := t.dram
    path := { s.path with ways := t.path.ways, plans := t.path.plans }
    media := { s.media with
      status := t.media.status, suspended := t.media.suspended, suspends := t.media.suspends, tiles := t.media.tiles
      health := t.media.health } }

section
variable {s t u : State}

theorem ReadEnded.refl (s : State) : ReadEnded s s := rfl

theorem ReadEnded.trans (h1 : ReadEnded s t) (h2 : ReadEnded t u) : ReadEnded s u := by
  unfold ReadEnded at *; rw [h2, h1]

theorem Accessed.readEnded (h : Accessed s t) : ReadEnded s t := by
  unfold Accessed at h; unfold ReadEnded; rw [h]

theorem Counted.readEnded (h : Counted s t) : ReadEnded s t := h.accessed.readEnded

end

section
variable (s : State)

theorem State.kettle_readEnded (c t f m : Nat) (late : Bool) : ReadEnded s (s.kettle c t f m late).1 := by
  unfold State.kettle
  extract_lets key x suspend
  have suspended : ∀ limit, ReadEnded s (suspend limit).1 := fun limit => by
    simp only [suspend]
    split
    · exact .refl s
    · split
      · refine .trans (.trans (t := { s with media := _ }) ?_ (State.bump_counted ..).readEnded) (State.tally_counted ..).readEnded
        rfl
      · refine .trans (.trans (t := s.bankStatus _ t .suspLimit) ?_ (State.bump_counted ..).readEnded)
          (State.tally_counted ..).readEnded
        rfl
  clear_value suspend
  repeat' split
  · exact .refl s
  · exact .refl s
  · exact .refl s
  · exact suspended 8
  · exact suspended 64

theorem State.plans_readEnded (l : List Plan) : ReadEnded s { s with path := { s.path with plans := l } } := rfl

theorem State.issuePlan_readEnded (p : Plan) : ReadEnded s (s.issuePlan p) := by
  unfold State.issuePlan
  extract_lets c m k s1 set
  have found : ReadEnded s k.1 := by
    simp only [k]
    split
    · exact s.kettle_readEnded ..
    · exact .refl s
  clear_value k
  have counted : ReadEnded s s1 := by
    simp only [s1]
    split
    · split
      · exact ((found.trans (State.bump_counted ..).readEnded).trans (State.tally_counted ..).readEnded).trans
          (State.tally_counted ..).readEnded
      · exact (found.trans (State.tally_counted ..).readEnded).trans (State.tally_counted ..).readEnded
    · exact found.trans (State.tally_counted ..).readEnded
  clear_value s1
  exact iteInduction (motive := fun t => ReadEnded s t) (fun _ => .refl s) (fun _ => counted.trans (s1.plans_readEnded _))

/-- A plan that is forgotten lets the reads that waited for its slots go; nobody is answered. -/
theorem State.endPlan_readEnded (p : Plan) : ReadEnded s (s.endPlan p) := by
  unfold State.endPlan
  extract_lets left busy x y s1
  exact .trans (t := s1) rfl (foldl_related ReadEnded.refl .trans State.issuePlan_readEnded _ s1)

/-- Filling a sheet moves ways and no plan. -/
theorem State.fill_filled (p : Plan) : ReadEnded s (s.fill p) ∧ (s.fill p).path.plans = s.path.plans := by
  have put : ∀ (w : Nat) (x : Way) (k d n : Nat), ReadEnded s (((s.putWay p.quire w x).blockAccess p.quire w 3 k 4 true).tally d n 1) ∧
      (((s.putWay p.quire w x).blockAccess p.quire w 3 k 4 true).tally d n 1).path.plans = s.path.plans := fun w x k d n => by
    have accessed : Accessed (s.putWay p.quire w x) (((s.putWay p.quire w x).blockAccess p.quire w 3 k 4 true).tally d n 1) :=
      (State.accesses_accessed ..).trans (State.tally_counted ..).accessed
    exact ⟨.trans (t := s.putWay p.quire w x) rfl accessed.readEnded, by rw [accessed]; rfl⟩
  have dropped : Counted s ((s.bump Reg.CDY_STAT_FILL_DROP.COUNT (ownerOf p.quire) 0 1).tally (ownerOf p.quire) 221 1) :=
    (s.bump_counted ..).trans (State.tally_counted ..)
  unfold State.fill
  dsimp only
  split
  · exact ⟨.refl s, rfl⟩
  · split
    · exact put ..
    · split
      · exact ⟨.refl s, rfl⟩
      · split
        · exact put ..
        · exact ⟨dropped.readEnded, by rw [dropped]⟩

theorem State.answered_readEnded (n : Nat) : ReadEnded s (s.answered n) := rfl

theorem State.dieAnswered_readEnded (c m : Nat) : ReadEnded s (s.dieAnswered c m) := by
  unfold State.dieAnswered
  split
  · exact .refl s
  · exact s.answered_readEnded _

theorem State.allAnswered_readEnded (p : Plan) : ReadEnded s (s.allAnswered p) :=
  foldl_related ReadEnded.refl .trans (fun t (r : ReadCmd) => t.answered_readEnded r.die) _ s

theorem State.onTile_readEnded (n t : Nat) (f : Tile → Tile) : ReadEnded s (s.onTile n t f) := rfl

theorem State.frameClean_readEnded (c m t bits : Nat) : ReadEnded s (s.frameClean c m t bits) := by
  unfold State.frameClean
  extract_lets s0 s1 s2 s3
  have h1 : ReadEnded s s1 := by
    simp only [s1]
    split
    · exact ((s.dieAnswered_readEnded c m).trans (State.bump_counted ..).readEnded).trans (State.tally_counted ..).readEnded
    · exact s.dieAnswered_readEnded c m
  have h2 : ReadEnded s s2 := h1.trans (s1.bump_counted ..).readEnded
  have h3 : ReadEnded s s3 := by
    simp only [s3]
    split
    · exact h2.trans (s2.onTile_readEnded ..)
    · exact h2
  split
  · split
    · exact h3.trans (s3.raise_counted _).readEnded
    · exact h3
  · exact h1

/-! ## The plan that ends, and its readers -/

/-- The plan that is forgotten is no plan any more. -/
theorem State.endPlan_ends (p : Plan) : (s.endPlan p).path.plans.all (fun x => x.id != p.id) = true := by
  have ids : ∀ t : State, t.path.plans.all (fun x => x.id != p.id) = t.planned.all (fun x => x.id != p.id) := fun t => by
    rw [State.planned, List.all_map]; rfl
  unfold State.endPlan
  extract_lets left busy x y s1
  have issued : ∀ l : List Plan, (l.foldl State.issuePlan s1).planned = s1.planned := fun l =>
    foldl_related (R := fun t u : State => u.planned = t.planned) (fun _ => rfl) (fun h1 h2 => h2.trans h1) State.issuePlan_planned l s1
  rw [ids, issued, ← ids]
  simp [s1, left]

theorem State.sendReads_out (d : Nat) (l : List Out) : (s.sendReads d l).out = l.reverse ++ s.out := State.tally_out ..

/-- A delivered frame answers its readers, in their order. -/
theorem State.deliver_out (p : Plan) : (s.deliver p).out = (p.readers.map p.answer).reverse ++ s.out := by
  have ended := (s.endPlan_readEnded p).trans (State.fill_filled _ p).1
  rw [State.deliver, State.sendReads_out, ended]

theorem State.deliver_ends (p : Plan) : (s.deliver p).path.plans.all (fun x => x.id != p.id) = true := by
  have sent : ∀ t : State, (t.sendReads (ownerOf p.quire) (p.readers.map p.answer)).path = t.path := fun _ => State.tally_path ..
  rw [State.deliver, sent, (State.fill_filled _ p).2]
  exact s.endPlan_ends p

theorem State.deliver_keeps (p : Plan) : (s.deliver p).mapping = s.mapping ∧ (s.deliver p).media.images = s.media.images := by
  have ended := (s.endPlan_readEnded p).trans (State.fill_filled _ p).1
  have sent : ∀ t : State, (t.sendReads (ownerOf p.quire) (p.readers.map p.answer)).mapping = t.mapping ∧
      (t.sendReads (ownerOf p.quire) (p.readers.map p.answer)).media = t.media :=
    fun _ => ⟨State.tally_mapping .., State.tally_media ..⟩
  rw [State.deliver, (sent _).1, (sent _).2, ended]
  exact ⟨rfl, rfl⟩

end

/-! ## A frame that decodes, and a tag that fails (R195, R343) -/

section
variable {s : State} {p : Plan}

/-- What a frame on media gives beside a failed one is what its read found. -/
theorem State.seen_clean (hw : s.written p = true) (bits : Fin 21) (deep : DeepOutcome) (ns : Nat) :
    s.seen p ⟨.clean bits, deep, ns⟩ = ⟨.clean bits, deep, ns⟩ := by
  simp [State.seen, hw]

theorem State.seen_tagBad (hw : s.written p = true) (deep : DeepOutcome) (ns : Nat) :
    s.seen p ⟨.tagBad, deep, ns⟩ = ⟨.tagBad, deep, ns⟩ := by
  simp [State.seen, hw]

/-- A frame that decodes clean is delivered, once it is counted. -/
theorem State.planDone_clean (hw : s.written p = true) {bits : Fin 21} (hb : p.around = false ∨ bits.val = 0) (deep : DeepOutcome)
    (ns : Nat) : ∃ u, ReadEnded s u ∧ s.planDone p ⟨.clean bits, deep, ns⟩ = u.deliver p := by
  have accepted : (p.around && bits.val != 0) = false := by
    rcases hb with hb | hb <;> simp [hb]
  unfold State.planDone
  rw [s.seen_clean hw]
  extract_lets c m o s0 s1 s2
  have h0 : ReadEnded s s0 := (s.tally_counted ..).readEnded
  have h1 : ReadEnded s s1 := by
    simp only [s1]
    split
    · exact h0.trans (s0.peak_counted ..).readEnded
    · exact h0
  have h2 : ReadEnded s s2 := h1.trans (s1.tally_counted ..).readEnded
  clear_value s2
  refine ⟨if p.around then s2.allAnswered p else s2.frameClean c m p.segment bits, ?_, ?_⟩
  · split
    · exact h2.trans (s2.allAnswered_readEnded p)
    · exact h2.trans (s2.frameClean_readEnded ..)
  · exact if_neg (by simp [accepted])

theorem State.toMode_mode (s : State) (m : Mode) : (s.toMode m).ctl.mode = m := by
  have shown : ∀ (t : State) (on : Bool), Counted t (t.memActive on) := fun t on => by
    unfold State.memActive
    extract_lets t1
    split
    · exact (t.memActiveAt_counted 0 on).trans (State.memActiveAt_counted ..)
    · exact t.memActiveAt_counted 0 on
  rw [State.toMode, shown]
  rfl

/-- A Halt ends in its mode whatever it stops (R344). -/
theorem State.halt_mode (s : State) (cause : Nat) (l : HaltLoc) : (s.halt cause l).ctl.mode = .m10 := by
  unfold State.halt
  extract_lets s0 s1 _ _ _ s2 s3 s4 s5 s6 _ s7
  have entered : s5.ctl.mode = .m10 := by simp only [s5, State.toMode_mode]
  clear_value s5
  have logged : s6.ctl = s5.ctl := by simp only [s6, State.log_ctl]
  clear_value s6
  rw [State.raise_ctl, State.event_ctl, State.pageCommit_ctl, ← entered, ← logged]

theorem State.planDone_tagBad (hw : s.written p = true) (deep : DeepOutcome) (ns : Nat) :
    (s.planDone p ⟨.tagBad, deep, ns⟩).ctl.mode = .m10 := by
  have halted : s.planDone p ⟨.tagBad, deep, ns⟩ = (s.tallyC (chanOf p.quire) 7 (if p.around then 8 else 1)).halt 1
      ⟨chanOf p.quire, memberOfSheet p.stripe p.half p.sheet, frameAddr p.segment p.stripe, 0, 0⟩ := by
    unfold State.planDone
    rw [s.seen_tagBad hw]
  rw [halted, State.halt_mode]

end

/-! ## A frame that does not decode (R194, R197) -/

section
variable {s : State} {p : Plan} {m ns : Nat} {reissue : Bool} {deep : DeepOutcome}

theorem State.planFailed_background (hp : p ∈ s.path.plans) (hb : p.purpose = .background) :
    s.planFailed p m reissue deep ns = s.endPlan p := by
  have planned : s.path.plans.any (fun x => x.id == p.id) = true := List.any_eq_true.mpr ⟨p, hp, by simp⟩
  simp [State.planFailed, planned, hb]

theorem State.planFailed_host (hp : p ∈ s.path.plans) (hh : p.purpose = .host) :
    s.planFailed p m reissue deep ns = s.deepRecovery p m reissue deep ns := by
  have planned : s.path.plans.any (fun x => x.id == p.id) = true := List.any_eq_true.mpr ⟨p, hp, by simp⟩
  simp [State.planFailed, planned, hh]

/-- A deep recovery that begins: counted and reported, with its latency. -/
def State.deepBegun (s : State) (p : Plan) (ns : Nat) : State :=
  let c := chanOf p.quire
  ((((s.bumpC Reg.LOT_KETTLE.DEEP c 1).tally (dieOf c) 202 1).tally (dieOf c) 239 p.readers.length).raise (12 * c + 4)).peak
    Reg.LOT_MISS_MAX.DEEP_NS (dieOf c) 0 ns

/-- The number that a deep recovery's end is counted and recorded under (R197). -/
def deepNumber : DeepOutcome → Nat
  | .step1 => 1 | .step2 => 2 | .step3 => 3 | .step4 => 4 | .step5 => 5 | .gaveUp => 6 | .tagBad => 0

/-- A deep recovery that has ended is counted and recorded. -/
def State.deepEnded (s : State) (p : Plan) (ns : Nat) (o : DeepOutcome) : State :=
  let c := chanOf p.quire
  ((s.deepBegun p ns).bump Reg.LOT_DEEP_STEP.COUNT (dieOf c) (deepNumber o) (if deepNumber o < 2 then 0 else 1)).log 4 (12 * c + 4)
    [deepNumber o, p.quire, p.sheet]

theorem State.deepBegun_counted (s : State) (p : Plan) (ns : Nat) : Counted s (s.deepBegun p ns) :=
  ((((s.bump_counted ..).trans (State.tally_counted ..)).trans (State.tally_counted ..)).trans (State.raise_counted ..)).trans
    (State.peak_counted ..)

theorem State.deepEnded_recorded (s : State) (p : Plan) (ns : Nat) (o : DeepOutcome) : Recorded s (s.deepEnded p ns o) :=
  ((s.deepBegun_counted p ns).trans (State.bump_counted ..)).recorded.trans (State.log_recorded ..)

theorem Counted.current {t : State} (h : Counted s t) (p : Plan) : t.current p = s.current p := by
  unfold Counted at h; rw [h]; rfl

theorem Plan.deepStep_finds (hg : deep ≠ .gaveUp) (ht : deep ≠ .tagBad) :
    p.deepStep reissue deep ≠ .gaveUp ∧ p.deepStep reissue deep ≠ .tagBad := by
  unfold Plan.deepStep
  split
  · split <;> simp
  · split <;> simp
  · exact ⟨hg, ht⟩

/-- A deep recovery that has its frame: it is delivered, and a loss that the scrubber recorded is abandoned (R197, R264). -/
def State.deepFound (s : State) (p : Plan) (ns : Nat) (o : DeepOutcome) : State :=
  ((s.deepEnded p ns o).deliver p).abandonLoss p.quire p.sheet

/-- A frame that a step of the deep recovery gives is delivered; after some steps its quire then moves (R197). -/
theorem State.deepRecovery_finds (hg : deep ≠ .gaveUp) (ht : deep ≠ .tagBad) :
    s.deepRecovery p m reissue deep ns = s.deepFound p ns (p.deepStep reissue deep) ∨
      s.deepRecovery p m reissue deep ns = (s.deepFound p ns (p.deepStep reissue deep)).relocate 0 p.quire := by
  obtain ⟨given, genuine⟩ := Plan.deepStep_finds (p := p) (reissue := reissue) hg ht
  have moves : ∀ u : State, (if (s.deepBegun p ns).current p then u.relocate 0 p.quire else u) = u ∨
      (if (s.deepBegun p ns).current p then u.relocate 0 p.quire else u) = u.relocate 0 p.quire := fun u => by
    split
    · exact .inr rfl
    · exact .inl rfl
  unfold State.deepRecovery
  dsimp only
  cases o : p.deepStep reissue deep with
  | step1 => exact .inl rfl
  | step2 => exact moves (s.deepFound p ns .step2)
  | step3 => exact moves (s.deepFound p ns .step3)
  | step4 => exact .inl rfl
  | step5 => exact moves (s.deepFound p ns .step5)
  | gaveUp => exact absurd o given
  | tagBad => exact absurd o genuine

theorem State.deepRecovery_gaveUp (hc : s.current p = true) :
    s.deepRecovery p m reissue .gaveUp ns = (s.deepEnded p ns .gaveUp).sheetLost p m := by
  have current := ((s.deepBegun_counted p ns).current p).trans hc
  exact if_pos current

/-- The readers of a frame that deep recovery gives are answered behind nothing but what was sent before. -/
theorem State.deepRecovery_out (hg : deep ≠ .gaveUp) (ht : deep ≠ .tagBad) :
    ∃ l, (s.deepRecovery p m reissue deep ns).out = l ++ (p.readers.map p.answer).reverse ++ s.out := by
  have delivered : ∀ o, (s.deepFound p ns o).out = (p.readers.map p.answer).reverse ++ s.out := fun o => by
    refine (State.deliver_out ..).trans ?_
    rw [State.deepEnded_recorded]
  rcases State.deepRecovery_finds (s := s) (p := p) (m := m) (ns := ns) (reissue := reissue) hg ht with ended | moved
  · exact ⟨[], by rw [ended, delivered]; rfl⟩
  · obtain ⟨l, sent⟩ := (State.goesOn.refl.relocate (t := s.deepFound p ns (p.deepStep reissue deep)) 0 p.quire).out
    exact ⟨l, by rw [moved, ← sent, delivered, List.append_assoc]⟩

/-- A sheet that is given up answers its readers with poison, newest of all that has been sent. -/
theorem State.sheetLost_out (s : State) (p : Plan) (m : Nat) :
    ∃ l, (s.sheetLost p m).out = (p.readers.map (fun r => Out.memData r.head r.tag none)).reverse ++ l :=
  ⟨_, State.sendReads_out ..⟩

end

/-- Settles O13: whatever ends a read, its plan is forgotten before its frame is filled and its readers are answered. -/
theorem plannedReadsEnd : Obligations.PlannedReadsEnd := by
  refine ⟨fun s p o found => ?_, fun s p bits deep ns hw => ⟨fun hb => ?_, State.planDone_tagBad hw deep ns⟩,
    fun s p member deep ns m found hm => ?_, fun s p m ns reissue deep hp => ⟨fun hb => ?_, fun hh => ?_⟩, fun s die bank => ?_⟩
  · change execMediaReadReady p.id o s = _
    simp only [execMediaReadReady, found]
  · obtain ⟨u, read, delivered⟩ := State.planDone_clean hw hb deep ns
    obtain ⟨mapping, images⟩ := u.deliver_keeps p
    rw [delivered, u.deliver_out, mapping, images, read]
    exact ⟨rfl, State.deliver_ends _ p, rfl, rfl⟩
  · change execMediaReadTimeout p.id member deep ns s = _
    simp only [execMediaReadTimeout, found, hm]
  · exact ⟨State.planFailed_background hp hb, by rw [s.endPlan_readEnded p], s.endPlan_ends p⟩
  · refine ⟨State.planFailed_host hp hh, State.deepRecovery_out, fun hg hc => ?_⟩
    subst hg
    rw [State.deepRecovery_gaveUp hc]
    exact State.sheetLost_out ..
  · exact ⟨_, rfl, rfl, fun k => by simp⟩

end Sys2Proof.Machine
end

section
/-! SUPPORT. What an eviction into staging leaves of the sweep pointers, and the registers that it moves (R154 to R165, R211, R213). -/

namespace Sys2Proof.Machine

/-- The registers that evictions into staging move beside `bookFields`: those of lookups and of Ream records, the Caddy's counts and
evicting channels, and what a change of a segment's state shows of spares, retirement, wear and Read-only. -/
def evictFields : List Field :=
  readFields ++ reamFields ++ [Reg.CDY_CHAN_DIRTY.EVICTING, Reg.CDY_STAT_EVICT.COUNT, Reg.CDY_STAT_MERGE.COUNT,
    Reg.CDY_STAT_WT_WRITE.COUNT, Reg.MAP_SIZING.LATE, Reg.MAP_CHAN.RETIRED, Reg.PRT_ERR.RETIRED, Reg.MED_DIE.SPARE_TILES_USED,
    Reg.MED_DIE.BANKS_EXHAUSTED, Reg.SPR_POOL.TILE_PCT, Reg.SPR_POOL.OP_PCT, Reg.SPR_POOL.DIE_PCT, Reg.SPR_POOL.POOL_PCT,
    Reg.SPR_POOL.LIFE_USED, Reg.SPR_POOL.LEVEL, Reg.SPR_WEAR.MILLI_PCT, Reg.LNK_MODE.READ_ONLY, Reg.MAP_OP_MIN.READ_ONLY]

/-- From s to t the sweep pointers stand where they stood, and of the registers only those that evictions move have moved. -/
structure State.keepsSweep (s t : State) : Prop where
  sweep : t.path.sweep = s.path.sweep
  moves : s.movesOnly t evictFields

section
variable {s t u : State}

theorem State.keepsSweep.refl : s.keepsSweep s := ⟨rfl, .refl⟩

theorem State.keepsSweep.trans (h1 : s.keepsSweep t) (h2 : t.keepsSweep u) : s.keepsSweep u :=
  ⟨h2.sweep.trans h1.sweep, h1.moves.trans h2.moves⟩

/-- Evictions leave the states of the packages, and so the sets in force (R201). -/
theorem State.keepsSweep.sets (h : s.keepsSweep t) (d : Nat) : t.sets d = s.sets d := by
  unfold State.sets
  rw [h.moves.reads _ (by decide) (by decide), h.moves.reads _ (by decide) (by decide)]

/-- A change beside the sweep pointers, of registers that evictions move. -/
theorem State.keepsSweep.moved {l : List Field} (h : s.keepsSweep t) (hp : u.path = t.path) (hm : t.movesOnly u l)
    (hl : l ⊆ evictFields) : s.keepsSweep u :=
  h.trans ⟨by rw [hp], hm.mono hl⟩

/-- A change beside the sweep pointers and the registers. -/
theorem State.keepsSweep.of_eq (h : s.keepsSweep t) (hp : u.path.sweep = t.path.sweep) (hr : u.regs = t.regs) : s.keepsSweep u :=
  h.trans ⟨hp, .of_regs .refl hr⟩

theorem State.keepsSweep.foldl {α : Type} {f : State → α → State} (h : s.keepsSweep t)
    (hf : ∀ (t : State) (a : α), t.keepsSweep (f t a)) (r : List α) : s.keepsSweep (r.foldl f t) :=
  h.trans (foldl_related (R := State.keepsSweep) (fun _ => .refl) .trans hf r t)

theorem State.keepsSweep.ite {c : Prop} [Decidable c] (ht : s.keepsSweep t) (hu : s.keepsSweep u) : s.keepsSweep (if c then t else u) :=
  iteInduction (fun _ => ht) (fun _ => hu)

end

section
variable {s t u : State} (h : s.keepsSweep t)
include h

/-! ## Registers, counters and records -/

theorem State.keepsSweep.wr {f : Field} (d i v : Nat) (hk : f.kinds < 16) (hf : f ∈ evictFields ++ bookFields) :
    s.keepsSweep (t.wr f d i v) :=
  ⟨h.sweep, h.moves.wr hk hf⟩

theorem State.keepsSweep.bump {f : Field} (d i n : Nat) (hk : f.kinds < 16) (hf : f ∈ evictFields ++ bookFields) :
    s.keepsSweep (t.bump f d i n) :=
  h.wr _ _ _ hk hf

theorem State.keepsSweep.tally (d i n : Nat) : s.keepsSweep (t.tally d i n) :=
  h.moved (t.tally_path ..) (l := []) (.tally .refl ..) (by simp)

theorem State.keepsSweep.raise (n : Nat) : s.keepsSweep (t.raise n) :=
  h.moved (t.raise_path _) (l := []) (.raise .refl _) (by simp)

theorem State.keepsSweep.event (log : Nat) (ty : EvType) (c : EvCause) (vs : List Nat) : s.keepsSweep (t.event log ty c vs) :=
  h.moved (t.event_path ..) (l := []) (.event .refl ..) (by simp)

theorem State.keepsSweep.log (sev cls : Nat) (p : List Nat) : s.keepsSweep (t.log sev cls p) :=
  h.moved (t.log_path ..) (t.log_movesOnly ..) (by simp [evictFields])

theorem State.keepsSweep.mapTouch (q : Nat) (dirty : Bool) : s.keepsSweep (t.mapTouch q dirty) :=
  h.moved (t.mapTouch_path ..) (t.mapTouch_answers ..).moves (by simp [evictFields])

theorem State.keepsSweep.blockAccess (q w port k n : Nat) (write : Bool) : s.keepsSweep (t.blockAccess q w port k n write) :=
  h.trans ⟨by rw [(t.blockAccess_wrote q w port k n write).frame], (t.blockAccess_answers q w port k n write).moves.mono
    (by simp [evictFields])⟩

/-! ## Segments, tiles and the journal (R126, R157, R173) -/

theorem State.keepsSweep.onSeg (c g : Nat) (f : Seg → Seg) : s.keepsSweep (t.onSeg c g f) := by
  have put : s.keepsSweep { t with mapping := { t.mapping with segs := t.mapping.segs.put Seg.shipped (segKey c g) (f (t.seg c g)) } } :=
    h.of_eq rfl rfl
  exact put.trans ⟨by rw [t.onSeg_segmented c g f], (State.pageWritten_movesOnly ..).mono (by simp [evictFields, readFields])⟩

theorem State.keepsSweep.journalC (c : Nat) (b : JBody) : s.keepsSweep (t.journalC c b) := by
  unfold State.journalC State.journal
  extract_lets r x m s1
  have listed : s.keepsSweep s1 := .tally (t := { t with mapping := m }) (h.of_eq rfl rfl) ..
  exact .ite (listed.of_eq rfl rfl) listed

theorem State.keepsSweep.setReadOnly : s.keepsSweep t.setReadOnly := by
  have entered : s.keepsSweep { t with ctl := { t.ctl with readOnly := true } } := h.of_eq rfl rfl
  unfold State.setReadOnly
  refine .ite h (.event ?_ ..)
  exact ((entered.wr _ _ _ (by decide) (by decide)).wr _ _ _ (by decide) (by decide)).wr _ _ _ (by decide) (by decide)

theorem State.keepsSweep.poolReached (level : Nat) (shares : List Nat) : s.keepsSweep (t.poolReached level shares) := by
  have latched : s.keepsSweep (t.latchAlert 1) := h.of_eq rfl rfl
  exact (latched.event ..).log ..

theorem State.keepsSweep.poolUpdate : s.keepsSweep t.poolUpdate := by
  unfold State.poolUpdate
  extract_lets _ _ _ _ _ _ s1 _
  have shown : s.keepsSweep s1 :=
    (((((h.wr _ _ _ (by decide) (by decide)).wr _ _ _ (by decide) (by decide)).wr _ _ _ (by decide) (by decide)).wr _ _ _ (by decide)
      (by decide)).wr _ _ _ (by decide) (by decide)).wr _ _ _ (by decide) (by decide)
  exact .ite shown (.foldl (shown.wr _ _ _ (by decide) (by decide)) (fun _ _ => State.keepsSweep.refl.poolReached ..) _)

theorem State.keepsSweep.retireSeg (c g : Nat) : s.keepsSweep (t.retireSeg c g) := by
  unfold State.retireSeg
  exact ((((State.keepsSweep.ite h.setReadOnly h).onSeg ..).bump _ _ _ (by decide) (by decide)).journalC ..).poolUpdate

theorem State.keepsSweep.countRetired (n g : Nat) : s.keepsSweep (t.countRetired n g) := by
  unfold State.countRetired
  extract_lets _ _ _ _ s1
  have counted : s.keepsSweep s1 := h.of_eq rfl rfl
  exact .ite counted ((counted.bump _ _ _ (by decide) (by decide)).raise _)

theorem State.keepsSweep.redirect (n g : Nat) : s.keepsSweep (t.redirect n g).1 := by
  unfold State.redirect
  extract_lets _ x s1 y s2
  have listed : s.keepsSweep s1 := h.of_eq rfl rfl
  have spare : s.keepsSweep s2 := .bump (t := s1.onTile n g _) (listed.of_eq rfl rfl) _ _ _ (by decide) (by decide)
  split
  · exact h.of_eq rfl rfl
  · dsimp only
    exact (State.keepsSweep.ite (spare.bump _ _ _ (by decide) (by decide)) spare).poolUpdate

theorem State.keepsSweep.retireTiles (c g : Nat) : s.keepsSweep (t.retireTiles c g).1 := by
  unfold State.retireTiles
  refine h.trans (foldl_related (R := fun p r : State × Bool => p.1.keepsSweep r.1) (fun _ => .refl) .trans (fun p k => ?_) _ (t, true))
  dsimp only
  split
  · exact (State.keepsSweep.refl.countRetired ..).redirect ..
  · exact .refl

theorem State.keepsSweep.askSteep (c g : Nat) (x : SegState) : s.keepsSweep (t.askSteep c g x) := by
  have tiles := h.retireTiles c g
  unfold State.askSteep
  exact .ite ((tiles.onSeg ..).journalC ..) (tiles.retireSeg ..)

theorem State.keepsSweep.toPending (c g : Nat) : s.keepsSweep (t.toPending c g) := by
  unfold State.toPending
  exact (State.keepsSweep.ite (h.bump _ _ _ (by decide) (by decide)) h).askSteep ..

/-! ## Map changes and walks (R102, R154, R160, R163) -/

theorem State.keepsSweep.lessLive (c g : Nat) : s.keepsSweep (t.lessLive c g) := by
  unfold State.lessLive
  exact .ite ((h.onSeg ..).toPending ..) (h.onSeg ..)

theorem State.keepsSweep.applyEntry (q : Nat) (e : BitVec 32) : s.keepsSweep (t.applyEntry q e) := by
  unfold State.applyEntry
  extract_lets _ _ _ s0 s1 s2
  have named : s.keepsSweep s0 := h.of_eq rfl rfl
  have touched : s.keepsSweep s1 := (named.mapTouch ..).tally ..
  have counted : s.keepsSweep s2 := .ite (touched.onSeg ..) touched
  exact .ite (counted.lessLive ..) counted

theorem State.keepsSweep.changeEntry (q : Nat) (e : BitVec 32) (seq : Nat) : s.keepsSweep (t.changeEntry q e seq) := by
  unfold State.changeEntry
  exact .ite (h.of_eq rfl rfl) (h.applyEntry ..)

theorem State.keepsSweep.freeStaged (id : Nat) : s.keepsSweep (t.freeStaged id) := by
  unfold State.freeStaged
  split
  · exact h
  · extract_lets _ s1
    have freed : s.keepsSweep s1 := h.of_eq rfl rfl
    exact freed.bump _ _ _ (by decide) (by decide)

theorem State.keepsSweep.dropQuire (q : Nat) : s.keepsSweep (t.dropQuire q) := by
  unfold State.dropQuire
  extract_lets s1
  have cleared : s.keepsSweep s1 := by
    unfold s1
    split
    · exact h.of_eq rfl rfl
    · exact h
  exact cleared.foldl (fun _ _ => State.keepsSweep.refl.freeStaged _) _

theorem State.keepsSweep.unmapQuire (q seq : Nat) : s.keepsSweep (t.unmapQuire q seq) :=
  .changeEntry (t := ((t.dropQuire q).dropWaiting q).poisonDel (q * 16) 16) ((h.dropQuire q).of_eq rfl rfl) ..

theorem State.keepsSweep.walkReaches (w : Walk) (q : Nat) : s.keepsSweep (t.walkReaches w q) := by
  unfold State.walkReaches
  exact .ite (.ite h (h.unmapQuire ..)) (h.changeEntry ..)

theorem State.keepsSweep.reachEarly (q : Nat) : s.keepsSweep (t.reachEarly q) := by
  unfold State.reachEarly
  split
  · exact h
  · exact (h.walkReaches ..).of_eq rfl rfl

/-! ## Opening segments and issue (R25, R158, R159, R165) -/

theorem State.keepsSweep.setRing (c stream : Nat) (l : List Nat) : s.keepsSweep (t.setRing c stream l) := h.of_eq rfl rfl

theorem State.keepsSweep.openOne (c stream : Nat) : s.keepsSweep (t.openOne c stream) := by
  unfold State.openOne
  split
  · split
    · exact h
    · extract_lets s1 s2 s3
      have opened : s.keepsSweep s3 := (((h.onSeg ..).setRing ..).journalC ..).tally ..
      exact .ite (opened.of_eq rfl rfl) opened
  · exact h

theorem State.keepsSweep.topUp (c stream : Nat) : s.keepsSweep (t.topUp c stream) :=
  h.foldl (fun _ _ => State.keepsSweep.refl.openOne ..) _

theorem State.keepsSweep.keepOpen (c : Nat) : s.keepsSweep (t.keepOpen c) := by
  unfold State.keepOpen
  exact .ite h ((h.topUp ..).topUp ..)

theorem State.keepsSweep.program (x : Stripe) (g : Nat) : s.keepsSweep (t.program x g) := by
  unfold State.program
  extract_lets _ _ _ s1 _ s2 _ s3
  have ringed : s.keepsSweep s2 := (h.onSeg ..).setRing ..
  have taken : s.keepsSweep s3 := ringed.of_eq rfl rfl
  exact taken.tally ..

theorem State.keepsSweep.placeStripe (x : Stripe) {r : Nat × State} (hr : t.placeStripe x = some r) : s.keepsSweep r.2 := by
  unfold State.placeStripe at hr
  split at hr
  · cases hr
  · obtain ⟨_, hr⟩ := Option.ite_none_right_eq_some.mp hr
    cases hr
    exact (h.program ..).of_eq rfl rfl

theorem State.keepsSweep.startSteep (x : Steep) : s.keepsSweep (t.startSteep x) := by
  unfold State.startSteep
  extract_lets s1 _ _ s2
  have marked : s.keepsSweep s1 := by
    unfold s1
    split
    · exact h.onSeg ..
    · exact h
  have started : s.keepsSweep s2 := marked.of_eq rfl rfl
  exact started.tally ..

theorem State.keepsSweep.nextUnit (c : Nat) {r : Nat × State} (hr : t.nextUnit c = some r) : s.keepsSweep r.2 := by
  unfold State.nextUnit at hr
  extract_lets s0 at hr
  have kept : s.keepsSweep s0 := .ite ((h.keepOpen c).topUp c 2) h
  split at hr
  · cases hr
  · split at hr
    · next u found =>
      cases hr
      obtain ⟨x, -, placed⟩ := List.exists_of_findSome?_eq_some found
      exact kept.placeStripe x placed
    · obtain ⟨x, -, rfl⟩ := Option.map_eq_some_iff.mp hr
      exact h.startSteep x

theorem State.keepsSweep.issueOne (k : Nat) (hu : t.issueOne k = some u) : s.keepsSweep u := by
  unfold State.issueOne at hu
  extract_lets turn a b fits flip at hu
  split at hu
  · next hx _ =>
    obtain ⟨-, hu⟩ := Option.ite_none_right_eq_some.mp hu
    exact Option.some.inj hu ▸ (h.nextUnit a hx).of_eq rfl rfl
  · next hx _ =>
    obtain ⟨-, hu⟩ := Option.ite_none_right_eq_some.mp hu
    exact Option.some.inj hu ▸ h.nextUnit a hx
  · next hy =>
    obtain ⟨-, hu⟩ := Option.ite_none_right_eq_some.mp hu
    exact Option.some.inj hu ▸ h.nextUnit b hy
  · cases hu

theorem State.keepsSweep.issueN (k n : Nat) : s.keepsSweep (t.issueN k n) := by
  induction n generalizing t with
  | zero => exact h
  | succ n ih =>
    unfold State.issueN
    split
    · exact h
    · next hu => exact ih (h.issueOne k hu)

theorem State.keepsSweep.issue (c : Nat) : s.keepsSweep (t.issue c) := by
  unfold State.issue
  exact .ite (h.issueN ..) h

/-! ## Halves, staging and eviction (R159, R211, R213) -/

theorem State.keepsSweep.assemble (c stream : Nat) (h0 h1 : Option Half) (wt : Bool) : s.keepsSweep (t.assemble c stream h0 h1 wt) := by
  unfold State.assemble
  refine .issue ?_ c
  exact h.of_eq rfl rfl

theorem State.keepsSweep.reachWaiting (key : Nat) : s.keepsSweep (t.reachWaiting key) := by
  unfold State.reachWaiting
  split
  · exact h
  · exact h.reachEarly ..

theorem State.keepsSweep.enterHalf (stream : Nat) (x : Half) (now wt : Bool) : s.keepsSweep (t.enterHalf stream x now wt) := by
  unfold State.enterHalf
  extract_lets _ key s1 _
  have reached : s.keepsSweep s1 := h.reachWaiting key
  clear_value s1
  split
  · refine .assemble ?_ ..
    exact reached.of_eq rfl rfl
  · exact .ite (reached.assemble ..) (reached.of_eq rfl rfl)

theorem State.keepsSweep.enterStaged (id : Nat) : s.keepsSweep (t.enterStaged id) := by
  unfold State.enterStaged
  split
  · exact h
  · extract_lets _ s1
    have entered : s.keepsSweep s1 := h.of_eq rfl rfl
    exact .ite h (.ite (h.reachEarly _) (.ite h (entered.enterHalf ..)))

theorem State.keepsSweep.pumpQuire (q : Nat) : s.keepsSweep (t.pumpQuire q) := by
  unfold State.pumpQuire
  split
  · exact h
  · exact h.enterStaged _

theorem State.keepsSweep.stage (q : Nat) (b : Block16) (merging wt : Bool) (w : List LotEntry) :
    s.keepsSweep (t.stage q b merging wt w) := by
  unfold State.stage
  extract_lets e _ s1
  have listed : s.keepsSweep s1 := h.of_eq rfl rfl
  exact listed.tally ..

theorem State.keepsSweep.stageBlock (q : Nat) (b : Block16) (wt : Bool) (w : List LotEntry) : s.keepsSweep (t.stageBlock q b wt w) := by
  unfold State.stageBlock
  exact ((State.keepsSweep.ite (h.bump _ _ _ (by decide) (by decide)) h).stage ..).pumpQuire _

theorem State.keepsSweep.evictWay (p : Nat × Way) : s.keepsSweep (t.evictWay p) := by
  have cleared : s.keepsSweep (t.clearWay p.2.quire p.1) := h.of_eq rfl rfl
  exact ((cleared.blockAccess ..).bump _ _ _ (by decide) (by decide)).stageBlock ..

theorem State.keepsSweep.evicting (c : Nat) : s.keepsSweep (t.evicting c) := h.wr _ _ _ (by decide) (by decide)

/-- The ways of a set age, and the old dirty ones leave for staging. -/
theorem State.keepsSweep.sweepSet (d set : Nat) : s.keepsSweep (t.sweepSet d set) := by
  unfold State.sweepSet
  refine h.foldl (fun u w => ?_) _
  dsimp only
  split
  · exact .refl
  · next x _ =>
    have aged : u.keepsSweep { u with path := { u.path with
        ways := u.path.ways.ins (wayKey d set w) { x with age := min 7 (x.age + 1) } } } :=
      State.keepsSweep.refl.of_eq rfl rfl
    refine .ite (.evictWay ?_ _) aged
    exact aged.of_eq rfl rfl

end

end Sys2Proof.Machine
end

section
/-! SUPPORT. Evictions and background merges as commands (R199, R208, R213, R214). -/

namespace Sys2Proof.Machine

/-- The set that a sweep takes after set n of a die (R213). -/
def State.nextSet (s : State) (d n : Nat) : Nat := if n + 1 ≥ s.sets d then 0 else n + 1

section
variable {s : State} {die : Fin 2}

/-- The sweep of a die in service moves its own pointer alone, to the next set. -/
theorem exec_evictionSweep (hs : s.inService = true) : ∃ t, exec (.evictionSweep die) s = .next t ∧
    t.path.sweep = s.path.sweep.modify die (fun _ => s.nextSet die (s.path.sweep.get die)) := by
  refine ⟨_, congrArg Host.Outcome.next (if_neg (by simp [hs])), ?_⟩
  extract_lets d s0 set s1 last _ s2 _
  have shown : s.keepsSweep s0 := State.keepsSweep.refl.foldl (fun _ _ => State.keepsSweep.refl.evicting _) _
  have swept : s.keepsSweep s1 := shown.sweepSet d set
  have moved : s2.path.sweep = s.path.sweep.modify d (fun _ => s.nextSet d (s.path.sweep.get d)) := by
    simp only [s2, last, set, swept.sweep, swept.sets, shown.sweep, State.nextSet]
  rw [← moved]
  split <;> rfl

theorem exec_idleEviction (hs : s.inService = true) (hi : s.rd Reg.CDY_CFG.IDLE_MS 0 0 ≠ 0) :
    exec (.idleEviction die) s = .next (s.evictDown die
      (min 100 (s.rd Reg.CDY_CFG.IDLE_FLOOR 0 0) * s.rd Reg.CDY_DIRTY_LIMIT.BLOCKS die 0 / 100)) :=
  congrArg Host.Outcome.next (if_neg (by simp [hs, hi]))

theorem exec_idleEviction_off (hi : s.rd Reg.CDY_CFG.IDLE_MS 0 0 = 0) : exec (.idleEviction die) s = .next s :=
  congrArg Host.Outcome.next (if_pos (by simp [hi]))

end

/-! ## Merges (R199, R208) -/

/-- The oldest partial line of a die that its way still holds PARTIAL. -/
def State.oldestPartial (s : State) (d : Nat) : Option (Nat × Nat) :=
  s.path.partials.find? (fun p => ownerOf p.1 == d && (match s.wayOf p.1 with | some w => w.2.blk.isPart p.2 | none => false))

/-- The sheet of line k of a quire that a merge finds: the one on media, zeros in STATE 0, and else one that is lost. -/
def State.mergeSource (s : State) (q k : Nat) : Sheet :=
  match entryState (s.entry q) with
  | 1 | 2 => (s.halfAt q (s.entry q)).sheet (k / 4)
  | 0 => Sheet.zero
  | _ => Sheet.lost

/-- A way whose line k a sheet completes. -/
def Way.complete (x : Way) (k : Nat) (sheet : Sheet) : Way :=
  { x with blk := x.blk.fillLine k (sheet.line (k % 4)) (sheet.poison.getLsbD (k % 4)) (sheet.host.getLsbD (k % 4)) }

/-- A background merge of a die has counted, and freed the partial-line entry of line k of quire q. -/
def State.partialFreed (s : State) (d q k : Nat) : State :=
  let s1 := (s.bump Reg.CDY_STAT_MERGE.COUNT d 0 1).tally d 322 1
  { s1 with path := { s1.path with partials := removeFirst (q, k) s1.path.partials } }

/-- A background merge of line k of quire q in its way, by what the read of its sheet gave. -/
def State.mergePartial (s : State) (d q k : Nat) (p : Nat × Way) (o : SheetOutcome) : State :=
  let e := s.entry q
  let lost := p.2.complete k Sheet.lost
  match o with
  | .good => (s.partialFreed d q k).putWay q p.1 (p.2.complete k (s.mergeSource q k))
  | .lost => ((s.partialFreed d q k).putWay q p.1 lost).mergeLost q (k / 4) p.2.blk lost.blk
  | .tagBad => s.halt 2
      ⟨chanOf q, memberOfSheet (entryStripe e) (entryHalf e) (k / 4), frameAddr (entrySegment e) (entryStripe e), 0, 0⟩

theorem execPartialMerge_eq (die : Fin 2) (o : SheetOutcome) (s : State) : execPartialMerge die o s = .next (
    if !s.inService || s.partialUsed die ≤ 16384 then s
    else
      match s.oldestPartial die with
      | none => s
      | some (q, k) =>
        match s.wayOf q with
        | none => s
        | some p => s.mergePartial die q k p o) := rfl

section
variable {s : State} {die : Fin 2} {q k w : Nat} {x : Way}

theorem State.mergeSource_eq (s : State) (q k : Nat) : s.mergeSource q k =
    if onMedia (s.entry q) then (s.halfAt q (s.entry q)).sheet (k / 4)
    else if entryState (s.entry q) = 0 then Sheet.zero else Sheet.lost := by
  unfold State.mergeSource onMedia
  split <;> simp_all

theorem State.partialFreed_frame (s : State) (d q k : Nat) : s.partialFreed d q k =
    { s with regs := (s.partialFreed d q k).regs, heads := (s.partialFreed d q k).heads, pm := (s.partialFreed d q k).pm
             path := { s.path with partials := removeFirst (q, k) s.path.partials } } := by
  have counted : Counted s ((s.bump Reg.CDY_STAT_MERGE.COUNT d 0 1).tally d 322 1) :=
    (s.bump_counted ..).trans (State.tally_counted ..)
  unfold State.partialFreed
  rw [counted]

theorem State.partialFreed_setOf (s : State) (d q k r : Nat) : (s.partialFreed d q k).setOf r = s.setOf r :=
  State.movesOnly.setOf (l := [Reg.CDY_STAT_MERGE.COUNT])
    (.of_regs (.tally (.bump .refl (by decide) (by decide)) ..) rfl) (by decide) r

/-- A failed tag halts the module (R343). -/
theorem State.mergePartial_tagBad (s : State) (d q k : Nat) (p : Nat × Way) : (s.mergePartial d q k p .tagBad).ctl.mode = .m10 := by
  simp only [State.mergePartial, State.halt_mode]

/-- Over half the table in use, the oldest partial line of the die is merged. -/
theorem exec_partialMerge (o : SheetOutcome) (hs : s.inService = true) (hu : s.partialUsed die > 16384)
    (hp : s.oldestPartial die = some (q, k)) (hw : s.wayOf q = some (w, x)) :
    exec (.partialMerge die o) s = .next (s.mergePartial die q k (w, x) o) := by
  have due : ¬(!s.inService || decide (s.partialUsed die ≤ 16384)) = true := by simp [hs, hu]
  change execPartialMerge die o s = _
  rw [execPartialMerge_eq, if_neg due]
  simp only [hp, hw]

/-- A deferred merge supplies its entry's lines, unless a tag has failed. -/
theorem exec_deferredMerge {n : Nat} {e : Staged} {sheets : List SheetOutcome}
    (he : s.path.staged.find? (fun x => x.id == n && x.merging) = some e) (hm : s.ctl.mode ≠ .m10) :
    ∃ l, exec (.deferredMerge n sheets) s = .next (if sheets.contains .tagBad then s.halt 2 l else s.mergeStaged e sheets) := by
  change ∃ l, execDeferredMerge n sheets s = _
  unfold execDeferredMerge
  simp only [he, if_neg hm]
  exact ⟨_, rfl⟩

end

/-- Settles O14: whatever a sweep evicts, it leaves the sweep pointers and the packages' states, so that its own pointer moves on from
where it stood; a merge completes its line behind its counters alone, and a failed tag halts the module. -/
theorem evictionsAndMergesRun : Obligations.EvictionsAndMergesRun := by
  refine ⟨fun s die hs => ?_, fun s die hs hi => exec_idleEviction hs hi, fun s die hi => exec_idleEviction_off hi,
    fun s die q k w x sheet hs hu hp hw hsheet => ⟨⟨_, exec_partialMerge .good hs hu hp hw, ?_⟩,
      ⟨_, exec_partialMerge .tagBad hs hu hp hw, State.mergePartial_tagBad ..⟩⟩,
    fun s e sheets he hm => ?_⟩
  · obtain ⟨t, ran, pointers⟩ := exec_evictionSweep (die := die) hs
    have other : (1 - die.val = 0) ≠ (die.val = 0) := by have := die.isLt; rw [ne_eq, eq_iff_iff]; omega
    refine ⟨t, ran, ?_⟩
    rw [pointers]
    exact ⟨Two.get_modify_self .., Two.get_modify_ne _ _ other⟩
  · unfold State.mergePartial State.putWay
    rw [State.partialFreed_setOf, State.partialFreed_frame, State.mergeSource_eq, hsheet]
    exact ⟨rfl, rfl, rfl, rfl, rfl, rfl⟩
  · obtain ⟨l, ran⟩ := exec_deferredMerge (sheets := sheets) he hm
    rw [ran]
    exact ⟨fun good => by simp only [good, Bool.false_eq_true, if_false],
      fun bad => ⟨s.halt 2 l, by simp only [bad, if_true], s.halt_mode 2 l⟩⟩

end Sys2Proof.Machine
end

section
/-! SUPPORT. The patrol, the verification scrub and Scan Media (R261 to R266, R290), and what a Halt shows of its cause (R343, R344). -/

namespace Sys2Proof.Machine

/-! ## The patrol (R261, R263) -/

theorem State.rdC_wrC_self (s : State) (f : Field) (c v : Nat) : (s.wrC f c v).rdC f c = v % 2 ^ f.width := s.rd_wr_self ..

/-- The cursor of a channel stands at the segment that its patrol has reached, in a new pass or in the same. -/
theorem State.patrolAt_cursor (s : State) (c t : Nat) (ht : t < 65536) : (s.patrolAt c t).rdC Reg.PRT_SCRUB.CURSOR c = t := by
  unfold State.patrolAt
  rw [State.rdC_wrC_self]
  exact Nat.mod_eq_of_lt ht

section
variable {s : State} {channel : Fin 32} {segment : Fin 65536} {stripe : Fin 4096} {frames : List ScrubFrame}
  (hs : s.inService = true) (hw : s.roleWorks (40 + channel / 16) = true) (hg : (s.seg channel segment).state.scrubbed = true)
  (hl : s.chanLost channel = false)
include hs hw hg hl

theorem exec_patrolScrubStripe_unwritten (hx : s.media.images.find? (stripeKey channel segment stripe) = none) :
    exec (.patrolScrubStripe channel segment stripe frames) s = .next (s.patrolAt channel segment) := by
  change execPatrolScrubStripe channel segment stripe frames s = _
  simp [execPatrolScrubStripe, hs, hw, hg, hl, hx]

theorem exec_patrolScrubStripe_written {x : Stripe} (hx : s.media.images.find? (stripeKey channel segment stripe) = some x) :
    exec (.patrolScrubStripe channel segment stripe frames) s = .next ((s.patrolAt channel segment).scrub x frames) := by
  change execPatrolScrubStripe channel segment stripe frames s = _
  simp [execPatrolScrubStripe, hs, hw, hg, hl, hx]

end

/-! ## The verification scrub (R290) -/

/-- The verification scrub of a channel marks a stripe. -/
def State.markVerified (s : State) (c key : Nat) : State :=
  s.onRepair c (fun r => { r with verified := key :: r.verified.filter (· != key) })

/-- Every stripe on media of a segment is marked. -/
def State.allVerified (s : State) (c t : Nat) : Bool :=
  (s.stripesOf c t).all (fun x => (s.repairOf c).verified.contains (stripeKey c t x.index))

theorem State.markVerified_verified (s : State) (c key : Nat) :
    ((s.markVerified c key).repairOf c).verified = key :: (s.repairOf c).verified.filter (· != key) := by
  simp [State.markVerified, State.onRepair, State.repairOf]

/-- A mark leaves a segment with another unmarked stripe unfinished. -/
theorem State.allVerified_markVerified {s : State} {c t i j : Nat} (hj : j ∈ (s.stripesOf c t).map Stripe.index) (hne : j ≠ i)
    (hv : (s.repairOf c).verified.contains (stripeKey c t j) = false) :
    (s.markVerified c (stripeKey c t i)).allVerified c t = false := by
  obtain ⟨x, hx, rfl⟩ := List.mem_map.mp hj
  have other : stripeKey c t x.index ≠ stripeKey c t i := fun h => hne (Nat.add_left_cancel h)
  have unmarked : stripeKey c t x.index ∉ ((s.markVerified c (stripeKey c t i)).repairOf c).verified := by
    rw [s.markVerified_verified]
    simpa [other] using hv
  exact List.all_eq_false.mpr ⟨x, hx, by simpa using unmarked⟩

/-- A matching frame marks its stripe, and the segment stays while another of its stripes is not marked. -/
theorem exec_verificationScrubStripe_same {s : State} {channel : Fin 32} {segment : Fin 65536} {stripe : Fin 4096}
    (hs : s.inService = true) (hw : s.roleWorks (40 + channel / 16) = true) (hc : s.chanState channel = 3)
    (ho : (s.repairOf channel).old.contains segment.val = true)
    (hr : (s.markVerified channel (stripeKey channel segment stripe)).allVerified channel segment = false) :
    exec (.verificationScrubStripe channel segment stripe true) s =
      .next (s.markVerified channel (stripeKey channel segment stripe)) := by
  have due : ¬(!s.inService || !s.roleWorks (40 + channel / 16) || s.chanState channel != 3 ||
      !(s.repairOf channel).old.contains segment.val) = true := by
    rw [hs, hw, hc, ho]; decide
  refine congrArg Host.Outcome.next ((if_neg due).trans (if_neg ?_))
  exact Bool.eq_false_iff.mp hr

/-! ## Scan Media (R266) -/

section
variable {s : State} {sc : Scan} {frames : List ScrubFrame} (hs : s.inService = true) (hsc : s.mapping.scan = some sc)
  (hr : sc.running = true)
include hs hsc hr

theorem exec_scanMediaQuire_last
    (hq : List.find? (fun (p : Nat × BitVec 32) => decide (sc.next ≤ p.1) && decide (p.1 < sc.hi) && onMedia (s.entry p.1))
      s.mapping.map = none) :
    exec (.scanMediaQuire frames) s = .next (s.scanEnd sc) := by
  change execScanMediaQuire frames s = _
  simp only [execScanMediaQuire, hs, hsc, hr, hq]
  rfl

theorem exec_scanMediaQuire_next {q : Nat} {e : BitVec 32} {x : Stripe} {u : State}
    (hq : List.find? (fun (p : Nat × BitVec 32) => decide (sc.next ≤ p.1) && decide (p.1 < sc.hi) && onMedia (s.entry p.1))
      s.mapping.map = some (q, e))
    (hu : u = { s with mapping := { s.mapping with scan := some { sc with next := q + 1 } } })
    (hx : s.media.images.find? (stripeKey (chanOf q) (entrySegment (s.entry q)) (entryStripe (s.entry q))) = some x) :
    exec (.scanMediaQuire frames) s = .next (if s.chanLost (chanOf q) then u else u.scrub x frames) := by
  subst hu
  change execScanMediaQuire frames s = _
  simp only [execScanMediaQuire, hs, hsc, hr, hq, hx]
  rfl

end

/-! ## A Halt's marker and cause (R343, R344) -/

theorem State.memActive_counted (s : State) (on : Bool) : Counted s (s.memActive on) := by
  unfold State.memActive
  extract_lets s1
  have first : Counted s s1 := s.memActiveAt_counted 0 on
  split
  · exact first.trans (s1.memActiveAt_counted 1 on)
  · exact first

theorem State.memActive_movesOnly (s : State) (on : Bool) : s.movesOnly (s.memActive on) linkFields := by
  unfold State.memActive
  extract_lets s1
  have first : s.movesOnly s1 linkFields := s.memActiveAt_movesOnly 0 on
  split
  · exact first.trans (s1.memActiveAt_movesOnly 1 on)
  · exact first

@[simp] theorem State.toMode_sec (s : State) (m : Mode) : (s.toMode m).sec = s.sec := by
  rw [State.toMode, State.memActive_counted]
  rfl

/-- The registers that a Halt's entry moves beside `bookFields` once it shows its cause. -/
def haltFields : List Field :=
  linkFields ++ reamFields ++ [Reg.MOD_STATUS.PREV_MODE, Reg.LNK_BAR2_GRANT.HALT_LIMIT, Reg.SEC_HALT_LOC.MEMBER, Reg.SEC_HALT_LOC.FRAME,
    Reg.SEC_HALT_LOC.PAGE, Reg.SEC_HALT_LOC.LEVEL]

theorem State.toMode_movesOnly (s : State) (m : Mode) : s.movesOnly (s.toMode m) haltFields :=
  .trans (t := ({ s with ctl := { s.ctl with mode := m } } : State).setReg Reg.MOD_STATUS.PREV_MODE s.ctl.mode.num)
    (.setReg (.of_regs .refl rfl) (by decide) (by decide)) ((State.memActive_movesOnly ..).mono (by simp [haltFields]))

/-- Whatever a Halt stops, its marker is written and its cause is shown. -/
theorem State.halt_shows (s : State) (cause : Nat) (l : HaltLoc) :
    (s.halt cause l).sec.haltMarker = true ∧ (s.halt cause l).reg Reg.SEC_STATUS.HALT_CAUSE = cause % 2 ^ 4 := by
  unfold State.halt
  extract_lets s0 s1 _ _ _ s2 s3 s4 s5 s6 _ s7
  clear_value s1
  have marked : s2.sec.haltMarker = true := rfl
  clear_value s2
  constructor
  · rw [State.raise_sec, State.event_sec, State.pageCommit_sec]
    simp only [s7, s6, s5, s4, s3, State.log_sec, State.toMode_sec, State.wr_sec, State.setReg_sec, marked]
  · have shown : s3.reg Reg.SEC_STATUS.HALT_CAUSE = cause % 2 ^ 4 :=
      (State.rd_wr_ne _ (by decide) (by decide) (by decide) ..).trans (State.rd_wr_self ..)
    clear_value s3
    have located : s3.movesOnly s4 haltFields := by
      refine .setReg (.setReg (.setReg (.setReg .refl ?_ ?_) ?_ ?_) ?_ ?_) ?_ ?_ <;> decide
    have entered : s3.movesOnly s5 haltFields :=
      .trans (.wr (.wr located (by decide) (by decide)) (by decide) (by decide)) (State.toMode_movesOnly ..)
    have recorded : s3.movesOnly s7 haltFields :=
      .of_regs (entered.trans ((s5.log_movesOnly ..).mono (by simp [haltFields]))) rfl
    have reported : s3.movesOnly (((s7.pageCommit 5048).event 3 .memoryModule .halt [cause]).raise 536) haltFields :=
      .raise (.event (recorded.trans ((s7.pageCommit_movesOnly 5048).mono (by simp [haltFields]))) ..) _
    rw [← shown]
    exact reported.reads _ (by decide) (by decide) 0 0

/-! ## Metadata pages (R340, R343, R269) -/

section
variable {s : State} (hr : s.running = true) (die : Fin 2) (page : Nat)
include hr

theorem exec_mapPageVerify_good : exec (.mapPageVerify die page .good) s = .next (s.bump Reg.SEC_VERIFY.PAGES die 0 1) :=
  congrArg Host.Outcome.next (if_neg (by simp [hr]))

theorem exec_mapPageVerify_tamper : exec (.mapPageVerify die page .tamper) s = .next (s.halt 6 ⟨0, 0, 0, page, 0⟩) :=
  congrArg Host.Outcome.next (if_neg (by simp [hr]))

theorem exec_mapPageVerify_counterLine (level : Fin 7) (index : Nat) :
    exec (.mapPageVerify die page (.counterLine level index)) s = .next (s.halt 5 ⟨0, 0, 0, index, level⟩) :=
  congrArg Host.Outcome.next (if_neg (by simp [hr]))

theorem exec_mapPageVerify_codeFailed : exec (.mapPageVerify die page .codeFailed) s =
    .next ((s.bump Reg.SEC_VERIFY.PAGES die 0 1).bump Reg.PRT_META.MIRROR_USED die 0 1) :=
  congrArg Host.Outcome.next (if_neg (by simp [hr]))

end

/-- Settles O18: a stripe's mark leaves its segment in the scrub while another stripe is unmarked; a Halt shows the cause that it is
given whatever it stops; and a code failure moves two counters alone. -/
theorem scrubbersAdvance : Obligations.ScrubbersAdvance := by
  refine ⟨⟨fun s channel segment stripe frames hs hw hg hl => ⟨s.patrolAt_cursor _ _ segment.isLt,
      exec_patrolScrubStripe_unwritten hs hw hg hl, fun x => exec_patrolScrubStripe_written hs hw hg hl⟩,
    fun s channel segment stripe hs hw hc ho hk => ?_,
    fun s sc frames hs hsc hr => ⟨fun hq => ?_, fun q e x u hq hu hx => exec_scanMediaQuire_next hs hsc hr hq hu hx⟩⟩,
    fun s die page hr => ⟨?_, ?_, fun level index => ?_, ?_⟩⟩
  · obtain ⟨k, listed, other, unmarked⟩ := hk
    refine ⟨_, exec_verificationScrubStripe_same hs hw hc ho (State.allVerified_markVerified listed other unmarked), ?_, rfl⟩
    rw [s.markVerified_verified]
    exact List.mem_cons_self
  · refine exec_scanMediaQuire_last hs hsc hr (List.find?_eq_none.mpr fun p hp => ?_)
    simpa only [Bool.not_eq_true, Bool.not_eq_true'] using List.all_eq_true.mp hq p hp
  · exact ⟨_, exec_mapPageVerify_good hr die page, s.rd_bump_self ..,
      (s.bump_tells die 0 1 (by decide) (by decide)).booked (.of_heads rfl) rfl⟩
  · obtain ⟨marker, cause⟩ := s.halt_shows 6 ⟨0, 0, 0, page, 0⟩
    exact ⟨_, exec_mapPageVerify_tamper hr die page, s.halt_mode .., marker, cause⟩
  · obtain ⟨marker, cause⟩ := s.halt_shows 5 ⟨0, 0, 0, index, level⟩
    exact ⟨_, exec_mapPageVerify_counterLine hr die page level index, s.halt_mode .., marker, cause⟩
  · have served := (s.bump_tells (f := Reg.SEC_VERIFY.PAGES) (l := [Reg.SEC_VERIFY.PAGES, Reg.PRT_META.MIRROR_USED]) die 0 1 (by decide)
      (by decide)).then (State.bump_tells _ (f := Reg.PRT_META.MIRROR_USED) die 0 1 (by decide) (by decide))
    refine ⟨_, exec_mapPageVerify_codeFailed hr die page, ?_, served.booked (.of_heads rfl) rfl⟩
    rw [State.rd_bump_self, State.bump, State.rd_wr_ne _ (by decide) (by decide) (by decide)]

end Sys2Proof.Machine
end

section
/-! SUPPORT. To keep what is known of a Pour: its record, its cause and its number, with the mode and the inputs (R308, R314, R318). -/

namespace Sys2Proof.Machine

/-- What shows of a Pour, with the level of PWRDIS. -/
def pourShown : List Field :=
  [Reg.POUR_STATUS.CAUSE, Reg.POUR_STATUS.COUNT, Reg.POUR_STATUS.LAST_STATE, Reg.DMC_MODE.POUR_EXCL, Reg.PIN_LEVEL.PWRDIS]

/-- Fields of which none shows anything of a Pour. -/
def besidePour (l : List Field) : Bool :=
  l.all (fun f => decide (f.kinds < 16)) && pourShown.all (fun g => l.all (fun f => f.num != g.num))

theorem pourShown_kinds : ∀ g ∈ pourShown, g.kinds < 16 := by decide

/-- From s to t both inputs are there or gone as they were, and PWRDIS stands as it stood. -/
structure State.keepsInputs (s t : State) : Prop where
  p12 : t.ctl.p12 = s.ctl.p12
  aux : t.ctl.aux = s.ctl.aux
  level : t.reg Reg.PIN_LEVEL.PWRDIS = s.reg Reg.PIN_LEVEL.PWRDIS

/-- What is known of a Pour beside the GPFs that wait for it. -/
def Pour.alone (p : Pour) : Pour := { p with gpf := [] }

/-- From s to t a Pour shows as it did, the inputs and the mode stand, and of what is known of a Pour only the GPFs that wait for it may
have changed. -/
structure State.keepsPour (s t : State) : Prop where
  p12 : t.ctl.p12 = s.ctl.p12
  aux : t.ctl.aux = s.ctl.aux
  mode : t.ctl.mode = s.ctl.mode
  pour : t.pour.alone = s.pour.alone
  shown : ∀ f ∈ pourShown, ∀ d i, t.rd f d i = s.rd f d i

/-- The terms that `State.keepsPour` speaks of. -/
abbrev State.pourTerms (s : State) := (s.regs, s.pour, s.ctl.mode, s.ctl.p12, s.ctl.aux)

section
variable {s t u : State} {l : List Field}

theorem State.movesOnly.pourShown (hm : s.movesOnly t l) (hl : besidePour (l ++ bookFields) = true) :
    ∀ f ∈ pourShown, ∀ d i, t.rd f d i = s.rd f d i := by
  intro f hf
  exact hm.reads f (pourShown_kinds f hf) (List.all_eq_true.mp (Bool.and_eq_true_iff.mp hl).2 f hf)

theorem State.keepsInputs.refl : s.keepsInputs s := ⟨rfl, rfl, rfl⟩

theorem State.keepsInputs.trans (h1 : s.keepsInputs t) (h2 : t.keepsInputs u) : s.keepsInputs u :=
  ⟨h2.p12.trans h1.p12, h2.aux.trans h1.aux, h2.level.trans h1.level⟩

theorem State.keepsPour.refl : s.keepsPour s := ⟨rfl, rfl, rfl, rfl, fun _ _ _ _ => rfl⟩

theorem State.keepsPour.trans (h1 : s.keepsPour t) (h2 : t.keepsPour u) : s.keepsPour u where
  p12 := h2.p12.trans h1.p12
  aux := h2.aux.trans h1.aux
  mode := h2.mode.trans h1.mode
  pour := h2.pour.trans h1.pour
  shown f hf d i := (h2.shown f hf d i).trans (h1.shown f hf d i)

theorem State.keepsPour.inputs (h : s.keepsPour t) : s.keepsInputs t := ⟨h.p12, h.aux, h.shown _ (by decide) 0 0⟩

theorem State.keepsPour.record (h : s.keepsPour t) : t.pour.record = s.pour.record :=
  (congrArg Pour.record h.pour :)

theorem State.keepsPour.running (h : s.keepsPour t) : t.pour.running = s.pour.running :=
  (congrArg Pour.running h.pour :)

theorem State.keepsPour.hold (h : s.keepsPour t) : t.pour.hold = s.pour.hold :=
  (congrArg Pour.hold h.pour :)

end

namespace State.keepsPour

section
variable {s t u : State} {l : List Field} (h : s.keepsPour t)
include h

/-- A change beside the terms of a Pour. -/
theorem of_eq (he : u.pourTerms = t.pourTerms := by with_reducible rfl) : s.keepsPour u := by
  simp only [pourTerms, Prod.mk.injEq] at he
  obtain ⟨regs, pour, mode, p12, aux⟩ := he
  exact h.trans ⟨p12, aux, mode, by rw [pour], fun f _ d i => State.rd_congr regs f d i⟩

/-- A change beside the terms of a Pour but for registers that show nothing of one. -/
theorem moved (hc : u.ctl = t.ctl) (hp : u.pour = t.pour) (hm : t.movesOnly u l) (hl : besidePour (l ++ bookFields) = true) :
    s.keepsPour u :=
  h.trans ⟨by rw [hc], by rw [hc], by rw [hc], by rw [hp], hm.pourShown hl⟩

theorem foldl {α : Type} {f : State → α → State} (hf : ∀ (t : State) (a : α), t.keepsPour (f t a)) (r : List α) :
    s.keepsPour (r.foldl f t) :=
  h.trans (foldl_related (R := State.keepsPour) (fun _ => .refl) .trans hf r t)

/-- A run that carries a value beside the state. -/
theorem foldl_fst {α β : Type} {f : State × β → α → State × β} (hf : ∀ (p : State × β) (a : α), p.1.keepsPour (f p a).1)
    (r : List α) (b : β) : s.keepsPour (r.foldl f (t, b)).1 :=
  h.trans (foldl_related (R := fun p q : State × β => p.1.keepsPour q.1) (fun _ => .refl) .trans hf r (t, b))

theorem ite {c : Prop} [Decidable c] (hu : s.keepsPour u) : s.keepsPour (if c then t else u) := iteInduction (fun _ => h) (fun _ => hu)

/-! ## Registers, counters and records -/

theorem wr {f : Field} (hf : besidePour [f] = true) (d i v : Nat) : s.keepsPour (t.wr f d i v) := by
  simp only [besidePour, List.all_cons, List.all_nil, Bool.and_true, Bool.and_eq_true, decide_eq_true_eq, List.all_eq_true,
    bne_iff_ne] at hf
  obtain ⟨kinds, nums⟩ := hf
  exact h.trans ⟨rfl, rfl, rfl, rfl, fun g hg e j => t.rd_wr_ne (pourShown_kinds g hg) kinds (nums g hg).symm d i v e j⟩

theorem setReg {f : Field} (hf : besidePour [f] = true) (v : Nat) : s.keepsPour (t.setReg f v) := h.wr hf ..

theorem bump {f : Field} (hf : besidePour [f] = true) (d i n : Nat) : s.keepsPour (t.bump f d i n) := h.wr hf ..

theorem onHead (n : Nat) (f : Head → Head) : s.keepsPour (t.onHead n f) := h.of_eq rfl

theorem tally (d i n : Nat) : s.keepsPour (t.tally d i n) := h.moved (t.tally_ctl ..) (t.tally_pour ..) (l := []) (.tally .refl ..) (by decide)

theorem raise (n : Nat) : s.keepsPour (t.raise n) := h.moved (t.raise_ctl _) (t.raise_pour _) (l := []) (.raise .refl _) (by decide)

theorem event (log : Nat) (ty : EvType) (c : EvCause) (vs : List Nat) : s.keepsPour (t.event log ty c vs) :=
  h.moved (t.event_ctl ..) (t.event_pour ..) (l := []) (.event .refl ..) (by decide)

theorem log (sev cls : Nat) (p : List Nat) : s.keepsPour (t.log sev cls p) :=
  h.moved (t.log_ctl ..) (t.log_pour ..) (t.log_movesOnly ..) (by decide)

theorem pageCommit (page : Nat) : s.keepsPour (t.pageCommit page) :=
  h.moved (t.pageCommit_ctl _) (t.pageCommit_pour _) (t.pageCommit_movesOnly _) (by decide)

theorem settle : s.keepsPour t.settle := by
  unfold State.settle
  extract_lets _ _ s1
  have shown : s.keepsPour s1 := .of_eq (.setReg (h.of_eq rfl) (by decide) _) rfl
  exact .ite h (.ite (shown.event ..) (shown.event ..))

/-! ## Controllers and caches (R201, R231, R237, R339) -/

theorem blockAccess (q w port k n : Nat) (write : Bool) : s.keepsPour (t.blockAccess q w port k n write) :=
  h.moved (by rw [(t.blockAccess_wrote q w port k n write).frame]) (by rw [(t.blockAccess_wrote q w port k n write).frame])
    (t.blockAccess_answers q w port k n write).moves (by decide)

end

end State.keepsPour

end Sys2Proof.Machine
end

section
/-! SUPPORT. The write frontier keeps what is known of a Pour (R126, R154 to R181, R211, R264, R280 to R285). -/

namespace Sys2Proof.Machine

namespace State.keepsPour

section
variable {s t u : State} (h : s.keepsPour t)
include h

/-! ## Segments, tiles and the journal (R126, R157, R173) -/

/-- A change of segments' states and what it brings, of registers that show nothing of a Pour. -/
theorem segmented {l : List Field} (hg : Segmented t u) (hm : t.movesOnly u l) (hl : besidePour (l ++ bookFields) = true) :
    s.keepsPour u := by
  unfold Segmented at hg
  exact h.trans ⟨by rw [hg], by rw [hg], by rw [hg], by rw [hg], hm.pourShown hl⟩

theorem onSeg (c g : Nat) (f : Seg → Seg) : s.keepsPour (t.onSeg c g f) :=
  h.segmented (t.onSeg_segmented c g f) (State.keepsSweep.refl.onSeg c g f).moves (by decide)

theorem journalC (c : Nat) (b : JBody) : s.keepsPour (t.journalC c b) :=
  h.segmented (t.journalC_segmented c b) (State.keepsSweep.refl.journalC c b).moves (by decide)

theorem askSteep (c g : Nat) (x : SegState) : s.keepsPour (t.askSteep c g x) :=
  h.segmented (t.askSteep_segmented c g x) (State.keepsSweep.refl.askSteep c g x).moves (by decide)

theorem toPending (c g : Nat) : s.keepsPour (t.toPending c g) := by
  unfold State.toPending
  exact (ite (h.bump (by decide) ..) h).askSteep ..

theorem toDirty (c g : Nat) : s.keepsPour (t.toDirty c g) := (h.onSeg ..).askSteep ..

theorem ringTake (die n : Nat) : s.keepsPour (t.ringTake die n) := h.of_eq rfl

theorem issuePage (die : Nat) : s.keepsPour (t.issuePage die) := h.of_eq rfl

theorem issueOpen : s.keepsPour t.issueOpen := by
  unfold State.issueOpen
  exact h.foldl (fun _ _ => State.keepsPour.refl.ite (State.keepsPour.refl.issuePage _)) _

theorem onRepair (c : Nat) (f : ChanRepair → ChanRepair) : s.keepsPour (t.onRepair c f) := h.of_eq rfl

theorem clearSuspends (c g : Nat) : s.keepsPour (t.clearSuspends c g) := h.of_eq rfl

/-! ## The media reserve (R157, R179) -/

theorem releaseReserve (r : ResSeg) : s.keepsPour (t.releaseReserve r) := by
  unfold State.releaseReserve
  refine toDirty ?_ ..
  exact h.of_eq rfl

theorem trimReserve (c use : Nat) : s.keepsPour (t.trimReserve c use) := h.foldl (fun _ _ => State.keepsPour.refl.releaseReserve _) _

theorem closeReserve (r : ResSeg) : s.keepsPour (t.closeReserve r) := by
  unfold State.closeReserve
  extract_lets _ _ _ s1
  have listed : s.keepsPour s1 := h.of_eq rfl
  exact ((listed.ringTake ..).onSeg ..).journalC ..

theorem openReserve (c use round : Nat) : s.keepsPour (t.openReserve c use round) := by
  unfold State.openReserve
  extract_lets s0
  have closed : s.keepsPour s0 := h.foldl (fun _ _ => State.keepsPour.refl.closeReserve _) _
  split
  · exact closed
  · extract_lets s1
    have opened : s.keepsPour s1 := (closed.onSeg ..).journalC ..
    exact trimReserve (opened.of_eq) ..

theorem reserveAdd (die use bytes : Nat) : s.keepsPour (t.reserveAdd die use bytes) := by
  unfold State.reserveAdd
  extract_lets _ _ _ _ s1
  have counted : s.keepsPour s1 := h.of_eq rfl
  exact counted.foldl (fun _ _ => State.keepsPour.refl.openReserve ..) _

/-! ## Map changes and walks (R102, R154, R160, R163) -/

theorem mapTouch (q : Nat) (dirty : Bool) : s.keepsPour (t.mapTouch q dirty) := by
  have frame := (t.mapTouch_answers q dirty).frame
  exact h.trans ⟨by rw [frame], by rw [frame], by rw [frame], by rw [frame], (t.mapTouch_answers q dirty).moves.pourShown (by decide)⟩

theorem lessLive (c g : Nat) : s.keepsPour (t.lessLive c g) := by
  unfold State.lessLive
  exact ite ((h.onSeg ..).toPending ..) (h.onSeg ..)

theorem applyEntry (q : Nat) (e : BitVec 32) : s.keepsPour (t.applyEntry q e) := by
  unfold State.applyEntry
  extract_lets _ _ _ s0 s1 s2
  have named : s.keepsPour s0 := h.of_eq rfl
  have touched : s.keepsPour s1 := (named.mapTouch ..).tally ..
  have counted : s.keepsPour s2 := ite (touched.onSeg ..) touched
  exact ite (counted.lessLive ..) counted

theorem changeEntry (q : Nat) (e : BitVec 32) (seq : Nat) : s.keepsPour (t.changeEntry q e seq) := by
  unfold State.changeEntry
  exact ite h.of_eq (h.applyEntry ..)

theorem freeStaged (id : Nat) : s.keepsPour (t.freeStaged id) := by
  unfold State.freeStaged
  split
  · exact h
  · extract_lets _ s1
    have freed : s.keepsPour s1 := h.of_eq rfl
    exact freed.bump (by decide) ..

theorem dropQuire (q : Nat) : s.keepsPour (t.dropQuire q) := by
  unfold State.dropQuire
  extract_lets s1
  have cleared : s.keepsPour s1 := by
    unfold s1
    split
    · exact h.of_eq rfl
    · exact h
  exact cleared.foldl (fun _ _ => State.keepsPour.refl.freeStaged _) _

theorem dropWaiting (q : Nat) : s.keepsPour (t.dropWaiting q) := h.of_eq rfl

theorem withPoison (p : PoisonIndex) : s.keepsPour { t with mapping := { t.mapping with poison := p } } := h.of_eq

theorem poisonDel (first len : Nat) : s.keepsPour (t.poisonDel first len) := h.withPoison _

theorem unmapQuire (q seq : Nat) : s.keepsPour (t.unmapQuire q seq) := (((h.dropQuire ..).dropWaiting ..).poisonDel ..).changeEntry ..

theorem walkReaches (w : Walk) (q : Nat) : s.keepsPour (t.walkReaches w q) := by
  unfold State.walkReaches
  exact ite (ite h (h.unmapQuire ..)) (h.changeEntry ..)

theorem reachEarly (q : Nat) : s.keepsPour (t.reachEarly q) := by
  unfold State.reachEarly
  split
  · exact h
  · exact (h.walkReaches ..).of_eq rfl

/-! ## Opening and closing segments (R158, R161, R165) -/

theorem setRing (c stream : Nat) (l : List Nat) : s.keepsPour (t.setRing c stream l) := h.of_eq rfl

theorem openOne (c stream : Nat) : s.keepsPour (t.openOne c stream) := by
  unfold State.openOne
  split
  · split
    · exact h
    · extract_lets s1 s2 s3
      have opened : s.keepsPour s3 := (((h.onSeg ..).setRing ..).journalC ..).tally ..
      exact ite opened.of_eq opened
  · exact h

theorem topUp (c stream : Nat) : s.keepsPour (t.topUp c stream) := h.foldl (fun _ _ => State.keepsPour.refl.openOne ..) _

theorem keepOpen (c : Nat) : s.keepsPour (t.keepOpen c) := by
  unfold State.keepOpen
  exact ite h ((h.topUp ..).topUp ..)

theorem shutSeg (c g : Nat) : s.keepsPour (t.shutSeg c g) := (h.onSeg ..).setRing ..

theorem shutAll (c : Nat) : s.keepsPour (t.shutAll c) := h.foldl (fun _ _ => State.keepsPour.refl.shutSeg ..) _

theorem sumSeg (c g : Nat) : s.keepsPour (t.sumSeg c g) := by
  unfold State.sumSeg
  extract_lets _ _ s0
  have written : s.keepsPour s0 := h.of_eq rfl
  exact ((written.ringTake ..).reserveAdd ..).journalC ..

theorem closeSeg (c g : Nat) : s.keepsPour (t.closeSeg c g) := (h.shutSeg ..).sumSeg ..

/-! ## Issue (R25, R159, R165) -/

theorem program (x : Stripe) (g : Nat) : s.keepsPour (t.program x g) := by
  unfold State.program
  extract_lets _ _ _ s1 _ s2 _ s3
  have ringed : s.keepsPour s2 := (h.onSeg ..).setRing ..
  have taken : s.keepsPour s3 := ringed.of_eq rfl
  exact taken.tally ..

theorem placeStripe (x : Stripe) {r : Nat × State} (hr : t.placeStripe x = some r) : s.keepsPour r.2 := by
  unfold State.placeStripe at hr
  split at hr
  · cases hr
  · obtain ⟨_, hr⟩ := Option.ite_none_right_eq_some.mp hr
    cases hr
    exact (h.program ..).of_eq rfl

theorem startSteep (x : Steep) : s.keepsPour (t.startSteep x) := by
  unfold State.startSteep
  extract_lets s1 _ _ s2
  have marked : s.keepsPour s1 := by
    unfold s1
    split
    · exact h.onSeg ..
    · exact h
  have started : s.keepsPour s2 := marked.of_eq rfl
  exact started.tally ..

theorem nextUnit (c : Nat) {r : Nat × State} (hr : t.nextUnit c = some r) : s.keepsPour r.2 := by
  unfold State.nextUnit at hr
  extract_lets s0 at hr
  have kept : s.keepsPour s0 := ite ((h.keepOpen c).topUp c 2) h
  split at hr
  · cases hr
  · split at hr
    · next u found =>
      cases hr
      obtain ⟨x, -, placed⟩ := List.exists_of_findSome?_eq_some found
      exact kept.placeStripe x placed
    · obtain ⟨x, -, rfl⟩ := Option.map_eq_some_iff.mp hr
      exact h.startSteep x

theorem issueOne (k : Nat) (hu : t.issueOne k = some u) : s.keepsPour u := by
  unfold State.issueOne at hu
  extract_lets turn a b fits flip at hu
  split at hu
  · next hx _ =>
    obtain ⟨-, hu⟩ := Option.ite_none_right_eq_some.mp hu
    exact Option.some.inj hu ▸ (h.nextUnit a hx).of_eq rfl
  · next hx _ =>
    obtain ⟨-, hu⟩ := Option.ite_none_right_eq_some.mp hu
    exact Option.some.inj hu ▸ h.nextUnit a hx
  · next hy =>
    obtain ⟨-, hu⟩ := Option.ite_none_right_eq_some.mp hu
    exact Option.some.inj hu ▸ h.nextUnit b hy
  · cases hu

theorem issueN (k n : Nat) : s.keepsPour (t.issueN k n) := by
  induction n generalizing t with
  | zero => exact h
  | succ n ih =>
    unfold State.issueN
    split
    · exact h
    · next hu => exact ih (h.issueOne k hu)

theorem issue (c : Nat) : s.keepsPour (t.issue c) := by
  unfold State.issue
  exact ite (h.issueN ..) h

/-! ## Halves and stripes (R159, R160) -/

theorem takeSeq (c : Nat) : s.keepsPour (t.takeSeq c) := h.of_eq rfl

theorem assemble (c stream : Nat) (h0 h1 : Option Half) (wt : Bool) : s.keepsPour (t.assemble c stream h0 h1 wt) := by
  unfold State.assemble
  refine issue ?_ c
  exact h.of_eq rfl

theorem reachWaiting (key : Nat) : s.keepsPour (t.reachWaiting key) := by
  unfold State.reachWaiting
  split
  · exact h
  · exact h.reachEarly ..

theorem enterHalf (stream : Nat) (x : Half) (now wt : Bool) : s.keepsPour (t.enterHalf stream x now wt) := by
  unfold State.enterHalf
  extract_lets _ key s1 _
  have reached : s.keepsPour s1 := h.reachWaiting key
  split
  · exact assemble (reached.of_eq) ..
  · exact ite (reached.assemble ..) reached.of_eq

theorem enterStaged (id : Nat) : s.keepsPour (t.enterStaged id) := by
  unfold State.enterStaged
  split
  · exact h
  · extract_lets _ s1
    have entered : s.keepsPour s1 := h.of_eq rfl
    exact ite h (ite (h.reachEarly _) (ite h (entered.enterHalf ..)))

theorem pumpQuire (q : Nat) : s.keepsPour (t.pumpQuire q) := by
  unfold State.pumpQuire
  split
  · exact h
  · exact h.enterStaged _

theorem applyHeld (q : Nat) : s.keepsPour (t.applyHeld q) := by
  unfold State.applyHeld
  split
  · exact h
  · exact ite h (applyEntry h.of_eq ..)

theorem applyOlder (q seq : Nat) : s.keepsPour (t.applyOlder q seq) := by
  unfold State.applyOlder
  split
  · exact h
  · exact ite (applyEntry h.of_eq ..) h

theorem poisonAdd (first len : Nat) (host : Bool) : s.keepsPour (t.poisonAdd first len host) := h.withPoison _

theorem poisonMask (q : Nat) (m : BitVec 16) (host : Bool) : s.keepsPour (t.poisonMask q m host) := by
  unfold State.poisonMask
  exact h.foldl (fun _ _ => ite (State.keepsPour.refl.poisonAdd ..) .refl) _

theorem raiseLog (src sev : Nat) (p : List Nat) : s.keepsPour (t.raiseLog src sev p) := (h.raise ..).log ..

theorem reportLoss (x : Half) (tx : Nat) (frames : List (Nat × Nat)) : s.keepsPour (t.reportLoss x tx frames) := by
  unfold State.reportLoss
  extract_lets _
  refine h.foldl (fun u f => ?_) _
  extract_lets _ _ s1
  have counted : u.keepsPour s1 := ((State.keepsPour.refl.bump (by decide) ..).tally ..).event ..
  exact (counted.poisonMask ..).raiseLog ..

theorem applyHalf (x : Stripe) (place : Nat) (y : Half) : s.keepsPour (t.applyHalf x place y) := by
  unfold State.applyHalf
  extract_lets s0 s2 s1
  have reached : s.keepsPour s0 := (h.reachEarly ..).applyOlder ..
  have applied : s.keepsPour s2 := reached.applyEntry ..
  have freed : s.keepsPour s1 := by
    unfold s1
    split
    · split
      · exact applied.freeStaged ..
      · exact applied.reportLoss ..
      · exact applied
      · exact applied
    · exact reached
  exact (freed.applyHeld ..).pumpQuire ..

theorem summed (x : Stripe) : s.keepsPour (t.summed x) := by
  unfold State.summed
  extract_lets
  split
  · exact h
  · exact h.of_eq

theorem stripeDone (x : Stripe) : s.keepsPour (t.stripeDone x) := by
  unfold State.stripeDone
  extract_lets _ _ s2 s2' s3 s3' s4 s5
  have imaged : s.keepsPour s2 := h.of_eq
  have written : s.keepsPour s2' := imaged.summed _
  have applied : s.keepsPour s3' := ((written.foldl (fun _ _ => State.keepsPour.refl.applyHalf ..) _).tally ..).tally ..
  have counted : s.keepsPour s4 := ite (applied.bump (by decide) ..) (ite (applied.bump (by decide) ..) applied)
  have closed : s.keepsPour s5 := ite (counted.closeSeg ..) counted
  exact ite written (closed.issue ..)

/-! ## Repair, and what a programmed record releases (R168, R174, R281 to R285) -/

theorem repairDone (c : Nat) : s.keepsPour (t.repairDone c) := by
  unfold State.repairDone
  extract_lets _ _
  split
  · exact h
  · extract_lets s1 s2
    have shown : s.keepsPour s1 := (((h.wr (by decide) ..).wr (by decide) ..).wr (by decide) ..).wr (by decide) ..
    exact ite ((((shown.onRepair ..).raise ..).event ..).settle) h

theorem askShort (c part : Nat) : s.keepsPour (t.askShort c part) := by
  unfold State.askShort
  split
  · exact h
  · exact h.of_eq rfl

theorem recordDone (r : JRec) : s.keepsPour (t.recordDone r) := by
  unfold State.recordDone
  extract_lets _ _
  split
  · exact ite (issue h.of_eq ..) h
  · extract_lets s1 _ _ s2
    have member : s.keepsPour s1 := (h.wr (by decide) ..).wr (by decide) ..
    have taken : s.keepsPour s2 := member.of_eq rfl
    exact ite (((taken.foldl (fun _ _ => State.keepsPour.refl.askShort ..) _).repairDone ..).issue ..) h
  · exact h

theorem pageProgrammed (pg : List JRec) : s.keepsPour (t.pageProgrammed pg) := by
  unfold State.pageProgrammed
  split
  · exact h
  · exact (h.tally ..).reserveAdd ..

theorem programJournal : s.keepsPour t.programJournal := by
  unfold State.programJournal
  extract_lets s0 _ s1 _
  have programmed : s.keepsPour s1 := h.issueOpen.foldl (fun _ _ => State.keepsPour.refl.pageProgrammed _) _
  exact foldl (programmed.of_eq) (fun _ _ => State.keepsPour.refl.recordDone _) _

/-! ## Steeps that are cut off (R130) -/

theorem abortDie (n g : Nat) : s.keepsPour (t.abortDie n g) := h.of_eq rfl

theorem abortSteep (x : Steep) : s.keepsPour (t.abortSteep x) := by
  unfold State.abortSteep
  extract_lets s1
  have aborted : s.keepsPour s1 := clearSuspends (h.foldl (fun _ _ => State.keepsPour.refl.abortDie ..) _) ..
  exact ite aborted (aborted.onSeg ..)

theorem abortSteeps : s.keepsPour t.abortSteeps := by
  unfold State.abortSteeps
  extract_lets s1
  have aborted : s.keepsPour s1 := h.foldl (fun _ _ => State.keepsPour.refl.abortSteep _) _
  exact aborted.of_eq rfl

end

end State.keepsPour

end Sys2Proof.Machine
end

section
/-! SUPPORT. What stops for a Pour, and what its steps and the cores' going off leave of it (R113, R313, R314). -/

namespace Sys2Proof.Machine

/-! ## Entering a mode (R412) -/

/-- A mode is entered beside registers and indications alone. -/
theorem State.toMode_counted (s : State) (m : Mode) : Counted { s with ctl := { s.ctl with mode := m } } (s.toMode m) :=
  .trans (t := ({ s with ctl := { s.ctl with mode := m } } : State).setReg Reg.MOD_STATUS.PREV_MODE s.ctl.mode.num) rfl
    (State.memActive_counted ..)

section
variable (s : State) (m : Mode)

@[simp] theorem State.toMode_ctl : (s.toMode m).ctl = { s.ctl with mode := m } := by rw [s.toMode_counted m]

@[simp] theorem State.toMode_pour : (s.toMode m).pour = s.pour := by rw [s.toMode_counted m]

@[simp] theorem State.toMode_path : (s.toMode m).path = s.path := by rw [s.toMode_counted m]

@[simp] theorem State.toMode_mapping : (s.toMode m).mapping = s.mapping := by rw [s.toMode_counted m]

@[simp] theorem State.toMode_media : (s.toMode m).media = s.media := by rw [s.toMode_counted m]

end

theorem State.keepsInputs.toMode {s t : State} (h : s.keepsInputs t) (m : Mode) : s.keepsInputs (t.toMode m) :=
  h.trans ⟨by rw [State.toMode_ctl], by rw [State.toMode_ctl], (t.toMode_movesOnly m).reads _ (by decide) (by decide) 0 0⟩

namespace State.keepsPour

section
variable {s t u : State} (h : s.keepsPour t)
include h

/-! ## Controllers, Doze and the stacks (R136, R230, R241, R243, R437) -/

theorem drainHosts (d : Nat) : s.keepsPour (t.drainHosts d) := by
  unfold State.drainHosts
  refine h.foldl (fun u _ => ite ?_ .refl) _
  exact State.keepsPour.refl.moved (by rw [u.dramCycle_accessed]) (by rw [u.dramCycle_accessed]) (u.dramCycle_movesOnly d) (by decide)

theorem payDebt (n : Nat) : s.keepsPour (t.payDebt n) := by
  have paid : s.keepsPour (t.onPkg n (fun p => { p with debt := [] })) := h.of_eq rfl
  exact (paid.bump (by decide) ..).tally ..

theorem setPoint (d code : Nat) : s.keepsPour (t.setPoint d code) := by
  unfold State.setPoint
  extract_lets s1
  have paid : s.keepsPour s1 := ((((h.payDebt ..).payDebt ..).bump (by decide) ..).tally ..).tally ..
  have shadowed : s.keepsPour (s1.shadowTiming d) :=
    ((((paid.wr (by decide) ..).wr (by decide) ..).wr (by decide) ..).wr (by decide) ..).wr (by decide) ..
  exact ite h ((shadowed.wr (by decide) ..).wr (by decide) ..)

theorem servePoint : s.keepsPour t.servePoint := (h.setPoint ..).setPoint ..

theorem refreshEntry (n : Nat) : s.keepsPour (t.refreshEntry n) := by
  unfold State.refreshEntry
  exact ite (h.tally ..) h

theorem selfRefresh (on : Bool) : s.keepsPour (t.selfRefresh on) := by
  unfold State.selfRefresh
  refine h.foldl (fun u d => ?_) _
  extract_lets s1
  have entered : u.keepsPour s1 := ite ((State.keepsPour.refl.refreshEntry _).refreshEntry _) .refl
  exact entered.wr (by decide) ..

theorem showDoze (d : Nat) : s.keepsPour (t.showDoze d) := by
  unfold State.showDoze
  extract_lets power s1
  have shown : s.keepsPour s1 := (((h.setReg (by decide) _).setReg (by decide) _).onHead ..).onHead ..
  exact (shown.selfRefresh _).foldl (fun _ _ => State.keepsPour.refl.wr (by decide) ..) _

theorem showStacks : s.keepsPour t.showStacks := by
  unfold State.showStacks
  exact h.foldl (fun _ _ => State.keepsPour.refl.wr (by decide) ..) _

/-! ## What stops (R130, R309, R374, R434, R524) -/

theorem onRun (f : TestRun → TestRun) : s.keepsPour (t.onRun f) := by
  unfold State.onRun
  split
  · exact h
  · exact h.of_eq

theorem keepSlice (x : SliceRec) : s.keepsPour (t.keepSlice x) := by
  unfold State.keepSlice
  extract_lets d s1 s2 s3
  have judged : s.keepsPour s2 := ((((h.onRun _).wr (by decide) ..).wr (by decide) ..).wr (by decide) ..).wr (by decide) ..
  have timed : s.keepsPour s3 := ((judged.wr (by decide) ..).wr (by decide) ..).wr (by decide) ..
  exact ite (((timed.wr (by decide) ..).raise _).log ..) (ite (timed.raise _) timed)

theorem keepAnalog (r : TestRun) : s.keepsPour (t.keepAnalog r) := by
  unfold State.keepAnalog
  exact ite h (h.foldl (fun _ _ => (State.keepsPour.refl.wr (by decide) ..).wr (by decide) ..) _)

theorem endRun (state : Nat) : s.keepsPour (t.endRun state) := by
  unfold State.endRun
  split
  · exact h
  · extract_lets s1
    have shown : s.keepsPour s1 :=
      (((((h.onRun _).wr (by decide) ..).wr (by decide) ..).wr (by decide) ..).wr (by decide) ..).keepAnalog _
    exact ((shown.pageCommit _).log ..).raise _

theorem draw : s.keepsPour t.draw := h.of_eq rfl

theorem stopRun : s.keepsPour t.stopRun := by
  unfold State.stopRun
  split
  · exact h
  · exact (h.foldl (fun _ _ => State.keepsPour.refl.draw.keepSlice _) _).endRun _

theorem pauseBulk : s.keepsPour t.pauseBulk := h.of_eq rfl

theorem answerAll : s.keepsPour t.answerAll := h.of_eq rfl

theorem stopBulk : s.keepsPour t.stopBulk := by
  unfold State.stopBulk
  extract_lets live s1
  have ended : s.keepsPour s1 := h.of_eq
  exact ended.foldl (fun _ _ => State.keepsPour.refl.raise _) _

/-- Triggers of a Quiesce are dropped, and the GPFs that waited with them. -/
theorem dropTriggers : s.keepsPour t.dropTriggers := by
  unfold State.dropTriggers
  extract_lets s1
  have lost : s.keepsPour s1 := h.foldl (fun _ _ => ite ((State.keepsPour.refl.wr (by decide) ..).wr (by decide) ..) .refl) _
  clear_value s1
  exact lost.trans ⟨rfl, rfl, rfl, rfl, fun _ _ _ _ => rfl⟩

theorem pourStop : s.keepsPour t.pourStop := by
  unfold State.pourStop
  extract_lets s1 s2
  have shut : s.keepsPour s1 := h.stopRun.abortSteeps.foldl (fun _ _ => State.keepsPour.refl.shutAll _) _
  have discarded : s.keepsPour s2 := shut.foldl (fun _ _ => State.keepsPour.refl.wr (by decide) ..) _
  exact discarded.of_eq

/-! ## Links and rails (R109, R313, R442) -/

theorem dropRequests (n : Nat) : s.keepsPour (t.dropRequests n) := h.of_eq rfl

theorem linkGone (n : Nat) : s.keepsPour (t.linkGone n) := by
  obtain ⟨frame, moves, -⟩ := t.linkLost_does n
  have lost : s.keepsPour (t.linkLost n) := h.moved (by rw [frame]) (by rw [frame]) moves (by decide)
  have dropped : s.keepsPour (((t.linkLost n).dropRequests n).onHead n Head.unlink) := (lost.dropRequests n).onHead ..
  rw [State.linkGone_eq]
  exact ite (dropped.raise _) dropped

theorem linksGone : s.keepsPour t.linksGone := (h.linkGone 0).linkGone 1

theorem railsOff (l : List Nat) : s.keepsPour (t.railsOff l) := h.foldl (fun _ _ => State.keepsPour.refl.wr (by decide) ..) _

theorem dropPrograms : s.keepsPour t.dropPrograms := h.of_eq rfl

theorem coresOff : s.keepsPour t.coresOff := by
  unfold State.coresOff
  extract_lets s1
  have off : s.keepsPour s1 := (((h.railsOff _).dropTriggers).linksGone).dropPrograms
  exact off.of_eq

/-! ## The dirty set (R314 to R317) -/

theorem placeLists (l : List DirtyList) : s.keepsPour (t.placeLists l) := h.foldl (fun _ _ => State.keepsPour.refl.ringTake ..) _

theorem mergeLost (q n : Nat) (before after : Block16) : s.keepsPour (t.mergeLost q n before after) := by
  unfold State.mergeLost
  exact (((h.poisonMask ..).tally ..).event ..).raiseLog ..

theorem mergeSheet (q n : Nat) (b : Block16) (o : SheetOutcome) : s.keepsPour (t.mergeSheet q n b o).1 := by
  unfold State.mergeSheet
  extract_lets e
  split
  · exact h
  · split
    · exact h
    · split
      · exact h.mergeLost ..
      · exact h
    · split
      · exact h.mergeLost ..
      · exact h
    · exact h

theorem setNewest (q : Nat) (b : Block16) : s.keepsPour (t.setNewest q b) := by
  unfold State.setNewest
  split
  · exact h.of_eq rfl
  · exact h.of_eq

theorem completeQuire (lost : List (Nat × Fin 4)) (q : Nat) : s.keepsPour (t.completeQuire lost q) := by
  unfold State.completeQuire
  extract_lets s1 p
  have read : s.keepsPour s1 := by
    unfold s1
    split
    · exact h.blockAccess ..
    · exact h
  have merged : s.keepsPour p.1 := read.foldl_fst (fun _ _ => State.keepsPour.refl.mergeSheet ..) _ _
  exact merged.setNewest ..

/-! ## Pour stripes and what a Pour writes (R163, R315, R319) -/

theorem pourStripe (c stream : Nat) (h0 h1 : Option Half) : s.keepsPour (t.pourStripe c stream h0 h1) := by
  unfold State.pourStripe
  extract_lets s1 x
  split
  · exact h
  · extract_lets s2
    have programmed : s.keepsPour s2 := ((h.topUp ..).takeSeq _).program ..
    split
    · exact programmed.stripeDone _
    · exact programmed

theorem pourHalves (c stream : Nat) (l : List Nat) : s.keepsPour (t.pourHalves c stream l) := by
  fun_induction State.pourHalves t c stream l with
  | case1 => exact h
  | case2 => exact h.pourStripe ..
  | case3 t p q l ih => exact ih (h.pourStripe ..)

theorem writeQuires (stream : Nat) (l : List Nat) : s.keepsPour (t.writeQuires stream l) := by
  unfold State.writeQuires
  extract_lets s1
  have reached : s.keepsPour s1 := h.foldl (fun _ _ => State.keepsPour.refl.foldl (fun _ _ => State.keepsPour.refl.reachEarly _) _) _
  exact reached.foldl (fun _ _ => State.keepsPour.refl.pourHalves ..) _

theorem cleaned (l : List Nat) : s.keepsPour (t.cleaned l) := by
  unfold State.cleaned
  extract_lets _ s1
  have clean : s.keepsPour s1 := h.of_eq
  exact clean.foldl (fun _ _ => State.keepsPour.refl.freeStaged _) _

theorem programsOver : s.keepsPour t.programsOver := h.foldl (fun _ _ => State.keepsPour.refl.stripeDone _) _

end

end State.keepsPour

end Sys2Proof.Machine
end

section
/-! SUPPORT. What the beginning of a Pour shows, and what a Halt and a power-down leave of the inputs (R236, R313, R314, R318, R326, R344,
R413). -/

namespace Sys2Proof.Machine

/-! ## The inputs (R308, R313, R413) -/

namespace State.keepsInputs

section
variable {s t u : State} (h : s.keepsInputs t)
include h

/-- A change of the registers, of the mode or of anything else that the inputs do not see. -/
theorem of_eq (hp : u.ctl.p12 = t.ctl.p12) (ha : u.ctl.aux = t.ctl.aux) (hr : u.regs = t.regs) : s.keepsInputs u :=
  h.trans ⟨hp, ha, State.rd_congr hr ..⟩

theorem wr {f : Field} (hk : f.kinds < 16) (hn : f.num ≠ Reg.PIN_LEVEL.PWRDIS.num) (d i v : Nat) : s.keepsInputs (t.wr f d i v) :=
  h.trans ⟨rfl, rfl, t.rd_wr_ne (by decide) hk hn.symm ..⟩

theorem thenPour (hu : t.keepsPour u) : s.keepsInputs u := h.trans hu.inputs

theorem ite {c : Prop} [Decidable c] (hu : s.keepsInputs u) : s.keepsInputs (if c then t else u) :=
  iteInduction (fun _ => h) (fun _ => hu)

theorem beginStart : s.keepsInputs t.beginStart := by
  unfold State.beginStart
  exact (h.toMode .m2).of_eq rfl rfl rfl

/-- The cores go off whatever the inputs are, and a start that was asked for begins. -/
theorem toStandby : s.keepsInputs t.toStandby := by
  unfold State.toStandby
  extract_lets s0 stays s1 _ s2 s3
  have off : t.keepsPour s0 := .ite (State.keepsPour.refl.coresOff) (State.keepsPour.refl.coresOff.railsOff _)
  have stored : s0.keepsPour s0.storeOff := .bump (t := { s0 with qst := { s0.qst with queue := [] } }) (.of_eq .refl) (by decide) ..
  have entered : s.keepsInputs s1 := toMode (ite (h.thenPour off) ((h.thenPour off).thenPour stored)) _
  have standby : s.keepsInputs s2 := entered.of_eq rfl rfl rfl
  have asked : s.keepsInputs s3 := standby.wr (by decide) (by decide) ..
  exact ite (ite (asked.wr (by decide) (by decide) ..).beginStart asked) standby

theorem halt (cause : Nat) (l : HaltLoc) : s.keepsInputs (t.halt cause l) := by
  unfold State.halt
  extract_lets s0 s1 _ _ _ s2 s3 s4 s5 s6 _ s7
  have awake : t.keepsPour s0 := .ite (State.keepsPour.refl.showDoze _) .refl
  have stopped : t.keepsPour s1 := awake.stopRun.answerAll.abortSteeps.dropTriggers.stopBulk
  clear_value s1
  have marked : s.keepsInputs s2 := (h.thenPour stopped).of_eq rfl rfl rfl
  clear_value s2
  have located : s2.keepsPour s4 :=
    (((((((State.keepsPour.refl.setReg (by decide) _).setReg (by decide) _).setReg (by decide) _).setReg (by decide) _).setReg
      (by decide) _).setReg (by decide) _).setReg (by decide) _)
  have entered : s.keepsInputs s5 := (marked.thenPour ((located.wr (by decide) ..).wr (by decide) ..)).toMode _
  clear_value s5
  have logged : s5.keepsPour s7 := (State.keepsPour.refl.log ..).of_eq
  exact entered.thenPour (((logged.pageCommit _).event ..).raise _)

theorem pourOver : s.keepsInputs t.pourOver := by
  unfold State.pourOver
  extract_lets s1 s2
  have paid : t.keepsPour s1 := State.keepsPour.refl.foldl (fun _ _ => State.keepsPour.refl.payDebt _) _
  have ended : s.keepsInputs s2 :=
    (((h.thenPour paid).wr (by decide) (by decide) ..).wr (by decide) (by decide) ..).wr (by decide) (by decide) ..
  clear_value s2
  exact (ended.of_eq rfl rfl rfl : s.keepsInputs { s2 with
    pour := { s2.pour with running := false, lists := [], poured := [] }, pourFaults := [] }).wr (by decide) (by decide) ..

/-- A module whose input is gone stays without it. -/
theorem inputGone (hp : t.ctl.p12 = false) : s.keepsInputs t.inputGone := by
  unfold State.inputGone
  extract_lets _ _ s1
  have off := h.thenPour (State.keepsPour.refl.railsOff (if t.ctl.mode = .m1 then dramRails else []))
  have gone : s.keepsInputs s1 := ⟨hp.symm.trans h.p12, h.aux, off.level⟩
  split
  · exact gone
  · exact gone.toStandby
  · exact ite gone gone.toStandby

theorem haltWithoutInput : s.keepsInputs t.haltWithoutInput := by
  unfold State.haltWithoutInput
  exact iteInduction (fun hc => h.inputGone hc.2) (fun _ => h)

end

end State.keepsInputs

/-! ## A Pour that runs (R314, R318) -/

/-- A Pour runs in t: its cause and its number show, the DRAM is its own, and its record stands at STATE 1. -/
structure State.poursAs (t : State) (cause num : Nat) : Prop where
  mode : t.ctl.mode = .m8
  running : t.pour.running = true
  shown : t.reg Reg.POUR_STATUS.CAUSE = cause
  count : t.reg Reg.POUR_STATUS.COUNT = num
  last : t.reg Reg.POUR_STATUS.LAST_STATE = 1
  exclusive : t.rd Reg.DMC_MODE.POUR_EXCL 0 0 = 1 ∧ t.rd Reg.DMC_MODE.POUR_EXCL 1 0 = 1
  record : ∃ r, t.pour.record = some r ∧ r.state = 1 ∧ r.cause = cause

theorem State.keepsPour.poursAs {s t : State} {cause num : Nat} (h : s.keepsPour t) (hs : s.poursAs cause num) : t.poursAs cause num where
  mode := h.mode.trans hs.mode
  running := h.running.trans hs.running
  shown := (h.shown _ (by decide) 0 0).trans hs.shown
  count := (h.shown _ (by decide) 0 0).trans hs.count
  last := (h.shown _ (by decide) 0 0).trans hs.last
  exclusive := ⟨(h.shown _ (by decide) 0 0).trans hs.exclusive.1, (h.shown _ (by decide) 1 0).trans hs.exclusive.2⟩
  record := by rw [h.record]; exact hs.record

/-- The registers that a Pour's record moves beside `bookFields`. -/
def recordFields : List Field := reamFields ++ [Reg.POUR_STATUS.LAST_STATE, Reg.POUR_LAST.DIRTY_BLOCKS]

section
variable (s : State) (r : PourRec)

theorem State.writeRecord_movesOnly : s.movesOnly (s.writeRecord r) recordFields := by
  unfold State.writeRecord
  extract_lets s1 _ s2
  have written : s.movesOnly s1 recordFields := (s.pageWrite_movesOnly ..).mono (by simp [recordFields])
  clear_value s1
  refine .setReg (.setReg (t := s2) ?_ (by decide) (by decide)) (by decide) (by decide)
  exact written.of_regs rfl

@[simp] theorem State.writeRecord_ctl : (s.writeRecord r).ctl = s.ctl := State.pageCommit_ctl ..

@[simp] theorem State.writeRecord_pour : (s.writeRecord r).pour = { s.pour with record := some r } :=
  congrArg (fun p : Pour => { p with record := some r }) (State.pageCommit_pour ..)

theorem State.writeRecord_last : (s.writeRecord r).reg Reg.POUR_STATUS.LAST_STATE = r.state % 4 := by
  unfold State.writeRecord
  exact (State.rd_wr_ne _ (by decide) (by decide) (by decide) ..).trans (State.rd_wr_self ..)

end

/-- Steps 1 and 2 of a Pour: what runs has stopped, the mode is entered, and the DRAM is the Pour's own (R236, R314). -/
def State.pourEntered (s : State) : State :=
  (((s.pourStop.pauseBulk).toMode .m8).showStacks.wr Reg.DMC_MODE.POUR_EXCL 0 0 1).wr Reg.DMC_MODE.POUR_EXCL 1 0 1

theorem State.pourEntered_keepsInputs (s : State) : s.keepsInputs s.pourEntered := by
  have entered := (State.keepsPour.refl.pourStop.pauseBulk.inputs (s := s)).toMode .m8
  exact ((entered.thenPour State.keepsPour.refl.showStacks).wr (by decide) (by decide) ..).wr (by decide) (by decide) ..

theorem State.pourEntered_mode (s : State) : s.pourEntered.ctl.mode = .m8 := by
  have entered : (s.pourStop.pauseBulk.toMode .m8).ctl.mode = .m8 := State.toMode_mode ..
  have shown := State.keepsPour.refl.showStacks (t := s.pourStop.pauseBulk.toMode .m8)
  rw [State.pourEntered, State.wr_ctl, State.wr_ctl, shown.mode, entered]

theorem State.pourEntered_exclusive (s : State) :
    s.pourEntered.rd Reg.DMC_MODE.POUR_EXCL 0 0 = 1 ∧ s.pourEntered.rd Reg.DMC_MODE.POUR_EXCL 1 0 = 1 :=
  ⟨(State.rd_wr_die _ _ rfl _ _ _ (by decide)).trans (State.rd_wr_self ..), State.rd_wr_self ..⟩

/-- A Pour's number and cause, written in step 3, stand with its record behind the dirty lists (R314, R317, R318). -/
theorem State.poursAs_recorded {s t u : State} {cause : PourCause} {num : Nat} {r : PourRec} (mode : s.ctl.mode = .m8)
    (exclusive : s.rd Reg.DMC_MODE.POUR_EXCL 0 0 = 1 ∧ s.rd Reg.DMC_MODE.POUR_EXCL 1 0 = 1)
    (numbered : (((s.setReg Reg.POUR_STATUS.COUNT num).setReg Reg.POUR_STATUS.CAUSE cause.code).setReg Reg.POUR_STATUS.STEP 5).keepsPour t)
    (placed : (t.writeRecord r).keepsPour u) (hr : r.state = 1) (hc : r.cause = cause.code) (lists : List DirtyList) :
    ({ u with pour := { u.pour with running := true, lists := lists, poured := [], hold := false }, pourFaults := [] } : State).poursAs
      cause.code (num % 4294967296) := by
  have kept : ∀ f ∈ [Reg.POUR_STATUS.CAUSE, Reg.POUR_STATUS.COUNT, Reg.DMC_MODE.POUR_EXCL], f ∈ pourShown ∧ f.kinds < 16 ∧
      (recordFields ++ bookFields).all (fun g => g.num != f.num) = true := by decide
  have reads : ∀ f ∈ [Reg.POUR_STATUS.CAUSE, Reg.POUR_STATUS.COUNT, Reg.DMC_MODE.POUR_EXCL], ∀ d i, u.rd f d i =
      (((s.setReg Reg.POUR_STATUS.COUNT num).setReg Reg.POUR_STATUS.CAUSE cause.code).setReg Reg.POUR_STATUS.STEP 5).rd f d i := by
    intro f hf d i
    obtain ⟨shown, kinds, beside⟩ := kept f hf
    rw [placed.shown f shown, (t.writeRecord_movesOnly r).reads f kinds beside, numbered.shown f shown]
  have stands : ∀ d i, u.rd Reg.DMC_MODE.POUR_EXCL d i = s.rd Reg.DMC_MODE.POUR_EXCL d i := by
    intro d i
    rw [reads _ (by decide)]
    exact (State.movesOnly.setReg (l := [Reg.POUR_STATUS.COUNT, Reg.POUR_STATUS.CAUSE, Reg.POUR_STATUS.STEP]) (.setReg (.setReg .refl
      (by decide) (by decide)) (by decide) (by decide)) (by decide) (by decide)).reads _ (by decide) (by decide) d i
  refine ⟨?_, rfl, ?_, ?_, ?_, ⟨(stands 0 0).trans exclusive.1, (stands 1 0).trans exclusive.2⟩, ⟨r, ?_, hr, hc⟩⟩
  · refine placed.mode.trans ?_
    rw [State.writeRecord_ctl, numbered.mode]
    exact mode
  · refine (reads _ (by decide) 0 0).trans ((State.rd_wr_ne _ (by decide) (by decide) (by decide) ..).trans ?_)
    rw [State.setReg, State.rd_wr_self]
    cases cause <;> rfl
  · refine (reads _ (by decide) 0 0).trans ((State.rd_wr_ne _ (by decide) (by decide) (by decide) ..).trans ?_)
    exact (State.rd_wr_ne _ (by decide) (by decide) (by decide) ..).trans (State.rd_wr_self ..)
  · refine (placed.shown _ (by decide) 0 0).trans ?_
    exact (t.writeRecord_last r).trans (by rw [hr])
  · refine placed.record.trans ?_
    rw [State.writeRecord_pour]

/-- Whatever a Pour stops, completes and writes as it begins, the inputs stay, and without a failed tag it runs (R314, R326). -/
theorem State.pourBegin_does (s : State) (cause : PourCause) (inputs : PourInputs) :
    s.keepsInputs (s.pourBegin cause inputs) ∧
      (inputs.tagBad = false →
        (s.pourBegin cause inputs).poursAs cause.code ((s.reg Reg.POUR_STATUS.COUNT + 1) % 4294967296)) := by
  unfold State.pourBegin
  extract_lets num pulled s0 s0' s1 s2 qs s3 at' r s4 _ s5 linked s6
  have drained : s.keepsPour s0' :=
    ((State.keepsPour.ite (State.keepsPour.refl.bump (by decide) ..) .refl).drainHosts 0).drainHosts 1
  have entered : s0'.keepsInputs s1 := s0'.pourEntered_keepsInputs
  have mode : s1.ctl.mode = .m8 := s0'.pourEntered_mode
  have exclusive := s0'.pourEntered_exclusive
  change s1.rd _ 0 0 = 1 ∧ s1.rd _ 1 0 = 1 at exclusive
  have awake : s1.keepsPour s2 := .ite (State.keepsPour.refl.showDoze 0).servePoint (State.keepsPour.refl.showDoze 0)
  have numbered : (((s2.setReg Reg.POUR_STATUS.COUNT num).setReg Reg.POUR_STATUS.CAUSE cause.code).setReg
    Reg.POUR_STATUS.STEP 5).keepsPour s3 := State.keepsPour.refl.programJournal
  have placed : (s3.writeRecord r).keepsPour s4 := State.keepsPour.refl.placeLists _
  have kept : s.keepsInputs s4 := by
    have shown : s.keepsInputs s2 := (drained.inputs.trans entered).thenPour awake
    have recorded : s3.keepsInputs (s3.writeRecord r) :=
      ⟨by rw [State.writeRecord_ctl], by rw [State.writeRecord_ctl], (s3.writeRecord_movesOnly r).reads _ (by decide) (by decide) 0 0⟩
    exact ((((shown.wr (by decide) (by decide) ..).wr (by decide) (by decide) ..).wr (by decide)
      (by decide) ..).thenPour numbered).trans (recorded.thenPour placed)
  have runs : s5.poursAs cause.code (num % 4294967296) := State.poursAs_recorded (awake.mode.trans mode)
    ⟨(awake.shown _ (by decide) 0 0).trans exclusive.1, (awake.shown _ (by decide) 1 0).trans exclusive.2⟩ numbered placed rfl rfl _
  clear_value s4 s3 s2 s1
  have inputs5 : s.keepsInputs s5 := kept.of_eq rfl rfl rfl
  have shut : s5.keepsPour s6 := .raise (.ite .refl State.keepsPour.refl.linksGone) 552
  clear_value s5 s6
  constructor
  · split
    · exact ((inputs5.thenPour shut).halt ..).pourOver
    · exact (inputs5.thenPour shut).thenPour (State.keepsPour.refl.foldl (fun _ _ => State.keepsPour.refl.completeQuire ..) _)
  · intro hb
    rw [hb]
    exact (shut.foldl (fun _ _ => State.keepsPour.refl.completeQuire ..) _).poursAs runs

end Sys2Proof.Machine
end

section
/-! PROOFS. Pours begin from their causes (O24; R236, R308, R313, R314, R318, R324, R326). -/

namespace Sys2Proof.Machine

/-! ## The links that go with the PHYs (R109, R313) -/

section
variable (s : State)

theorem State.linkGone_down (h : Nat) : ((s.linkGone h).heads.get h).linkUp = false := by
  have down : ((((s.linkLost h).dropRequests h).onHead h Head.unlink).heads.get h).linkUp = false := by
    rw [State.onHead_heads_self]
    rfl
  rw [State.linkGone_eq]
  split
  · rw [State.raiseH_sameHeads _ h 1 h]
    exact down
  · exact down

/-- The other head's link stands as it stood. -/
theorem State.linkGone_linkUp (h : Fin 2) : ((s.linkGone h).heads.get (1 - h.val)).linkUp = (s.heads.get (1 - h.val)).linkUp := by
  obtain ⟨-, -, keeps⟩ := s.linkLost_does h
  rw [State.linkGone_eq]
  generalize s.linkLost h = a at *
  have beside : (((a.dropRequests h).onHead h Head.unlink).heads.get (1 - h.val)).linkUp = (s.heads.get (1 - h.val)).linkUp := by
    rw [State.onHead_other _ h]
    exact keeps.linkUp _
  split
  · exact ((State.raiseH_sameHeads _ h 1).keepsUse.linkUp _).trans beside
  · exact beside

/-- Every link is down, and the ways and the map stand. -/
theorem State.physOff_does : (s.physOff.heads.get 0).linkUp = false ∧ (s.physOff.heads.get 1).linkUp = false ∧
    s.physOff.path.ways = s.path.ways ∧ s.physOff.mapping = s.mapping ∧ s.physOff.ctl = s.ctl := by
  obtain ⟨path0, mapping0, -, ctl0, -, -⟩ := s.linkGone_does 0
  obtain ⟨path1, mapping1, -, ctl1, -, -⟩ := (s.linkGone 0).linkGone_does 1
  refine ⟨((s.linkGone 0).linkGone_linkUp 1).trans (s.linkGone_down 0), State.linkGone_down .., ?_, mapping1.trans mapping0,
    ctl1.trans ctl0⟩
  calc ((s.linkGone 0).linkGone 1).path.ways = (s.linkGone 0).path.ways := by rw [path1]; rfl
    _ = s.path.ways := by rw [path0]; rfl

end

/-! ## The causes -/

section
variable (s : State)

theorem State.cancelRemoval_keepsPour : s.keepsPour s.cancelRemoval := by
  unfold State.cancelRemoval
  exact .ite .refl (((State.keepsPour.refl.setReg (by decide) _).event ..).raise _)

/-- The comparator counts its trip where the module runs, and the input is gone (R308). -/
theorem State.inputLost_does : s.inputLost.ctl = { s.ctl with p12 := false } ∧ s.inputLost.pour = s.pour ∧ s.inputLost.path = s.path ∧
    s.inputLost.mapping = s.mapping ∧ s.inputLost.reg Reg.POUR_STATUS.CAUSE = s.reg Reg.POUR_STATUS.CAUSE := by
  unfold State.inputLost
  split
  · exact ⟨rfl, rfl, rfl, rfl, rfl⟩
  · exact ⟨rfl, rfl, rfl, rfl, s.rd_wr_ne (by decide) (by decide) (by decide) ..⟩

/-- A Pour from a running mode once its input is gone (R308, R313). -/
theorem exec_p12vLoss_running (inputs : PourInputs) (hp : s.ctl.p12 = true) (hm : s.ctl.mode ∈ [.m2, .m3, .m4, .m5, .m6, .m7]) :
    exec (.p12vLoss inputs) s = .next (s.inputLost.pourBegin .loss inputs).haltWithoutInput := by
  change execP12vLoss inputs s = _
  unfold execP12vLoss
  generalize s.ctl.mode = m at hm ⊢
  rw [hp]
  fin_cases hm <;> rfl

/-- A GPF's Pour goes on as that of a loss, with every link down (R326). -/
theorem exec_p12vLoss_gpf (inputs : PourInputs) (hp : s.ctl.p12 = true) (hm : s.ctl.mode = .m8) (hc : s.reg Reg.POUR_STATUS.CAUSE = 3) :
    ∃ t, exec (.p12vLoss inputs) s = .next t ∧ t.ctl.p12 = false ∧ t.ctl.mode = .m8 ∧ t.reg Reg.POUR_STATUS.CAUSE = 1 ∧
      (t.heads.get 0).linkUp = false ∧ (t.heads.get 1).linkUp = false ∧ t.path.ways = s.path.ways ∧ t.mapping.map = s.mapping.map := by
  obtain ⟨ctl, -, path, mapping, -⟩ := s.inputLost_does
  let u := if s.reg Reg.PIN_REMOVAL.STATE = 3 then s.inputLost.bump Reg.PIN_COUNT.EARLY_PULLS 0 0 1 else s.inputLost
  have pulled : u.ctl = { s.ctl with p12 := false } ∧ u.path = s.path ∧ u.mapping = s.mapping :=
    iteInduction (motive := fun v : State => v.ctl = { s.ctl with p12 := false } ∧ v.path = s.path ∧ v.mapping = s.mapping)
      (fun _ => ⟨ctl, path, mapping⟩) (fun _ => ⟨ctl, path, mapping⟩)
  let v := u.physOff.setReg Reg.POUR_STATUS.CAUSE 1
  have runs : exec (.p12vLoss inputs) s = .next (match v.pour.record with
      | some r => { v with pour := { v.pour with record := some { r with cause := 1 } } }
      | none => v) := by
    change execP12vLoss inputs s = _
    unfold execP12vLoss
    simp only [hp, hm, hc, Bool.not_true, Bool.false_eq_true, if_false, if_true]
    rfl
  obtain ⟨ctl', path', mapping'⟩ := pulled
  obtain ⟨down0, down1, ways, map, kept⟩ := u.physOff_does
  have cause : v.reg Reg.POUR_STATUS.CAUSE = 1 := State.rd_wr_self ..
  have lost : v.ctl = { s.ctl with p12 := false } := kept.trans ctl'
  have held : v.path.ways = s.path.ways ∧ v.mapping.map = s.mapping.map := ⟨ways.trans (by rw [path']), by rw [← mapping', ← map]; rfl⟩
  have down : (v.heads.get 0).linkUp = false ∧ (v.heads.get 1).linkUp = false := ⟨down0, down1⟩
  clear_value v
  refine ⟨_, runs, ?_⟩
  split
  · exact ⟨by rw [lost], by rw [lost, hm], cause, down.1, down.2, held.1, held.2⟩
  · exact ⟨by rw [lost], by rw [lost, hm], cause, down.1, down.2, held.1, held.2⟩

/-- PWRDIS pours from a running mode, and a Halt met in that Pour ends in standby (R313, R413). -/
theorem exec_pwrdisAssert_running (inputs : PourInputs) (hp : s.reg Reg.PIN_LEVEL.PWRDIS ≠ 1)
    (hm : s.ctl.mode ∈ [.m2, .m3, .m4, .m5, .m6, .m7]) :
    exec (.pwrdisAssert inputs) s = .next (
      let s2 := ((s.setReg Reg.PIN_LEVEL.PWRDIS 1).raise 631).cancelRemoval.pourBegin .pwrdis inputs
      if s2.ctl.mode = .m10 then ({ s2 with ctl := { s2.ctl with retained := false } }).toStandby else s2) := by
  change execPwrdisAssert inputs s = _
  unfold execPwrdisAssert
  rw [if_neg hp]
  generalize s.ctl.mode = m at hm ⊢
  fin_cases hm <;> rfl

theorem exec_gpfPhase2 {head : Fin 2} (inputs : PourInputs) (hh : s.hasHead head = true) (hl : s.rd Reg.LNK_STATUS.CXL_MEM head 0 ≠ 0) :
    (s.ctl.mode ∈ [.m5, .m6] → exec (.gpfPhase2 head inputs) s =
      .next (({ s with pour := { s.pour with gpf := s.pour.gpf ++ [head.val] } } : State).pourBegin .gpf inputs)) ∧
    (s.ctl.mode ∈ [.m2, .m3, .m4, .m7, .m8] → exec (.gpfPhase2 head inputs) s =
      .next { s with pour := { s.pour with gpf := s.pour.gpf ++ [head.val] } }) := by
  have linked : ¬(!s.hasHead head || s.rd Reg.LNK_STATUS.CXL_MEM head 0 == 0) = true := by simp [hh, hl]
  change (_ → execGpfPhase2 head inputs s = _) ∧ (_ → execGpfPhase2 head inputs s = _)
  unfold execGpfPhase2
  rw [if_neg linked]
  generalize s.ctl.mode = m
  constructor
  · intro hm
    fin_cases hm <;> rfl
  · intro hm
    fin_cases hm <;> rfl

end

/-- Settles O24: a Pour's beginning writes its number, cause and record once the mode is entered, and each cause leads to it. -/
theorem poursBegin : Obligations.PoursBegin := by
  unfold Obligations.PoursBegin
  refine ⟨fun s cause inputs hb => ?_, fun s inputs hp hm => ?_, fun s inputs hp hm hc => exec_p12vLoss_gpf s inputs hp hm hc,
    fun s inputs hp hm => ?_, fun s inputs hp hm => ?_, fun s head inputs hh hl => exec_gpfPhase2 s inputs hh hl⟩
  · obtain ⟨kept, begins⟩ := s.pourBegin_does cause inputs
    have runs := begins hb
    exact ⟨_, rfl, runs.mode, runs.running, runs.shown, runs.count, runs.last, runs.exclusive.1, runs.exclusive.2, runs.record, kept.p12,
      kept.aux⟩
  · obtain ⟨ctl, -⟩ := s.inputLost_does
    obtain ⟨kept, begins⟩ := s.inputLost.pourBegin_does .loss inputs
    refine ⟨_, exec_p12vLoss_running s inputs hp hm, kept.haltWithoutInput.p12.trans (by rw [ctl]), fun hb => ?_⟩
    have runs := begins hb
    have stays : ¬((s.inputLost.pourBegin .loss inputs).ctl.mode = .m10 ∧ (s.inputLost.pourBegin .loss inputs).ctl.p12 = false) := by
      simp [runs.mode]
    rw [State.haltWithoutInput, if_neg stays]
    exact ⟨runs.mode, runs.shown⟩
  · change execP12vLoss inputs s = _
    unfold execP12vLoss
    generalize s.ctl.mode = m at hm ⊢
    rw [hp]
    fin_cases hm <;> rfl
  · have raised : (s.setReg Reg.PIN_LEVEL.PWRDIS 1).keepsPour ((s.setReg Reg.PIN_LEVEL.PWRDIS 1).raise 631).cancelRemoval :=
      (State.keepsPour.refl.raise _).trans (State.cancelRemoval_keepsPour _)
    rw [exec_pwrdisAssert_running s inputs hp hm]
    extract_lets s2
    obtain ⟨kept, begins⟩ := ((s.setReg Reg.PIN_LEVEL.PWRDIS 1).raise 631).cancelRemoval.pourBegin_does .pwrdis inputs
    have poured : (s.setReg Reg.PIN_LEVEL.PWRDIS 1).keepsInputs s2 := raised.inputs.trans kept
    have ended := (poured.of_eq (u := { s2 with ctl := { s2.ctl with retained := false } }) rfl rfl rfl).toStandby.ite poured
      (c := s2.ctl.mode = .m10)
    refine ⟨_, rfl, ended.level.trans (State.rd_wr_self ..), fun hb => ?_⟩
    have runs : s2.poursAs 2 _ := begins hb
    rw [if_neg (by simp [runs.mode])]
    exact ⟨runs.mode, runs.shown⟩

end Sys2Proof.Machine
end

section
/-! SUPPORT. What a power-down keeps of the controller and of the hold, and the mode it ends in (R413, R416). -/

namespace Sys2Proof.Machine

section
variable (s : State)

@[simp] theorem State.railsOff_ctl (l : List Nat) : (s.railsOff l).ctl = s.ctl := by
  unfold State.railsOff
  refine foldl_related (R := fun a b : State => b.ctl = a.ctl) (fun _ => rfl) (fun h1 h2 => h2.trans h1) (fun t r => ?_) l s
  rfl

/-- A Quiesce's triggers are dropped, and of what is known of it nothing else. -/
theorem State.dropTriggers_ctl : s.dropTriggers.ctl = { s.ctl with quiesceQueue := [] } := by
  unfold State.dropTriggers
  extract_lets s1
  have lost : s1.ctl = s.ctl := by
    refine foldl_related (R := fun a b : State => b.ctl = a.ctl) (fun _ => rfl) (fun h1 h2 => h2.trans h1) (fun t n => ?_) _ s
    split <;> rfl
  exact congrArg (fun c : Control => { c with quiesceQueue := [] }) lost

@[simp] theorem State.linksGone_ctl : s.linksGone.ctl = s.ctl := by
  obtain ⟨-, -, -, ctl0, -, -⟩ := s.linkGone_does 0
  obtain ⟨-, -, -, ctl1, -, -⟩ := (s.linkGone 0).linkGone_does 1
  exact ctl1.trans ctl0

@[simp] theorem State.dropPrograms_ctl : s.dropPrograms.ctl = s.ctl := rfl

theorem State.coresOff_ctl : s.coresOff.ctl = { s.ctl with quiesceQueue := [], quiesce := none, resetHold := false } := by
  unfold State.coresOff
  extract_lets s1
  have off : s1.ctl = { s.ctl with quiesceQueue := [] } := by
    simp only [s1, State.dropPrograms_ctl, State.linksGone_ctl, State.dropTriggers_ctl, State.railsOff_ctl]
  exact congrArg (fun c : Control => { c with quiesce := none, quiesceQueue := [], resetHold := false }) off

/-- A start that begins keeps what is known of retention, of a hold and of the stored data, and enters M2 (R413, R414). -/
theorem State.beginStart_does : s.beginStart.ctl.mode = .m2 ∧ s.beginStart.ctl.p12 = s.ctl.p12 ∧
    s.beginStart.ctl.retained = s.ctl.retained ∧ s.beginStart.pour = s.pour ∧ s.beginStart.path = s.path ∧
    s.beginStart.mapping = s.mapping ∧ s.beginStart.media = s.media := by
  unfold State.beginStart
  exact ⟨(congrArg Control.mode (s.toMode_ctl .m2) :), (congrArg Control.p12 (s.toMode_ctl .m2) :),
    (congrArg Control.retained (s.toMode_ctl .m2) :), s.toMode_pour .m2, s.toMode_path .m2, s.toMode_mapping .m2, s.toMode_media .m2⟩

/-- A power-down ends in M1, or in M0 without a supply or with a faulted rail; only a held on request leads on to M2 (R413, R416,
R445). -/
theorem State.toStandby_does : s.toStandby.ctl.retained = s.ctl.retained ∧ s.toStandby.pour.hold = s.pour.hold ∧
    (s.toStandby.ctl.mode = (if s.ctl.aux && !s.ctl.afterPourOff then .m1 else .m0) ∨
      (s.ctl.aux && !s.ctl.afterPourOff) = true ∧ s.reg Reg.MOD_REQUEST.ON_PENDING = 1 ∧ s.toStandby.ctl.mode = .m2) := by
  unfold State.toStandby
  extract_lets s0 stays s1 _ s2 s3
  have off : s0.ctl.retained = s.ctl.retained ∧ s0.pour.hold = s.pour.hold := by
    have kept : s.keepsPour s0 := .ite State.keepsPour.refl.coresOff (State.keepsPour.refl.coresOff.railsOff _)
    have cores : s0.ctl = s.coresOff.ctl := by
      unfold s0
      split
      · rfl
      · exact State.railsOff_ctl ..
    exact ⟨by rw [cores, State.coresOff_ctl], kept.hold⟩
  have down : (if stays then s0 else s0.storeOff).ctl.retained = s.ctl.retained ∧
      (if stays then s0 else s0.storeOff).pour.hold = s.pour.hold := by
    split
    · exact off
    · exact off
  have mode : s2.ctl.mode = if stays then .m1 else .m0 := (congrArg Control.mode (State.toMode_ctl ..) :)
  have retained : s2.ctl.retained = s.ctl.retained := (congrArg Control.retained (State.toMode_ctl ..)).trans down.1
  have hold : s2.pour.hold = s.pour.hold := (congrArg Pour.hold (State.toMode_pour ..)).trans down.2
  split
  case isFalse => exact ⟨retained, hold, .inl mode⟩
  case isTrue hc =>
    obtain ⟨stood, pending⟩ := hc
    split
    · obtain ⟨started, -, kept, pour, -⟩ := (s3.setReg Reg.MOD_REQUEST.OFF_STANDING 0).beginStart_does
      refine ⟨kept.trans retained, (congrArg Pour.hold pour).trans hold, .inr ⟨?_, pending, started⟩⟩
      by_contra gone
      rw [mode, if_neg gone] at stood
      cases stood
    · exact ⟨retained, hold, .inl mode⟩

end

end Sys2Proof.Machine
end

section
/-! PROOFS. The inputs return and go (O25; R313, R320, R413, R416, R423). -/

namespace Sys2Proof.Machine

section
variable (s : State)

/-- The input is back: its level alone. -/
def State.inputBack (s : State) : State := { s with ctl := { s.ctl with p12 := true } }

/-- The return of the input, by mode (R308, R320, R413, R416, R423). -/
theorem exec_p12vReturn (hp : s.ctl.p12 = false) (h0 : s.ctl.mode ≠ .m0) : exec .p12vReturn s = .next (
    if s.ctl.mode = .m8 then
      if s.pour.hold then ({ s with
        pour := { s.pour with hold := false },
        ctl := { s.ctl with p12 := true, retained := true, auxKept := s.ctl.aux } } : State).beginStart
      else s.inputBack
    else if s.ctl.mode = .m9 then
      ((s.inputBack.setReg Reg.MOD_LADDER.WARM_FAILS 0).setReg Reg.MOD_LADDER.COLD_FAILS 0).beginCold
    else s.inputBack.setReg Reg.MOD_REQUEST.OFF_STANDING 0) := by
  change execP12vReturn s = _
  unfold execP12vReturn State.inputBack
  rw [hp]
  generalize s.ctl.mode = m at h0 ⊢
  cases m
  case m0 => exact absurd rfl h0
  all_goals rfl

theorem State.beginCold_does : s.beginCold.ctl.mode = .m2 ∧ s.beginCold.ctl.due = 1 ∧ s.beginCold.ctl.p12 = s.ctl.p12 ∧
    s.beginCold.path = s.path ∧ s.beginCold.mapping = s.mapping ∧ s.beginCold.media = s.media ∧ s.movesOnly s.beginCold haltFields := by
  unfold State.beginCold
  exact ⟨(congrArg Control.mode (s.toMode_ctl .m2) :), rfl, (congrArg Control.p12 (s.toMode_ctl .m2) :), s.toMode_path .m2,
    s.toMode_mapping .m2, s.toMode_media .m2, (s.toMode_movesOnly .m2).of_regs rfl⟩

end

/-- The module without either input, and what that ends (R413). -/
def State.inputsGone (s : State) : State :=
  { s with ctl := { s.ctl with p12 := false, aux := false, auxKept := false, retained := false } }

/-- A power-down without either input ends in M0 (R413). -/
theorem State.inputsGone_toStandby (s : State) : s.inputsGone.toStandby.ctl.p12 = false ∧ s.inputsGone.toStandby.ctl.aux = false ∧
    s.inputsGone.toStandby.ctl.retained = false ∧ s.inputsGone.toStandby.ctl.mode = .m0 := by
  have kept := (State.keepsInputs.refl (s := s.inputsGone)).toStandby
  obtain ⟨retained, -, ended | ⟨supplied, -⟩⟩ := s.inputsGone.toStandby_does
  · exact ⟨kept.p12, kept.aux, retained, ended⟩
  · cases supplied

theorem exec_powerOff (s : State) : exec .powerOff s = .next (match s.ctl.mode with
    | .m0 => s.inputsGone
    | .m1 | .m9 | .m10 | .m11 => s.inputsGone.toStandby
    | .m8 => s.inputsGone
    | _ => s) := rfl

/-- A Pour goes on without the inputs, M0 stays, and every other mode at rest powers down (R413). -/
theorem exec_powerOff_rests (s : State) : (s.ctl.mode ∈ [.m0, .m8] → exec .powerOff s = .next s.inputsGone) ∧
    (s.ctl.mode ∈ [.m1, .m9, .m10, .m11] → exec .powerOff s = .next s.inputsGone.toStandby) := by
  rw [exec_powerOff]
  generalize s.ctl.mode = m
  constructor
  · intro hm
    fin_cases hm <;> rfl
  · intro hm
    fin_cases hm <;> rfl

/-- Settles O25: by the module's mode, and without either input the power-down ends in M0. -/
theorem inputsReturnAndGo : Obligations.InputsReturnAndGo := by
  unfold Obligations.InputsReturnAndGo
  refine ⟨fun s hp h0 => ⟨_, exec_p12vReturn s hp h0, ?_⟩, fun s => ⟨_, rfl, State.rd_wr_self .., rfl, ?_⟩,
    fun s hm => ?_⟩
  · split
    case isTrue =>
      split
      · generalize hu : ({ s with
          pour := { s.pour with hold := false },
          ctl := { s.ctl with p12 := true, retained := true, auxKept := s.ctl.aux } } : State) = u
        have held : u.ctl.p12 = true ∧ u.ctl.retained = true ∧ u.pour.hold = false ∧ u.path = s.path ∧ u.mapping = s.mapping ∧
            u.media = s.media := by
          subst hu
          exact ⟨rfl, rfl, rfl, rfl, rfl, rfl⟩
        obtain ⟨p12, retained, hold, path, mapping, media⟩ := held
        obtain ⟨mode, back, kept, pour, ways, map, blocks⟩ := u.beginStart_does
        exact ⟨back.trans p12, ways.trans path, map.trans mapping, blocks.trans media, mode, kept.trans retained,
          (congrArg Pour.hold pour).trans hold⟩
      · exact ⟨rfl, rfl, rfl, rfl, rfl⟩
    case isFalse =>
      split
      · obtain ⟨mode, due, p12, path, mapping, media, moves⟩ :=
          ((s.inputBack.setReg Reg.MOD_LADDER.WARM_FAILS 0).setReg Reg.MOD_LADDER.COLD_FAILS 0).beginCold_does
        have warm := (moves.reads Reg.MOD_LADDER.WARM_FAILS (by decide) (by decide) 0 0).trans
          (State.rd_wr_ne _ (by decide) (by decide) (by decide) ..)
        exact ⟨p12, path, mapping, media, mode, due, warm.trans (State.rd_wr_self ..),
          (moves.reads Reg.MOD_LADDER.COLD_FAILS (by decide) (by decide) 0 0).trans (State.rd_wr_self ..)⟩
      · exact ⟨rfl, rfl, rfl, rfl, rfl, State.rd_wr_self ..⟩
  · exact (State.movesOnly.setReg (.refl (l := [Reg.PIN_LEVEL.PWRDIS])) (by decide) (by decide)).regsBut
  · obtain ⟨goes, falls⟩ := exec_powerOff_rests s
    obtain ⟨p12, aux, retained, ended⟩ := s.inputsGone_toStandby
    by_cases h8 : s.ctl.mode = .m8
    · simp only [goes (by simp [h8]), if_pos h8]
      exact ⟨_, rfl, rfl, rfl, rfl, h8, rfl, rfl⟩
    · simp only [if_neg h8]
      by_cases h0 : s.ctl.mode = .m0
      · exact ⟨_, goes (by simp [h0]), rfl, rfl, rfl, h0⟩
      · exact ⟨_, falls (by simpa [h0, h8] using hm), p12, aux, retained, ended⟩

end Sys2Proof.Machine
end

section
/-! SUPPORT. What the end of a Pour leaves of its record, and what a power-down moves of the registers (R243, R313, R318, R319). -/

namespace Sys2Proof.Machine

/-- The registers that the cores move as they go off, beside `bookFields`. -/
def offFields : List Field :=
  lostFields ++ [Reg.PWR_RAIL.STATE, Reg.DMC_PKG.STATE, Reg.CDY_STATUS.PKG_RETURNING]

section
variable (s : State)

theorem State.linksGone_movesOnly : s.movesOnly s.linksGone lostFields := by
  obtain ⟨-, -, -, -, moves0, -⟩ := s.linkGone_does 0
  obtain ⟨-, -, -, -, moves1, -⟩ := (s.linkGone 0).linkGone_does 1
  exact moves0.trans moves1

theorem State.dropTriggers_movesOnly : s.movesOnly s.dropTriggers offFields := by
  unfold State.dropTriggers
  extract_lets s1
  have lost : s.movesOnly s1 offFields := by
    unfold s1
    refine State.movesOnly.foldl (fun t n => ?_) _ s
    split
    · exact .wr (.wr .refl (by decide) (by decide)) (by decide) (by decide)
    · exact .refl
  exact lost.of_regs rfl

theorem State.railsOff_movesOnly (l : List Nat) : s.movesOnly (s.railsOff l) offFields := by
  unfold State.railsOff
  refine State.movesOnly.foldl (fun t r => ?_) l s
  exact .wr .refl (by decide) (by decide)

@[simp] theorem State.dropPrograms_regs : s.dropPrograms.regs = s.regs := rfl

theorem State.coresOff_movesOnly : s.movesOnly s.coresOff offFields := by
  unfold State.coresOff
  extract_lets s1
  have off : s.movesOnly s1 offFields := by
    unfold s1
    have rails := s.railsOff_movesOnly [4, 5, 6, 7, 12, 13, 14, 15]
    generalize s.railsOff [4, 5, 6, 7, 12, 13, 14, 15] = t at *
    have links := t.dropTriggers.linksGone_movesOnly.mono (m := offFields) (List.subset_append_left ..)
    exact ((rails.trans t.dropTriggers_movesOnly).trans links).of_regs (State.dropPrograms_regs _)
  clear_value s1
  exact off.of_regs rfl

theorem State.refreshEntry_movesOnly (n : Nat) : s.movesOnly (s.refreshEntry n) [] := by
  unfold State.refreshEntry
  split
  · exact .tally .refl ..
  · exact .refl

/-- The LPDDR5X of both dies is in self-refresh (R243). -/
theorem State.selfRefresh_shows : ∀ d < 2, (s.selfRefresh true).rd Reg.DMC_MODE.SELF_REFRESH d 0 = 1 := by
  unfold State.selfRefresh
  rw [show List.range 2 = [0, 1] from rfl, List.foldl_cons, List.foldl_cons, List.foldl_nil]
  extract_lets s0 s1
  intro d hd
  have first : (s0.wr Reg.DMC_MODE.SELF_REFRESH 0 0 1).rd Reg.DMC_MODE.SELF_REFRESH 0 0 = 1 := State.rd_wr_self ..
  have between : (s0.wr Reg.DMC_MODE.SELF_REFRESH 0 0 1).movesOnly s1 [] := by
    exact iteInduction (motive := fun t : State => State.movesOnly _ t []) (fun _ =>
      (State.refreshEntry_movesOnly _ 2).trans (State.refreshEntry_movesOnly _ 3)) (fun _ => .refl)
  obtain rfl | rfl : d = 0 ∨ d = 1 := by omega
  · rw [State.rd_wr_die _ _ rfl _ _ _ (by decide), between.reads _ (by decide) (by decide)]
    exact first
  · exact State.rd_wr_self ..

/-- A record that is written and shown as a Pour's end stands (R318). -/
theorem State.showLast_writeRecord (r : PourRec) : ((s.writeRecord r).showLast r).pour.record = some r ∧
    ((s.writeRecord r).showLast r).reg Reg.POUR_STATUS.LAST_STATE = r.state % 4 := by
  have shown : (s.writeRecord r).keepsPour ((s.writeRecord r).showLast r) :=
    ((State.keepsPour.refl.setReg (by decide) _).setReg (by decide) _).setReg (by decide) _
  constructor
  · rw [shown.record, State.writeRecord_pour]
  · exact (shown.shown _ (by decide) 0 0).trans (State.writeRecord_last ..)

/-- A Pour's end writes its record's state, and keeps its number (R318). -/
theorem State.endRecord_does {s : State} {r : PourRec} (hr : s.pour.record = some r) (state energyEnd us : Nat) :
    ∃ q, (s.endRecord state energyEnd us).pour.record = some q ∧ q.state = state ∧ q.quires = s.pour.poured.length ∧ q.num = r.num ∧
      (s.endRecord state energyEnd us).reg Reg.POUR_STATUS.LAST_STATE = state % 4 := by
  have written : s.endRecord state energyEnd us = (s.writeRecord { r with
      state := state, energyEnd := energyEnd, durationUs := us, quires := s.pour.poured.length }).showLast { r with
      state := state, energyEnd := energyEnd, durationUs := us, quires := s.pour.poured.length } := by
    unfold State.endRecord
    rw [hr]
  rw [written]
  obtain ⟨record, last⟩ := s.showLast_writeRecord { r with
    state := state, energyEnd := energyEnd, durationUs := us, quires := s.pour.poured.length }
  exact ⟨_, record, rfl, rfl, rfl, last⟩

/-- The end of a Pour keeps its record. -/
theorem State.pourOver_record : s.pourOver.pour.record = s.pour.record ∧
    s.pourOver.reg Reg.POUR_STATUS.LAST_STATE = s.reg Reg.POUR_STATUS.LAST_STATE := by
  unfold State.pourOver
  extract_lets s1 s2
  have paid : s.keepsPour s1 := State.keepsPour.refl.foldl (fun _ _ => State.keepsPour.refl.payDebt _) _
  clear_value s1
  have ended : s1.movesOnly s2 [Reg.DMC_MODE.POUR_EXCL, Reg.POUR_STATUS.STEP] :=
    .setReg (.wr (.wr .refl (by decide) (by decide)) (by decide) (by decide)) (by decide) (by decide)
  have kept : s2.pour = s1.pour := rfl
  clear_value s2
  have held : s2.reg Reg.POUR_STATUS.LAST_STATE = s.reg Reg.POUR_STATUS.LAST_STATE :=
    (ended.reads _ (by decide) (by decide) 0 0).trans (paid.shown _ (by decide) 0 0)
  constructor
  · exact (congrArg Pour.record kept :).trans paid.record
  · rw [State.setReg, State.reg, State.rd_wr_ne _ (by decide) (by decide) (by decide)]
    exact held

end

end Sys2Proof.Machine
end

section
/-! PROOFS. Pours end, or run out of energy (O26; R243, R313, R319, R320, R324, R541). -/

namespace Sys2Proof.Machine

section
variable (s : State)

/-- A GPF's Pour returns to Serve, and a warm reset follows only where one was asked for (R323, R324). -/
theorem State.gpfReturn_mode (hw : s.pour.warmAfter = false) : s.gpfReturn.ctl.mode = .m5 := by
  unfold State.gpfReturn
  extract_lets s1 s2 s3 s4
  clear_value s1
  have entered : (s1.toMode .m5).keepsPour s2 := State.keepsPour.refl.showStacks
  clear_value s2
  have goesOn : s2.keepsPour s4 :=
    (State.keepsPour.refl.foldl (fun _ _ => State.keepsPour.refl.pumpQuire _) _).foldl
      (fun _ _ => (State.keepsPour.refl.keepOpen _).issue _) _
  clear_value s4
  rw [if_neg (by simp [hw]), goesOn.mode, entered.mode, State.toMode_mode]

/-- Standby without a start that waits: M1 where the always-on domain stays up, and else M0 (R413, R445). -/
theorem State.toStandby_mode (hp : s.reg Reg.MOD_REQUEST.ON_PENDING ≠ 1) :
    s.toStandby.ctl.mode = if s.ctl.aux && !s.ctl.afterPourOff then .m1 else .m0 := by
  obtain ⟨-, -, ended | ⟨-, pending, -⟩⟩ := s.toStandby_does
  · exact ended
  · exact absurd pending hp

/-! ## The end that powers down (R313, R320, R541) -/

theorem State.pourDown_trip {cause : Nat} (ht : s.reg Reg.THM_STATUS.TRIP = 1) (hp : s.ctl.p12 = true) :
    (s.pourDown cause).ctl.mode = .m11 := by
  unfold State.pourDown
  rw [if_pos ht, if_pos (by simp [hp])]
  dsimp only
  rw [State.toMode_mode]

section
variable (ht : s.reg Reg.THM_STATUS.TRIP ≠ 1) (ho : s.ctl.afterPourOff = false)
include ht ho

/-- The input is back before the end: a warm start (R320). -/
theorem State.pourDown_back (hp : s.ctl.p12 = true) : (s.pourDown 1).ctl.mode = .m2 := by
  unfold State.pourDown
  rw [if_neg ht, if_neg (by simp [ho]), if_pos (by simp [hp])]
  exact (State.beginStart_does _).1

/-- The hold after a 12 V loss, with the LPDDR5X in self-refresh (R243, R320). -/
theorem State.pourDown_held (hp : s.ctl.p12 = false) : (s.pourDown 1).ctl.mode = s.ctl.mode ∧ (s.pourDown 1).pour.hold = true ∧
    ∀ d < 2, (s.pourDown 1).rd Reg.DMC_MODE.SELF_REFRESH d 0 = 1 := by
  have held : s.pourDown 1 = { (s.selfRefresh true).coresOff with pour := { (s.selfRefresh true).coresOff.pour with hold := true } } := by
    unfold State.pourDown
    rw [if_neg ht, if_neg (by simp [ho]), if_neg (by simp [hp]), if_pos rfl]
  have kept : s.keepsPour (s.selfRefresh true).coresOff := (State.keepsPour.refl.selfRefresh true).coresOff
  have moves := (s.selfRefresh true).coresOff_movesOnly
  have refreshed := s.selfRefresh_shows
  rw [held]
  generalize (s.selfRefresh true).coresOff = u at *
  exact ⟨kept.mode, rfl, fun d hd =>
    (moves.reads Reg.DMC_MODE.SELF_REFRESH (by decide) (by decide) d 0).trans (refreshed d hd)⟩

/-- Standby after any other cause (R313), where a removal is ready (R540). -/
theorem State.pourDown_standby {cause : Nat} (h1 : cause ≠ 1) (hp : s.reg Reg.MOD_REQUEST.ON_PENDING ≠ 1) :
    (s.pourDown cause).ctl.mode = (if s.ctl.aux then .m1 else .m0) ∧ (s.pourDown cause).ctl.retained = false ∧
      (cause = 4 → (s.pourDown cause).reg Reg.PIN_REMOVAL.STATE = 4) := by
  let t : State := ({ s with ctl := { s.ctl with retained := false } } : State).toStandby
  have down : s.pourDown cause = if cause = 4 then
      (((t.setReg Reg.PIN_REMOVAL.STATE 4).bump Reg.PIN_COUNT.REMOVALS 0 0 1).event 0 .memoryModule .safeToRemove []).raise 628
      else t := by
    unfold State.pourDown
    rw [if_neg ht, if_neg (by simp [ho]), if_neg (by simp [h1]), if_neg h1]
  have retained : t.ctl.retained = false := (State.toStandby_does _).1
  have mode : t.ctl.mode = if s.ctl.aux then .m1 else .m0 := by
    have ended := State.toStandby_mode ({ s with ctl := { s.ctl with retained := false } } : State) hp
    exact ended.trans (by simp only [ho, Bool.not_false, Bool.and_true])
  clear_value t
  rw [down]
  split
  · have shown : (t.setReg Reg.PIN_REMOVAL.STATE 4).movesOnly ((((t.setReg Reg.PIN_REMOVAL.STATE 4).bump Reg.PIN_COUNT.REMOVALS 0 0
        1).event 0 .memoryModule .safeToRemove []).raise 628) [Reg.PIN_COUNT.REMOVALS] :=
      .raise (.event (.bump .refl (by decide) (by decide)) ..) _
    have kept : ((((t.setReg Reg.PIN_REMOVAL.STATE 4).bump Reg.PIN_COUNT.REMOVALS 0 0 1).event 0 .memoryModule .safeToRemove []).raise
        628).ctl = t.ctl := by
      rw [State.raise_ctl, State.event_ctl]
      rfl
    refine ⟨by rw [kept]; exact mode, by rw [kept]; exact retained, fun _ => ?_⟩
    exact (shown.reads Reg.PIN_REMOVAL.STATE (by decide) (by decide) 0 0).trans (State.rd_wr_self ..)
  · exact ⟨mode, retained, fun h4 => absurd h4 ‹_›⟩

end

/-! ## The end of the energy (R319) -/

/-- The record of a Pour that the energy ends has STATE 3 and counts no quire beyond those that it wrote. -/
theorem State.pourCut_record (energyEnd us poured : Nat) {r : PourRec} (hr : s.pour.record = some r) :
    ∃ q, (s.pourCut energyEnd us poured).pour.record = some q ∧ q.state = 3 ∧ q.quires ≤ poured ∧ q.num = r.num ∧
      (s.pourCut energyEnd us poured).reg Reg.POUR_STATUS.LAST_STATE = 3 := by
  have wrote : (s.pourWrite poured).pour.record = some r := by
    have kept : s.keepsPour (s.writeQuires 2 (s.toPour.take poured)) := State.keepsPour.refl.writeQuires ..
    exact kept.record.trans hr
  have counted : (s.pourWrite poured).pour.poured.length ≤ poured := List.length_take_le ..
  unfold State.pourCut
  extract_lets s1 left s2
  obtain ⟨q, record, state, quires, num, last⟩ := State.endRecord_does wrote 3 energyEnd us
  have ended : s1.keepsPour (s1.cleaned s1.pour.poured).programsOver := (State.keepsPour.refl.cleaned _).programsOver
  obtain ⟨kept, shown⟩ := (s1.cleaned s1.pour.poured).programsOver.pourOver_record
  have held : s2.pour.record = some q := (kept.trans ended.record).trans record
  have stood : s2.reg Reg.POUR_STATUS.LAST_STATE = 3 := (shown.trans (ended.shown _ (by decide) 0 0)).trans last
  clear_value s2
  exact ⟨q, held, state, quires.trans_le counted, num, stood⟩

end

/-- Settles O26: each end of a Pour, by the cause that shows, the input and the Trip. -/
theorem poursEnd : Obligations.PoursEnd := by
  unfold Obligations.PoursEnd
  refine ⟨fun s energyEnd us hm hr => ?_, fun s hw => s.gpfReturn_mode hw, fun s cause ht ho hp => ?_,
    fun s cause ht hp => s.pourDown_trip ht hp, fun s energyEnd us poured hm hr => ⟨?_, fun r h => s.pourCut_record energyEnd us poured h⟩,
    fun s hm hh => ?_⟩
  · change execPourComplete energyEnd us s = _
    rw [execPourComplete, if_pos (by simp [hm, hr])]
  · refine ⟨?_, ?_, fun h1 => ?_, fun h4 => (s.pourDown_standby ht ho (by simp [h4]) hp).2.2 h4⟩
    · rintro rfl
      exact s.pourDown_back ht ho
    · rintro rfl
      exact s.pourDown_held ht ho
    · obtain ⟨mode, retained, -⟩ := s.pourDown_standby ht ho h1 hp
      exact ⟨mode, retained⟩
  · change execPourExhausted energyEnd us poured s = _
    rw [execPourExhausted, if_neg (by simp [hm, hr])]
    by_cases ht : s.reg Reg.THM_STATUS.TRIP = 1
    · simp only [ht, beq_self_eq_true, if_true]
    · simp only [beq_iff_eq, ht, if_false]
  · change ∃ t, execHoldEnd s = _ ∧ _
    rw [execHoldEnd, if_pos (by simp [hm, hh])]
    generalize hu : ({ s with pour := { s.pour with hold := false }, ctl := { s.ctl with retained := false } } : State) = u
    have ends : u.pour.hold = false ∧ u.ctl.retained = false ∧ u.ctl.aux = s.ctl.aux ∧ u.ctl.afterPourOff = s.ctl.afterPourOff ∧
        u.regs = s.regs := by
      subst hu
      exact ⟨rfl, rfl, rfl, rfl, rfl⟩
    obtain ⟨hold, retained, aux, off, regs⟩ := ends
    obtain ⟨kept, held, ended⟩ := u.toStandby_does
    refine ⟨_, rfl, held.trans hold, kept.trans retained, ?_, fun hp => ?_⟩
    · rcases ended with mode | ⟨-, -, mode⟩
      · rw [mode]
        split <;> simp
      · simp [mode]
    · rw [u.toStandby_mode (by rwa [State.reg, State.rd_congr regs]), aux, off]

end Sys2Proof.Machine
end

section
/-! SUPPORT. What the energy estimate moves, and what it selects (R76, R209, R310, R311). -/

namespace Sys2Proof.Machine

/-- From s to t nothing that is stored moves, nor the mode or what is known of the bank and of a Pour. -/
structure State.keepsStore (s t : State) : Prop where
  path : t.path = s.path
  mapping : t.mapping = s.mapping
  media : t.media = s.media
  pour : t.pour = s.pour
  mode : t.ctl.mode = s.ctl.mode

/-- The registers that show what follows from the energy: Write-through, the dirty limits and Degraded. -/
def limitFields : List Field :=
  [Reg.LNK_MODE.WRITE_THROUGH, Reg.CDY_STATUS.WRITE_THROUGH, Reg.CDY_DIRTY_LIMIT.BLOCKS, Reg.CDY_DIRTY_LIMIT.CHAN_BLOCKS,
   Reg.LNK_MODE.DEGRADED]

/-- The registers that show the energy and what follows from it, beside `bookFields`. -/
def energyFields : List Field :=
  [Reg.POUR_ENERGY.EST_MJ, Reg.POUR_ENERGY.BUDGET_GIB, Reg.POUR_ENERGY.STRAP_CAP, Reg.LNK_DIRTY_BUDGET.GIB] ++ limitFields

section
variable {s t u : State}

theorem State.keepsStore.refl : s.keepsStore s := ⟨rfl, rfl, rfl, rfl, rfl⟩

theorem State.keepsStore.trans (h1 : s.keepsStore t) (h2 : t.keepsStore u) : s.keepsStore u :=
  ⟨h2.path.trans h1.path, h2.mapping.trans h1.mapping, h2.media.trans h1.media, h2.pour.trans h1.pour, h2.mode.trans h1.mode⟩

theorem Recorded.keepsStore (h : Recorded s t) : s.keepsStore t := by
  rw [h]
  exact ⟨rfl, rfl, rfl, rfl, rfl⟩

theorem Reported.keepsStore (h : Reported s t) : s.keepsStore t := by
  rw [h]
  exact ⟨rfl, rfl, rfl, rfl, rfl⟩

theorem Counted.keepsStore (h : Counted s t) : s.keepsStore t := h.reported.keepsStore

/-- The estimate reads what is isolated, the recorded capacitances and the voltages, and nothing else (R310). -/
theorem State.keepsStore.energyMj (h : s.keepsStore t) (hm : s.movesOnly t energyFields) : t.energyMj = s.energyMj := by
  have isolated : ∀ i, t.rd Reg.POUR_SUBBANK.ISOLATED 0 i = s.rd Reg.POUR_SUBBANK.ISOLATED 0 i :=
    fun i => hm.reads _ (by decide) (by decide) 0 i
  have recorded : ∀ i, t.rd Reg.POUR_SUBBANK.CAP_UF 0 i = s.rd Reg.POUR_SUBBANK.CAP_UF 0 i :=
    fun i => hm.reads _ (by decide) (by decide) 0 i
  simp only [State.energyMj, isolated, recorded, h.pour]

end

section
variable (s : State)

theorem State.wr_keepsStore (f : Field) (d i v : Nat) : s.keepsStore (s.wr f d i v) := ⟨rfl, rfl, rfl, rfl, rfl⟩

theorem State.settle_keepsStore : s.keepsStore s.settle := by
  rw [s.settle_frame]
  exact ⟨rfl, rfl, rfl, rfl, rfl⟩

/-- Write-through is in force as asked for (R76, R310). -/
theorem State.setWriteThrough_does (b : Bool) : s.keepsStore (s.setWriteThrough b) ∧ s.movesOnly (s.setWriteThrough b) limitFields ∧
    (s.setWriteThrough b).ctl.writeThrough = b := by
  let t := (({ s with ctl := { s.ctl with writeThrough := b } } : State).setReg Reg.LNK_MODE.WRITE_THROUGH (if b then 1 else 0)).newAlert 2
  have changed : s.keepsStore t ∧ s.movesOnly t limitFields ∧ t.ctl.writeThrough = b :=
    ⟨⟨rfl, rfl, rfl, rfl, rfl⟩, .of_regs (.setReg (.of_regs .refl rfl) (by decide) (by decide)) rfl, rfl⟩
  unfold State.setWriteThrough
  extract_lets _ s1 s2
  obtain ⟨kept, moves, inForce⟩ := changed
  have raised : s.keepsStore s1 ∧ s.movesOnly s1 limitFields ∧ s1.ctl.writeThrough = b := by
    refine ⟨kept.trans (t.raise_counted 558).keepsStore, moves.raise 558, ?_⟩
    exact (congrArg Control.writeThrough (t.raise_ctl 558) :).trans inForce
  clear_value s1
  obtain ⟨kept1, moves1, inForce1⟩ := raised
  have shown : s.movesOnly s2 limitFields := .wr (.wr moves1 (by decide) (by decide)) (by decide) (by decide)
  have stands : s.keepsStore s2 ∧ s2.ctl.writeThrough = b :=
    ⟨⟨kept1.path, kept1.mapping, kept1.media, kept1.pour, kept1.mode⟩, inForce1⟩
  clear_value s2
  obtain ⟨kept2, inForce2⟩ := stands
  split
  case isTrue h => exact ⟨.refl, .refl, h.symm⟩
  case isFalse =>
    split
    · exact ⟨kept2.trans (State.event_reported ..).keepsStore, shown.event .., by rw [State.event_ctl]; exact inForce2⟩
    · exact ⟨kept2.trans (State.event_reported ..).keepsStore, shown.event .., by rw [State.event_ctl]; exact inForce2⟩

theorem State.showLimits_does : Counted s s.showLimits ∧ s.movesOnly s.showLimits limitFields := by
  unfold State.showLimits
  extract_lets b
  constructor
  · refine foldl_related Counted.refl Counted.trans (fun t d => ?_) _ s
    rfl
  · exact State.movesOnly.foldl (fun t d => .wr (.wr .refl (by decide) (by decide)) (by decide) (by decide)) _ s

theorem budgetOf_le (mj : Nat) : budgetOf mj ≤ 8 := by
  unfold budgetOf
  split_ifs <;> omega

/-- The budget in force shows, whether it changes or stands (R310). -/
theorem State.showBudget_does {b : Nat} (hb : b < 16) :
    let t := if b = s.reg Reg.LNK_DIRTY_BUDGET.GIB then s else (s.setReg Reg.LNK_DIRTY_BUDGET.GIB b).raise 555
    s.keepsStore t ∧ s.movesOnly t [Reg.LNK_DIRTY_BUDGET.GIB] ∧ t.reg Reg.LNK_DIRTY_BUDGET.GIB = b := by
  extract_lets t
  unfold t
  split
  case isTrue h => exact ⟨.refl, .refl, h.symm⟩
  case isFalse =>
    have raised := (s.setReg Reg.LNK_DIRTY_BUDGET.GIB b).raise_counted 555
    have after : (s.setReg Reg.LNK_DIRTY_BUDGET.GIB b).movesOnly ((s.setReg Reg.LNK_DIRTY_BUDGET.GIB b).raise 555) [] := .raise .refl 555
    refine ⟨(s.wr_keepsStore ..).trans raised.keepsStore, .raise (.setReg .refl (by decide) (by decide)) 555, ?_⟩
    exact (after.reads _ (by decide) (by decide) 0 0).trans ((State.rd_wr_self ..).trans (Nat.mod_eq_of_lt hb))

/-- What follows from the energy: Write-through, the limits of the budget, and Degraded (R76, R209, R310). -/
theorem State.limits_does (b : Bool) : s.keepsStore (s.setWriteThrough b).showLimits.settle ∧
    s.movesOnly (s.setWriteThrough b).showLimits.settle limitFields ∧ (s.setWriteThrough b).showLimits.settle.ctl.writeThrough = b := by
  obtain ⟨kept, moves, inForce⟩ := s.setWriteThrough_does b
  generalize s.setWriteThrough b = t at *
  obtain ⟨counted, limited⟩ := t.showLimits_does
  refine ⟨(kept.trans counted.keepsStore).trans (State.settle_keepsStore _), (moves.trans limited).settle (by decide), ?_⟩
  rw [State.settle_frame, counted]
  exact inForce

/-- The energy is estimated anew: it shows, it selects Write-through, and the budget where no strap caps it (R310, R311). -/
theorem State.updateEnergy_does : s.keepsStore s.updateEnergy ∧ s.movesOnly s.updateEnergy energyFields ∧
    s.updateEnergy.reg Reg.POUR_ENERGY.EST_MJ = s.energyMj % 4294967296 ∧
    s.updateEnergy.ctl.writeThrough = decide (s.energyMj < 5000) ∧
    (s.reg Reg.POUR_ENERGY.STRAP_CAP ≠ 1 → s.updateEnergy.reg Reg.LNK_DIRTY_BUDGET.GIB = budgetOf s.energyMj) := by
  unfold State.updateEnergy
  extract_lets e capped b s1 s2
  have estimated : s1.reg Reg.POUR_ENERGY.EST_MJ = e % 4294967296 := by
    have kept : (s.setReg Reg.POUR_ENERGY.EST_MJ e).movesOnly s1 [Reg.POUR_ENERGY.BUDGET_GIB, Reg.POUR_ENERGY.STRAP_CAP] :=
      .setReg (.setReg .refl (by decide) (by decide)) (by decide) (by decide)
    exact (kept.reads _ (by decide) (by decide) 0 0).trans (State.rd_wr_self ..)
  have shown : s.movesOnly s1 [Reg.POUR_ENERGY.EST_MJ, Reg.POUR_ENERGY.BUDGET_GIB, Reg.POUR_ENERGY.STRAP_CAP] :=
    .setReg (.setReg (.setReg .refl (by decide) (by decide)) (by decide) (by decide)) (by decide) (by decide)
  have stood : s1.reg Reg.LNK_DIRTY_BUDGET.GIB = s.reg Reg.LNK_DIRTY_BUDGET.GIB := shown.reads _ (by decide) (by decide) 0 0
  have kept1 : s.keepsStore s1 := ⟨rfl, rfl, rfl, rfl, rfl⟩
  clear_value s1
  have bound : b < 16 := by
    have := budgetOf_le e
    simp only [b]
    split <;> omega
  obtain ⟨kept2, moves2, gib⟩ : s1.keepsStore s2 ∧ s1.movesOnly s2 [Reg.LNK_DIRTY_BUDGET.GIB] ∧ s2.reg Reg.LNK_DIRTY_BUDGET.GIB = b := by
    simp only [s2, ← stood]
    exact s1.showBudget_does bound
  clear_value s2
  obtain ⟨kept3, follows, inForce⟩ := s2.limits_does (decide (e < 5000))
  refine ⟨(kept1.trans kept2).trans kept3, ?_, ?_, inForce, fun hc => ?_⟩
  · exact ((shown.mono (by simp [energyFields])).trans (moves2.mono (by simp [energyFields]))).trans
      (follows.mono (List.subset_append_right ..))
  · exact (follows.reads _ (by decide) (by decide) 0 0).trans ((moves2.reads _ (by decide) (by decide) 0 0).trans estimated)
  · have uncapped : b = budgetOf e := if_neg (by simp [capped, hc])
    exact (follows.reads _ (by decide) (by decide) 0 0).trans (gib.trans uncapped)

end

end Sys2Proof.Machine
end

section
/-! PROOFS. Sub-banks are measured and the energy selects the budget (O27; R294, R307, R309, R310, R311). -/

namespace Sys2Proof.Machine

/-- The registers that an isolated sub-bank moves, beside `bookFields`. -/
def isolateFields : List Field :=
  [Reg.POUR_SUBBANK.ISOLATED, Reg.POUR_SUBBANK.CAUSE, Reg.POUR_SUBBANK.MEASURING, Reg.SPR_SPARES.SUBBANK_ISOLATED] ++ energyFields

section
variable (s : State)

/-- A sub-bank is isolated for a cause, its measurement ends, and every other stands (R294). -/
theorem State.isolate_does {i cause : Nat} (hi : i < 8) (hs : s.rd Reg.POUR_SUBBANK.ISOLATED 0 i ≠ 1) :
    s.keepsStore (s.isolate i cause) ∧ s.movesOnly (s.isolate i cause) isolateFields ∧
      (s.isolate i cause).rd Reg.POUR_SUBBANK.ISOLATED 0 i = 1 ∧ (s.isolate i cause).rd Reg.POUR_SUBBANK.CAUSE 0 i = cause % 4 ∧
      (s.isolate i cause).rd Reg.POUR_SUBBANK.MEASURING 0 i = 0 ∧
      ∀ k < 8, k ≠ i → (s.isolate i cause).rd Reg.POUR_SUBBANK.ISOLATED 0 k = s.rd Reg.POUR_SUBBANK.ISOLATED 0 k := by
  unfold State.isolate
  rw [if_neg hs]
  extract_lets s1
  have isolated : s1.rd Reg.POUR_SUBBANK.ISOLATED 0 i = 1 :=
    (State.rd_wr_ne _ (by decide) (by decide) (by decide) ..).trans ((State.rd_wr_ne _ (by decide) (by decide) (by decide) ..).trans
      (State.rd_wr_self ..))
  have caused : s1.rd Reg.POUR_SUBBANK.CAUSE 0 i = cause % 4 :=
    (State.rd_wr_ne _ (by decide) (by decide) (by decide) ..).trans (State.rd_wr_self ..)
  have ended : s1.rd Reg.POUR_SUBBANK.MEASURING 0 i = 0 := State.rd_wr_self ..
  have others : ∀ k < 8, k ≠ i → s1.rd Reg.POUR_SUBBANK.ISOLATED 0 k = s.rd Reg.POUR_SUBBANK.ISOLATED 0 k := fun k hk hne =>
    (State.rd_wr_ne _ (by decide) (by decide) (by decide) ..).trans ((State.rd_wr_ne _ (by decide) (by decide) (by decide) ..).trans
      (State.rd_wr_index s _ 0 0 1 (by omega) (by omega) hne))
  have moves1 : s.movesOnly s1 isolateFields :=
    .wr (.wr (.wr .refl (by decide) (by decide)) (by decide) (by decide)) (by decide) (by decide)
  have kept1 : s.keepsStore s1 := ⟨rfl, rfl, rfl, rfl, rfl⟩
  clear_value s1
  have counted : s1.movesOnly ((s1.wrBit Reg.SPR_SPARES.SUBBANK_ISOLATED 0 0 i true).raise 557) [Reg.SPR_SPARES.SUBBANK_ISOLATED] :=
    .raise (.wr .refl (by decide) (by decide)) 557
  have kept2 := (s1.wr_keepsStore Reg.SPR_SPARES.SUBBANK_ISOLATED 0 0
    (setBit (s1.rd Reg.SPR_SPARES.SUBBANK_ISOLATED 0 0) i true)).trans (State.raise_counted _ 557).keepsStore
  change s1.keepsStore ((s1.wrBit Reg.SPR_SPARES.SUBBANK_ISOLATED 0 0 i true).raise 557) at kept2
  generalize (s1.wrBit Reg.SPR_SPARES.SUBBANK_ISOLATED 0 0 i true).raise 557 = s2 at *
  obtain ⟨kept3, energy, -⟩ := s2.updateEnergy_does
  have after : s1.movesOnly s2.updateEnergy (Reg.SPR_SPARES.SUBBANK_ISOLATED :: energyFields) :=
    (counted.mono (by simp)).trans (energy.mono (by simp))
  refine ⟨(kept1.trans kept2).trans kept3, moves1.trans (after.mono ?_), (after.reads _ (by decide) (by decide) 0 i).trans isolated,
    (after.reads _ (by decide) (by decide) 0 i).trans caused, (after.reads _ (by decide) (by decide) 0 i).trans ended, fun k hk hne =>
    (after.reads _ (by decide) (by decide) 0 k).trans (others k hk hne)⟩
  exact List.cons_subset.mpr ⟨by decide, List.subset_append_right ..⟩

theorem State.slotWrite_movesOnly (ring value : Nat) :
    s.movesOnly (s.slotWrite ring value) [Reg.QST_RING.SERIAL, Reg.QST_RING.NEWEST, Reg.QST_WRITES.SLOTS] := by
  unfold State.slotWrite
  extract_lets serial slot body at0 _ s1
  have placed : s.movesOnly s1 [Reg.QST_RING.SERIAL, Reg.QST_RING.NEWEST, Reg.QST_WRITES.SLOTS] := .of_regs .refl rfl
  clear_value s1
  exact .bump (.wr (.wr placed (by decide) (by decide)) (by decide) (by decide)) (by decide) (by decide)

end

/-! ## Measurements (R307, R309) -/

/-- The next sub-bank, in order, unless it is isolated. -/
theorem exec_capMeasurementStart {s : State} (hr : s.running = true) (hm : s.ctl.mode ≠ .m8) (hb : 34500 ≤ s.pour.bus)
    (hk : ∀ k < 8, s.rd Reg.POUR_SUBBANK.MEASURING 0 k ≠ 1 ∧
      (s.rd Reg.POUR_SUBBANK.ISOLATED 0 k ≠ 0 ∨ 34500 ≤ s.pour.volts[k]?.getD 0))
    (ht : (s.rd Reg.THM_STATUS.THROTTLE 0 0).testBit 3 = false) :
    exec .capMeasurementStart s = .next (
      let s1 : State := { s with pour := { s.pour with next := (s.pour.next + 1) % 8 } }
      if s.rd Reg.POUR_SUBBANK.ISOLATED 0 s.pour.next = 1 then s1 else s1.wr Reg.POUR_SUBBANK.MEASURING 0 s.pour.next 1) := by
  have idle : ((List.range 8).any fun k => s.rd Reg.POUR_SUBBANK.MEASURING 0 k == 1 ||
      (s.rd Reg.POUR_SUBBANK.ISOLATED 0 k == 0 && decide (s.pour.volts[k]?.getD 0 < 34500))) = false := by
    rw [List.any_eq_false]
    intro k hk8
    obtain ⟨measuring, charged⟩ := hk k (List.mem_range.mp hk8)
    simp only [Bool.or_eq_true, Bool.and_eq_true, beq_iff_eq, decide_eq_true_eq]
    omega
  change execCapMeasurementStart s = _
  unfold execCapMeasurementStart
  extract_lets i next busy _ s1
  have free : ¬(!s.running || s.ctl.mode == .m8 || decide (s.pour.bus < 34500) || busy ||
      (s.rd Reg.THM_STATUS.THROTTLE 0 0).testBit 3) = true := by
    simp only [show busy = false from idle, hr, ht, beq_false_of_ne hm, Nat.not_lt.mpr hb]
    decide
  exact congrArg Host.Outcome.next (if_neg free)

/-- A measurement's end: the value enters the sub-bank's registers, its ring slot and the set of what has been measured (R309). -/
def State.measured (s : State) (drop i : Nat) : State :=
  let s1 := ((s.wr Reg.POUR_SUBBANK.MEASURING 0 i 0).wr Reg.POUR_SUBBANK.CAP_UF 0 i (capOf drop)).wr
    Reg.POUR_SUBBANK.MEASURED_MIN 0 i s.minutes
  let s2 := (s1.slotWrite 3 (i + 8 * capOf drop + 524288 * s.minutes)).raise 556
  { s2 with pour := { s2.pour with measured := i :: s2.pour.measured.filter (· != i) } }

theorem State.measured_does (s : State) (drop i : Nat) : (s.measured drop i).path = s.path ∧
    (s.measured drop i).mapping = s.mapping ∧ (s.measured drop i).media = s.media ∧ (s.measured drop i).ctl.mode = s.ctl.mode ∧
    i ∈ (s.measured drop i).pour.measured ∧ (s.measured drop i).rd Reg.POUR_SUBBANK.CAP_UF 0 i = capOf drop % 65536 ∧
    (s.measured drop i).rd Reg.POUR_SUBBANK.MEASURED_MIN 0 i = s.minutes % 4294967296 ∧
    (s.measured drop i).rd Reg.POUR_SUBBANK.MEASURING 0 i = 0 ∧
    (s.measured drop i).rd Reg.POUR_SUBBANK.ISOLATED 0 i = s.rd Reg.POUR_SUBBANK.ISOLATED 0 i := by
  unfold State.measured
  extract_lets s1 s2
  have recorded : s1.rd Reg.POUR_SUBBANK.CAP_UF 0 i = capOf drop % 65536 :=
    (State.rd_wr_ne _ (by decide) (by decide) (by decide) ..).trans (State.rd_wr_self ..)
  have timed : s1.rd Reg.POUR_SUBBANK.MEASURED_MIN 0 i = s.minutes % 4294967296 := State.rd_wr_self ..
  have ended : s1.rd Reg.POUR_SUBBANK.MEASURING 0 i = 0 :=
    (State.rd_wr_ne _ (by decide) (by decide) (by decide) ..).trans ((State.rd_wr_ne _ (by decide) (by decide) (by decide) ..).trans
      (State.rd_wr_self ..))
  have entry : s.movesOnly s1 [Reg.POUR_SUBBANK.MEASURING, Reg.POUR_SUBBANK.CAP_UF, Reg.POUR_SUBBANK.MEASURED_MIN] :=
    .wr (.wr (.wr .refl (by decide) (by decide)) (by decide) (by decide)) (by decide) (by decide)
  have isolated : s1.rd Reg.POUR_SUBBANK.ISOLATED 0 i = s.rd Reg.POUR_SUBBANK.ISOLATED 0 i :=
    entry.reads _ (by decide) (by decide) 0 i
  have kept1 : s.keepsStore s1 := ⟨rfl, rfl, rfl, rfl, rfl⟩
  clear_value s1
  have kept : s.keepsStore s2 := (kept1.trans (s1.slotWrite_recorded ..).keepsStore).trans (State.raise_counted ..).keepsStore
  have moves := (s1.slotWrite_movesOnly 3 (i + 8 * capOf drop + 524288 * s.minutes)).raise 556
  change s1.movesOnly s2 _ at moves
  clear_value s2
  exact ⟨kept.path, kept.mapping, kept.media, kept.mode, List.mem_cons_self .., (moves.reads _ (by decide) (by decide) 0 i).trans recorded,
    (moves.reads _ (by decide) (by decide) 0 i).trans timed, (moves.reads _ (by decide) (by decide) 0 i).trans ended,
    (moves.reads _ (by decide) (by decide) 0 i).trans isolated⟩

/-- The first sub-bank under measurement is the one that a measurement's end takes (R309). -/
theorem exec_capMeasurementDone {s : State} {drop i : Nat} (hi : i < 8) (hm : s.rd Reg.POUR_SUBBANK.MEASURING 0 i = 1)
    (hf : ∀ k < i, s.rd Reg.POUR_SUBBANK.MEASURING 0 k ≠ 1) :
    exec (.capMeasurementDone drop) s = .next (
      if capOf drop < 2100 then (s.measured drop i).isolate i 1 else (s.measured drop i).updateEnergy) := by
  have first : (List.range 8).find? (fun k => s.rd Reg.POUR_SUBBANK.MEASURING 0 k == 1) = some i := by
    rw [List.find?_range_eq_some]
    exact ⟨by simp [hm], List.mem_range.mpr hi, fun k hk => by simp [hf k hk]⟩
  change execCapMeasurementDone drop s = _
  unfold execCapMeasurementDone
  rw [first]
  rfl

/-- A measured sub-bank below 60 % of its rating is isolated, and the energy is estimated anew (R294, R310). -/
theorem State.judged_does (s : State) (drop : Nat) {i : Nat} (hi : i < 8) (hm : s.rd Reg.POUR_SUBBANK.MEASURING 0 i = 0) :
    let t := if capOf drop < 2100 then s.isolate i 1 else s.updateEnergy
    s.keepsStore t ∧ s.movesOnly t isolateFields ∧ t.rd Reg.POUR_SUBBANK.MEASURING 0 i = 0 ∧
      (capOf drop < 2100 → s.rd Reg.POUR_SUBBANK.ISOLATED 0 i ≠ 1 →
        t.rd Reg.POUR_SUBBANK.ISOLATED 0 i = 1 ∧ t.rd Reg.POUR_SUBBANK.CAUSE 0 i = 1) := by
  extract_lets t
  unfold t
  split
  case isTrue =>
    by_cases hs : s.rd Reg.POUR_SUBBANK.ISOLATED 0 i = 1
    · rw [State.isolate, if_pos hs]
      exact ⟨.refl, .refl, hm, fun _ hn => absurd hs hn⟩
    · obtain ⟨kept, moves, isolated, caused, ended, -⟩ := s.isolate_does (cause := 1) hi hs
      exact ⟨kept, moves, ended, fun _ _ => ⟨isolated, caused⟩⟩
  case isFalse hc =>
    obtain ⟨kept, moves, -⟩ := s.updateEnergy_does
    exact ⟨kept, moves.mono (List.subset_append_right ..), (moves.reads _ (by decide) (by decide) 0 i).trans hm, fun h => absurd h hc⟩

/-! ## Voltages (R310) -/

/-- The voltages of an update: a sub-bank under measurement keeps the one from before. -/
def State.voltsFrom (s : State) (volts : List Nat) : List Nat :=
  (List.range 8).map (fun i => if s.rd Reg.POUR_SUBBANK.MEASURING 0 i = 1 then s.pour.volts[i]?.getD 0
    else min 35000 (volts[i]?.getD (s.pour.volts[i]?.getD 0)))

theorem State.voltsFrom_get (s : State) (volts : List Nat) {i : Nat} (hi : i < 8) : (s.voltsFrom volts)[i]? =
    some (if s.rd Reg.POUR_SUBBANK.MEASURING 0 i = 1 then s.pour.volts[i]?.getD 0
      else min 35000 (volts[i]?.getD (s.pour.volts[i]?.getD 0))) := by
  rw [State.voltsFrom, List.getElem?_map, List.getElem?_range hi, Option.map_some]

/-- Settles O27: a measurement takes one sub-bank and records it, and the estimate follows from what is recorded. -/
theorem energyIsMeasured : Obligations.EnergyIsMeasured := by
  unfold Obligations.EnergyIsMeasured
  refine ⟨⟨fun s hr hm hb hk ht => ?_, fun s drop i hi hmeas hfirst hd => ?_, fun s subbank cause hr hc hs => ?_⟩,
    fun s volts bus hr => ?_⟩
  · refine ⟨_, exec_capMeasurementStart hr hm hb hk ht, ?_⟩
    split
    case isTrue h => exact ⟨rfl, fun hn => absurd h hn, rfl, State.movesOnly.regsBut (.of_regs .refl rfl)⟩
    case isFalse => exact ⟨rfl, fun _ => State.rd_wr_self .., rfl, State.movesOnly.regsBut (.wr (.of_regs .refl rfl) (by decide) (by decide))⟩
  · refine ⟨_, exec_capMeasurementDone hi hmeas hfirst, ?_⟩
    have capacitance : capOf drop = min 3500 (3960000 / drop) := by rw [capOf, if_neg (by omega)]
    obtain ⟨path, mapping, media, mode, taken, recorded, timed, ended, isolated⟩ := s.measured_does drop i
    generalize s.measured drop i = u at *
    have value : u.rd Reg.POUR_SUBBANK.CAP_UF 0 i = min 3500 (3960000 / drop) := by
      rw [recorded, capacitance]
      exact Nat.mod_eq_of_lt ((Nat.min_le_left ..).trans_lt (by decide))
    have failing : 3960000 / drop < 2100 → capOf drop < 2100 := fun h => by
      rw [capacitance]
      exact (Nat.min_le_right ..).trans_lt h
    obtain ⟨kept, moves, stopped, out⟩ := u.judged_does drop hi ended
    exact ⟨(moves.reads _ (by decide) (by decide) 0 i).trans value, (moves.reads _ (by decide) (by decide) 0 i).trans timed, stopped,
      fun h hs => out (failing h) (by rwa [isolated]), by rw [kept.pour]; exact taken, kept.path.trans path, kept.mapping.trans mapping,
      kept.media.trans media, kept.mode.trans mode⟩
  · obtain ⟨kept, -, isolated, caused, ended, others⟩ := s.isolate_does (cause := cause) subbank.isLt hs
    have runs : exec (.subbankIsolation subbank cause) s = .next (s.isolate subbank cause) := by
      change execSubbankIsolation subbank cause s = _
      rw [execSubbankIsolation, if_neg (by simp [hr, hc])]
    exact ⟨_, runs, isolated, caused.trans (Nat.mod_eq_of_lt cause.isLt), ended, others, kept.path, kept.mapping, kept.media, kept.mode⟩
  · let u : State := ({ s with pour := { s.pour with volts := s.voltsFrom volts, bus := bus } }).setReg Reg.POUR_ENERGY.BUS_MV bus
    have runs : exec (.energyUpdate volts bus) s = .next u.updateEnergy := by
      change execEnergyUpdate volts bus s = _
      rw [execEnergyUpdate, if_neg (by simp [hr])]
      rfl
    have entered : u.path = s.path ∧ u.mapping = s.mapping ∧ u.media = s.media ∧ u.ctl.mode = s.ctl.mode ∧
        u.pour.volts = s.voltsFrom volts := ⟨rfl, rfl, rfl, rfl, rfl⟩
    have bused : u.reg Reg.POUR_ENERGY.BUS_MV = bus % 65536 := State.rd_wr_self ..
    have entry : s.movesOnly u [Reg.POUR_ENERGY.BUS_MV] := .setReg (.of_regs .refl rfl) (by decide) (by decide)
    clear_value u
    obtain ⟨path, mapping, media, mode, voltages⟩ := entered
    obtain ⟨kept, moves, estimated, through, budget⟩ := u.updateEnergy_does
    have same := kept.energyMj moves
    refine ⟨_, runs, fun i hi => ?_, by rw [same]; exact estimated, (moves.reads _ (by decide) (by decide) 0 0).trans bused,
      by rw [same]; exact through, fun hc => ?_, fun i => ?_, kept.path.trans path, kept.mapping.trans mapping, kept.media.trans media,
      kept.mode.trans mode⟩
    · rw [kept.pour, voltages, State.voltsFrom_get s volts hi]
    · rw [same]
      exact budget (by rwa [State.reg, entry.reads _ (by decide) (by decide)])
    · rw [moves.reads _ (by decide) (by decide), entry.reads _ (by decide) (by decide)]

end Sys2Proof.Machine
end

section
/-! PROOFS. SPDM requests that their transport carries (O39; R93, R331, R351, R352): what an answer moves, and what a request reads. -/

namespace Sys2Proof.Machine

section
variable (s : State)

/-! ## A request and its answer -/

theorem State.countDoe_tells (t : Nat) : s.tells (s.countDoe t) [] [] := by
  unfold State.countDoe
  split
  · exact s.tally_tells ..
  · exact .refl

theorem State.countDoe_sameHeads (t : Nat) : s.sameHeads (s.countDoe t) := by
  unfold State.countDoe
  split
  · exact s.tally_sameHeads _ _ _
  · exact .of_heads rfl

theorem State.spdmPut_tells (t : Nat) (b : Body) : s.tells (s.spdmPut t b) [] [.spdm t b] := by
  have put : s.tells (s.send (.spdm t b)) [] [.spdm t b] := s.send_tells rfl
  unfold State.spdmPut
  split
  · exact put.then (State.msix_tells ..)
  · exact put

theorem State.spdmPut_sameHeads (t : Nat) (b : Body) : s.sameHeads (s.spdmPut t b) := by
  have put : s.sameHeads (s.send (.spdm t b)) := .of_heads rfl
  unfold State.spdmPut
  split
  · exact put.trans (State.msix_sameHeads _ t 6)
  · exact put

/-- An answer to a request that has been counted is one message more. -/
theorem State.countDoe_spdmPut_sent (t : Nat) (b : Body) : s.sent ((s.countDoe t).spdmPut t b) (.spdm t b) :=
  ((s.countDoe_tells t).after (State.spdmPut_tells ..)).sent ((s.countDoe_sameHeads t).trans (State.spdmPut_sameHeads _ _ _))

@[simp] theorem State.countDoe_ctl (t : Nat) : (s.countDoe t).ctl = s.ctl := by rw [(s.countDoe_tells t).frame]
@[simp] theorem State.countDoe_sec (t : Nat) : (s.countDoe t).sec = s.sec := by rw [(s.countDoe_tells t).frame]
@[simp] theorem State.countDoe_free (t : Nat) : (s.countDoe t).free = s.free := by rw [(s.countDoe_tells t).frame]

@[simp] theorem State.countDoe_drbgBlocked (t : Nat) : (s.countDoe t).drbgBlocked = s.drbgBlocked :=
  congrArg (· == 1) ((s.countDoe_tells t).moves.reads _ (by decide) (by decide) 0 0)

@[simp] theorem State.countDoe_openBytes (t n : Nat) : (s.countDoe t).openBytes n = s.openBytes n := by
  rw [State.openBytes, State.openBytes, State.countDoe_free]

@[simp] theorem State.countDoe_sessionsOn (t k : Nat) : (s.countDoe t).sessionsOn k = s.sessionsOn k := by
  rw [State.sessionsOn, State.sessionsOn, State.countDoe_sec]

@[simp] theorem State.countDoe_hasSession (t k id : Nat) : (s.countDoe t).hasSession k id = s.hasSession k id := by
  rw [State.hasSession, State.hasSession, State.countDoe_ctl, State.countDoe_sessionsOn]

/-- A measurement is of registers, of firmware slots and of the mode, none of which a request moves (R352). -/
@[simp] theorem State.countDoe_measurement (t i : Nat) : (s.countDoe t).measurement i = s.measurement i := by
  have same : ∀ f : Field, f.kinds < 16 → bookFields.all (fun g => g.num != f.num) = true → ∀ d i,
      (s.countDoe t).rd f d i = s.rd f d i := fun f hk hf => (s.countDoe_tells t).moves.reads f hk hf
  have content : (s.countDoe t).slotContent = s.slotContent := by
    simp (disch := decide) only [State.slotContent, State.slotState, same]
  have slot : ∀ n, (s.countDoe t).fwSlot n = s.fwSlot n := fun n => by rw [State.fwSlot, State.fwSlot, State.countDoe_sec]
  have runs : (s.countDoe t).fwRuns = s.fwRuns := same _ (by decide) (by decide) 0 0
  unfold State.measurement
  rw [content, runs, slot, State.countDoe_ctl]
  simp (disch := decide) only [State.reg, same]

@[simp] theorem State.countDoe_measurementBlock (t i : Nat) : (s.countDoe t).measurementBlock i = s.measurementBlock i := by
  rw [State.measurementBlock, State.measurementBlock, State.countDoe_measurement]

@[simp] theorem State.countDoe_measurementBlocks (t i : Nat) : (s.countDoe t).measurementBlocks i = s.measurementBlocks i := by
  simp only [State.measurementBlocks, State.countDoe_measurementBlock]

end
/-! ## Requests that are answered -/

section
variable {s : State} {transport : Fin 3} {f : State → State}

/-- A request that its transport carries has its effect once it has been counted (R93, R351). -/
theorem State.spdm_served (hs : s.spdmServed transport = true) (f : State → State) : s.spdm transport f = f (s.countDoe transport) :=
  if_pos hs

/-- A served request sends one message, and moves nothing else. -/
theorem State.spdm_sent {o : Out} (hs : s.spdmServed transport = true)
    (told : (s.countDoe transport).tells (f (s.countDoe transport)) [] [o])
    (heads : (s.countDoe transport).sameHeads (f (s.countDoe transport))) :
    ∃ t, (.next (s.spdm transport f) : Res) = .next t ∧ s.sent t o := by
  rw [State.spdm_served hs]
  exact ⟨_, rfl, ((s.countDoe_tells transport).after told).sent ((s.countDoe_sameHeads transport).trans heads)⟩

/-- A served request that is answered at once. -/
theorem State.spdm_answered {b : Body} (hs : s.spdmServed transport = true)
    (hf : f (s.countDoe transport) = (s.countDoe transport).spdmPut transport b) :
    ∃ t, (.next (s.spdm transport f) : Res) = .next t ∧ s.sent t (.spdm transport b) :=
  State.spdm_sent hs (by rw [hf]; exact State.spdmPut_tells ..) (by rw [hf]; exact State.spdmPut_sameHeads _ _ _)

/-- A blocked DRBG has a request refused with ERROR, and raises its source (R331). -/
theorem State.spdm_noEntropy (hs : s.spdmServed transport = true)
    (hf : f (s.countDoe transport) = ((s.countDoe transport).raise 549).spdmError transport) :
    ∃ t, (.next (s.spdm transport f) : Res) = .next t ∧ s.sent t (.spdm transport (.values [0x7F])) :=
  State.spdm_sent hs (by rw [hf]; exact (State.raise_tells ..).after (State.spdmPut_tells ..))
    (by rw [hf]; exact (State.raise_sameHeads _ _).trans (State.spdmPut_sameHeads _ _ _))

/-! ## Signed responses (R331, R351) -/

theorem State.spdm_signed_blocked {code : Nat} {b : List (BitVec 8)} (hs : s.spdmServed transport = true) (hb : s.drbgBlocked = true)
    (hf : f (s.countDoe transport) = (s.countDoe transport).spdmSigned transport code b) :
    ∃ t, (.next (s.spdm transport f) : Res) = .next t ∧ s.sent t (.spdm transport (.values [0x7F])) :=
  State.spdm_noEntropy hs (hf.trans (if_pos (by rw [State.countDoe_drbgBlocked, hb])))

/-- A signed response carries its content, then what is open at the counter, which moves on. -/
theorem State.spdm_signed {code : Nat} {b : List (BitVec 8)} (hs : s.spdmServed transport = true) (hb : s.drbgBlocked = false)
    (hf : f (s.countDoe transport) = (s.countDoe transport).spdmSigned transport code b) :
    ∃ t, (.next (s.spdm transport f) : Res) = .next t ∧ t.free = s.free + 1 ∧
      s.sent { t with free := s.free } (.spdm transport (.bytes (leBytes 1 code ++ (b ++ s.openBytes 146)))) := by
  have sent := s.countDoe_spdmPut_sent transport (.bytes (leBytes 1 code ++ (b ++ s.openBytes 146)))
  have free : ((s.countDoe transport).spdmPut transport (.bytes (leBytes 1 code ++ (b ++ s.openBytes 146)))).free = s.free := by
    rw [sent.2.1]
  have signed : (s.countDoe transport).spdmSigned transport code b =
      ((s.countDoe transport).spdmPut transport (.bytes (leBytes 1 code ++ (b ++ s.openBytes 146)))).draw := by
    rw [State.spdmSigned, State.countDoe_drbgBlocked, hb, State.countDoe_openBytes]
    rfl
  refine ⟨_, congrArg Host.Outcome.next ((State.spdm_served hs f).trans (hf.trans signed)), congrArg (· + 1) free, ?_⟩
  rw [← free]
  exact sent

/-- Whatever a request for measurements asks for, a blocked DRBG has it refused (R331, R352). -/
theorem exec_spdmGetMeasurements_blocked (hs : s.spdmServed transport = true) (hb : s.drbgBlocked = true) (index nonce : Nat) :
    ∃ t, exec (.spdmGetMeasurements transport index nonce) s = .next t ∧ s.sent t (.spdm transport (.values [0x7F])) := by
  by_cases count : index = 0
  · exact State.spdm_signed_blocked hs hb (if_pos count)
  by_cases one : index ≤ 8
  · exact State.spdm_signed_blocked hs hb ((if_neg count).trans (if_pos one))
  by_cases all : index = 255
  · exact State.spdm_signed_blocked hs hb ((if_neg count).trans ((if_neg one).trans (if_pos all)))
  · exact State.spdm_answered hs ((if_neg count).trans ((if_neg one).trans (if_neg all)))

end

/-- Settles O39: a request is counted and answered from what that leaves; a signed answer also draws what is open. -/
theorem spdmAnswers : Obligations.SpdmAnswers := by
  refine ⟨fun s transport hs => ⟨?_, ?_, fun supported => ?_, ?_, fun slot offset length => ?_⟩,
    fun s transport nonce hs => ⟨fun hb => ⟨?_, ?_⟩, fun slot hslot => ?_, fun hb => ⟨?_, fun index h1 h8 => ?_, ?_, ?_⟩⟩⟩
  · exact State.spdm_answered hs rfl
  · exact State.spdm_answered hs rfl
  · cases supported with
    | true => exact State.spdm_answered hs rfl
    | false => exact State.spdm_answered hs rfl
  · exact State.spdm_answered hs rfl
  · by_cases h : slot = 0 ∧ offset < Config.chainLength
    · rw [if_pos h]; exact State.spdm_answered hs (if_pos h)
    · rw [if_neg h]; exact State.spdm_answered hs (if_neg h)
  · exact State.spdm_signed_blocked hs hb (if_pos rfl)
  · exact fun index => exec_spdmGetMeasurements_blocked hs hb index nonce
  · exact State.spdm_answered hs (if_neg hslot)
  · exact State.spdm_signed hs hb (if_pos rfl)
  · exact State.spdm_signed hs hb ((if_neg (by omega)).trans ((if_pos h8).trans (by rw [State.countDoe_measurementBlock])))
  · exact State.spdm_signed hs hb (if_pos rfl)
  · exact State.spdm_signed hs hb (by rw [← s.countDoe_measurementBlocks transport]; rfl)

end Sys2Proof.Machine
end

section
/-! PROOFS. Secured sessions and DOE objects (O40; R93, R94, R331, R345, R351). -/

namespace Sys2Proof.Machine

/-! ## Sessions (R351) -/

section
variable {s t : State} {l : List Field} {os : List Out} {k id : Nat}

/-- What is sent and moved beside the security state does not depend on it. -/
theorem State.tells.withSec (h : s.tells t l os) (x : Security) :
    ({ s with sec := x } : State).tells { t with sec := x } l os :=
  ⟨by conv_lhs => rw [h.frame], h.manager, (State.movesOnly.of_regs .refl rfl : ({ s with sec := x } : State).movesOnly s l).trans
    (h.moves.of_regs rfl), h.messages⟩

/-- A request of SPDM that changes the security state once it has been counted: what it sends and moves besides. -/
theorem State.countDoe_sec_sent {x : Security} {o : Out}
    (told : ({ s.countDoe k with sec := x } : State).tells t [] [o]) (heads : (s.countDoe k).sameHeads t) :
    s.sent { t with sec := s.sec } o := by
  have same : ({ s.countDoe k with sec := s.sec } : State) = s.countDoe k := by rw [← s.countDoe_sec k]
  have back := told.withSec s.sec
  exact ((s.countDoe_tells k).after (same ▸ back)).sent ((s.countDoe_sameHeads k).trans heads)

/-- The session that a transport's next key exchange establishes. -/
def State.withSession (s : State) (k : Nat) : State :=
  { s with sec := { s.sec with sessions := s.sec.sessions ++ [⟨k, s.sec.nextSession⟩], nextSession := s.sec.nextSession + 1 } }

/-- The sessions but one. -/
def State.withoutSession (s : State) (k id : Nat) : State :=
  { s with sec := { s.sec with sessions := s.sec.sessions.filter (fun x => !(x.transport == k && x.id == id)) } }

/-- None of a transport's sessions has the number of one that has ended. -/
theorem State.sessionsOn_without (h : t.sec = (s.withoutSession k id).sec) : (t.sessionsOn k).all (fun x => x.id != id) = true := by
  rw [State.sessionsOn, h, List.all_eq_true]
  intro x hx
  obtain ⟨kept, own⟩ := List.mem_filter.mp hx
  have other := (List.mem_filter.mp kept).2
  simp only [beq_iff_eq] at own
  simpa [own] using other

theorem State.tells.endSession (h : s.tells t l os) :
    ({ s with sec := (t.withoutSession k id).sec } : State).tells (t.endSession k id) l os :=
  (h.withSec _).then (State.raise_tells (t.withoutSession k id) 538)

theorem State.endSession_sameHeads (s : State) (k id : Nat) : s.sameHeads (s.endSession k id) :=
  .trans (t := s.withoutSession k id) (.of_heads rfl) (State.raise_sameHeads _ 538)

theorem State.endSession_sec (s : State) (k id : Nat) : (s.endSession k id).sec = (s.withoutSession k id).sec := State.raise_sec ..

theorem State.endSession_booked (s : State) (k id : Nat) : s.booked { s.endSession k id with sec := s.sec } [] :=
  ((State.tells.refl (l := [])).endSession.withSec s.sec).booked (s.endSession_sameHeads k id) (State.raise_out ..)

theorem State.hasSession_eq_false (h : (s.sessionsOn k).all (fun x => x.id != id) = true) : s.hasSession k id = false := by
  rw [State.hasSession, List.any_eq_not_all_not]
  simp only [bne] at h
  rw [h]
  simp

end

section
variable {s : State} {transport : Fin 3} {id : Nat}

/-- A key exchange that its FINISH verifies establishes a session outside Halt, where its transport has fewer than two (R345, R351). -/
theorem exec_spdmKeyExchange_establishes (hs : s.spdmServed transport = true) (hm : s.ctl.mode ≠ .m10)
    (hn : (s.sessionsOn transport).length < 2) (hb : s.drbgBlocked = false) :
    exec (.spdmKeyExchange transport true) s =
      .next ((((s.countDoe transport).withSession transport).spdmSay transport [0x64, 0x65, s.sec.nextSession]).raise 537) := by
  refine congrArg Host.Outcome.next ((State.spdm_served hs _).trans ((if_neg ?_).trans ?_))
  · rw [State.countDoe_ctl, State.countDoe_sessionsOn, not_or]
    exact ⟨hm, Nat.not_le.mpr hn⟩
  · rw [State.countDoe_drbgBlocked, hb, State.countDoe_sec]
    simp only [State.withSession, State.countDoe_sec]
    rfl

theorem exec_spdmKeyExchange_refused {good : Bool} (hs : s.spdmServed transport = true)
    (h : s.ctl.mode = .m10 ∨ 2 ≤ (s.sessionsOn transport).length ∨ s.drbgBlocked = true ∨ good = false) :
    ∃ t, exec (.spdmKeyExchange transport good) s = .next t ∧ s.sent t (.spdm transport (.values [0x7F])) := by
  by_cases full : (s.countDoe transport).ctl.mode = .m10 ∨ 2 ≤ ((s.countDoe transport).sessionsOn transport).length
  · exact State.spdm_answered hs (if_pos full)
  by_cases blocked : (s.countDoe transport).drbgBlocked = true
  · exact State.spdm_noEntropy hs ((if_neg full).trans (if_pos blocked))
  have bad : good = false := by
    rw [State.countDoe_ctl, State.countDoe_sessionsOn, not_or] at full
    rw [State.countDoe_drbgBlocked] at blocked
    exact ((h.resolve_left full.1).resolve_left full.2).resolve_left blocked
  have ends : ∀ u : State, u.tells ((u.spdmError transport).raise 538) [] [.spdm transport (.values [0x7F])] :=
    fun u => (u.spdmPut_tells ..).then (State.raise_tells ..)
  rw [bad]
  refine ⟨_, congrArg Host.Outcome.next ((State.spdm_served hs _).trans ((if_neg full).trans ((if_neg blocked).trans (if_pos rfl)))), ?_⟩
  exact ((s.countDoe_tells transport).after (ends _)).sent ((s.countDoe_sameHeads transport).trans
    ((State.spdmPut_sameHeads _ _ _).trans (State.raise_sameHeads _ _)))

/-- A request in a session is answered with its code where the session stands, and with ERROR where none does. -/
theorem State.spdm_inSession {code : Nat} (hs : s.spdmServed transport = true) :
    ∃ t, (.next (s.spdm transport (fun u =>
        if u.hasSession transport id then u.spdmSay transport [code] else u.spdmError transport)) : Res) = .next t ∧
      s.sent t (.spdm transport (.values [if s.hasSession transport id then code else 0x7F])) := by
  refine State.spdm_answered hs ?_
  rw [State.countDoe_hasSession]
  split <;> rfl

/-- END_SESSION: the session that stands ends, and none of its number stands (R351, R359). -/
theorem exec_spdmEndSession_served (hs : s.spdmServed transport = true) :
    ∃ t, exec (.spdmEndSession transport id) s = .next t ∧ t.hasSession transport id = false ∧
      s.sent { t with sec := s.sec } (.spdm transport (.values [if s.hasSession transport id then 0x6C else 0x7F])) := by
  by_cases stands : s.hasSession transport id = true
  · rw [if_pos stands]
    let u := (s.countDoe transport).spdmSay transport [0x6C]
    have said : (s.countDoe transport).tells u [] [.spdm transport (.values [0x6C])] := State.spdmPut_tells ..
    refine ⟨u.endSession transport id, congrArg Host.Outcome.next ((State.spdm_served hs _).trans (if_pos ?_)),
      State.hasSession_eq_false (State.sessionsOn_without (u.endSession_sec ..)), State.countDoe_sec_sent said.endSession
        (((s.countDoe transport).spdmPut_sameHeads _ _).trans (u.endSession_sameHeads _ _))⟩
    rw [State.countDoe_hasSession, stands]
  · rw [if_neg stands]
    have sent := s.countDoe_spdmPut_sent transport (.values [0x7F])
    have ctl : ((s.countDoe transport).spdmError transport).ctl = s.ctl := by rw [State.spdmError, State.spdmSay, sent.2.1]
    have sec : ((s.countDoe transport).spdmError transport).sec = s.sec := by rw [State.spdmError, State.spdmSay, sent.2.1]
    refine ⟨_, congrArg Host.Outcome.next ((State.spdm_served hs _).trans (if_neg (by rwa [State.countDoe_hasSession]))), ?_, ?_⟩
    · rw [State.hasSession, State.sessionsOn, ctl, sec]
      simpa only [Bool.not_eq_true, State.hasSession, State.sessionsOn] using stands
    · rw [← sec]
      exact sent

/-- A session whose heartbeat has been missed for the third time ends (R351). -/
theorem exec_spdmHeartbeatTimeout_ends (h : (s.sessionsOn transport).any (fun x => x.id == id) = true) :
    exec (.spdmHeartbeatTimeout transport id) s = .next (s.endSession transport id) := congrArg Host.Outcome.next (if_pos h)

end

/-! ## DOE objects (R93, R94) -/

section
variable {s : State} {h i bytes : Nat}

/-- An object of a size that a DOE mailbox takes is answered, unless the mailbox has discarded one (R93). -/
theorem State.doeObject_taken (hu : s.ioUp h = true) (he : (s.heads.get h).doeError.get i = false) (hb : bytes ≤ 65536)
    (f : State → State) : s.doeObject h i bytes f = f s := by
  rw [State.doeObject, hu, he]
  exact if_neg (Nat.not_lt.mpr hb)

theorem State.doeObject_discarded (hu : s.ioUp h = true) (he : (s.heads.get h).doeError.get i = false) (hb : 65536 < bytes)
    (f : State → State) : s.doeObject h i bytes f =
      s.onHead h (fun hd => { hd with doeError := hd.doeError.modify i (fun _ => true) }) := by
  rw [State.doeObject, hu, he]
  exact if_pos hb

/-- A DOE mailbox that has discarded an object takes none before its Abort (R93). -/
theorem State.doeObject_error (he : (s.heads.get h).doeError.get i = true) (f : State → State) :
    s.doeObject h i bytes f = s := by
  rw [State.doeObject, he, Bool.or_true]
  rfl

theorem State.sendDoe_sent (s : State) (h i : Nat) (b : Body) : s.sent (s.sendDoe h i b) (.doe h i b) :=
  (s.sendDoe_does h i b).1.sent (s.sendDoe_does h i b).2

/-- Whether a DOE mailbox shows DOE Error once an object of so many bytes has been dropped (R93). -/
theorem State.doeObject_doeError (hu : s.ioUp h = true) : ((s.doeObject h i bytes id).heads.get h).doeError.get i = true ↔
    ((s.heads.get h).doeError.get i = true ∨ 65536 < bytes) := by
  by_cases he : (s.heads.get h).doeError.get i = true
  · rw [State.doeObject_error he]
    simp [he]
  rw [Bool.not_eq_true] at he
  rcases Nat.lt_or_ge 65536 bytes with hb | hb
  · rw [State.doeObject_discarded hu he hb, State.onHead_heads_self, Two.get_modify_self]
    simp [hb]
  · rw [State.doeObject_taken hu he hb, id, he]
    simp [Nat.not_lt.mpr hb]

/-- An object that a DOE mailbox drops moves nothing but its head. -/
theorem State.doeObject_drops (s : State) (h i n : Nat) : s.doeObject h i n id = { s with heads := (s.doeObject h i n id).heads } := by
  unfold State.doeObject
  split
  · rfl
  · split <;> rfl

end

section
variable {s : State} {head inst : Fin 2} {bytes index : Nat}

theorem exec_doeDiscovery_listed (hu : s.ioUp head = true) (he : (s.heads.get head).doeError.get inst = false) (hb : bytes ≤ 65536)
    {p : Nat × Nat} (hp : (doeProtocols inst)[index]? = some p) :
    exec (.doeDiscovery head inst ⟨index, bytes⟩) s = .next (s.sendDoe head inst (.values
      [p.1, p.2, if index + 1 < (doeProtocols inst).length then index + 1 else 0])) := by
  refine congrArg Host.Outcome.next ((State.doeObject_taken hu he hb _).trans ?_)
  simp only [hp]

theorem exec_doeDiscovery_unlisted (hu : s.ioUp head = true) (he : (s.heads.get head).doeError.get inst = false) (hb : bytes ≤ 65536)
    (hp : (doeProtocols inst)[index]? = none) :
    exec (.doeDiscovery head inst ⟨index, bytes⟩) s = .next (s.sendDoe head inst (.values [0xFFFF, 0xFF, 0])) := by
  refine congrArg Host.Outcome.next ((State.doeObject_taken hu he hb _).trans ?_)
  simp only [hp]

/-- An abort leaves its DOE mailbox idle, and says whether it showed DOE Error (R93). -/
theorem exec_doeAbort_idles (hu : s.ioUp head = true) : ∃ t, exec (.doeAbort head inst bytes) s = .next t ∧
    t.out = .doe head inst (.values [if (s.heads.get head).doeError.get inst = true ∨ 65536 < bytes then 1 else 0]) :: s.out ∧
    (t.heads.get head).doeError.get inst = false ∧ t = { s with heads := t.heads, out := t.out } := by
  have shows := State.doeObject_doeError (i := inst) (bytes := bytes) hu
  have drops := s.doeObject_drops head inst bytes
  have ran : exec (.doeAbort head inst bytes) s = _ := congrArg Host.Outcome.next (if_pos hu)
  dsimp only at ran
  generalize s.doeObject head inst bytes id = u at shows drops ran
  refine ⟨_, ran, ?_, ?_, ?_⟩
  · simp only [← shows]
    rw [drops]
    rfl
  · exact (congrArg (fun hd : Head => hd.doeError.get inst) (State.onHead_heads_self ..)).trans (Two.get_modify_self ..)
  · rw [drops]
    rfl

end

/-- Settles O40: each request by what it says of its session, and each DOE object by whether its DOE mailbox takes it. -/
theorem sessionsAndDoe : Obligations.SessionsAndDoe := by
  refine ⟨fun s transport id => ⟨fun hs hm hn hb => ?_, fun good hs h => exec_spdmKeyExchange_refused hs h,
      fun hs => ⟨State.spdm_inSession hs, State.spdm_inSession hs, exec_spdmEndSession_served hs⟩, fun h => ?_⟩,
    fun s head bytes hu => ⟨fun he hb entry => ?_, fun inst he => ⟨fun hb => ⟨fun index p hp => ?_, fun index hp => ?_⟩,
      fun hb index => ?_⟩, fun inst => exec_doeAbort_idles hu, fun inst index he => ?_⟩⟩
  · let u := (s.countDoe transport).withSession transport
    have told : u.tells ((u.spdmSay transport [0x64, 0x65, s.sec.nextSession]).raise 537) []
        [.spdm transport (.values [0x64, 0x65, s.sec.nextSession])] := (u.spdmPut_tells ..).then (State.raise_tells ..)
    have heads : u.sameHeads ((u.spdmSay transport [0x64, 0x65, s.sec.nextSession]).raise 537) :=
      (u.spdmPut_sameHeads _ _).trans (State.raise_sameHeads _ _)
    have sec : ((u.spdmSay transport [0x64, 0x65, s.sec.nextSession]).raise 537).sec = (s.withSession transport).sec := by
      rw [told.frame]
      simp only [u, State.withSession, State.countDoe_sec]
    exact ⟨_, exec_spdmKeyExchange_establishes hs hm hn hb, by rw [sec]; rfl, by rw [sec]; rfl,
      State.countDoe_sec_sent told ((State.sameHeads.of_heads rfl).trans heads)⟩
  · exact ⟨_, exec_spdmHeartbeatTimeout_ends h, State.sessionsOn_without (State.endSession_sec ..), s.endSession_booked transport id,
      by rw [State.endSession_sec]; rfl⟩
  · exact ⟨_, congrArg Host.Outcome.next (State.doeObject_taken hu he hb _), s.sendDoe_sent ..⟩
  · exact ⟨_, exec_doeDiscovery_listed hu he hb hp, s.sendDoe_sent ..⟩
  · exact ⟨_, exec_doeDiscovery_unlisted hu he hb hp, s.sendDoe_sent ..⟩
  · exact ⟨_, congrArg Host.Outcome.next (State.doeObject_discarded hu he hb _),
      (congrArg (fun hd : Head => hd.doeError.get inst) (State.onHead_heads_self ..)).trans (Two.get_modify_self ..), rfl⟩
  · exact congrArg Host.Outcome.next (State.doeObject_error he _)

end Sys2Proof.Machine
end

section
/-! SUPPORT. Images of firmware (R353, R354): what a piece does to the slots, and what does not follow on. -/

namespace Sys2Proof.Machine

section
variable {s : State} {offset n length : Nat}

/-- The transfer of an image stands at a place, or nowhere. -/
def State.withTransfer (s : State) (x : Option (Nat × Nat × Nat)) : State := { s with sec := { s.sec with transfer := x } }

/-- A piece that follows, and leaves bytes to come, is taken (R353). -/
theorem State.takeImage_part (hf : s.imageFollows offset length = true) (hn : offset + n < length) (v : ImageVerdict) :
    s.takeImage offset n length v = (s.withTransfer (some (1 - s.fwRuns, offset + n, length)), false) := by
  unfold State.takeImage
  rw [if_pos hn, hf]
  rfl

/-- A whole image that passes replaces the slot's contents (R353, R354). -/
theorem State.takeImage_whole (hf : s.imageFollows offset length = true) (hn : length ≤ offset + n) {version svn : Nat}
    (hv : s.reg Reg.SEC_FW.SVN_FUSED ≤ svn % 256) : s.takeImage offset n length (.good version svn) =
      ((s.withTransfer none).setFwSlot (1 - s.fwRuns) ⟨true, version % 65536, svn % 256⟩, false) := by
  unfold State.takeImage
  rw [if_neg (Nat.not_lt.mpr hn), hf]
  exact if_pos (by simpa using hv)

/-- The last piece of an image of which a piece is missing has the image refused, whatever the verdict on what has arrived. -/
theorem State.takeImage_missing (hf : s.imageFollows offset length = false) (hn : length ≤ offset + n) (v : ImageVerdict) :
    s.takeImage offset n length v = ((s.withTransfer none).raise 543, true) := by
  unfold State.takeImage
  rw [if_neg (Nat.not_lt.mpr hn), hf]
  cases v <;> rfl

/-- A refused image ends its transfer, with its source, and touches neither slot (R353, R354). -/
theorem State.takeImage_refused {v : ImageVerdict} (hr : (s.takeImage offset n length v).2 = true) :
    s.takeImage offset n length v = ((s.withTransfer none).raise 543, true) := by
  unfold State.takeImage at hr ⊢
  dsimp only at hr ⊢
  split at hr
  · exact absurd hr Bool.false_ne_true
  · next whole =>
    rw [if_neg whole]
    cases v with
    | good version svn =>
      dsimp only at hr ⊢
      split at hr
      · exact absurd hr Bool.false_ne_true
      · next bad => rw [if_neg bad]; rfl
    | partly => rfl
    | refused => rfl

/-- Of the two slots one is replaced. -/
theorem State.fwSlot_setFwSlot (s : State) (k j : Nat) (x : FwSlot) :
    (s.setFwSlot k x).fwSlot j = if k = 0 ↔ j = 0 then x else s.fwSlot j := by
  unfold State.setFwSlot State.fwSlot
  split <;> split <;> simp_all

@[simp] theorem State.fwSlot_withTransfer (s : State) (x : Option (Nat × Nat × Nat)) (k : Nat) : (s.withTransfer x).fwSlot k = s.fwSlot k :=
  rfl

/-- The slots are the security state's. -/
theorem State.fwSlot_congr {t : State} (h : t.sec = s.sec) (k : Nat) : t.fwSlot k = s.fwSlot k := by
  rw [State.fwSlot, State.fwSlot, h]

end

/-! ## Images over a mailbox -/

section
variable {s : State} {m : Mbox} {offset length data : Nat}

@[simp] theorem State.mailTaken_imageFollows (s : State) (m : Mbox) (offset length : Nat) :
    (s.mailTaken m).imageFollows offset length = s.imageFollows offset length := by
  simp only [State.imageFollows, State.fwRuns, State.reg, State.mailTaken_sec]
  rw [s.mailTaken_rd m (by decide) (by decide)]

/-- TRANSFER_FW with the last bytes of an image of which a piece is missing (R353). -/
theorem exec_transferFw_missing (hs : s.mailServed m 0x0201 = true) (hp : imagePiece offset data length = true) (hd : 128 + data ≤ 131072)
    (hf : s.imageFollows offset length = false) (hn : length ≤ offset + data) (v : ImageVerdict) :
    exec (.transferFw m offset length data v) s = .next ((((s.mailTaken m).withTransfer none).raise 543).mailRc m 0x0201 rcFwAuth) := by
  refine congrArg Host.Outcome.next ((s.mail_served m hs _).trans ((if_neg (Nat.not_lt.mpr hd)).trans ((if_neg ?_).trans ?_)))
  · rw [hp]; decide
  · dsimp only
    rw [State.takeImage_missing (by rw [State.mailTaken_imageFollows, hf]) hn]
    rfl

/-- An image that is refused over a mailbox leaves both slots. -/
theorem State.refusedImage_fwSlot (s : State) (m : Mbox) (rc k : Nat) :
    ((((s.mailTaken m).withTransfer none).raise 543).mailRc m 0x0201 rc).fwSlot k = s.fwSlot k := by
  have told := (((s.mailTaken m).withTransfer none).raise 543).mailSay_tells (l := []) m 0x0201 rc (.values [])
  rw [State.fwSlot_congr (s := ((s.mailTaken m).withTransfer none).raise 543) (by rw [State.mailRc, told.frame]),
    State.fwSlot_congr (s := (s.mailTaken m).withTransfer none) (State.raise_sec ..), State.fwSlot_withTransfer,
    State.fwSlot_congr (s.mailTaken_sec m)]

end

end Sys2Proof.Machine
end

section
/-! PROOFS. Firmware images and background commands (O43; R353, R354). -/

namespace Sys2Proof.Machine

/-- A module in Serve, as shipped beside its mode and the link of head 0: no transfer of an image stands. -/
def servingWithoutTransfer : State :=
  { State.reset with ctl := { Control.reset with mode := .m5 }, heads := ⟨{ Head.reset with linkUp := true }, Head.reset⟩ }

/-- Refutes O43: the statement has bytes 8 to 15 of an image of 16 bytes replace slot B though bytes 0 to 7 have never arrived, since it
does not ask that the piece follows on the transfer that stands; the model refuses such an image and leaves the slot. -/
theorem not_imagesAndBackground : ¬ Obligations.ImagesAndBackground := by
  intro h
  let m : Mbox := ⟨0, false, false, false⟩
  have served : servingWithoutTransfer.mailServed m 0x0201 = true := by decide +kernel
  have missing : servingWithoutTransfer.imageFollows 8 16 = false := by decide +kernel
  have idle : servingWithoutTransfer.fwSlot 1 = ⟨false, 0, 0⟩ := rfl
  obtain ⟨_, whole, _⟩ := h.1 servingWithoutTransfer m 8 16 8 served (by decide) (by decide)
  obtain ⟨t, ran, replaced, _⟩ := whole 1 1 rfl (by decide +kernel)
  rw [exec_transferFw_missing served (by decide) (by decide) missing (by decide)] at ran
  injection ran with ran
  rw [← ran, State.refusedImage_fwSlot, show 1 - servingWithoutTransfer.fwRuns = 1 by decide +kernel, idle] at replaced
  exact absurd replaced (by decide)

end Sys2Proof.Machine
end

section
/-! SUPPORT. The replies that wait for the platform manager (R393), and what a reply to a leaf moves (R389, R404, R411). -/

namespace Sys2Proof.Machine

/-! ## The replies that the platform manager has yet to read -/

/-- From s to t the replies that wait for the platform manager stand as they stood. -/
structure State.keepsUnread (s t : State) : Prop where
  unread : t.pm.unread = s.pm.unread

section
variable {s t u : State}

theorem State.keepsUnread.refl : s.keepsUnread s := ⟨rfl⟩

theorem State.keepsUnread.trans (h1 : s.keepsUnread t) (h2 : t.keepsUnread u) : s.keepsUnread u := ⟨h2.unread.trans h1.unread⟩

/-- A change beside the platform manager's side. -/
theorem State.keepsUnread.of_eq (h : s.keepsUnread t) (hp : u.pm = t.pm) : s.keepsUnread u := h.trans ⟨by rw [hp]⟩

theorem State.keepsUnread.ite {c : Prop} [Decidable c] (ht : s.keepsUnread t) (hu : s.keepsUnread u) :
    s.keepsUnread (if c then t else u) :=
  iteInduction (fun _ => ht) (fun _ => hu)

theorem State.keepsUnread.foldl {α : Type} {f : State → α → State} (h : s.keepsUnread t) (hf : ∀ (t : State) (a : α), t.keepsUnread (f t a))
    (r : List α) : s.keepsUnread (r.foldl f t) :=
  h.trans (foldl_related (R := State.keepsUnread) (fun _ => .refl) .trans hf r t)

/-- Indications add to what the platform manager is to be told, and to nothing else of its side. -/
theorem State.samePm.keepsUnread (h : s.samePm t) : s.keepsUnread t := ⟨by rw [h]⟩

end

section
variable {s t : State} (h : s.keepsUnread t)
include h

theorem State.keepsUnread.tally (d i n : Nat) : s.keepsUnread (t.tally d i n) :=
  h.trans (t.tally_tells (l := []) d i n).manager.keepsUnread

theorem State.keepsUnread.raise (n : Nat) : s.keepsUnread (t.raise n) := h.trans (t.raise_tells (l := []) n).manager.keepsUnread

theorem State.keepsUnread.pageCommit (page : Nat) : s.keepsUnread (t.pageCommit page) := by
  unfold State.pageCommit
  extract_lets n x s1 s2 s3
  have worn : s.keepsUnread s3 := .ite (h.of_eq rfl) (h.of_eq rfl)
  clear_value s3
  exact (State.keepsUnread.ite (worn.raise _) worn).tally ..

theorem State.keepsUnread.memActiveAt (hd : Nat) (on : Bool) : s.keepsUnread (t.memActiveAt hd on) := by
  have shown : ∀ v, s.keepsUnread (t.wr Reg.LNK_STATUS.MEM_ACTIVE hd 0 v) := fun _ => h.of_eq rfl
  unfold State.memActiveAt
  exact .ite h ((shown _).raise _)

theorem State.keepsUnread.toMode (m : Mode) : s.keepsUnread (t.toMode m) := by
  have entered : s.keepsUnread (({ t with ctl := { t.ctl with mode := m } } : State).setReg Reg.MOD_STATUS.PREV_MODE t.ctl.mode.num) :=
    h.of_eq rfl
  unfold State.toMode State.memActive
  exact .ite ((entered.memActiveAt ..).memActiveAt ..) (entered.memActiveAt ..)

theorem State.keepsUnread.refreshEntry (n : Nat) : s.keepsUnread (t.refreshEntry n) := by
  unfold State.refreshEntry
  exact .ite (h.tally ..) h

theorem State.keepsUnread.selfRefresh (on : Bool) : s.keepsUnread (t.selfRefresh on) := by
  refine h.foldl (fun u d => ?_) _
  extract_lets s1
  have entered : u.keepsUnread s1 := .ite ((State.keepsUnread.refl.refreshEntry _).refreshEntry _) .refl
  exact entered.of_eq rfl

theorem State.keepsUnread.showDoze (d : Nat) : s.keepsUnread (t.showDoze d) := by
  unfold State.showDoze
  extract_lets power s1
  have shown : s.keepsUnread s1 := h.of_eq rfl
  exact (shown.selfRefresh _).foldl (fun u k =>
    State.keepsUnread.refl.of_eq (u := u.wr Reg.DMC_MODE.DEEP_SLEEP k 0 (if d ≥ 4 then 1 else 0)) rfl) _

/-- The start of a Quiesce replies to nothing. -/
theorem State.keepsUnread.quiesceStart (w : QWork) : s.keepsUnread (t.quiesceStart w) := by
  have paused : s.keepsUnread (t.showDoze 0).pauseBulk := (h.showDoze 0).of_eq rfl
  unfold State.quiesceStart
  extract_lets s1
  have entered : s.keepsUnread s1 := ((paused.tally 0 376 1).toMode .m7).of_eq (State.setReg_pm ..)
  exact entered.of_eq rfl

end

/-! ## What a reply moves -/

/-- From s to t a source that had asserted at head 0 still has (R108). -/
structure State.keepsAsserted (s t : State) : Prop where
  asserted : ∀ n, s.rd Reg.LNK_SRC_ROUTE.ASSERTED 0 n = 1 → t.rd Reg.LNK_SRC_ROUTE.ASSERTED 0 n = 1

section
variable {s t u : State}

theorem State.keepsAsserted.refl : s.keepsAsserted s := ⟨fun _ h => h⟩

theorem State.keepsAsserted.trans (h1 : s.keepsAsserted t) (h2 : t.keepsAsserted u) : s.keepsAsserted u :=
  ⟨fun n h => h2.asserted n (h1.asserted n h)⟩

theorem State.keepsAsserted.ite {c : Prop} [Decidable c] (ht : s.keepsAsserted t) (hu : s.keepsAsserted u) :
    s.keepsAsserted (if c then t else u) :=
  iteInduction (fun _ => ht) (fun _ => hu)

end

section
variable {s t : State} (h : s.keepsAsserted t)
include h

theorem State.keepsAsserted.of_regs {u : State} (hr : u.regs = t.regs) : s.keepsAsserted u :=
  h.trans ⟨fun _ ha => (State.rd_congr hr ..).trans ha⟩

theorem State.keepsAsserted.wr {f : Field} (hk : f.kinds < 16) (hf : Reg.LNK_SRC_ROUTE.ASSERTED.num ≠ f.num) (d i v : Nat) :
    s.keepsAsserted (t.wr f d i v) :=
  h.trans ⟨fun _ ha => (State.rd_wr_ne _ (by decide) hk hf ..).trans ha⟩

theorem State.keepsAsserted.tally (d i n : Nat) : s.keepsAsserted (t.tally d i n) := h.trans ⟨fun _ ha => State.tally_asserted ha ..⟩

theorem State.keepsAsserted.raise (n : Nat) : s.keepsAsserted (t.raise n) :=
  h.trans ⟨fun _ ha => State.tally_asserted (State.assertSource_asserted ha n) ..⟩

theorem State.keepsAsserted.msix (hd v : Nat) : s.keepsAsserted (t.msix hd v) := by
  have sent : s.keepsAsserted (t.send (.msix hd v)) := h.of_regs rfl
  unfold State.msix
  exact .ite (h.of_regs (State.onHead_regs ..)) (sent.tally ..)

theorem State.keepsAsserted.countStatus (d st : Nat) : s.keepsAsserted (t.countStatus d st) := by
  have counted : ∀ {f : Field} v, f.kinds < 16 → Reg.LNK_SRC_ROUTE.ASSERTED.num ≠ f.num → s.keepsAsserted (t.wr f d 0 v) :=
    fun v hk hf => h.wr hk hf d 0 v
  unfold State.countStatus
  exact .ite ((counted _ (by decide) (by decide)).raise _) (.ite ((counted _ (by decide) (by decide)).raise _)
    (.ite (counted _ (by decide) (by decide)) (.ite (counted _ (by decide) (by decide)) h)))

theorem State.keepsAsserted.sendReply (x : LeafReply) : s.keepsAsserted (t.sendReply x) := by
  have inBand : s.keepsAsserted ((t.send (.leaf x)).doorbell (requesterOf x.transport) (x.transport % 2 == 1)) := by
    have sent : s.keepsAsserted (t.send (.leaf x)) := h.of_regs rfl
    exact .ite (sent.msix ..) sent
  have overDoe : s.keepsAsserted (((t.tally (requesterOf x.transport) 367 1).send (.leaf x)).msix (requesterOf x.transport) 6) :=
    .msix (t := (t.tally (requesterOf x.transport) 367 1).send (.leaf x)) ((h.tally ..).of_regs rfl) ..
  unfold State.sendReply
  exact .ite (.ite inBand h) (.ite (.ite overDoe h) (.ite (h.of_regs rfl) h))

theorem State.keepsAsserted.reply (r : Req) (status : Nat) (payload : List Byte) : s.keepsAsserted (t.reply r status payload) := by
  unfold State.reply
  extract_lets st d s1 s2 s3
  have last : s.keepsAsserted s1 := (((h.wr (by decide) (by decide) ..).wr (by decide) (by decide) ..).wr (by decide) (by decide) ..).wr
    (by decide) (by decide) ..
  clear_value s1
  have refused : s.keepsAsserted s3 := .ite ((last.countStatus ..).raise _) (last.countStatus ..)
  exact (refused.tally ..).sendReply _

end

/-! ## The frame of a reply -/

section
variable (s : State)

theorem State.countStatus_counted (d st : Nat) : Counted s (s.countStatus d st) := by
  unfold State.countStatus
  refine iteInduction (fun _ => (s.bump_counted ..).trans (State.raise_counted ..)) fun _ => ?_
  refine iteInduction (fun _ => (s.bump_counted ..).trans (State.raise_counted ..)) fun _ => ?_
  exact iteInduction (fun _ => s.bump_counted ..) fun _ => iteInduction (fun _ => s.bump_counted ..) fun _ => .refl s

theorem Reported.ite {s t u : State} {c : Prop} [Decidable c] (ht : Reported s t) (hu : Reported s u) :
    Reported s (if c then t else u) :=
  iteInduction (fun _ => ht) (fun _ => hu)

theorem State.sendReply_reported (x : LeafReply) : Reported s (s.sendReply x) := by
  have inBand : Reported s ((s.send (.leaf x)).doorbell (requesterOf x.transport) (x.transport % 2 == 1)) :=
    .trans (t := s.send (.leaf x)) rfl (State.doorbell_tells (l := []) ..).reported
  have overDoe : Reported s (((s.tally (requesterOf x.transport) 367 1).send (.leaf x)).msix (requesterOf x.transport) 6) :=
    (s.tally_counted ..).reported.trans
      (.trans (t := (s.tally (requesterOf x.transport) 367 1).send (.leaf x)) rfl (State.msix_reported ..))
  have waiting : Reported s { s with pm := { s.pm with unread := s.pm.unread ++ [x] } } := rfl
  unfold State.sendReply
  exact .ite (.ite inBand (.refl s)) (.ite (.ite overDoe (.refl s)) (.ite waiting (.refl s)))

/-- A reply moves registers, heads, what is sent and the platform manager's side alone. -/
theorem State.reply_reported (r : Req) (status : Nat) (payload : List Byte) : Reported s (s.reply r status payload) := by
  unfold State.reply
  extract_lets st d s1 s2 s3
  have last : Counted s s1 := rfl
  have refused : Counted s s3 := (last.trans (s1.countStatus_counted d st)).trans
    (iteInduction (fun _ => State.raise_counted ..) fun _ => .refl _)
  exact (refused.trans (State.tally_counted ..)).reported.trans (State.sendReply_reported ..)

@[simp] theorem State.reply_sec (r : Req) (status : Nat) (payload : List Byte) : (s.reply r status payload).sec = s.sec := by
  rw [s.reply_reported r status payload]

theorem State.movesOnly.ite {s t u : State} {l : List Field} {c : Prop} [Decidable c] (ht : s.movesOnly t l) (hu : s.movesOnly u l) :
    s.movesOnly (if c then t else u) l :=
  iteInduction (motive := fun v => s.movesOnly v l) (fun _ => ht) (fun _ => hu)

theorem State.countStatus_movesOnly (d st : Nat) : s.movesOnly (s.countStatus d st) (leafFields ++ refusalFields) := by
  have counted : ∀ {f : Field}, f ∈ leafFields ++ refusalFields → f.kinds < 16 → s.movesOnly (s.bump f d 0 1) (leafFields ++ refusalFields) :=
    fun hf hk => .bump .refl hk (List.mem_append_left _ hf)
  unfold State.countStatus
  exact .ite ((counted (by decide) (by decide)).raise _) (.ite ((counted (by decide) (by decide)).raise _)
    (.ite (counted (by decide) (by decide)) (.ite (counted (by decide) (by decide)) .refl)))

theorem State.sendReply_movesOnly (x : LeafReply) {l : List Field} : s.movesOnly (s.sendReply x) l := by
  have inBand : s.movesOnly ((s.send (.leaf x)).doorbell (requesterOf x.transport) (x.transport % 2 == 1)) l :=
    .trans (t := s.send (.leaf x)) (.of_regs .refl rfl) (State.doorbell_tells ..).moves
  have overDoe : s.movesOnly (((s.tally (requesterOf x.transport) 367 1).send (.leaf x)).msix (requesterOf x.transport) 6) l :=
    .msix (t := (s.tally (requesterOf x.transport) 367 1).send (.leaf x)) (.of_regs (.tally .refl ..) rfl) ..
  unfold State.sendReply
  exact .ite (.ite inBand .refl) (.ite (.ite overDoe .refl) (.ite (.of_regs .refl rfl) .refl))

/-- A reply moves, of the registers, those of its leaf (R411). -/
theorem State.reply_movesOnly (r : Req) (status : Nat) (payload : List Byte) :
    s.movesOnly (s.reply r status payload) (leafFields ++ refusalFields) := by
  unfold State.reply
  extract_lets st d s1 s2 s3
  have last : s.movesOnly s1 (leafFields ++ refusalFields) :=
    .wr (.wr (.wr (.wr .refl (by decide) (by decide)) (by decide) (by decide)) (by decide) (by decide)) (by decide) (by decide)
  have counted : s.movesOnly s2 (leafFields ++ refusalFields) := last.trans (s1.countStatus_movesOnly d st)
  clear_value s2
  have refused : s.movesOnly s3 (leafFields ++ refusalFields) := .ite (counted.raise _) counted
  exact (refused.tally ..).trans (State.sendReply_movesOnly ..)

end

end Sys2Proof.Machine
end

section
/-! PROOFS. Firmware leaves, challenge and unlock token (O50; R353 to R355, R357, R358, R360, R423, R434). -/

namespace Sys2Proof.Machine

/-! ## What each leaf's body does -/

section
variable {may : State → Req → List Byte → Prop} {effect : State → Req → List Byte → State}

theorem rowScanChallenge_acts (h : ∀ u r p, may u r p → leafScanChallenge r u = effect u r p) :
    rowScanChallenge.acts .scanChallenge may effect :=
  LeafRow.acts_of (fun _ _ => leafScanChallenge) (fun _ _ _ => rfl) (fun _ _ => rfl) (fun _ _ => rfl) (fun _ _ _ => rfl)
    fun u _ p => h u _ p

theorem rowScanUnlock_acts {signed : Bool} (h : ∀ u r p, may u r p → leafScanUnlock p signed r u = effect u r p) :
    rowScanUnlock.acts (fun hd p => .scanUnlock hd p signed) may effect :=
  LeafRow.acts_of (fun _ p => leafScanUnlock p signed) (fun _ _ _ => rfl) (fun _ _ => rfl) (fun _ _ => rfl) (fun _ _ _ => rfl)
    fun u _ p => h u _ p

theorem rowFwTransfer_acts {v : ImageVerdict} (h : ∀ u r p, may u r p → leafFwTransfer p v r u = effect u r p) :
    rowFwTransfer.acts (fun hd p => .fwTransfer hd p v) may effect :=
  LeafRow.acts_of (fun _ p => leafFwTransfer p v) (fun _ _ _ => rfl) (fun _ _ => rfl) (fun _ _ => rfl) (fun _ _ _ => rfl)
    fun u _ p => h u _ p

theorem rowFwActivate_acts {verified : Bool} (h : ∀ u r p, may u r p → leafFwActivate verified r u = effect u r p) :
    rowFwActivate.acts (fun hd p => .fwActivate hd p verified) may effect :=
  LeafRow.acts_of (fun _ _ => leafFwActivate verified) (fun _ _ _ => rfl) (fun _ _ => rfl) (fun _ _ => rfl) (fun _ _ _ => rfl)
    fun u _ p => h u _ p

theorem rowSvnCommit_acts (h : ∀ u r p, may u r p → leafSvnCommit r u = effect u r p) : rowSvnCommit.acts .svnCommit may effect :=
  LeafRow.acts_of (fun _ _ => leafSvnCommit) (fun _ _ _ => rfl) (fun _ _ => rfl) (fun _ _ => rfl) (fun _ _ _ => rfl)
    fun u _ p => h u _ p

end

section
variable {s : State} {r : Req} {p : List Byte}

/-! ## The unlock token (R357, R358, R360) -/

section
variable {signed : Bool}

/-- A token that is good, with a nonce to be had, is accepted: scan mode is entered, after the Pour if one runs. -/
theorem leafScanUnlock_good (hg : s.tokenGood p signed = true) (hb : s.drbgBlocked = false) : leafScanUnlock p signed r s =
    if s.pour.running then ({ s with sec := { s.sec with scanHeld := true } } : State).ok r [] else (s.ok r []).scanEnter := by
  rw [leafScanUnlock, hg, hb]
  rfl

theorem leafScanUnlock_bad (hg : s.tokenGood p signed = false) : leafScanUnlock p signed r s = (s.raise 547).refuse r stSignature := by
  rw [leafScanUnlock, hg]
  rfl

end

/-- Scan mode is entered with its marker, without keys, sessions, a challenge, data in the Caddy or walks (R358). -/
theorem State.scanEnter_enters (s : State) : s.scanEnter.sec.scanMarker = true ∧ s.scanEnter.sec.scanEnabled = true ∧
    s.scanEnter.sec.keysLoaded = false ∧ s.scanEnter.sec.sessions = [] ∧ s.scanEnter.sec.challenge = none ∧
    s.scanEnter.path.ways = [] ∧ s.scanEnter.path.staged = [] ∧ s.scanEnter.mapping.walks = [] ∧
    s.scanEnter.reg Reg.SEC_STATUS.SCAN = 1 ∧ s.scanEnter.reg Reg.SEC_STATUS.UDS_CLOSED = 1 := by
  unfold State.scanEnter
  extract_lets s1 s2 _ _ _ s3 s4
  clear_value s2
  have sec : s4.sec = s3.sec := (State.draw_sec _).trans (State.log_sec ..)
  have path : s4.path = s3.path := (State.draw_path _).trans (State.log_path ..)
  have mapping : s4.mapping = s3.mapping := (State.draw_mapping _).trans (State.log_mapping ..)
  clear_value s4
  have closed : (((s4.setReg Reg.SEC_STATUS.SCAN 1).setReg Reg.SEC_STATUS.UDS_CLOSED 1).bump Reg.SEC_STATUS.SCAN_COUNT 0 0 1).reg
      Reg.SEC_STATUS.UDS_CLOSED = 1 :=
    (State.rd_wr_ne _ (by decide) (by decide) (by decide) ..).trans (State.reg_setReg_self ..)
  have scanning : (((s4.setReg Reg.SEC_STATUS.SCAN 1).setReg Reg.SEC_STATUS.UDS_CLOSED 1).bump Reg.SEC_STATUS.SCAN_COUNT 0 0 1).reg
      Reg.SEC_STATUS.SCAN = 1 :=
    (State.rd_wr_ne _ (by decide) (by decide) (by decide) ..).trans
      ((State.rd_wr_ne _ (by decide) (by decide) (by decide) ..).trans (State.reg_setReg_self ..))
  simp only [State.bump_sec, State.bump_path, State.bump_mapping, State.setReg_sec, State.setReg_path, State.setReg_mapping, sec, path,
    mapping]
  exact ⟨rfl, rfl, rfl, rfl, rfl, rfl, rfl, rfl, scanning, closed⟩

/-! ## Pieces of an image (R353) -/

theorem leafFwTransfer_piece {v : ImageVerdict} (hp : imagePiece (fieldAt p 0 4) (p.length - 8) (fieldAt p 4 4) = true) :
    leafFwTransfer p v r s =
      if (s.takeImage (fieldAt p 0 4) (p.length - 8) (fieldAt p 4 4) v).2
      then (s.takeImage (fieldAt p 0 4) (p.length - 8) (fieldAt p 4 4) v).1.refuse r stSignature
      else (s.takeImage (fieldAt p 0 4) (p.length - 8) (fieldAt p 4 4) v).1.ok r [] := by
  rw [leafFwTransfer, hp]
  rfl

/-! ## Activation (R354, R423, R434) -/

section
variable {verified : Bool}

theorem leafFwActivate_unverified (hv : s.mayActivate verified = false) :
    leafFwActivate verified r s = (s.raise 543).refuse r stSignature := by
  rw [leafFwActivate, hv]
  rfl

/-- An image that verifies is activated by a Quiesce, and in Safe by a cold start. -/
theorem leafFwActivate_verified (hv : s.mayActivate verified = true) : leafFwActivate verified r s =
    if s.ctl.mode = .m9 then ((s.ok r []).setReg Reg.MOD_LADDER.BOOT_SLOT (1 - s.fwRuns)).clearLadder.beginCold
    else s.askQuiesce (.activateLeaf r.transport r.tag r.nocrc) := by
  rw [leafFwActivate, hv]
  rfl

end

/-- In Serve, without a walk, a trigger starts its Quiesce (R434). -/
theorem State.askQuiesce_serves (w : QWork) (hm : s.ctl.mode = .m5) (hw : s.mapping.walks = []) : s.askQuiesce w = s.quiesceStart w := by
  have free : ¬ s.mustWait w = true := by
    rw [State.mustWait, hw]
    simp
  unfold State.askQuiesce
  rw [hm]
  exact if_neg free

theorem State.quiesceStart_ctl (s : State) (w : QWork) :
    (s.quiesceStart w).ctl.mode = .m7 ∧ (s.quiesceStart w).ctl.quiesce = some w := by
  refine ⟨?_, rfl⟩
  change ((((s.showDoze 0).pauseBulk.tally 0 376 1).toMode .m7).setReg Reg.MOD_STATUS.QUIESCE_CAUSE w.code).ctl.mode = .m7
  rw [State.setReg_ctl, State.toMode_ctl]

end

/-- Settles O50: each leaf by the branch of its body that its state takes, and an image by what its transfer and its verdict say. -/
theorem imagesAndTokens : Obligations.ImagesAndTokens := by
  refine ⟨rowScanChallenge_acts fun u r p hb => if_neg ?_, fun signed => rowScanUnlock_acts fun u r p ⟨hg, hb, hr⟩ => ?_,
    fun signed => rowScanUnlock_acts fun u r p ⟨hg, hb, hr⟩ => ?_, fun signed => rowScanUnlock_acts fun u r p => leafScanUnlock_bad,
    fun s => ⟨_, rfl, s.scanEnter_enters⟩, fun v => rowFwTransfer_acts fun u r p ⟨hp, hr⟩ => ?_,
    fun v => rowFwTransfer_acts fun u r p ⟨hp, hr⟩ => ?_, fun s offset n length v hr => ?_,
    fun s offset n length version svn hf => ⟨fun hn => ?_, fun hn hv => ?_⟩,
    fun verified => rowFwActivate_acts fun u r p => leafFwActivate_unverified,
    fun verified => rowFwActivate_acts fun u r p ⟨hv, hm⟩ => ?_, fun verified => rowFwActivate_acts fun u r p ⟨hv, hm⟩ => ?_,
    fun s w hm hw => ?_, rowSvnCommit_acts fun u r p ⟨hvalid, hsvn⟩ => if_neg ?_⟩
  · rw [hb]; decide
  · rw [leafScanUnlock_good hg hb, hr]; rfl
  · rw [leafScanUnlock_good hg hb, hr]; rfl
  · rw [leafFwTransfer_piece hp, hr]; rfl
  · rw [leafFwTransfer_piece hp, hr]; rfl
  · rw [State.takeImage_refused hr]
    exact ⟨State.raise_sec .., State.raise_asserts ..⟩
  · exact ⟨_, State.takeImage_part hf hn _, rfl⟩
  · refine ⟨_, State.takeImage_whole hf hn hv, ?_, ?_, ?_⟩
    · rw [State.fwSlot_setFwSlot, if_pos Iff.rfl]
    · rw [State.fwSlot_setFwSlot, if_neg (by omega), State.fwSlot_withTransfer]
    · unfold State.setFwSlot
      split <;> rfl
  · rw [leafFwActivate_verified hv, if_neg hm]
  · rw [leafFwActivate_verified hv, if_pos hm]
  · rw [State.askQuiesce_serves w hm hw]
    obtain ⟨mode, work⟩ := s.quiesceStart_ctl w
    exact ⟨mode, work, (State.keepsUnread.refl.quiesceStart w).unread⟩
  · rw [hvalid, not_or]
    exact ⟨by decide, Nat.not_lt.mpr hsvn⟩

end Sys2Proof.Machine
end

section
/-! SUPPORT. Slot sweeps as they begin (R173, R349), and the records of slots and ranges (R346, R348). -/

namespace Sys2Proof.Machine

/-! ## What the beginning of a sweep moves -/

/-- t is s but for its registers, what the heads hold, the platform manager's side, the Ream, the quire store, and of the mapping the walks
and the journal that is not on media with the channels' write sequences. -/
def Swept (s t : State) : Prop :=
  t = { s with
    regs := t.regs, heads := t.heads, pm := t.pm, ream := t.ream, qst := t.qst
    mapping := { s.mapping with
      jseq := t.mapping.jseq, openPage := t.mapping.openPage, issued := t.mapping.issued, ringPos := t.mapping.ringPos
      nextSeq := t.mapping.nextSeq, walks := t.mapping.walks } }

/-- From s to t walks may have begun, with their records: none has ended, and no reply has been sent. -/
structure State.sweeps (s t : State) : Prop where
  frame : Swept s t
  walks : s.mapping.walks ⊆ t.mapping.walks
  moves : s.movesOnly t reamFields
  unread : s.keepsUnread t

section
variable {s t u : State}

theorem Swept.trans (h1 : Swept s t) (h2 : Swept t u) : Swept s u := by
  unfold Swept at *; rw [h2, h1]

theorem State.sweeps.refl : s.sweeps s := ⟨rfl, List.Subset.refl _, .refl, .refl⟩

theorem State.sweeps.trans (h1 : s.sweeps t) (h2 : t.sweeps u) : s.sweeps u where
  frame := h1.frame.trans h2.frame
  walks := List.Subset.trans h1.walks h2.walks
  moves := h1.moves.trans h2.moves
  unread := h1.unread.trans h2.unread

theorem State.sweeps.foldl {α : Type} {f : State → α → State} (hf : ∀ (t : State) (a : α), t.sweeps (f t a)) (r : List α) (s : State) :
    s.sweeps (r.foldl f s) :=
  foldl_related (R := State.sweeps) (fun _ => .refl) .trans hf r s

theorem State.pageCommit_sweeps (s : State) (page : Nat) : s.sweeps (s.pageCommit page) where
  frame := by
    unfold Swept
    conv_lhs => rw [s.pageCommit_recorded page]
    rw [State.pageCommit_mapping]
  walks := by rw [State.pageCommit_mapping]; exact List.Subset.refl _
  moves := s.pageCommit_movesOnly page
  unread := State.keepsUnread.refl.pageCommit page

theorem State.journalC_sweeps (s : State) (c : Nat) (b : JBody) : s.sweeps (s.journalC c b) where
  frame := by
    unfold Swept
    conv_lhs => rw [s.journalC_journalled c b]
    rw [s.journalC_journalled c b]
  walks := by rw [s.journalC_journalled c b]; exact List.Subset.refl _
  moves := by
    unfold State.journalC State.journal
    extract_lets r x m s1
    have put : s.movesOnly { s with mapping := m } reamFields := .of_regs .refl rfl
    have held : s.movesOnly s1 reamFields := put.tally ..
    exact .ite (held.of_regs rfl) held
  unread := by
    unfold State.journalC State.journal
    extract_lets r x m s1
    have put : s.keepsUnread { s with mapping := m } := .of_eq .refl rfl
    have held : s.keepsUnread s1 := put.tally ..
    exact .ite (held.of_eq rfl) held

theorem State.takeSeq_sweeps (s : State) (c : Nat) : s.sweeps (s.takeSeq c) :=
  ⟨rfl, List.Subset.refl _, .of_regs .refl rfl, .of_eq .refl rfl⟩

theorem State.walkRecords_sweeps (s : State) (lo hi : Nat) (mk : Nat → Nat → Nat → JBody) : s.sweeps (s.walkRecords lo hi mk) :=
  .foldl (fun t c => (t.journalC_sweeps c _).trans (State.takeSeq_sweeps _ c)) _ s

/-- The walk over a region that a sweep begins (R349). -/
def State.sweepWalk (s : State) (reason : Nat) (p : Nat × Nat × Nat × Nat) : Walk :=
  ⟨.sweep p.2.2.1 p.2.2.2 reason, p.1 * unitQuires, p.2.1 * unitQuires, p.1 * unitQuires, [],
    (Machine.chansIn (p.1 * unitQuires) (p.2.1 * unitQuires)).map (fun c => (c, (s.pageCommit 5040).seqOf c))⟩

/-- One walk more runs. -/
def State.withWalk (s : State) (w : Walk) : State := { s with mapping := { s.mapping with walks := s.mapping.walks ++ [w] } }

theorem State.withWalk_sweeps (s : State) (w : Walk) : s.sweeps (s.withWalk w) :=
  ⟨rfl, List.subset_append_left .., .of_regs .refl rfl, .of_eq .refl rfl⟩

theorem State.startSweep_eq (s : State) (reason : Nat) (p : Nat × Nat × Nat × Nat) : s.startSweep reason p =
    ((s.pageCommit 5040).walkRecords (p.1 * unitQuires) (p.2.1 * unitQuires) .zero).withWalk (s.sweepWalk reason p) := rfl

/-- A sweep begins with its walk, after those that run. -/
theorem State.startSweep_sweeps (s : State) (reason : Nat) (p : Nat × Nat × Nat × Nat) :
    s.sweeps (s.startSweep reason p) ∧ s.sweepWalk reason p ∈ (s.startSweep reason p).mapping.walks := by
  rw [State.startSweep_eq]
  exact ⟨((s.pageCommit_sweeps 5040).trans (State.walkRecords_sweeps ..)).trans (State.withWalk_sweeps ..),
    List.mem_append_right _ List.mem_cons_self⟩

/-- Every region of a list is swept. -/
theorem State.startSweeps_mem (s : State) (reason : Nat) {l : List (Nat × Nat × Nat × Nat)} {p : Nat × Nat × Nat × Nat} (hp : p ∈ l) :
    ∃ t : State, t.sweepWalk reason p ∈ (l.foldl (fun s p => s.startSweep reason p) s).mapping.walks := by
  refine foldl_reaches (I := fun _ => True) (Q := fun u => ∃ t : State, t.sweepWalk reason p ∈ u.mapping.walks)
    (fun _ _ _ _ _ => trivial) (fun u _ => ⟨u, (u.startSweep_sweeps reason p).2⟩) (fun u q _ => ?_) hp trivial
  rintro ⟨t, ht⟩
  exact ⟨t, (u.startSweep_sweeps reason q).1.walks ht⟩

end

/-! ## The record of a slot (R346) -/

section
variable (s : State) (k st owner : Nat) (shared gen : Bool)

/-- The registers of a slot, as its record has them. -/
def State.slotShown (s : State) (k st owner : Nat) (shared gen : Bool) : State :=
  (((s.wr Reg.SEC_SLOT.STATE 0 k st).wr Reg.SEC_SLOT.OWNER 0 k owner).wr Reg.SEC_SLOT.SHARED 0 k (bnat shared)).wr
    Reg.SEC_SLOT.GENERATED 0 k (bnat gen)

/-- The record of a slot has been counted. -/
def State.slotCounted (s : State) (k : Nat) : State :=
  { s with sec := { s.sec with counts := s.sec.counts.put 0 k (s.sec.counts.get 0 k + 1) } }

theorem State.slotRecord_eq : s.slotRecord k = (s.slotCounted k).pageCommit (3328 + k / 4) := rfl

theorem State.slotRecord_movesOnly : s.movesOnly (s.slotRecord k) reamFields := by
  have counted : s.movesOnly (s.slotCounted k) reamFields := .of_regs .refl rfl
  exact counted.trans (State.pageCommit_movesOnly ..)

theorem State.setSlot_movesOnly : (s.slotShown k st owner shared gen).movesOnly (s.setSlot k st owner shared gen) reamFields :=
  State.slotRecord_movesOnly ..

@[simp] theorem State.slotRecord_sec : (s.slotRecord k).sec =
    { s.sec with counts := s.sec.counts.put 0 k (s.sec.counts.get 0 k + 1) } := (s.slotCounted k).pageCommit_sec ..

@[simp] theorem State.setSlot_sec : (s.setSlot k st owner shared gen).sec =
    { s.sec with counts := s.sec.counts.put 0 k (s.sec.counts.get 0 k + 1) } := State.slotRecord_sec ..

theorem bnat_mod_two (b : Bool) : bnat b % 2 = bnat b := by cases b <;> rfl

variable {k st owner}

theorem State.setSlot_state (h : st < 4) : (s.setSlot k st owner shared gen).slotState k = st := by
  rw [State.slotState, (State.setSlot_movesOnly ..).reads _ (by decide) (by decide), State.slotShown,
    State.rd_wr_ne _ (by decide) (by decide) (by decide), State.rd_wr_ne _ (by decide) (by decide) (by decide),
    State.rd_wr_ne _ (by decide) (by decide) (by decide), State.rd_wr_self]
  exact Nat.mod_eq_of_lt h

theorem State.setSlot_owner (h : owner < 4) : (s.setSlot k st owner shared gen).rd Reg.SEC_SLOT.OWNER 0 k = owner := by
  rw [(State.setSlot_movesOnly ..).reads _ (by decide) (by decide), State.slotShown,
    State.rd_wr_ne _ (by decide) (by decide) (by decide), State.rd_wr_ne _ (by decide) (by decide) (by decide), State.rd_wr_self]
  exact Nat.mod_eq_of_lt h

theorem State.setSlot_shared : (s.setSlot k st owner shared gen).rd Reg.SEC_SLOT.SHARED 0 k = bnat shared := by
  rw [(State.setSlot_movesOnly ..).reads _ (by decide) (by decide), State.slotShown,
    State.rd_wr_ne _ (by decide) (by decide) (by decide), State.rd_wr_self]
  exact bnat_mod_two shared

theorem State.setSlot_generated : (s.setSlot k st owner shared gen).rd Reg.SEC_SLOT.GENERATED 0 k = bnat gen := by
  rw [(State.setSlot_movesOnly ..).reads _ (by decide) (by decide), State.slotShown, State.rd_wr_self]
  exact bnat_mod_two gen

theorem State.setSlot_other {j : Nat} (hk : k < 4096) (hj : j < 4096) (hne : j ≠ k) :
    (s.setSlot k st owner shared gen).slotState j = s.slotState j := by
  rw [State.slotState, (State.setSlot_movesOnly ..).reads _ (by decide) (by decide), State.slotShown,
    State.rd_wr_ne _ (by decide) (by decide) (by decide), State.rd_wr_ne _ (by decide) (by decide) (by decide),
    State.rd_wr_ne _ (by decide) (by decide) (by decide), State.rd_wr_index _ _ _ _ _ (by omega) (by omega) hne]
  rfl

end

/-! ## Destroying a slot (R350) -/

section
variable {s : State} {k : Nat}

/-- A slot of which the ranges are disabled and the record is EMPTY, with source 540 (R350 steps 3 and 4). -/
def State.emptySlot (s : State) (k : Nat) : State :=
  (((s.disableRanges (· == k)).setSeed k 0).setSlot k 0 0 false false).raise 540

/-- The destroys of a slot are no longer under way. -/
def State.withoutDestroy (s : State) (k : Nat) : State :=
  { s with sec := { s.sec with destroys := s.sec.destroys.filter (fun x => x.slot != k) } }

theorem State.disableRanges_sec (s : State) (which : Nat → Bool) : (s.disableRanges which).sec = s.sec := by
  refine (State.pageCommit_sec ..).trans ?_
  refine foldl_related (R := fun s t : State => t.sec = s.sec) (fun _ => rfl) (fun h1 h2 => h2.trans h1) (fun t i => ?_) _ s
  exact iteInduction (motive := fun u : State => u.sec = t.sec) (fun _ => rfl) (fun _ => rfl)

theorem State.emptySlot_sec (s : State) (k : Nat) : (s.emptySlot k).sec = { s.sec with
    seeds := s.sec.seeds.put 0 k 0, counts := s.sec.counts.put 0 k (s.sec.counts.get 0 k + 1) } := by
  rw [State.emptySlot, State.raise_sec, State.setSlot_sec]
  simp only [State.setSeed, State.disableRanges_sec]

theorem State.emptySlot_state (s : State) (k : Nat) : (s.emptySlot k).slotState k = 0 :=
  ((State.movesOnly.refl (l := [])).raise 540 |>.reads _ (by decide) (by decide) 0 k).trans (State.setSlot_state _ _ _ (by decide))

theorem State.emptySlot_asserts (s : State) (k : Nat) : (s.emptySlot k).rd Reg.LNK_SRC_ROUTE.ASSERTED 0 540 = 1 :=
  State.raise_asserts ..

/-- The end of a destroy that came as a leaf of a slot but 0: the slot is emptied, and the leaf has its reply. -/
theorem State.destroyEnd_leaf {d : Destroy} (hk : k ≠ 0) (hd : s.sec.destroys.find? (fun x => x.slot == k) = some d) (hb : d.bulk = none) :
    s.destroyEnd k = ((s.emptySlot k).withoutDestroy k).ok d.req [] := by
  have found : (s.emptySlot k).sec.destroys.find? (fun x => x.slot == k) = some d := by rw [State.emptySlot_sec]; exact hd
  unfold State.destroyEnd
  simp only [if_neg hk]
  rw [← State.emptySlot, found]
  dsimp only
  rw [hb]
  rfl

/-- The destroy of a slot that sweeps nothing begins with the slot's record ERASING, over the regions that it gives a unit (R350). -/
theorem State.destroySlot_idle {d : Destroy} (hs : s.sweeping d.slot = false) : s.destroySlot d =
    ({ s with sec := { s.sec with destroys := s.sec.destroys ++ [d] } } : State).destroyBegin d.slot :=
  if_neg (by rw [hs]; decide)

/-- A slot whose destroy has been taken, with its record ERASING. -/
def State.erasing (s : State) (d : Destroy) : State :=
  (({ s with sec := { s.sec with destroys := s.sec.destroys ++ [d] } } : State).wr Reg.SEC_SLOT.STATE 0 d.slot 2).slotRecord d.slot

theorem State.erasing_state (s : State) (d : Destroy) : (s.erasing d).slotState d.slot = 2 :=
  ((State.slotRecord_movesOnly ..).reads _ (by decide) (by decide) 0 d.slot).trans (State.rd_wr_self ..)

theorem State.erasing_sec (s : State) (d : Destroy) : (s.erasing d).sec = { s.sec with
    destroys := s.sec.destroys ++ [d], counts := s.sec.counts.put 0 d.slot (s.sec.counts.get 0 d.slot + 1) } := State.slotRecord_sec ..

theorem State.slotRecord_out (s : State) (k : Nat) : (s.slotRecord k).out = s.out := (s.slotCounted k).pageCommit_out _

theorem State.keepsUnread.slotRecord {t : State} (h : s.keepsUnread t) (k : Nat) : s.keepsUnread (t.slotRecord k) := by
  have counted : s.keepsUnread (t.slotCounted k) := h.of_eq rfl
  exact counted.pageCommit _

theorem State.erasing_sends (s : State) (d : Destroy) : (s.erasing d).out = s.out ∧ s.keepsUnread (s.erasing d) := by
  have marked : s.keepsUnread
      (({ s with sec := { s.sec with destroys := s.sec.destroys ++ [d] } } : State).wr Reg.SEC_SLOT.STATE 0 d.slot 2) := .of_eq .refl rfl
  exact ⟨State.slotRecord_out .., marked.slotRecord _⟩

theorem State.destroySlot_regions {d : Destroy} (hs : s.sweeping d.slot = false) : s.destroySlot d =
    if (s.slotRegions d.slot).isEmpty then (s.erasing d).destroyEnd d.slot
    else (s.slotRegions d.slot).foldl (fun s p => s.startSweep (128 + d.slot) p) (s.erasing d) :=
  State.destroySlot_idle hs

/-- The regions of a slot are swept from it to slot 0. -/
theorem State.slotRegions_slots {g : Nat × Nat × Nat × Nat} (hg : g ∈ s.slotRegions k) : g.2.2 = (k, 0) := by
  obtain ⟨p, -, rfl⟩ := List.mem_map.mp hg
  rfl

/-- A slot without a region is emptied at once (R350). -/
theorem State.destroySlot_empty {d : Destroy} (hk : d.slot ≠ 0) (hb : d.bulk = none) (hs : s.sweeping d.slot = false)
    (hd : s.sec.destroys.all (fun x => x.slot != d.slot) = true) (hr : s.slotRegions d.slot = []) :
    s.destroySlot d = (((s.erasing d).emptySlot d.slot).withoutDestroy d.slot).ok d.req [] := by
  have others : s.sec.destroys.find? (fun x => x.slot == d.slot) = none := by
    rw [List.find?_eq_none]
    intro x hx
    simpa using List.all_eq_true.mp hd x hx
  rw [State.destroySlot_regions hs, hr]
  refine State.destroyEnd_leaf hk ?_ hb
  rw [State.erasing_sec, List.find?_append, others]
  simp

end

/-! ## A range register (R348) -/

section
variable (s : State) (i base size slot : Nat) (on : Bool)

/-- The registers of a range, as RANGE_WRITE puts them. -/
def State.rangeShown (s : State) (i base size slot : Nat) (on : Bool) : State :=
  (((s.wr Reg.SEC_RANGE.BASE 0 i base).wr Reg.SEC_RANGE.SIZE 0 i size).wr Reg.SEC_RANGE.SLOT 0 i slot).wr
    Reg.SEC_RANGE.ENABLE 0 i (bnat on)

/-- Beside its register a range write begins sweeps, and shows that it does (R348, R349). -/
theorem State.writeRange_does : Swept s (s.writeRange i base size slot on) ∧
    (s.rangeShown i base size slot on).movesOnly (s.writeRange i base size slot on) (Reg.SEC_RANGE.SWEEPING :: reamFields) := by
  have shown : Swept s (s.rangeShown i base size slot on) := rfl
  unfold State.writeRange
  rw [← State.rangeShown]
  extract_lets s1 bounds changes
  have put : (s.rangeShown i base size slot on).sweeps s1 := State.pageCommit_sweeps ..
  have marked : Swept s1 (s1.wr Reg.SEC_RANGE.SWEEPING 0 i 1) := rfl
  clear_value s1
  have swept : (s1.wr Reg.SEC_RANGE.SWEEPING 0 i 1).sweeps (changes.foldl (fun s p => s.startSweep i p) (s1.wr Reg.SEC_RANGE.SWEEPING 0 i 1)) :=
    .foldl (fun t p => (t.startSweep_sweeps i p).1) ..
  have wide : reamFields ⊆ Reg.SEC_RANGE.SWEEPING :: reamFields := List.subset_cons_self ..
  split
  · exact ⟨shown.trans put.frame, put.moves.mono wide⟩
  · exact ⟨((shown.trans put.frame).trans marked).trans swept.frame,
      (State.movesOnly.wr (put.moves.mono wide) (by decide) List.mem_cons_self).trans (swept.moves.mono wide)⟩

/-- A range's registers but SWEEPING read what the write puts. -/
theorem State.writeRange_rd {f : Field} (hk : f.kinds < 16)
    (hf : ((Reg.SEC_RANGE.SWEEPING :: reamFields) ++ bookFields).all (fun g => g.num != f.num) = true) (j : Nat) :
    (s.writeRange i base size slot on).rd f 0 j = (s.rangeShown i base size slot on).rd f 0 j :=
  (s.writeRange_does i base size slot on).2.reads f hk hf 0 j

variable {s i base size slot on}

theorem State.writeRange_base (h : base < 65536) : (s.writeRange i base size slot on).rd Reg.SEC_RANGE.BASE 0 i = base := by
  rw [State.writeRange_rd _ _ _ _ _ _ (by decide) (by decide), State.rangeShown, State.rd_wr_ne _ (by decide) (by decide) (by decide),
    State.rd_wr_ne _ (by decide) (by decide) (by decide), State.rd_wr_ne _ (by decide) (by decide) (by decide), State.rd_wr_self]
  exact Nat.mod_eq_of_lt h

theorem State.writeRange_size (h : size < 65536) : (s.writeRange i base size slot on).rd Reg.SEC_RANGE.SIZE 0 i = size := by
  rw [State.writeRange_rd _ _ _ _ _ _ (by decide) (by decide), State.rangeShown, State.rd_wr_ne _ (by decide) (by decide) (by decide),
    State.rd_wr_ne _ (by decide) (by decide) (by decide), State.rd_wr_self]
  exact Nat.mod_eq_of_lt h

theorem State.writeRange_slot (h : slot < 4096) : (s.writeRange i base size slot on).rd Reg.SEC_RANGE.SLOT 0 i = slot := by
  rw [State.writeRange_rd _ _ _ _ _ _ (by decide) (by decide), State.rangeShown, State.rd_wr_ne _ (by decide) (by decide) (by decide),
    State.rd_wr_self]
  exact Nat.mod_eq_of_lt h

theorem State.writeRange_rangeOn : (s.writeRange i base size slot on).rangeOn i = on := by
  rw [State.rangeOn, State.writeRange_rd _ _ _ _ _ _ (by decide) (by decide), State.rangeShown, State.rd_wr_self]
  cases on <;> rfl

/-- Another range covers what it covered. -/
theorem State.writeRange_rangeCovers {j : Nat} (hi : i < 128) (hj : j < 128) (hne : j ≠ i) (u : Nat) :
    (s.writeRange i base size slot on).rangeCovers j u = s.rangeCovers j u := by
  have other : ∀ (t : State) (f : Field) (v : Nat), (t.wr f 0 i v).rd f 0 j = t.rd f 0 j := fun t f v =>
    t.rd_wr_index f 0 0 v (by omega) (by omega) hne
  have enable : (s.writeRange i base size slot on).rd Reg.SEC_RANGE.ENABLE 0 j = s.rd Reg.SEC_RANGE.ENABLE 0 j := by
    rw [State.writeRange_rd _ _ _ _ _ _ (by decide) (by decide), State.rangeShown, other,
      State.rd_wr_ne _ (by decide) (by decide) (by decide), State.rd_wr_ne _ (by decide) (by decide) (by decide),
      State.rd_wr_ne _ (by decide) (by decide) (by decide)]
  have first : (s.writeRange i base size slot on).rd Reg.SEC_RANGE.BASE 0 j = s.rd Reg.SEC_RANGE.BASE 0 j := by
    rw [State.writeRange_rd _ _ _ _ _ _ (by decide) (by decide), State.rangeShown,
      State.rd_wr_ne _ (by decide) (by decide) (by decide), State.rd_wr_ne _ (by decide) (by decide) (by decide),
      State.rd_wr_ne _ (by decide) (by decide) (by decide), other]
  have count : (s.writeRange i base size slot on).rd Reg.SEC_RANGE.SIZE 0 j = s.rd Reg.SEC_RANGE.SIZE 0 j := by
    rw [State.writeRange_rd _ _ _ _ _ _ (by decide) (by decide), State.rangeShown,
      State.rd_wr_ne _ (by decide) (by decide) (by decide), State.rd_wr_ne _ (by decide) (by decide) (by decide), other,
      State.rd_wr_ne _ (by decide) (by decide) (by decide)]
  rw [State.rangeCovers, State.rangeCovers, State.rangeOn, State.rangeOn, enable, first, count]

end

end Sys2Proof.Machine
end

section
/-! PROOFS. Key slots and ranges (O49; R331, R346 to R350, R357). -/

namespace Sys2Proof.Machine

/-! ## What each leaf's body does -/

section
variable {may : State → Req → List Byte → Prop} {effect : State → Req → List Byte → State}

theorem rowKeyProvision_acts (h : ∀ u r p, may u r p → leafKeyProvision p r u = effect u r p) :
    rowKeyProvision.acts .keyProvision may effect :=
  LeafRow.acts_of (fun _ p => leafKeyProvision p) (fun _ _ _ => rfl) (fun _ _ => rfl) (fun _ _ => rfl) (fun _ _ _ => rfl)
    fun u _ p => h u _ p

theorem rowKeyDestroy_acts (h : ∀ u r p, may u r p → leafKeyDestroy p r u = effect u r p) :
    rowKeyDestroy.acts .keyDestroy may effect :=
  LeafRow.acts_of (fun _ p => leafKeyDestroy p) (fun _ _ _ => rfl) (fun _ _ => rfl) (fun _ _ => rfl) (fun _ _ _ => rfl)
    fun u _ p => h u _ p

theorem rowRangeWrite_acts (h : ∀ u r p, may u r p → leafRangeWrite p r u = effect u r p) :
    rowRangeWrite.acts .rangeWrite may effect :=
  LeafRow.acts_of (fun _ p => leafRangeWrite p) (fun _ _ _ => rfl) (fun _ _ => rfl) (fun _ _ => rfl) (fun _ _ _ => rfl)
    fun u _ p => h u _ p

end

section
variable {s : State} {r : Req} {p : List Byte}

/-- A leaf of the right form about a slot but 0 is judged by the slot's state, and by the DRBG where it asks for a seed (R331, R346). -/
theorem leafKeyProvision_formed (hlo : 1 ≤ fieldAt p 0 2) (hhi : fieldAt p 0 2 ≤ 4095) (hf : fieldAt p 2 1 < 4) (hz : fieldAt p 3 5 = 0)
    (hseed : (fieldAt p 2 1).testBit 0 = true → fieldAt p 8 32 = 0) : leafKeyProvision p r s =
      if s.slotState (fieldAt p 0 2) = 1 then s.refuse r stState
      else if s.slotState (fieldAt p 0 2) = 2 then s.refuse r stBusy
      else if (fieldAt p 2 1).testBit 0 = true ∧ s.drbgBlocked = true then s.noEntropy r
      else (((if (fieldAt p 2 1).testBit 0 then (s.setSeed (fieldAt p 0 2) s.open?).draw
          else s.setSeed (fieldAt p 0 2) (fieldAt p 8 32)).setSlot (fieldAt p 0 2) 1 r.who ((fieldAt p 2 1).testBit 1)
            ((fieldAt p 2 1).testBit 0)).raise 539).ok r [] := by
  refine if_neg ?_
  simp only [notZero, bne_iff_ne, ne_eq, not_or, not_and, not_not]
  exact ⟨by omega, by omega, by omega, hz, hseed⟩

/-- KEY_DESTROY of a slot that its requester may destroy, and that is not under way (R347, R350). -/
theorem leafKeyDestroy_allowed (hlo : 1 ≤ fieldAt p 0 2) (hhi : fieldAt p 0 2 ≤ 4095) (hs : s.slotState (fieldAt p 0 2) ≠ 0)
    (hm : s.mayDestroy (fieldAt p 0 2) r.who = true) (hd : s.destroying (fieldAt p 0 2) = false) :
    leafKeyDestroy p r s = s.destroySlot ⟨fieldAt p 0 2, r.transport, r.tag, r.nocrc, r.opcode, none⟩ := by
  have slot : ¬ (fieldAt p 0 2 = 0 ∨ fieldAt p 0 2 > 4095) := by omega
  rw [leafKeyDestroy, if_neg slot, if_neg hs, hm, hd]
  rfl

/-- RANGE_WRITE of a range that may be put so (R348). -/
theorem leafRangeWrite_allowed (hn : fieldAt p 0 1 ≤ 63) (hf : fieldAt p 1 1 ≤ 1)
    (ho : fieldAt p 1 1 = 1 →
      s.rangeRefused r.who (64 * r.who + fieldAt p 0 1) (fieldAt p 2 2) (fieldAt p 4 2) (fieldAt p 6 2) = stOk) :
    leafRangeWrite p r s = (s.writeRange (64 * r.who + fieldAt p 0 1) (fieldAt p 2 2) (fieldAt p 4 2) (fieldAt p 6 2)
      ((fieldAt p 1 1).testBit 0)).ok r [] := by
  have form : ¬ (fieldAt p 0 1 > 63 ∨ fieldAt p 1 1 > 1) := by omega
  refine (if_neg form).trans (if_pos ?_)
  by_cases on : fieldAt p 1 1 = 1
  · rw [on]; exact ho on
  · rw [show fieldAt p 1 1 = 0 by omega]; rfl

end

/-! ## The end and the beginning of a destroy (R350) -/

section
variable {s : State} {d : Destroy}

/-- A slot without a region is EMPTY, without a seed and with source 540, and its destroy is no longer under way. -/
theorem State.destroySlot_empties (hk : d.slot ≠ 0) (hb : d.bulk = none) (hs : s.sweeping d.slot = false)
    (hd : s.sec.destroys.all (fun x => x.slot != d.slot) = true) (hr : s.slotRegions d.slot = []) :
    (s.destroySlot d).slotState d.slot = 0 ∧ (s.destroySlot d).sec.seeds.get 0 d.slot = 0 ∧
      (s.destroySlot d).sec.destroys = s.sec.destroys ∧ (s.destroySlot d).rd Reg.LNK_SRC_ROUTE.ASSERTED 0 540 = 1 := by
  have state := (s.erasing d).emptySlot_state d.slot
  have sec := (s.erasing d).emptySlot_sec d.slot
  have asserted := (s.erasing d).emptySlot_asserts d.slot
  have gone : (s.erasing d).sec.destroys.filter (fun x => x.slot != d.slot) = s.sec.destroys := by
    rw [State.erasing_sec, List.filter_append, List.filter_eq_self.mpr (List.all_eq_true.mp hd)]
    simp
  rw [State.destroySlot_empty hk hb hs hd hr]
  generalize (s.erasing d).emptySlot d.slot = u at state sec asserted
  refine ⟨?_, ?_, ?_, ?_⟩
  · exact ((State.reply_movesOnly ..).reads _ (by decide) (by decide) 0 d.slot).trans state
  · rw [State.ok, State.reply_sec, State.withoutDestroy, sec]
    exact Tab.get_put_self (s.erasing d).sec.seeds 0 d.slot 0
  · rw [State.ok, State.reply_sec, State.withoutDestroy, sec]
    exact gone
  · have kept : (u.withoutDestroy d.slot).keepsAsserted _ := State.keepsAsserted.refl.reply d.req stOk []
    exact kept.asserted 540 asserted

/-- A slot with regions is ERASING, each of them is swept from it to slot 0, and nothing is sent. -/
theorem State.destroySlot_erases (hs : s.sweeping d.slot = false) (hr : s.slotRegions d.slot ≠ []) :
    (s.destroySlot d).slotState d.slot = 2 ∧ (s.destroySlot d).out = s.out ∧ (s.destroySlot d).pm.unread = s.pm.unread ∧
      ∀ g ∈ s.slotRegions d.slot, (s.destroySlot d).mapping.walks.any (fun w => w.kind == .sweep d.slot 0 (128 + d.slot) &&
        w.lo == g.1 * unitQuires && w.hi == g.2.1 * unitQuires) = true := by
  have regions : ¬ (s.slotRegions d.slot).isEmpty = true := by simpa using hr
  have swept : (s.erasing d).sweeps ((s.slotRegions d.slot).foldl (fun s p => s.startSweep (128 + d.slot) p) (s.erasing d)) :=
    .foldl (fun t p => (t.startSweep_sweeps _ p).1) ..
  obtain ⟨out, unread⟩ := s.erasing_sends d
  rw [State.destroySlot_regions hs, if_neg regions]
  refine ⟨?_, ?_, (unread.trans swept.unread).unread, fun g hg => ?_⟩
  · exact (swept.moves.reads _ (by decide) (by decide) 0 d.slot).trans (s.erasing_state d)
  · rw [← out, swept.frame]
  · obtain ⟨t, ht⟩ := (s.erasing d).startSweeps_mem (128 + d.slot) hg
    refine List.any_eq_true.mpr ⟨_, ht, ?_⟩
    simp [State.sweepWalk, State.slotRegions_slots hg]

end

/-- A failed test of an entropy source is shown, and raised (R331). -/
theorem exec_drbgHealthFail_running {s : State} (hr : s.running = true) (d : Fin 2) :
    exec (.drbgHealthFail d) s = .next ((s.wr Reg.SEC_STATUS.DRBG_FAIL d 0 1).raise 549) := by
  refine congrArg Host.Outcome.next (if_pos ?_)
  rw [hr]; rfl

/-- Settles O49: each leaf by what its slot or its range may take, and a destroy by whether its slot has a region. -/
theorem keySlots : Obligations.KeySlots := by
  refine ⟨fun k => rowKeyProvision_acts fun u r p => ?_, fun s k st owner seed shared gen hk hst howner => ?_,
    rowKeyProvision_acts fun u r p => ?_, fun k => rowKeyDestroy_acts fun u r p => ?_,
    fun s d hlo _ hb hs _ hd => ⟨State.destroySlot_empties (by omega) hb hs hd, State.destroySlot_erases hs⟩,
    fun i => rowRangeWrite_acts fun u r p => ?_, fun s i base size slot on hi hbase hsize hslot => ?_, fun s d hr => ?_, fun _ => rfl⟩
  · rintro ⟨rfl, hlo, hhi, hf, hz, active, erasing, hg⟩
    rw [leafKeyProvision_formed hlo hhi hf hz fun h => (hg h).1, if_neg active, if_neg erasing, if_neg]
    · rfl
    · rintro ⟨gen, blocked⟩
      exact absurd (blocked.symm.trans (hg gen).2) (by decide)
  · refine ⟨State.setSlot_state _ _ _ hst, State.setSlot_owner _ _ _ howner, State.setSlot_shared .., State.setSlot_generated ..,
      ?_, ?_, Tab.get_put_self s.sec.seeds 0 k seed, fun j hj hne => ⟨State.setSlot_other _ _ _ hk hj hne,
        Tab.get_put_ne s.sec.seeds 0 0 seed hne⟩⟩
    · rw [State.setSlot_sec]; exact Tab.get_put_self s.sec.counts 0 k (s.sec.counts.get 0 k + 1)
    · rw [State.setSlot_sec]
  · rintro ⟨hlo, hhi, hf, hz, state⟩
    rw [leafKeyProvision_formed hlo hhi (by omega) hz (by rw [hf]; exact fun h => absurd h (by decide))]
    by_cases active : u.slotState (fieldAt p 0 2) = 1
    · rw [if_pos active, if_pos active]
    · rw [if_neg active, if_neg active, if_pos (state.resolve_left active)]
  · rintro ⟨rfl, hlo, hhi, hs, hm, hd⟩
    exact leafKeyDestroy_allowed hlo hhi hs hm hd
  · rintro ⟨rfl, hn, hf, ho⟩
    exact leafRangeWrite_allowed hn hf ho
  · have frame := (s.writeRange_does i base size slot on).1
    exact ⟨_, rfl, State.writeRange_base hbase, State.writeRange_size hsize, State.writeRange_slot hslot, State.writeRange_rangeOn,
      fun j hj hne u => State.writeRange_rangeCovers hi hj hne u, by rw [frame], by rw [frame]⟩
  · let u := s.wr Reg.SEC_STATUS.DRBG_FAIL d 0 1
    have shown : s.tells u [Reg.SEC_STATUS.DRBG_FAIL] [] := s.wr_tells d 0 1 (by decide) (by decide)
    refine ⟨_, exec_drbgHealthFail_running hr d, ?_, State.raise_asserts ..,
      (shown.then (State.raise_tells ..)).booked (.trans (t := u) (.of_heads rfl) (State.raise_sameHeads _ _)) (State.raise_out ..)⟩
    exact ((State.movesOnly.refl (s := u) (l := [])).raise 549 |>.reads _ (by decide) (by decide) d 0).trans (State.rd_wr_self ..)

end Sys2Proof.Machine
end

section
/-! SUPPORT. The Strainer channels' arithmetic on words of the channel's width (R379), and what feeding, START and FINAL move (R380, R381). -/

namespace Sys2Proof.Machine

/-! ## Bits in reverse order -/

/-- One bit of a number, placed at its mirror image in w bits. -/
def placeBit (w v r k : Nat) : Nat := if v.testBit k then r + 2 ^ (w - 1 - k) else r

/-- After n bits of w, the n highest places hold them. -/
theorem testBit_foldl_placeBit {w n : Nat} (v : Nat) (hn : n ≤ w) (i : Nat) :
    ((List.range n).foldl (placeBit w v) 0).testBit i = (decide (i < w ∧ w - 1 - i < n) && v.testBit (w - 1 - i)) := by
  induction n generalizing i with
  | zero => simp
  | succ n ih =>
    have before := ih (Nat.le_of_succ_le hn)
    rw [List.range_succ, List.foldl_append, List.foldl_cons, List.foldl_nil]
    generalize (List.range n).foldl (placeBit w v) 0 = r at before
    have clear : r.testBit (w - 1 - n) = false := by rw [before, decide_eq_false (by omega), Bool.false_and]
    have mirror : i < w → (i = w - 1 - n ↔ w - 1 - i = n) := by omega
    by_cases here : i = w - 1 - n
    · have image : w - 1 - i = n := by omega
      have inside : i < w ∧ w - 1 - i < n + 1 := by omega
      unfold placeBit
      rw [decide_eq_true inside, Bool.true_and, image]
      split
      · next set => rw [testBit_add_two_pow clear, set, here, decide_eq_true rfl, Bool.true_or]
      · next unset => rw [here, clear]; simpa using unset
    · have elsewhere : (placeBit w v r n).testBit i = r.testBit i := by
        unfold placeBit
        split
        · rw [testBit_add_two_pow clear, decide_eq_false here, Bool.false_or]
        · rfl
      have same : (i < w ∧ w - 1 - i < n + 1) ↔ (i < w ∧ w - 1 - i < n) := by omega
      rw [elsewhere, before, decide_eq_decide.mpr same]

/-- Reversing the bits of a number is reversing the word of its low bits. -/
theorem reverseBits_eq (w v : Nat) : reverseBits w v = (BitVec.ofNat w v).reverse.toNat := by
  refine Nat.eq_of_testBit_eq fun i => ?_
  have bit : (reverseBits w v).testBit i = (decide (i < w ∧ w - 1 - i < w) && v.testBit (w - 1 - i)) :=
    testBit_foldl_placeBit v (Nat.le_refl w) i
  rw [bit, BitVec.testBit_toNat, BitVec.getLsbD_reverse, BitVec.getMsbD, BitVec.getLsbD_ofNat]
  by_cases hi : i < w
  · have low : w - 1 - i < w := by omega
    simp [hi, low]
  · simp [hi]

/-! ## Words of the channel's width (R379) -/

section
variable (c : StrCfg)

/-- A register shifts in one bit from the top. -/
def StrCfg.shiftIn (r : BitVec c.width) (b : Bool) : BitVec c.width :=
  if r.msb ^^ b then (r <<< 1) ^^^ BitVec.ofNat c.width c.poly else r <<< 1

theorem StrCfg.bit_toNat (r : BitVec c.width) (b : Bool) : c.bit r.toNat b = (c.shiftIn r b).toNat := by
  have top : r.toNat.testBit (c.width - 1) = r.msb := by rw [BitVec.msb_eq_getLsbD_last, BitVec.testBit_toNat]
  have shifted : r.toNat * 2 % 2 ^ c.width = (r <<< 1).toNat := by
    rw [BitVec.toNat_shiftLeft, Nat.shiftLeft_eq, Nat.pow_one]
  unfold StrCfg.bit StrCfg.shiftIn
  dsimp only
  rw [top, shifted, Bool.bne_eq_xor]
  split
  · rw [BitVec.toNat_xor, BitVec.toNat_ofNat]
  · rfl

/-- The bits of a byte enter from the highest, or in a reflected channel from the lowest. -/
theorem StrCfg.feed_toNat (reg : Nat) (b : BitVec 8) : c.feed reg b = ((List.range 8).foldl
    (fun r k => c.shiftIn r ((if c.refin then b.reverse else b).getLsbD (7 - k))) (BitVec.ofNat c.width reg)).toNat := by
  have byte : (if c.refin then reverseBits 8 b.toNat else b.toNat) = (if c.refin then b.reverse else b).toNat := by
    rw [reverseBits_eq, BitVec.ofNat_toNat, BitVec.setWidth_eq, apply_ite BitVec.toNat]
  unfold StrCfg.feed
  dsimp only
  rw [byte, ← BitVec.toNat_ofNat]
  exact List.foldl_hom BitVec.toNat fun r k => c.bit_toNat r _

/-- The result is the register, reflected and inverted as configured. -/
theorem StrCfg.final_toNat (reg : Nat) :
    c.final reg = (let r := if c.refout then (BitVec.ofNat c.width reg).reverse else BitVec.ofNat c.width reg
      if c.invert then ~~~r else r).toNat := by
  have reflected : (if c.refout then reverseBits c.width (reg % 2 ^ c.width) else reg % 2 ^ c.width) =
      (if c.refout then (BitVec.ofNat c.width reg).reverse else BitVec.ofNat c.width reg).toNat := by
    rw [reverseBits_eq, ← BitVec.toNat_ofNat, BitVec.ofNat_toNat, BitVec.setWidth_eq, apply_ite BitVec.toNat]
  unfold StrCfg.final
  dsimp only
  rw [reflected]
  split
  · rw [BitVec.not_def, BitVec.toNat_xor, BitVec.toNat_allOnes]
    exact Nat.xor_comm ..
  · rfl

end

theorem State.strCfg_width (s : State) (d n : Nat) : 3 ≤ (s.strCfg d n).width ∧ (s.strCfg d n).width ≤ 64 := by
  unfold State.strCfg
  split
  · decide
  · exact ⟨le_min (by decide) (le_max_left ..), min_le_left ..⟩

/-! ## What a channel's registers show (R380, R381) -/

section
variable (s : State) (d n : Nat)

theorem State.strFeed_ctx (l : List Byte) :
    (s.strFeed d n l).rd Reg.STR_CTX.CTX d n = l.foldl (s.strCfg d n).feed (s.rd Reg.STR_CTX.CTX d n) % 2 ^ 64 :=
  ((State.movesOnly.refl (l := [])).tally d 369 l.length |>.reads _ (by decide) (by decide) d n).trans (State.rd_wr_self ..)

theorem State.strFeed_booked (l : List Byte) : s.booked (s.strFeed d n l) [Reg.STR_CTX.CTX] := by
  have told : s.tells (s.strFeed d n l) [Reg.STR_CTX.CTX] [] :=
    (s.wr_tells d n _ (by decide) (by decide)).then (State.tally_tells ..)
  exact told.booked (.trans (.of_heads rfl) (State.tally_sameHeads _ d 369 l.length)) (State.tally_out ..)

theorem State.strStart_ctx : (s.strStart d n).rd Reg.STR_CTX.CTX d n = (s.strCfg d n).init % 2 ^ 64 :=
  (State.rd_wr_ne _ (by decide) (by decide) (by decide) ..).trans (State.rd_wr_self ..)

theorem State.strStart_done : (s.strStart d n).rd Reg.STR_CFG.DONE d n = 0 := State.rd_wr_self ..

theorem State.strStart_booked : s.booked (s.strStart d n) [Reg.STR_CTX.CTX, Reg.STR_CFG.DONE] :=
  State.tells.booked ((s.wr_tells d n _ (by decide) (by decide)).then (State.wr_tells _ d n _ (by decide) (by decide)))
    (.of_heads rfl) rfl

/-- A channel's result and DONE are shown. -/
def State.strShown : State :=
  (s.wr Reg.STR_RESULT.RESULT d n ((s.strCfg d n).final (s.rd Reg.STR_CTX.CTX d n))).wr Reg.STR_CFG.DONE d n 1

/-- A comparison that failed is shown. -/
def State.showMismatch : State :=
  ((s.wr Reg.STR_CFG.MISMATCH d n 1).wrBit Reg.STR_SUMMARY.MISMATCH d 0 n true).raise (612 + d)

theorem State.strFinal_eq :
    s.strFinal d n = if s.strMismatch d n then (s.strShown d n).showMismatch d n else s.strShown d n := rfl

theorem State.showMismatch_tells {l : List Field} (hm : Reg.STR_CFG.MISMATCH ∈ l ++ bookFields)
    (hs : Reg.STR_SUMMARY.MISMATCH ∈ l ++ bookFields) : s.tells (s.showMismatch d n) l [] :=
  ((s.wr_tells d n 1 (by decide) hm).then (State.wr_tells _ d 0 _ (by decide) hs)).then (State.raise_tells ..)

theorem State.showMismatch_sameHeads : s.sameHeads (s.showMismatch d n) := by
  have written : s.sameHeads ((s.wr Reg.STR_CFG.MISMATCH d n 1).wrBit Reg.STR_SUMMARY.MISMATCH d 0 n true) := .of_heads rfl
  exact written.trans (State.raise_sameHeads _ _)

theorem State.strFinal_booked : s.booked (s.strFinal d n)
    [Reg.STR_RESULT.RESULT, Reg.STR_CFG.DONE, Reg.STR_CFG.MISMATCH, Reg.STR_SUMMARY.MISMATCH] := by
  have shown : s.tells (s.strShown d n)
      [Reg.STR_RESULT.RESULT, Reg.STR_CFG.DONE, Reg.STR_CFG.MISMATCH, Reg.STR_SUMMARY.MISMATCH] [] :=
    (s.wr_tells d n _ (by decide) (by decide)).then (State.wr_tells _ d n _ (by decide) (by decide))
  have heads : s.sameHeads (s.strShown d n) := .of_heads rfl
  rw [State.strFinal_eq]
  split
  · exact (shown.then (State.showMismatch_tells _ d n (by decide) (by decide))).booked
      (heads.trans (State.showMismatch_sameHeads _ _ _)) (State.raise_out ..)
  · exact shown.booked heads rfl

/-- FINAL leaves what it shows but for the bits of a mismatch. -/
theorem State.strFinal_movesOnly :
    (s.strShown d n).movesOnly (s.strFinal d n) [Reg.STR_CFG.MISMATCH, Reg.STR_SUMMARY.MISMATCH] := by
  rw [State.strFinal_eq]
  split
  · exact (State.showMismatch_tells _ d n (by decide) (by decide)).moves
  · exact .refl

theorem State.strFinal_result : (s.strFinal d n).rd Reg.STR_RESULT.RESULT d n =
    (s.strCfg d n).final (s.rd Reg.STR_CTX.CTX d n) % 2 ^ 64 := by
  rw [(s.strFinal_movesOnly d n).reads _ (by decide) (by decide), State.strShown,
    State.rd_wr_ne _ (by decide) (by decide) (by decide)]
  exact State.rd_wr_self ..

theorem State.strFinal_done : (s.strFinal d n).rd Reg.STR_CFG.DONE d n = 1 := by
  rw [(s.strFinal_movesOnly d n).reads _ (by decide) (by decide)]
  exact State.rd_wr_self ..

theorem State.strFinal_ctx : (s.strFinal d n).rd Reg.STR_CTX.CTX d n = s.rd Reg.STR_CTX.CTX d n := by
  rw [(s.strFinal_movesOnly d n).reads _ (by decide) (by decide), State.strShown,
    State.rd_wr_ne _ (by decide) (by decide) (by decide), State.rd_wr_ne _ (by decide) (by decide) (by decide)]

theorem State.strFinal_mismatch (hm : s.strMismatch d n = true) : (s.strFinal d n).rd Reg.STR_CFG.MISMATCH d n = 1 ∧
    (s.strFinal d n).rd Reg.LNK_SRC_ROUTE.ASSERTED 0 (612 + d) = 1 := by
  rw [State.strFinal_eq, if_pos hm]
  refine ⟨?_, State.raise_asserts ..⟩
  rw [State.showMismatch, ((State.movesOnly.refl (l := [])).raise (612 + d)).reads _ (by decide) (by decide), State.wrBit,
    State.rd_wr_ne _ (by decide) (by decide) (by decide)]
  exact State.rd_wr_self ..

end

/-- Settles O55: the channel's steps on numbers are steps on words of its width, and only CTX and RESULT take what they compute. -/
theorem strainerComputesCrc : Obligations.StrainerComputesCrc :=
  ⟨fun s d n => s.strCfg_width d n, fun c reg b _ => c.feed_toNat reg b, fun c reg _ => c.final_toNat reg,
    fun s d n l _ _ => ⟨s.strFeed_ctx d n l, s.strStart_ctx d n, s.strFinal_result d n, s.strFinal_ctx d n⟩⟩

end Sys2Proof.Machine
end

section
/-! SUPPORT. The bulk table (R365): the slot that an operation of the table's changes, and the slots that it leaves. -/

namespace Sys2Proof.Machine

theorem le_foldl_max {a : Nat} {l : List Nat} (h : a ∈ l) (b : Nat) : a ≤ l.foldl max b :=
  foldl_reaches (step := max) (I := fun _ => True) (Q := fun m => a ≤ m) (fun _ _ _ _ _ => trivial) (fun m _ => le_max_right m a)
    (fun _ _ _ hm => hm.trans (le_max_left ..)) h trivial

/-! ## Slots -/

section
variable {s t : State} {k : Nat}

theorem State.bulkAt_congr (h : t.bulk = s.bulk) (j : Nat) : t.bulkAt j = s.bulkAt j := by rw [State.bulkAt, h, State.bulkAt]

theorem State.bulkAt_onBulk (hk : k < s.bulk.length) (f : BulkOp → BulkOp) : (s.onBulk k f).bulkAt k = f (s.bulkAt k) := by
  have held : s.bulk[k]? = some s.bulk[k] := List.getElem?_eq_getElem hk
  rw [State.bulkAt, State.onBulk, List.getElem?_modify_eq, State.bulkAt, held]
  rfl

theorem State.bulkAt_onBulk_ne {j : Nat} (hj : j ≠ k) (f : BulkOp → BulkOp) : (s.onBulk k f).bulkAt j = s.bulkAt j := by
  rw [State.bulkAt, State.onBulk, List.getElem?_modify_ne _ _ hj.symm, State.bulkAt]

theorem State.onBulk_length (f : BulkOp → BulkOp) : (s.onBulk k f).bulk.length = s.bulk.length := List.length_modify ..

/-- The table has its sixteen slots. -/
theorem State.canonical_slot (hc : s.canonical = true) (hk : k < 16) : k < s.bulk.length := by
  rw [(s.canonical_iff.mp hc).bulk]; exact hk

end

/-! ## The end of an operation (R365, R376) -/

/-- An operation that has ended with a result, after those that ended before it. -/
def BulkOp.ends (last result : Nat) (b : BulkOp) : BulkOp := { b with state := .ended, result := result, order := last + 1 }

section
variable {s : State} {k : Nat} (result : Nat)

theorem State.endBulk_eq :
    s.endBulk k result = (s.onBulk k (BulkOp.ends ((s.bulk.map BulkOp.order).foldl max 0) result)).raise 614 := rfl

theorem State.bulkAt_endBulk (hk : k < s.bulk.length) :
    (s.endBulk k result).bulkAt k = (s.bulkAt k).ends ((s.bulk.map BulkOp.order).foldl max 0) result := by
  rw [State.endBulk_eq, State.bulkAt_congr (State.raise_bulk ..), State.bulkAt_onBulk hk]

theorem State.bulkAt_endBulk_ne {j : Nat} (hj : j ≠ k) : (s.endBulk k result).bulkAt j = s.bulkAt j := by
  rw [State.endBulk_eq, State.bulkAt_congr (State.raise_bulk ..), State.bulkAt_onBulk_ne hj]

end

/-! ## Quires handled (R365, R374) -/

section
variable {s : State} {k : Nat} (q event : Nat)

/-- A handled quire shows in its operation's count, whether or not the operation ends with it. -/
theorem State.bulkNext_counts (hk : k < s.bulk.length) (done : Nat) : ((s.bulkNext k q event done).bulkAt k).done = done ∧
    ((s.bulkNext k q event done).bulkAt k).sent = (s.bulkAt k).sent := by
  have slots : k < (s.onBulk k fun b => { b with done := done }).bulk.length := by rw [State.onBulk_length]; exact hk
  have counted := State.bulkAt_onBulk hk fun b => { b with done := done }
  unfold State.bulkNext
  extract_lets s1
  have kept : s1.bulk = (s.onBulk k fun b => { b with done := done }).bulk := State.tally_bulk ..
  split
  · rw [State.bulkAt_congr kept, counted]
    exact ⟨rfl, rfl⟩
  · rw [State.bulkAt_endBulk _ (by rw [kept]; exact slots), State.bulkAt_congr kept, counted]
    exact ⟨rfl, rfl⟩

theorem State.bulkWrote_waits (hk : k < s.bulk.length) (hw : s.wtWaits q = true) :
    (s.bulkWrote k q event).bulkAt k = { s.bulkAt k with sent := true } := by
  unfold State.bulkWrote
  rw [if_pos hw, State.bulkAt_onBulk hk]

theorem State.bulkWrote_counts (hk : k < s.bulk.length) (hw : s.wtWaits q = false) :
    ((s.bulkWrote k q event).bulkAt k).done = (s.bulkAt k).done + 1 ∧ ((s.bulkWrote k q event).bulkAt k).sent = false := by
  have slots : k < (s.onBulk k fun b => { b with sent := false }).bulk.length := by rw [State.onBulk_length]; exact hk
  obtain ⟨done, sent⟩ := State.bulkNext_counts q event slots ((s.bulkAt k).done + 1)
  unfold State.bulkWrote
  rw [hw, if_neg (by decide)]
  exact ⟨done, sent.trans (congrArg BulkOp.sent (State.bulkAt_onBulk hk _))⟩

end

/-! ## Acceptance (R363 to R365, R372) -/

/-- The operation that a descriptor asks for, queued after those that the table holds. -/
def State.queuedOp (s : State) (p : List Byte) (who : Nat) (regions : List (Nat × Nat)) : BulkOp where
  handle := s.nextHandle (s.reg Reg.BLK_QUEUE.NEXT_HANDLE) 16
  op := descOp p
  state := .queued
  result := 0
  origin := who
  done := 0
  total := if descOp p = 5 then (regions.map (fun r => r.2 - r.1)).sum else descQuires p
  whereAt := 0
  flags := fieldAt p 2 2
  a := fieldAt p 8 8 / 1024
  b := fieldAt p 16 8 / 1024
  unit := fieldAt p 32 2
  pattern := lineOfBytes ((p.drop 64).take 64)
  order := (s.bulk.map BulkOp.order).foldl max 0 + 1
  regions := regions
  sent := false

section
variable {s : State} {p : List Byte} {who k : Nat} {regions : List (Nat × Nat)}

theorem State.acceptBulk_bulk : (s.acceptBulk p who k regions).bulk = s.bulk.set k (s.queuedOp p who regions) := rfl

theorem State.bulkAt_acceptBulk (hk : k < s.bulk.length) : (s.acceptBulk p who k regions).bulkAt k = s.queuedOp p who regions := by
  rw [State.bulkAt, State.acceptBulk_bulk, List.getElem?_set_self hk]
  rfl

theorem State.bulkAt_acceptBulk_ne {j : Nat} (hj : j ≠ k) : (s.acceptBulk p who k regions).bulkAt j = s.bulkAt j := by
  rw [State.bulkAt, State.acceptBulk_bulk, List.getElem?_set_ne hj.symm, State.bulkAt]

theorem State.queuedOp_order {b : BulkOp} (hb : b ∈ s.bulk) : b.order < (s.queuedOp p who regions).order :=
  Nat.lt_succ_of_le (le_foldl_max (List.mem_map_of_mem hb) 0)

end

/-- The ranges of quires that R364 asks a descriptor's sender to have open. -/
def descRanges (p : List Byte) : List (Nat × Nat) :=
  match descOp p with
  | 2 | 4 => [(fieldAt p 8 8 / 1024, fieldAt p 8 8 / 1024 + descQuires p), (fieldAt p 16 8 / 1024, fieldAt p 16 8 / 1024 + descQuires p)]
  | 5 => []
  | _ => [(fieldAt p 8 8 / 1024, fieldAt p 8 8 / 1024 + descQuires p)]

section
variable {s : State} {r : Req} {p : List Byte} {k : Nat}

/-- The first range is open, and where the operation reads a second range that one is. -/
theorem State.rangesOpen_desc {who : Nat}
    (ha : s.rangesOpen [(fieldAt p 8 8 / 1024, fieldAt p 8 8 / 1024 + descQuires p)] who = true)
    (hb : descOp p = 2 ∨ descOp p = 4 → s.rangesOpen [(fieldAt p 16 8 / 1024, fieldAt p 16 8 / 1024 + descQuires p)] who = true) :
    s.rangesOpen (descRanges p) who = true := by
  have both : ∀ x y, s.rangesOpen [x] who = true → s.rangesOpen [y] who = true → s.rangesOpen [x, y] who = true := by
    intro x y hx hy
    simp only [State.rangesOpen, List.all_cons, List.all_nil, Bool.and_true] at hx hy ⊢
    rw [hx, hy]; rfl
  unfold descRanges
  split
  · next h => exact both _ _ ha (hb (.inl h))
  · next h => exact both _ _ ha (hb (.inr h))
  · rfl
  · exact ha

/-- A descriptor that R363 and R364 allow, and for which the table has a slot. -/
theorem leafBulkStart_accepts (ho : descOp p ≠ 5) (hb : descBad p = false) (hr : s.rangesOpen (descRanges p) r.who = true)
    (hk : s.bulkSlot = some k) : leafBulkStart p r s = ((s.acceptBulk p r.who k []).reply r stAccepted
      (leBytes 2 (s.nextHandle (s.reg Reg.BLK_QUEUE.NEXT_HANDLE) 16))).bulkGo := by
  have never : ∀ c : Prop, ¬ (descOp p = 5 ∧ c) := fun _ h => ho h.1
  unfold leafBulkStart
  extract_lets op slot n rs h
  have isOpen : s.rangesOpen rs r.who = true := hr
  rw [if_neg (never _), hb, if_neg (by decide), if_neg (never _), if_neg (never _), if_neg (never _), isOpen, if_neg (by decide), hk]
  exact if_neg ho

/-- An ERASE_KEY of a slot that its sender may destroy, for which the table has a slot, replies with the end of its destroy. -/
theorem leafBulkStart_erases (ho : descOp p = 5) (hs : securedTransport r.transport = true) (hb : descBad p = false)
    (hm : s.mayDestroy (fieldAt p 32 2) r.who = true) (hn : s.slotState (fieldAt p 32 2) ≠ 0)
    (hd : s.destroying (fieldAt p 32 2) = false) (hk : s.bulkSlot = some k) : leafBulkStart p r s =
      let v := s.acceptBulk p r.who k (s.slotQuires (fieldAt p 32 2))
      ({ v with sec := { v.sec with destroys := v.sec.destroys ++
        [⟨fieldAt p 32 2, r.transport, r.tag, r.nocrc, r.opcode, some k⟩] } } : State).bulkGo := by
  have isOpen : s.rangesOpen (descRanges p) r.who = true := by rw [descRanges, ho]; rfl
  unfold leafBulkStart
  extract_lets op slot n rs h
  have isOpen : s.rangesOpen rs r.who = true := isOpen
  rw [hs, if_neg (by simp), hb, if_neg (by decide), hm, if_neg (by simp), if_neg (fun h => hn h.2), hd, if_neg (by simp), isOpen,
    if_neg (by decide), hk]
  exact if_pos ho

/-- BULK_ABORT of an operation that runs or waits, from one who may end it (R374). -/
theorem leafBulkAbort_ends (hk : s.bulkOf (fieldAt p 0 2) = some k)
    (hw : r.who = (s.bulkAt k).origin ∨ r.who = 2 ∨ r.who = s.primary) (he : (s.bulkAt k).state ≠ .ended) (ho : (s.bulkAt k).op ≠ 5) :
    leafBulkAbort p r s =
      let v := if (s.bulkAt k).zeroing then s.stopZero (s.bulkAt k).handle else s
      ((if (s.bulkAt k).op = 3 ∧ (s.bulkAt k).state ≠ .queued then v.checkEnds k 4 else v.endBulk k 4).ok r []).bulkGo := by
  have entitled : ¬ (r.who ≠ (s.bulkAt k).origin ∧ r.who ≠ 2 ∧ r.who ≠ s.primary) := by
    rintro ⟨h0, h2, hp⟩
    exact hw.elim h0 (Or.rec h2 hp)
  unfold leafBulkAbort
  rw [hk]
  dsimp only
  rw [if_neg entitled, if_neg he, if_neg ho]

end

section
variable {may : State → Req → List Byte → Prop} {effect : State → Req → List Byte → State}

/-- The six commands of BULK_START's row share its body. -/
theorem rowBulkStart_acts {leaf : LeafHdr → List Byte → Instr}
    (hl : leaf = .zero ∨ leaf = .fill ∨ leaf = .copy ∨ leaf = .check ∨ leaf = .compare ∨ leaf = .eraseKey)
    (h : ∀ u r p, may u r p → leafBulkStart p r u = effect u r p) : rowBulkStart.acts leaf may effect := by
  rcases hl with rfl | rfl | rfl | rfl | rfl | rfl <;>
    exact LeafRow.acts_of (fun _ p => leafBulkStart p) (fun _ _ _ => rfl) (fun _ _ => rfl) (fun _ _ => rfl) (fun _ _ _ => rfl)
      fun u _ p => h u _ p

theorem rowBulkAbort_acts (h : ∀ u r p, may u r p → leafBulkAbort p r u = effect u r p) : rowBulkAbort.acts .bulkAbort may effect :=
  LeafRow.acts_of (fun _ p => leafBulkAbort p) (fun _ _ _ => rfl) (fun _ _ => rfl) (fun _ _ => rfl) (fun _ _ _ => rfl)
    fun u _ p => h u _ p

end

/-! ## The quire of a running operation (R366 to R371) -/

/-- The first sheet whose tag stops a background read. -/
def State.tagStops (s : State) (q : Nat) (o : Nat → SheetOutcome) : Option Nat :=
  if s.chanLost (chanOf q) then none else s.tagFails q o

theorem State.tagStops_none {s : State} {q : Nat} {o : Nat → SheetOutcome}
    (h : s.chanLost (chanOf q) = true ∨ s.tagFails q o = none) : s.tagStops q o = none := by
  unfold State.tagStops
  rcases h with lost | held
  · exact if_pos lost
  · rw [held]; exact ite_self none

/-- An operation but a FILL reads its source. -/
theorem State.reads_stops {s : State} {op q : Nat} {o : Nat → SheetOutcome} (ho : op ≠ 1) :
    (if (decide (op = 1) || s.chanLost (chanOf q)) = true then none else s.tagFails q o) = s.tagStops q o := by
  rw [decide_eq_false ho, Bool.false_or]; rfl

theorem State.tagStops_some {s : State} {q n : Nat} {o : Nat → SheetOutcome} (hl : s.chanLost (chanOf q) = false)
    (hf : s.tagFails q o = some n) : s.tagStops q o = some n := by
  unfold State.tagStops
  rw [hl, hf]; rfl

/-- What an operation that neither zeroes nor waits for a stripe does to the next quire of its destination and of its source. -/
def State.bulkQuire (s : State) (k qa qb : Nat) (oa ob : Nat → SheetOutcome) : State :=
  let b := s.bulkAt k
  let src := if b.op = 2 then qb else qa
  match (if b.op = 1 || s.chanLost (chanOf src) then none else s.tagFails src oa) with
  | some n => s.bulkTamper src n
  | none =>
    match b.op with
    | 1 => (((s.writeQuire qa (Block16.ofPattern b.pattern)).tally (ownerOf qa) 215 1).bulkWrote k qa 347).bulkGo
    | 2 => (((s.copyQuire qa qb oa).tally (ownerOf qa) 215 1).bulkWrote k qa 348).bulkGo
    | 3 => (s.checkQuire k qa oa).bulkGo
    | _ =>
      match s.tagStops qb ob with
      | some n => s.bulkTamper qb n
      | none => (s.compareQuire k qa qb oa ob).bulkGo

theorem exec_bulkQuireHandled_running {s : State} {k : Fin 16} {sheets : List SheetOutcome} (hi : s.inService = true)
    (hr : (s.bulkAt k).state = .running) : exec (.bulkQuireHandled k sheets) s = .next (
      let b := s.bulkAt k
      if b.op = 5 then s
      else if b.zeroing then (s.zeroQuire k).bulkGo
      else if b.sent then (s.bulkWrote k (b.a + b.done) (346 + b.op)).bulkGo
      else s.bulkQuire k (b.a + b.done) (b.b + b.done) (fun n => sheets[n]?.getD .good) (fun n => sheets[4 + n]?.getD .good)) := by
  have guard : (!s.inService || (s.bulkAt k).state != .running || decide ((s.bulkAt k).op = 5)) = decide ((s.bulkAt k).op = 5) := by
    rw [hi, hr]; rfl
  change Host.Outcome.next (if (!s.inService || (s.bulkAt k).state != .running || decide ((s.bulkAt k).op = 5)) = true then s else _) = _
  rw [guard]
  simp only [decide_eq_true_eq]
  rfl

section
variable {s : State} {k qa qb : Nat} {oa ob : Nat → SheetOutcome}

theorem State.bulkQuire_fill (ho : (s.bulkAt k).op = 1) : s.bulkQuire k qa qb oa ob =
    (((s.writeQuire qa (Block16.ofPattern (s.bulkAt k).pattern)).tally (ownerOf qa) 215 1).bulkWrote k qa 347).bulkGo := by
  unfold State.bulkQuire
  dsimp only
  rw [ho]
  rfl

theorem State.bulkQuire_copy (ho : (s.bulkAt k).op = 2) (ht : s.tagStops qb oa = none) : s.bulkQuire k qa qb oa ob =
    (((s.copyQuire qa qb oa).tally (ownerOf qa) 215 1).bulkWrote k qa 348).bulkGo := by
  unfold State.bulkQuire
  dsimp only
  rw [ho, State.reads_stops (by decide), if_pos rfl, ht]
  rfl

theorem State.bulkQuire_tampered {n : Nat} (ho : (s.bulkAt k).op = 2) (ht : s.tagStops qb oa = some n) :
    s.bulkQuire k qa qb oa ob = s.bulkTamper qb n := by
  unfold State.bulkQuire
  dsimp only
  rw [ho, State.reads_stops (by decide), if_pos rfl, ht]

theorem State.bulkQuire_check (ho : (s.bulkAt k).op = 3) (ht : s.tagStops qa oa = none) :
    s.bulkQuire k qa qb oa ob = (s.checkQuire k qa oa).bulkGo := by
  unfold State.bulkQuire
  dsimp only
  rw [ho, State.reads_stops (by decide), if_neg (by decide), ht]
  rfl

theorem State.bulkQuire_compare (ho : (s.bulkAt k).op = 4) (ha : s.tagStops qa oa = none) (hb : s.tagStops qb ob = none) :
    s.bulkQuire k qa qb oa ob = (s.compareQuire k qa qb oa ob).bulkGo := by
  unfold State.bulkQuire
  dsimp only
  rw [ho, State.reads_stops (by decide), if_neg (by decide), ha, hb]
  rfl

end

/-- Settles O51: each leaf by the branch of its body that a descriptor allowed takes, and each quire by its operation. -/
theorem bulkOperations : Obligations.BulkOperations := by
  refine ⟨fun k op leaf hl => ?_, fun k => rowBulkStart_acts (by simp) fun u r p => ?_, fun s p who k regions hc hk => ?_,
    fun k => rowBulkAbort_acts fun u r p => ?_, fun s k result hc hk => ?_, fun s k sheets hi hr => ?_, fun s k q event hc hk => ?_⟩
  · have leaves : op < 5 ∧
        (leaf = .zero ∨ leaf = .fill ∨ leaf = .copy ∨ leaf = .check ∨ leaf = .compare ∨ leaf = .eraseKey) := by
      rcases hl with ⟨rfl, rfl⟩ | ⟨rfl, rfl⟩ | ⟨rfl, rfl⟩ | ⟨rfl, rfl⟩ | ⟨rfl, rfl⟩ <;> simp
    refine rowBulkStart_acts leaves.2 fun u r p => ?_
    rintro ⟨rfl, hb, hk, ha, hab⟩
    exact leafBulkStart_accepts leaves.1.ne hb (State.rangesOpen_desc ha hab) hk
  · rintro ⟨ho, hs, hb, hm, hn, hd, hk⟩
    exact leafBulkStart_erases ho hs hb hm hn hd hk
  · have accepted := State.bulkAt_acceptBulk (p := p) (who := who) (regions := regions) (State.canonical_slot hc hk)
    refine ⟨_, rfl, ?_⟩
    rw [accepted]
    exact ⟨rfl, rfl, rfl, rfl, fun ho => if_neg ho, rfl, rfl, fun b hb => State.queuedOp_order hb,
      fun j hj => State.bulkAt_acceptBulk_ne hj, rfl, rfl⟩
  · rintro ⟨hk, hw, he, ho⟩
    exact leafBulkAbort_ends hk hw he ho
  · rw [State.bulkAt_endBulk result (State.canonical_slot hc hk)]
    exact ⟨rfl, rfl, rfl, State.raise_asserts .., fun j hj => State.bulkAt_endBulk_ne result hj⟩
  · intro b oa ob qa qb
    have step := exec_bulkQuireHandled_running (k := k) (sheets := sheets) hi hr
    refine ⟨fun ho => ?_, fun ho hz => ?_, fun ho hz hs => ?_, fun hz hs => ⟨fun ho => ?_, fun ho ht => ?_, fun ho ht => ?_,
      fun ho ha hb => ?_, fun n ho hl hf => ?_⟩⟩
    · rw [step, if_pos ho]
    · rw [step, if_neg ho, if_pos hz]
    · rw [step, if_neg ho, hz, if_neg (by decide), if_pos hs]
    all_goals
      rw [step, if_neg (show b.op ≠ 5 by omega), hz, if_neg (by decide), hs, if_neg (by decide)]
    · rw [State.bulkQuire_fill ho]
    · rw [State.bulkQuire_copy ho (State.tagStops_none ht)]
    · rw [State.bulkQuire_check ho (State.tagStops_none ht)]
    · rw [State.bulkQuire_compare ho (State.tagStops_none ha) (State.tagStops_none hb)]
    · rw [State.bulkQuire_tampered ho (State.tagStops_some hl hf)]
  · have slot := State.canonical_slot hc hk
    dsimp only
    refine ⟨fun hw => ?_, fun hw => State.bulkWrote_counts q event slot hw⟩
    rw [State.bulkWrote_waits q event slot hw]
    exact ⟨rfl, rfl, rfl⟩

end Sys2Proof.Machine
end

section
/-! SUPPORT. The window's own registers (R379 to R382, R479 to R484, R500, R501): where their offsets lie, and what an access of theirs does. -/

namespace Sys2Proof.Machine

/-! ## Offsets (R41, R115, R383, R482, R501) -/

section
variable {off o : Nat}

/-- An offset below the reserved span lies in the region of its MiB. -/
theorem regionOf_low {r : Nat} (hr : r < 5) (hlo : 0x100000 * r ≤ off) (hhi : off < 0x100000 * (r + 1)) : regionOf off = some r := by
  unfold regionOf
  rw [if_pos (by omega), show off / 0x100000 = r by omega]

theorem placeOf_tally (h : regionOf off = some 1) : placeOf off = placeInTally (off % 0x100000) := by
  simp only [placeOf, h]

theorem placeOf_ream (h : regionOf off = some 2) (hlo : 0x1000 ≤ off % 0x100000) (hhi : off % 0x100000 < 0x11000) :
    placeOf off = .word .REAM 0 (off % 0x100000 - 0x1000) false := by
  rw [placeOf, h]
  exact (if_neg (Nat.not_lt.mpr hlo)).trans (if_pos hhi)

theorem placeOf_strainer (h : regionOf off = some 3) (hhi : off % 0x100000 < 0x20000) :
    placeOf off = .word .STR (off / 0x10000 % 2) (off % 0x10000) false := by
  rw [placeOf, h]
  exact if_pos hhi

theorem placeOf_die0 (h : regionOf off = some 5) : placeOf off = placeInDie 0 (off - 0x800000) := by
  simp only [placeOf, h]

theorem placeOf_die1 (h : regionOf off = some 6) : placeOf off = placeInDie 1 (off - 0xC00000) := by
  simp only [placeOf, h]

/-- A block's slot in a die's window holds its words. -/
theorem placeInDie_slot {b : Block} {k die : Nat} (hb : slotBlocks[k]? = some b) (hd : die = 0 ∨ dieZeroBlock b = false)
    (ho : o < 0x10000) : placeInDie die (0x10000 * k + o) = .word b die o false := by
  have present : ¬ (die = 1 ∧ dieZeroBlock b = true) := fun ⟨h1, hz⟩ =>
    hd.elim (fun h0 => by omega) fun hn => absurd (hn.symm.trans hz) (by decide)
  unfold placeInDie
  rw [show (0x10000 * k + o) / 0x10000 = k by omega, hb]
  dsimp only
  rw [if_neg present, show (0x10000 * k + o) % 0x10000 = o by omega]

theorem placeOf_slot {b : Block} {k : Nat} (die : Fin 2) (hb : slotBlocks[k]? = some b) (hd : die.val = 0 ∨ dieZeroBlock b = false)
    (hk : k < 64) (ho : o < 0x10000) : placeOf (0x800000 + 0x400000 * die.val + (0x10000 * k + o)) = .word b die o false := by
  have slot := placeInDie_slot hb hd ho
  have dies : die.val = 0 ∨ die.val = 1 := by omega
  rcases dies with h0 | h1
  · rw [h0] at slot ⊢
    have region : regionOf (0x800000 + 0x400000 * 0 + (0x10000 * k + o)) = some 5 := by
      unfold regionOf
      rw [if_neg (by omega), if_neg (by omega), if_pos (by omega)]
    rw [placeOf_die0 region, Nat.add_sub_cancel_left, slot]
  · rw [h1] at slot ⊢
    have region : regionOf (0x800000 + 0x400000 * 1 + (0x10000 * k + o)) = some 6 := by
      unfold regionOf
      rw [if_neg (by omega), if_neg (by omega), if_neg (by omega), if_pos (by omega)]
    rw [placeOf_die1 region, Nat.add_sub_cancel_left, slot]

theorem placeOf_strOffset (w : BarWho) (die : Fin 2) (ho : o < 0x10000) : placeOf (strOffset w die o) = .word .STR die o false := by
  unfold strOffset
  split
  · have region : regionOf (0x300000 + 0x10000 * die.val + o) = some 3 := regionOf_low (by decide) (by omega) (by omega)
    rw [placeOf_strainer region (by omega), show (0x300000 + 0x10000 * die.val + o) / 0x10000 % 2 = die by omega,
      show (0x300000 + 0x10000 * die.val + o) % 0x10000 = o by omega]
  · rw [Nat.add_assoc]
    exact placeOf_slot die (k := 12) rfl (.inr rfl) (by decide) ho

theorem placeOf_tlyOffset (w : BarWho) (die : Fin 2) (ho : o < 0x10000) : placeOf (tlyOffset w die o) = .word .TLY die o false := by
  unfold tlyOffset
  split
  · have region : regionOf (0x100000 + 0x80000 * die.val + o) = some 1 := regionOf_low (by decide) (by omega) (by omega)
    rw [placeOf_tally region, show (0x100000 + 0x80000 * die.val + o) % 0x100000 = 0x80000 * die.val + o by omega, placeInTally,
      if_pos (by omega), show (0x80000 * die.val + o) / 0x80000 = die by omega, show (0x80000 * die.val + o) % 0x80000 = o by omega]
  · rw [Nat.add_assoc]
    exact placeOf_slot die (k := 17) rfl (.inr rfl) (by decide) ho

theorem placeOf_reamOffset (w : BarWho) (ho : o < 0x10000) : placeOf (reamOffset w o) = .word .REAM 0 o false := by
  unfold reamOffset
  split
  · have region : regionOf (0x201000 + o) = some 2 := regionOf_low (by decide) (by omega) (by omega)
    rw [placeOf_ream region (by omega) (by omega), show (0x201000 + o) % 0x100000 = 0x1000 + o by omega, Nat.add_sub_cancel_left]
  · rw [Nat.add_assoc]
    exact placeOf_slot 0 (k := 18) rfl (.inl rfl) (by decide) ho

end

/-! ## Accesses that BAR2 opens -/

section
variable {s : State} {h off size d o : Nat} {b : Block}

theorem State.barWrite_word (hu : s.ioUp h = true) (hb : s.barOpens h off size true = true)
    (hp : Machine.placeOf off = .word b d o false) (v : Nat) : s.barWrite h off size v = s.writeWord b d (o / 8) (o % 8) size v := by
  rw [State.barWrite_up hu, hb, if_pos rfl, State.writePlace, hp]

/-- The head that is not the primary one finds its write counted as a violation. -/
theorem State.barWrite_closed (hu : s.ioUp h = true) (hp : h ≠ s.primary) (v : Nat) : s.barWrite h off size v = s.violation h := by
  rw [State.barWrite_up hu, State.barOpens_closed (.inl hp)]
  rfl

end

/-- The low bytes of a number are those of what it leaves modulo their range. -/
theorem leBytes_mod (n v : Nat) : leBytes n (v % 2 ^ (8 * n)) = leBytes n v := by
  induction n generalizing v with
  | zero => rfl
  | succ n ih =>
    have range : 2 ^ (8 * (n + 1)) = 256 * 2 ^ (8 * n) := by rw [Nat.mul_succ, Nat.pow_add, Nat.mul_comm]
    have low : BitVec.ofNat 8 (v % (256 * 2 ^ (8 * n))) = BitVec.ofNat 8 v :=
      BitVec.eq_of_toNat_eq (by rw [BitVec.toNat_ofNat, BitVec.toNat_ofNat]; exact Nat.mod_mul_right_mod v 256 _)
    rw [leBytes_succ, leBytes_succ, range, low, Nat.mod_mul_right_div_self, ih]

/-! ## Strainer channels (R380, R382) -/

section
variable (s : State) {d n : Nat}

theorem State.strCommand_start : s.strCommand d n 1 = s.strStart d n := rfl

theorem State.strCommand_final : s.strCommand d n 2 = s.strFinal d n := rfl

theorem State.strCommand_tail (b : Fin 8) :
    s.strCommand d n (4 + 256 * b.val) = s.strFeed d n (leBytes b (s.rd Reg.STR_TAIL.TAIL d n)) := by
  have bits : ∀ b : Fin 8, (4 + 256 * b.val).testBit 0 = false ∧ (4 + 256 * b.val).testBit 1 = false ∧
      (4 + 256 * b.val).testBit 2 = true ∧ (4 + 256 * b.val) / 256 % 8 = b := by decide
  obtain ⟨start, final, tail, bytes⟩ := bits b
  unfold State.strCommand
  rw [start, final, tail, bytes]
  rfl

section
variable (w lo size m v : Nat)

theorem State.writeChannel_module (hn : n < 4) : s.writeChannel d n w lo size m v = s := if_pos hn

theorem State.writeChannel_busy (hn : 4 ≤ n) (hb : s.strBusy d n = true) :
    s.writeChannel d n w lo size m v = s.wr Reg.STR_CFG.COLLISION d n 1 :=
  (if_neg (Nat.not_lt.mpr hn)).trans (if_pos hb)

end

/-- A free channel of software's takes data and commands (R380). -/
theorem State.writeChannel_free (hn : 4 ≤ n) (hb : s.strBusy d n = false) (w lo size m v : Nat) :
    s.writeChannel d n w lo size m v = if w % 8 = 5 then s.strFeed d n (leBytes size (v / 2 ^ (8 * lo)))
      else if w % 8 = 7 then s.strCommand d n (v &&& m) else s.writeFields .STR d w m v := by
  refine (if_neg (Nat.not_lt.mpr hn)).trans (if_neg ?_)
  rw [hb]; decide

end

section
variable {s : State} {w : BarWho} {die : Fin 2} {n : Fin 16} (hu : s.ioUp w.head.val = true)
  (ho : ∀ o size, o = 0x28 ∨ o = 0x38 → size = 4 ∨ size = 8 →
    s.barOpens w.head.val (strOffset w die.val (64 * n.val + o)) size true = true)
include hu ho

/-- A write to a channel's DATA or CMD reaches the channel. -/
theorem State.barWrite_channel {k size : Nat} (hk : k = 5 ∨ k = 7) (hs : size = 4 ∨ size = 8) (v : Nat) :
    s.barWrite w.head.val (strOffset w die.val (64 * n.val + 8 * k)) size v =
      s.writeChannel die n (8 * n.val + k) 0 size (2 ^ (8 * size) - 1) (v % 2 ^ (8 * size)) := by
  have granted := ho (8 * k) size (by omega) hs
  have place : Machine.placeOf (strOffset w die.val (64 * n.val + 8 * k)) = .word .STR die (64 * n.val + 8 * k) false :=
    placeOf_strOffset w die (by omega)
  rw [State.barWrite_word hu granted place, show (64 * n.val + 8 * k) / 8 = 8 * n.val + k by omega,
    show (64 * n.val + 8 * k) % 8 = 0 by omega, State.writeWord,
    if_pos (by omega), show (8 * n.val + k) / 8 = n.val by omega, Nat.mul_zero, Nat.pow_zero, Nat.mul_one, Nat.mul_one]

theorem State.barWrite_command {v : Nat} (hv : v < 2 ^ 64) :
    s.barWrite w.head.val (strOffset w die.val (64 * n.val + 0x38)) 8 v =
      s.writeChannel die n (8 * n.val + 7) 0 8 (2 ^ 64 - 1) v := by
  have reached := State.barWrite_channel hu ho (.inr rfl) (.inr rfl) v
  rwa [Nat.mod_eq_of_lt hv] at reached

theorem exec_strDataWrite_reaches (wide : Bool) (v : BitVec 64) : exec (.strDataWrite w die n wide v) s =
    .next (s.writeChannel die n (8 * n.val + 5) 0 (if wide then 8 else 4) (2 ^ (8 * (if wide then 8 else 4)) - 1)
      (v.toNat % 2 ^ (8 * (if wide then 8 else 4)))) :=
  congrArg _ (State.barWrite_channel hu ho (.inl rfl) (by cases wide <;> simp) v.toNat)

theorem exec_strCmdStart_reaches :
    exec (.strCmdStart w die n) s = .next (s.writeChannel die n (8 * n.val + 7) 0 8 (2 ^ 64 - 1) 1) :=
  congrArg _ (State.barWrite_command hu ho (by decide))

theorem exec_strCmdTail_reaches (b : Fin 8) :
    exec (.strCmdTail w die n b) s = .next (s.writeChannel die n (8 * n.val + 7) 0 8 (2 ^ 64 - 1) (4 + 256 * b.val)) :=
  congrArg _ (State.barWrite_command hu ho (by omega))

theorem exec_strCmdFinal_reaches :
    exec (.strCmdFinal w die n) s = .next (s.writeChannel die n (8 * n.val + 7) 0 8 (2 ^ 64 - 1) 2) :=
  congrArg _ (State.barWrite_command hu ho (by decide))

end

section
variable {s : State} {d n : Nat} (hn : 4 ≤ n) (hb : s.strBusy d n = false)
include hn hb

theorem State.writeChannel_data (size m v : Nat) :
    s.writeChannel d n (8 * n + 5) 0 size m (v % 2 ^ (8 * size)) = s.strFeed d n (leBytes size v) := by
  rw [State.writeChannel_free s hn hb, if_pos (by omega), Nat.mul_zero, Nat.pow_zero, Nat.div_one, leBytes_mod]

theorem State.writeChannel_command {v : Nat} (hv : v < 2 ^ 64) :
    s.writeChannel d n (8 * n + 7) 0 8 (2 ^ 64 - 1) v = s.strCommand d n v := by
  rw [State.writeChannel_free s hn hb, if_neg (by omega), if_pos (by omega), Nat.and_two_pow_sub_one_eq_mod, Nat.mod_eq_of_lt hv]

end

/-! ## The tally (R479, R480, R484) -/

/-- The offset of a live counter is that of its word. -/
theorem liveCounter_liveOffset (bank : Fin 3) {i : Nat} (hi : i < bankSize bank.val) : liveOffset bank i < 0x10000 ∧
    liveOffset bank i % 8 = 0 ∧ liveCounter (liveOffset bank i / 8) = some (bank.val, i) := by
  have banks : bank = 0 ∨ bank = 1 ∨ bank = 2 := by omega
  rcases banks with rfl | rfl | rfl
  · have size : i < 384 := hi
    have offset : liveOffset (0 : Fin 3).val i = 0x1000 + 8 * i := rfl
    rw [offset, liveCounter, if_pos (by omega), show (0x1000 + 8 * i) / 8 - 0x200 = i by omega]
    exact ⟨by omega, by omega, rfl⟩
  · have size : i < 96 := hi
    have offset : liveOffset (1 : Fin 3).val i = 0x3000 + 16 * i := rfl
    rw [offset, liveCounter, if_neg (by omega), if_pos (by omega), show ((0x3000 + 16 * i) / 8 - 0x600) / 2 = i by omega]
    exact ⟨by omega, by omega, rfl⟩
  · have size : i < 32 := hi
    have offset : liveOffset (2 : Fin 3).val i = 0x4000 + 16 * i := rfl
    rw [offset, liveCounter, if_neg (by omega), if_neg (by omega), if_pos (by omega), show ((0x4000 + 16 * i) / 8 - 0x800) / 2 = i by omega]
    exact ⟨by omega, by omega, rfl⟩

theorem bankCounters_eq (bank : Fin 3) : bankCounters bank = bankSize bank.val := by revert bank; decide

theorem tlySnap_form (bank : Fin 3) : (tlySnap bank).kinds < 16 ∧ (tlySnap bank).width = 48 ∧ bankSize bank ≤ 1048576 := by
  revert bank; decide

theorem latchSeq_ne_snap (bank : Fin 3) : Reg.TLY_LATCH.SEQ.num ≠ (tlySnap bank).num := by revert bank; decide

/-- A live counter is neither a snapshot nor the count of latches. -/
theorem tlyLive_apart (bank : Fin 3) : (tlyLive bank).kinds < 16 ∧ (tlyLive bank).num ≠ (tlySnap bank).num ∧
    (tlyLive bank).num ≠ Reg.TLY_LATCH.SEQ.num := by
  revert bank; decide

section
variable {s : State} {f g : Field} {d : Nat}

theorem State.foldl_wr_ne (hf : f.kinds < 16) (hg : g.kinds < 16) (hn : f.num ≠ g.num) (v : Nat → Nat) (l : List Nat) (e j : Nat) :
    (l.foldl (fun (t : State) i => t.wr g d i (v i)) s).rd f e j = s.rd f e j :=
  foldl_related (R := fun s t => State.rd t f e j = State.rd s f e j) (fun _ => rfl) (fun h1 h2 => h2.trans h1)
    (fun t i => t.rd_wr_ne hf hg hn d i (v i) e j) l s

/-- Each index written once reads what was written there. -/
theorem State.foldl_wr_reads (v : Nat → Nat) {n j : Nat} (hn : n ≤ 1048576) (hj : j < n) :
    ((List.range n).foldl (fun (t : State) i => t.wr g d i (v i)) s).rd g d j = v j % 2 ^ g.width := by
  refine foldl_reaches (c := j) (I := fun _ => True) (Q := fun t : State => t.rd g d j = v j % 2 ^ g.width) (fun _ _ _ _ _ => trivial)
    (fun t _ => t.rd_wr_self ..) (fun t i hi ht => ?_) (List.mem_range.mpr hj) trivial
  have low := List.mem_range.mp hi
  by_cases same : i = j
  · rw [same]; exact t.rd_wr_self ..
  · exact (t.rd_wr_index g d d (v i) (by omega) (by omega) (Ne.symm same)).trans ht

end

section
variable (s : State) (d : Nat) (bank : Fin 3)

theorem State.latch_seq : (s.latch d bank).rd Reg.TLY_LATCH.SEQ d bank = (s.rd Reg.TLY_LATCH.SEQ d bank + 1) % 2 ^ 32 :=
  (State.foldl_wr_ne (by decide) (tlySnap_form bank).1 (latchSeq_ne_snap bank) ..).trans (State.rd_wr_self ..)

theorem State.latch_snap {j : Nat} (hj : j < bankSize bank) : (s.latch d bank).rd (tlySnap bank) d j = s.tlyValue d bank j % 2 ^ 48 := by
  obtain ⟨_, width, size⟩ := tlySnap_form bank
  have taken : (s.latch d bank).rd (tlySnap bank) d j = s.tlyValue d bank j % 2 ^ (tlySnap bank).width :=
    State.foldl_wr_reads (s.tlyValue d bank) size hj
  rw [taken, width]

theorem State.latch_live (e j : Nat) : (s.latch d bank).rd (tlyLive bank) e j = s.rd (tlyLive bank) e j := by
  obtain ⟨live, other, seq⟩ := tlyLive_apart bank
  exact (State.foldl_wr_ne live (tlySnap_form bank).1 other ..).trans (State.rd_wr_ne _ live (by decide) seq ..)

theorem State.latch_out : (s.latch d bank).out = s.out :=
  foldl_related (R := fun s t => State.out t = State.out s) (fun _ => rfl) (fun h1 h2 => h2.trans h1)
    (f := fun t i => t.wr (tlySnap bank) d i (s.tlyValue d bank i)) (fun _ _ => rfl) (List.range (bankSize bank))
    (s.wr Reg.TLY_LATCH.SEQ d bank (s.rd Reg.TLY_LATCH.SEQ d bank + 1))

/-- A read at a live counter latches its bank and takes the counter's snapshot. -/
theorem State.readPlace_live (w : BarWho) (die : Fin 2) {i : Nat} (hi : i < bankSize bank) (size : Nat) :
    s.readPlace (tlyOffset w die (liveOffset bank i)) size =
      (s.latch die bank, (s.latch die bank).rd (tlySnap bank) die i % 2 ^ (8 * size)) := by
  obtain ⟨block, whole, counter⟩ := liveCounter_liveOffset bank hi
  rw [State.readPlace, placeOf_tlyOffset w die block]
  dsimp only
  rw [whole, State.readWord, if_pos rfl, counter]
  rfl

end

section
variable {s : State} {w : BarWho} {die : Fin 2} {bank : Fin 3} {i : Nat} {wide : Bool} (hi : i < bankCounters bank)
  (hu : s.ioUp w.head.val = true)
include hi hu

theorem exec_tlyLiveRead_opens
    (ho : s.barOpens w.head.val (tlyOffset w die.val (liveOffset bank.val i)) (if wide then 8 else 4) false = true) :
    exec (.tlyLiveRead w die bank i wide) s = .next ((s.latch die bank).draw.send (.bar2 w.head.val
      (tlyOffset w die.val (liveOffset bank.val i)) (if wide then 8 else 4)
      ((s.latch die bank).rd (tlySnap bank) die i % 2 ^ (8 * (if wide then 8 else 4))))) := by
  rw [bankCounters_eq] at hi
  refine congrArg Host.Outcome.next ((if_neg (Nat.not_le.mpr hi)).trans ?_)
  unfold State.barRead
  rw [hu, ho, if_neg (by decide), if_pos rfl, State.readPlace_live s bank w die hi]

theorem exec_tlyCounterWrite_opens {v : BitVec 64} {n : Nat}
    (ho : s.barOpens w.head.val (tlyOffset w die.val (liveOffset bank.val i)) (if wide then 8 else 4) true = true) :
    exec (.tlyCounterWrite w die bank i wide v n) s =
      .next ((if wide then s.wr (tlyLive bank.val) die.val i v.toNat else s).tlyAdd die.val bank.val i n) := by
  rw [bankCounters_eq] at hi
  obtain ⟨block, whole, counter⟩ := liveCounter_liveOffset bank hi
  refine congrArg Host.Outcome.next ((if_neg (Nat.not_le.mpr hi)).trans (congrArg (State.tlyAdd · die.val bank.val i n) ?_))
  rw [State.barWrite_word hu ho (placeOf_tlyOffset w die block), whole, State.writeWord, State.writeTly, counter]
  dsimp only
  cases wide with
  | true => rw [if_pos rfl, if_pos rfl, if_pos rfl, Nat.mul_zero, Nat.pow_zero, Nat.mul_one, Nat.mod_eq_of_lt v.isLt]
  | false => rfl

end

/-! ## The Ream (R500, R501) -/

theorem logBytes_fitRecords (n : Nat) (l : List ReamRec) : logBytes (fitRecords n l) ≤ n := by
  induction l generalizing n with
  | nil => exact Nat.zero_le n
  | cons r l ih =>
    unfold fitRecords
    split
    · next fits =>
      have rest := ih (n - r.length)
      rw [logBytes, List.map_cons, List.sum_cons]
      unfold logBytes at rest
      omega
    · exact Nat.zero_le n

section
variable {s : State} {w : BarWho} (hu : s.ioUp w.head.val = true)
include hu

theorem State.barWrite_ream {o : Nat} (hb : o % 8 = 0) (hs : o < 0x10000) (ho : s.barOpens w.head.val (reamOffset w o) 8 true = true)
    {v : Nat} (hv : v < 2 ^ 64) : s.barWrite w.head.val (reamOffset w o) 8 v = s.writeReam (o / 8) (2 ^ 64 - 1) v := by
  rw [State.barWrite_word hu ho (placeOf_reamOffset w hs), hb, State.writeWord]
  exact congrArg _ ((Nat.mul_one _).trans (Nat.mod_eq_of_lt hv))

end

theorem State.writeReam_command (s : State) {v : Nat} (hv : v < 2 ^ 64) : s.writeReam 15 (2 ^ 64 - 1) v = s.reamCommand v := by
  refine (if_pos rfl).trans ?_
  rw [Nat.and_two_pow_sub_one_eq_mod, Nat.mod_eq_of_lt hv]

theorem State.writeReam_gap (s : State) (u : Fin 2) : s.writeReam (12 + u.val) (2 ^ 64 - 1) 1 = s.reportGap u := by
  refine (if_neg (by omega)).trans ((if_pos (by omega)).trans ((if_pos (by decide)).trans ?_))
  rw [Nat.add_sub_cancel_left]

theorem State.loadWindow_records (s : State) : s.loadWindow.reg Reg.REAM_WIN.RECORDS = s.windowRecords.length % 256 :=
  (State.rd_wr_ne _ (by decide) (by decide) (by decide) ..).trans (State.rd_wr_self ..)

/-! ## The sampler's configuration (R484) -/

/-- A field that is written whole by its access code takes the value. -/
theorem State.writeField_whole {s : State} {f : Field} {d i v : Nat} (hd : d = 0 ∨ f.scope ≠ .die0) (hw : 0 < f.width)
    (ha : f.acc = .rw) : s.writeField f d i (2 ^ f.width - 1) v = s.wr f d i v := by
  have wide : 1 < 2 ^ f.width := Nat.one_lt_two_pow hw.ne'
  have kept : s.wr f d i (v % 2 ^ f.width) = s.wr f d i v := by rw [State.wr, Nat.mod_mod, State.wr]
  rw [State.writeField_open (by omega) hd, ha, mergeBits_all, kept]

/-- A sampler's mode, wrap and event are written. -/
def State.sampleCfg (s : State) (d v : Nat) : State :=
  ((s.wr Reg.TLY_SAMPLE_CFG.MODE d 0 (v % 4)).wr Reg.TLY_SAMPLE_CFG.WRAP d 0 (v / 4 % 2)).wr Reg.TLY_SAMPLE_CFG.EVENT d 0
    (v / 65536 % 65536)

/-- The low half of the word TLY_SAMPLE_CFG, written whole. -/
theorem State.writeFields_sampleCfg (s : State) (d v : Nat) : s.writeFields .TLY d 5 (2 ^ 32 - 1) v = s.sampleCfg d v := by
  have fields : fieldsAt .TLY 5 = [(Reg.TLY_SAMPLE_CFG.MODE, 0), (Reg.TLY_SAMPLE_CFG.WRAP, 0), (Reg.TLY_SAMPLE_CFG.EVENT, 0)] := by
    decide +kernel
  rw [State.writeFields, fields]
  change ((s.writeField Reg.TLY_SAMPLE_CFG.MODE d 0 (2 ^ Reg.TLY_SAMPLE_CFG.MODE.width - 1) (v / 1 % 4)).writeField
    Reg.TLY_SAMPLE_CFG.WRAP d 0 (2 ^ Reg.TLY_SAMPLE_CFG.WRAP.width - 1) (v / 4 % 2)).writeField
    Reg.TLY_SAMPLE_CFG.EVENT d 0 (2 ^ Reg.TLY_SAMPLE_CFG.EVENT.width - 1) (v / 65536 % 65536) = _
  rw [State.writeField_whole (.inr (by decide)) (by decide) rfl, State.writeField_whole (.inr (by decide)) (by decide) rfl,
    State.writeField_whole (.inr (by decide)) (by decide) rfl, Nat.div_one]
  rfl

theorem State.sampleCfg_shows (s : State) (d : Nat) (v : BitVec 32) :
    (s.sampleCfg d v.toNat).rd Reg.TLY_SAMPLE_CFG.MODE d 0 = v.toNat % 4 ∧
      (s.sampleCfg d v.toNat).rd Reg.TLY_SAMPLE_CFG.EVENT d 0 = v.toNat / 65536 := by
  have event : v.toNat / 65536 < 65536 := by omega
  constructor
  · rw [State.sampleCfg, State.rd_wr_ne _ (by decide) (by decide) (by decide), State.rd_wr_ne _ (by decide) (by decide) (by decide),
      State.rd_wr_self]
    exact Nat.mod_mod ..
  · rw [State.sampleCfg, State.rd_wr_self, Nat.mod_eq_of_lt event]
    exact Nat.mod_eq_of_lt event

section
variable {s : State} {w : BarWho} {die : Fin 2} {v : BitVec 32} (hu : s.ioUp w.head.val = true)
  (ho : s.barOpens w.head.val (tlyOffset w die.val 0x28) 4 true = true)
include hu ho

theorem exec_tlySampleCfgWrite_opens : exec (.tlySampleCfgWrite w die v) s =
    .next ((s.sampleCfg die v.toNat).restartSampler die) := by
  refine congrArg Host.Outcome.next ?_
  rw [State.barWrite_word hu ho (placeOf_tlyOffset w die (by decide)), State.writeWord]
  change s.writeTly die 5 4 (2 ^ 32 - 1) (v.toNat % 2 ^ 32 * 1) = _
  rw [Nat.mul_one, Nat.mod_eq_of_lt v.isLt, ← State.writeFields_sampleCfg]
  rfl

end

/-- Settles O56: an access that BAR2 opens reaches its block's own operation, and each operation shows what it wrote. -/
theorem windowCommands : Obligations.WindowCommands := by
  refine ⟨fun s w die n wide v b ho hu => ?_, fun s w die bank i wide hi hu ho => ?_, fun s w die bank i wide v n hi hu ho => ?_,
    fun s w die v hu ho => ?_, fun s w hu ho => ?_, fun s => ?_, fun s w u hu ho => ?_, fun s w die n u wide v hu hp => ?_⟩
  · rw [exec_strDataWrite_reaches hu ho, exec_strCmdStart_reaches hu ho, exec_strCmdTail_reaches hu ho,
      exec_strCmdFinal_reaches hu ho]
    refine ⟨fun hn => ?_, fun hn hb => ?_, fun hn hb => ?_⟩
    · simp only [State.writeChannel_module s _ _ _ _ _ hn, and_self]
    · simp only [State.writeChannel_busy s _ _ _ _ _ hn hb, and_self]
    · rw [State.writeChannel_data hn hb, State.writeChannel_command hn hb (by decide), State.writeChannel_command hn hb (by omega),
        State.writeChannel_command hn hb (by decide), State.strCommand_start, State.strCommand_tail, State.strCommand_final]
      exact ⟨⟨_, rfl, s.strFeed_booked .., s.strFeed_ctx ..⟩, ⟨_, rfl, s.strStart_booked .., s.strStart_ctx .., s.strStart_done ..⟩,
        ⟨_, rfl, s.strFeed_booked .., s.strFeed_ctx ..⟩,
        ⟨_, rfl, s.strFinal_booked .., s.strFinal_result .., s.strFinal_done .., s.strFinal_mismatch die n⟩⟩
  · have size := bankCounters_eq bank ▸ hi
    refine ⟨_, _, exec_tlyLiveRead_opens hi hu ho, congrArg _ (s.latch_out die bank), ?_, s.latch_seq die bank,
      fun j hj => s.latch_snap die bank hj, s.latch_live die bank die⟩
    rw [s.latch_snap die bank size]
    cases wide <;> rfl
  · exact exec_tlyCounterWrite_opens hi hu ho
  · obtain ⟨mode, event⟩ := s.sampleCfg_shows die v
    exact ⟨_, exec_tlySampleCfgWrite_opens hu ho, mode, event, Two.get_modify_self .., rfl⟩
  · have command : ∀ {v}, v < 2 ^ 64 → s.barWrite w.head.val (reamOffset w 0x78) 8 v = s.reamCommand v := fun hv =>
      (State.barWrite_ream hu (by decide) (by decide) ho hv).trans (s.writeReam_command hv)
    exact ⟨congrArg _ (command (by decide)), congrArg _ (command (by decide)), congrArg _ (command (by decide))⟩
  · exact ⟨_, rfl, rfl, s.loadWindow_records, logBytes_fitRecords ..⟩
  · have place := State.barWrite_ream hu (o := 0x60 + 8 * u.val) (by omega) (by omega) ho (v := 1) (by decide)
    rw [show (0x60 + 8 * u.val) / 8 = 12 + u.val by omega, State.writeReam_gap] at place
    exact congrArg _ place
  · have booked := s.violation_booked w.head
    exact ⟨⟨_, congrArg Host.Outcome.next (State.barWrite_closed hu hp _), booked⟩,
      ⟨_, congrArg Host.Outcome.next (State.barWrite_closed hu hp _), booked⟩⟩

end Sys2Proof.Machine
end
